-- ==== Sys2Proof/Word.lean ====
section
/-! DEFINITION. The byte and word types of the WTE840 (00 R8: registers are 32 bits wide, little-endian). -/

namespace Sys2Proof

/-- One byte of a packet, a record or a memory. -/
abbrev Byte := BitVec 8

/-- One register (00 R8). -/
abbrev Word := BitVec 32

/-- Tags, sequences, cookies and host addresses. -/
abbrev DWord := BitVec 64

end Sys2Proof
end

