-- ==== Sys2Proof/Syntax.lean ====
section
/-! DEFINITION. The commands that the block takes: one constructor per row of opcode_table.json, with its operands.
Every command carries the device tick at which it happens. -/

namespace Sys2Proof

/-- The physical function that makes an access: PF0 is the open world, PF1 the secure one (16 R367). -/
inductive PF where
  | pf0
  | pf1
  deriving DecidableEq, Repr

/-- An access of a function that is not made: of a bad size, or a poisoned write (16 R368). -/
structure BadAccess where
  pf : PF
  poisoned : Bool
  deriving DecidableEq, Repr

/-- The way a doorbell is written (10 R230): 32 bits to the low or the high half, or all 64 bits. -/
inductive DbHalf where
  | low
  | high
  | whole
  deriving DecidableEq, Repr

/-- A command packet as it lies in its command ring (10 Table 10.1), with the tick at which the device takes it and
the bytes that the device reads from a host buffer the packet names (FW_STAGE). -/
structure Packet where
  tick : Nat
  ring : Nat
  flags : BitVec 16
  tag : BitVec 32
  paramLen : BitVec 16
  replyRing : BitVec 16
  deadlineUs : BitVec 32
  cookie : DWord
  reserved : DWord
  params : List Byte
  hostData : List Byte
  deriving DecidableEq, Repr

/-- An access through the BAR4 window (11 R272). -/
inductive WinAccess where
  | read (len : Nat)
  | write (data : List Byte)
  deriving DecidableEq, Repr

/-- What one video lane sees during a line (03 Table 3.2): P minus N in volts over the lead clocks, at the data sample
instants and at the reset sample instants. -/
structure LaneVolts where
  lead : List Rat
  data : List Rat
  reset : List Rat
  deriving DecidableEq, Repr

/-- The samples of one line: words per LVDS lane in the common word slots since the line before, idle words included (02 R27,
R29), volts per video lane (03), or the corrected samples per
colour slot as an uncorrectable delay store returns them (11 R266). -/
inductive LineData where
  | digital (lanes : List (List Nat))
  | analogue (lanes : List LaneVolts)
  | slots (y : List (List Nat))
  deriving DecidableEq, Repr

/-- What LVDS training found (02 Table 2.8): taps, word offsets and the forwarded clock in kHz. -/
structure TrainResult where
  taps : List Nat
  offsets : List Int
  ckKhz : Nat
  deriving DecidableEq, Repr

/-- Why the receiver lost lock (02 R44). -/
inductive LockCause where
  | clock
  | solWord (lane : Fin 8)
  | tracking (lane : Fin 8)
  deriving DecidableEq, Repr

/-- What a slice calibration finds (03 R62, Table 3.4): residuals of offset in codes, gain in 0.001 % and instant in ps, the
slice's conversion time in ticks, and its new coefficients. -/
structure SliceResult where
  offset : Int
  gain : Int
  instant : Int
  convTicks : Nat
  coeff : List Int
  deriving DecidableEq, Repr

/-- The two phases of a stepper motor (07). -/
inductive Phase where
  | a
  | b
  deriving DecidableEq, Repr

/-- What a calibration measured (09). For a port: sums of s16 per slot and pixel over the lines of the phase, the same with
lamps off where VIDEO verifies its codes, whether a sample was over-range, lamp-check samples, and for ALIGN the band means of
each slot, capture by capture. For a MADC core: raw samples, those of the repeat measurement, and input 58. For a
DRIVE phase: conversions of the forced current, whether one was over-range, and the threshold codes of the two searches. -/
inductive CalMeasure where
  | port (n : Fin 8) (sums dark : List (List Nat)) (ovr : Bool) (lamps : List Nat) (bands : List (List Rat))
  | madc (core : Fin 2) (samples again : List Int) (half : Int)
  | drive (a : Fin 12) (conv : List Nat) (ovr : Bool) (first again : Nat)
  deriving DecidableEq, Repr

/-- Outcome of programming a record body and reading it back (09 Table 9.10). -/
inductive NvmResult where
  | ok
  | failed
  | mismatch
  deriving DecidableEq, Repr

/-- Outcome of a Cellar read (11 R266). -/
inductive EccResult where
  | clean
  | corrected
  | replayed
  | failed
  deriving DecidableEq, Repr

/-- The bytes that a descriptor reads from its source, and of a source in the Cellar the outcome of the read (11 R266, R284). -/
structure ReadBytes where
  bytes : List Byte
  ecc : EccResult
  deriving DecidableEq, Repr

/-- An error response to a DMA access (11 R287). -/
inductive DmaErr where
  | cellar
  | other
  deriving DecidableEq, Repr

/-- A DIMM slot as training finds it (11 R264, R265). -/
structure DimmInput where
  present : Bool
  gib : Nat
  x8 : Bool
  ranks : Nat
  trained : Bool
  deriving DecidableEq, Repr

/-- What the device finds at a strap latch (13 R311, Table 13.5): the straps, DIMM training by slot, the weathering
monitors, site temperatures in 1/128 degree and VDD_CORE in mV, and the vernier tables as measured. -/
structure BootInputs where
  straps : BitVec 3
  dimms : List DimmInput
  monitors : List Nat
  temps : List Int
  vddMv : Nat
  verniers : List (List Nat)
  deriving DecidableEq, Repr

/-- What of the PCI Express link goes down or comes up (16 R370). -/
inductive LinkPart where
  | link
  | busMaster (pf : PF)
  | power (pf : PF)
  deriving DecidableEq, Repr

/-- The two heartbeat paths of the Rope (14). -/
inductive HbPath where
  | lanes
  | pin
  deriving DecidableEq, Repr

/-- What the `OWN_N` net of a device reads at a tick, after its filter (14 R328, R343). -/
structure NetSample where
  tick : Nat
  high : Bool
  deriving DecidableEq, Repr

/-- What a device tells its peer over the Rope (14 R330, R333, Table 14.11): mode, role and follow state, whether it pulls
`OWN_N`, its side, digests of its running images, fitted ports, axes, encoders, lanes and inputs, capacity, estate unit,
the Trig records it holds, its boot record, and that it left a pair by a divergence (R336; how it tells so is not said, log
entry 156). -/
structure PeerInfo where
  mode : Nat
  role : Nat
  follow : Nat
  own : Bool
  side : Bool
  ctlDigest : BitVec 384
  secDigest : BitVec 384
  fit : List Nat
  capGib : Nat
  estate : Nat
  records : BitVec 64
  lastBatch : BitVec 32
  epoch : BitVec 24
  diverged : Bool
  deriving DecidableEq, Repr

/-- The pace state of a group as the lead mirrors it (14 Table 14.2): captures K in the order of the seams, and of each port
of the group its overrun cap with what is left of its hold in us, zero without one. -/
structure PaceItem where
  vSet : Nat
  limit : Nat
  step : Nat
  cause : Nat
  attempts : Nat
  reserve : Bool
  axes : List (Fin 12)
  ks : List Int
  pmax : Int
  pBack : Int
  caps : List (Nat × Nat)
  deriving DecidableEq, Repr

/-- An item mirrored from the lead (14 Table 14.2). The state transfer of R334 comes as a `join`, which names the last CHECKPOINT
entry and the ports with an open side, the packets that configure the blocks, the 64 bytes of each session entry in `ledger`,
and in `link` the responder's sequence, kept answers (`seq`, payload, type, answer) and REJECT frames (`seq`, number, ports,
reason, sends, ticks to the next); `entry` is a Ledger entry of another kind than ACCEPT and DONE, coded as 10 Table 10.8. -/
inductive MirrorItem where
  | join (epoch : BitVec 24) (nextNo : Nat) (chain : BitVec 384) (session : DWord) (faultNext : BitVec 32) (run : Bool)
      (batch docs : BitVec 32) (ckpt : DWord) (openPorts : BitVec 8)
  | ledger (bytes : List Byte)
  | link (txSeq : BitVec 8) (answers : List (BitVec 8 × List Byte × BitVec 8 × List Byte))
      (rejects : List (BitVec 8 × BitVec 32 × BitVec 8 × BitVec 8 × Nat × Nat))
  | accept (p : Packet) (op : BitVec 16) (secure : Bool) (seq time : DWord)
  | done (seq time : DWord) (status : BitVec 16) (detail result fault : BitVec 32)
  | entry (kind : Fin 6) (secure : Bool) (time : DWord) (tag : BitVec 32) (opcode ring status : BitVec 16)
      (fault : BitVec 32) (digest : BitVec 128) (detail result : BitVec 32)
  | ring (id head tail : Nat) (pass : BitVec 32)
  | slots (docs : List Nat)
  | step (a : Fin 12) (index : Nat) (pos : Int)
  | encoder (e : Fin 8) (pos : Int)
  | pace (g : Fin 4) (item : PaceItem)
  | verdict (g : Fin 4) (results : List Nat)
  | fault (no : BitVec 32)
  | release (n : Fin 8) (doc : BitVec 32)
  deriving DecidableEq, Repr


/-- A command: one constructor per row of opcode_table.json. -/
inductive Instr where
  /-- NOP (R236): Command NOP is checked and accepted, and it is answered OK with no other effect. -/
  | nop (p : Packet)
  /-- IDENTIFY (R375): Command IDENTIFY returns SYS_ID and can write the identity buffer. -/
  | identify (p : Packet)
  /-- SET_MODE (R310): Command SET_MODE requests READY, DORMANT, SERVICE or SAFE, subject to the allowed transitions. -/
  | setMode (p : Packet)
  /-- GET_STATUS (R310): Command GET_STATUS returns the mode and batch state and can write a snapshot buffer. -/
  | getStatus (p : Packet)
  /-- RESET_BLOCK (R313): Command RESET_BLOCK returns one block to its reset state and ends the commands waiting on
  it. -/
  | resetBlock (p : Packet)
  /-- SET_TIME (R373): Command SET_TIME sets the wall-clock offset and the TB_OUT mode. -/
  | setTime (p : Packet)
  /-- SELF_TEST (R323): Command SELF_TEST runs a self-test of one idle block or, in SERVICE, of the whole device. -/
  | selfTest (p : Packet)
  /-- BATCH_OPEN (R317): Command BATCH_OPEN assigns a batch number, enters RUN and begins a Ledger session. -/
  | batchOpen (p : Packet)
  /-- BATCH_CLOSE (R319): Command BATCH_CLOSE withdraws slots and starts the drain that leads to the seal. -/
  | batchClose (p : Packet)
  /-- DOC_BEGIN (R318): Command DOC_BEGIN assigns a document number and arms the named ports to open a side. -/
  | docBegin (p : Packet)
  /-- DOC_END (R318): Command DOC_END treats the named open sides as trailing edges and cancels an unused DOC_BEGIN. -/
  | docEnd (p : Packet)
  /-- BATCH_ABORT (R320): Command BATCH_ABORT stops the masters, closes sides with LINE_LOSS, discards undelivered
  records and seals the batch as aborted. -/
  | batchAbort (p : Packet)
  /-- PORT_CONFIG (R30): Command PORT_CONFIG checks a complete port configuration and applies it, leaving the port in
  IDLE. -/
  | portConfig (p : Packet)
  /-- PATTERN_LOAD (R31): Command PATTERN_LOAD writes the inactive edge table and can request a table switch. -/
  | patternLoad (p : Packet)
  /-- PORT_ARM (R48): Command PORT_ARM fixes the line grid, trains a digital receiver and puts the port in SCAN. -/
  | portArm (p : Packet)
  /-- PORT_DISARM (R49): Command PORT_DISARM asks the port to stop scanning at the first line boundary with no side
  open. -/
  | portDisarm (p : Packet)
  /-- PORT_RECONFIG (R50): Command PORT_RECONFIG starts a reconfiguration of one port without disturbing the other
  ports. -/
  | portReconfig (p : Packet)
  /-- ALIGN_SET (R90): Command ALIGN_SET sets the colour delays and shutter phases, or selects the ALIGN record. -/
  | alignSet (p : Packet)
  /-- OUTPUT_FORMAT (R93): Command OUTPUT_FORMAT sets the output width, layout, packing, strips and image ring for
  later sides. -/
  | outputFormat (p : Packet)
  /-- AXIS_CONFIG (R140): Command AXIS_CONFIG configures an axis with its drive block, or configures an encoder. -/
  | axisConfig (p : Packet)
  /-- MOVE_TO (R148): Command MOVE_TO plans a jerk-limited move to a target position. -/
  | moveTo (p : Packet)
  /-- MOVE_VELOCITY (R148): Command MOVE_VELOCITY ramps the axis to a signed velocity and holds it there. -/
  | moveVelocity (p : Packet)
  /-- STOP (R153): Command STOP brings the axis to rest by ramp or quick stop and keeps the interrupted move. -/
  | stop (p : Packet)
  /-- RESUME (R155): Command RESUME continues the kept move from standstill. -/
  | resume (p : Packet)
  /-- HOME (R160): Command HOME runs the homing sequence by switch, index, limit or encoder. -/
  | home (p : Packet)
  /-- GEAR_SET (R157): Command GEAR_SET engages the axis to a master encoder or disengages it. -/
  | gearSet (p : Packet)
  /-- GEAR_RATIO_AT (R158): Command GEAR_RATIO_AT sets a pending ratio change at a given master position. -/
  | gearRatioAt (p : Packet)
  /-- AXIS_LIMITS (R141): Command AXIS_LIMITS sets the velocity, acceleration, jerk, stop and soft travel limits. -/
  | axisLimits (p : Packet)
  /-- HOLD_PARK (R182): Command HOLD_PARK parks or wakes an axis through its current ramps. -/
  | holdPark (p : Packet)
  /-- MADC_SEQUENCE (R201): Command MADC_SEQUENCE defines a sequence that is not armed. -/
  | madcSequence (p : Packet)
  /-- MADC_START (R202): Command MADC_START arms, fires, disarms or aborts sequences, or sets the queue destination. -/
  | madcStart (p : Packet)
  /-- MADC_URGENT (R203): Command MADC_URGENT makes a software urgent conversion and replies with its result. -/
  | madcUrgent (p : Packet)
  /-- REFBUF_ENABLE (R204): Command REFBUF_ENABLE turns the MADC reference buffer and MREF_OUT on or off. -/
  | refbufEnable (p : Packet)
  /-- CAL_VIDEO (R215): Command CAL_VIDEO measures dark and white and forms a candidate with the lane PGA and offset
  codes. -/
  | calVideo (p : Packet)
  /-- CAL_SHADING (R216): Command CAL_SHADING runs the dark, white or backing phases of a SHADE candidate. -/
  | calShading (p : Packet)
  /-- CAL_ALIGN (R217): Command CAL_ALIGN measures the colour row offsets from target edges. -/
  | calAlign (p : Packet)
  /-- CAL_MADC_ZERO (R218): Command CAL_MADC_ZERO measures the zero of one MADC core against CAL_ZERO. -/
  | calMadcZero (p : Packet)
  /-- CAL_MADC_FULL (R218): Command CAL_MADC_FULL measures the span of one MADC core against CAL_REF. -/
  | calMadcFull (p : Packet)
  /-- CAL_COMMIT (R209): Command CAL_COMMIT writes the named candidates to flash, or discards them. -/
  | calCommit (p : Packet)
  /-- CAL_QUERY (R227): Command CAL_QUERY returns the generation in force and can write the slot headers. -/
  | calQuery (p : Packet)
  /-- CAL_REVERT (R211): Command CAL_REVERT puts the record of the other slot back in force under a new generation. -/
  | calRevert (p : Packet)
  /-- CAL_DRIVE (R219): Command CAL_DRIVE calibrates the current sense and comparator offset of one disabled axis
  phase. -/
  | calDrive (p : Packet)
  /-- RING_CREATE (R278): Command RING_CREATE creates a ring in the world of the command ring that carries it. -/
  | ringCreate (p : Packet)
  /-- RING_DESTROY (R280): Command RING_DESTROY removes a ring that is not in use. -/
  | ringDestroy (p : Packet)
  /-- DMA_COPY (R282): Command DMA_COPY queues a descriptor chain on a copy channel of its world. -/
  | dmaCopy (p : Packet)
  /-- DMA_FENCE (R290): Command DMA_FENCE fences, resumes or rewinds the named DMA channels. -/
  | dmaFence (p : Packet)
  /-- REGION_SET (R269): Command REGION_SET creates, changes or deletes a Cellar region. -/
  | regionSet (p : Packet)
  /-- ROUTE_SET (R301): Command ROUTE_SET replaces the routes of a set of user channels, all together or not at all. -/
  | routeSet (p : Packet)
  /-- ROUTE_CLEAR (R304): Command ROUTE_CLEAR removes the routes of the masked channels and clears their quarantine. -/
  | routeClear (p : Packet)
  /-- ROUTE_QUERY (R305): Command ROUTE_QUERY returns the route of a channel, or the MERGED count of a task. -/
  | routeQuery (p : Packet)
  /-- PACE_CONFIG (R130): Command PACE_CONFIG enables, changes or disables a pace group after checking its levels and
  ramp. -/
  | paceConfig (p : Packet)
  /-- PACE_QUERY (R132): Command PACE_QUERY returns the state of a pace group and can write a buffer of its figures. -/
  | paceQuery (p : Packet)
  /-- SEAM_POLICY (R131): Command SEAM_POLICY sets the overlap, retry and failure policy for later switchbacks. -/
  | seamPolicy (p : Packet)
  /-- ROPE_PAIR (R333): Command ROPE_PAIR makes the receiving solo owner the lead and starts the state transfer to its
  peer. -/
  | ropePair (p : Packet)
  /-- ROPE_SWAP (R348): Command ROPE_SWAP hands the lead to an eligible second at a chosen instant. -/
  | ropeSwap (p : Packet)
  /-- ROPE_RELEASE (R349): Command ROPE_RELEASE makes the second, or the lead after a swap, solo. -/
  | ropeRelease (p : Packet)
  /-- ROPE_STATUS (R351): Command ROPE_STATUS returns ROPE_STAT and can write a snapshot of the ROPE registers. -/
  | ropeStatus (p : Packet)
  /-- WORLD_ASSIGN (R354): Command WORLD_ASSIGN moves an idle assignable block or instance to the secure or open
  world. -/
  | worldAssign (p : Packet)
  /-- ATTEST (R390): Command ATTEST writes an attestation report signed with the DIK over the given nonce. -/
  | attest (p : Packet)
  /-- FW_STAGE (R359): Command FW_STAGE authenticates a firmware image and stores it in the slot that is not running. -/
  | fwStage (p : Packet)
  /-- FW_ACTIVATE (R360): Command FW_ACTIVATE marks the staged image activated and restarts its target on it. -/
  | fwActivate (p : Packet)
  /-- KEY_INFO (R355): Command KEY_INFO writes the vendor root key, the device certificate and the epoch certificate. -/
  | keyInfo (p : Packet)
  /-- SIGN_POLICY (R363): Command SIGN_POLICY sets signing per side (EACH) or by the seal only (SEAL) for the named
  ports. -/
  | signPolicy (p : Packet)
  /-- ESTATE_SET (R356): Command ESTATE_SET writes the estate unit number to the one-time store and can lock
  provisioning. -/
  | estateSet (p : Packet)
  /-- LEDGER_READ (R254): Command LEDGER_READ copies held entries or checkpoint records to a host buffer. -/
  | ledgerRead (p : Packet)
  /-- LEDGER_CHECKPOINT (R255): Command LEDGER_CHECKPOINT writes a signed checkpoint and begins a session. -/
  | ledgerCheckpoint (p : Packet)
  /-- LEDGER_TRIM (R256): Command LEDGER_TRIM discards entries up to a sequence that a held checkpoint covers. -/
  | ledgerTrim (p : Packet)
  /-- BAD_OPCODE (R236): A packet taken from a command ring with an unassigned opcode or a failed header check is
  rejected. -/
  | badOpcode (op : BitVec 16) (p : Packet)
  /-- DOORBELL (R230): A doorbell write sets a command ring tail or a device-produced ring head, after the validity
  checks. -/
  | doorbell (t : Nat) (pf : PF) (ring : Nat) (half : DbHalf) (value : BitVec 64)
  /-- PORTN_SNAP (R51): A write of 1 to PORTn_SNAP captures the grid, encoder, time and estimate registers at one
  instant. -/
  | portnSnap (t : Nat) (pf : PF) (n : Fin 8) (value : BitVec 32)
  /-- LATCHING_READ (R9): A read of the low half of a 64-bit pair copies the high half into the function's shadow. -/
  | latchingRead (t : Nat) (pf : PF) (off : Nat)
  /-- SHADOW_READ (R9): A read of the high half returns the shadow, or the live value with lr_miss set and SYS_LR_MISS
  recorded. -/
  | shadowRead (t : Nat) (pf : PF) (off : Nat)
  /-- MADC_RES_LO (R197): A read of MADC_RES_LO removes the head queue entry and latches its upper half. -/
  | madcResLo (t : Nat) (pf : PF)
  /-- MADC_RES_HI (R197): A read of MADC_RES_HI returns the shadow, or the head's upper half with lr_miss set. -/
  | madcResHi (t : Nat) (pf : PF)
  /-- EVF_FIRE (R307): A write to EVF_FIRE fires a user channel as though its source had fired. -/
  | evfFire (t : Nat) (pf : PF) (value : BitVec 32)
  /-- LDG_WIN_SEQ_HI (R262): A write to LDG_WIN_SEQ_HI loads the named Ledger entry into LDG_WIN. -/
  | ldgWinSeqHi (t : Nat) (pf : PF) (value : BitVec 32) (readable : Bool)
  /-- RINGT_WRITE (R273): A write to a RINGT entry of RING0 to RING3 changes base, size, flags or vector while the
  ring is idle. -/
  | ringtWrite (t : Nat) (pf : PF) (ring : Fin 4) (word : Fin 8) (value : BitVec 32)
  /-- CELLAR_WINDOW_ACCESS (R272): An access through the BAR4 window reaches the Cellar line subject to the world and
  region checks. -/
  | cellarWindowAccess (t : Nat) (pf : PF) (off : Nat) (acc : WinAccess)
  /-- BAD_ACCESS (R368): A BAR access of an unsupported size or alignment completes with Unsupported Request and is
  counted. -/
  | badAccess (t : Nat) (pf : BadAccess)
  /-- REGISTER_WRITE (R9): A write to any register without its own row acts under its access code (RW, W1C, W1S or
  ignored). -/
  | registerWrite (t : Nat) (pf : PF) (off : Nat) (value : BitVec 32)
  /-- ARRIVE (R378): An ARRIVE frame is answered from the log, or checked in order and answered with SLOT or REFUSE. -/
  | arrive (t : Nat) (seq : BitVec 8) (ctlRef : BitVec 32) (mask pad : BitVec 8)
  /-- WITHDRAW (R380): A WITHDRAW frame removes the named document's unused slots from the named ports. -/
  | withdraw (t : Nat) (seq : BitVec 8) (doc : BitVec 32) (mask : BitVec 8)
  /-- PATH (R382): A PATH frame sets the path occupancy of the ports. -/
  | path (t : Nat) (seq mask : BitVec 8)
  /-- JAM (R383): A JAM frame quick-stops the named pace groups, closes their sides with LINE_LOSS and puts them in
  WAIT. -/
  | jam (t : Nat) (seq mask : BitVec 8)
  /-- ACK (R384): An ACK frame ends the repetition of the acknowledged REJECT frame. -/
  | ack (t : Nat) (seq typ ackSeq : BitVec 8)
  /-- HELLO (R377): A HELLO frame from the controller is taken as a valid frame that keeps the link alive. -/
  | hello (t : Nat) (seq : BitVec 8)
  /-- TL_BAD_FRAME (R376): A frame with a bad CRC, bad symbol or unknown type is discarded and counted. -/
  | tlBadFrame (t : Nat)
  /-- TL_HELLO_SEND (R377): After 20 µs with nothing sent, the device sends HELLO. -/
  | tlHelloSend (t : Nat)
  /-- SPEED (R377): Each millisecond the device sends a SPEED frame for each enabled group. -/
  | speed (t : Nat) (g : Fin 4)
  /-- REJECT_REPEAT (R384): Every 100 µs an unacknowledged REJECT is sent again, and after 16 sends reject_lost is
  set. -/
  | rejectRepeat (t : Nat) (seq : BitVec 8)
  /-- TL_LINK_LOSS (R385): After 100 µs with no valid frame, the link is lost and every feed gate counts as closed. -/
  | tlLinkLoss (t : Nat)
  /-- TL_LINK_RETURN (R385): After 16 valid frames the link returns, GATE is sent and held REJECT frames go out. -/
  | tlLinkReturn (t : Nat)
  /-- SLOT_REFILL (R380): The secure controller reserves document numbers to keep the slot table filled. -/
  | slotRefill (t : Nat)
  /-- ENCODER_EDGE (R137): An accepted quadrature edge is counted, stamped and published with its velocity estimate. -/
  | encoderEdge (t : Nat) (e : Fin 8) (up illegal : Bool)
  /-- ENCODER_INDEX (R139): An accepted index edge latches the position, or loads the preset under idx_mode 1. -/
  | encoderIndex (t : Nat) (e : Fin 8) (a b : Bool)
  /-- ENCODER_STANDSTILL (R137): With no edge for 200 µs the encoder is at standstill. -/
  | encoderStandstill (t : Nat) (e : Fin 8)
  /-- ENC_COUNT (R37): The port's ENC_COUNT task takes an encoder edge and schedules or refines grid line triggers. -/
  | encCount (t : Nat) (n : Fin 8)
  /-- GEAR_COUNT (R156): The axis GEAR_COUNT task takes a master edge and schedules the geared steps. -/
  | gearCount (t : Nat) (a : Fin 12)
  /-- LINE_TRIGGER (R38): At its scheduled tick a grid line is triggered and the pattern generator starts it if it
  can. -/
  | lineTrigger (t : Nat) (n : Fin 8)
  /-- LATE_LINE_START (R39): A held line starts at the end of the previous busy time or when buffer room appears, and
  its lateness is recorded. -/
  | lateLineStart (t : Nat) (n : Fin 8)
  /-- LINE_END (R38): A line's busy time ends when its last sample arrives or its last edge passes. -/
  | lineEnd (t : Nat) (n : Fin 8) (data : LineData)
  /-- OUTPUT_LINE_RELEASE (R87): Output line j is released once capture j + Dmax is corrected, then formatted and
  hashed. -/
  | outputLineRelease (t : Nat) (n : Fin 8) (asRead : Option LineData)
  /-- PROVENANCE_SIGN (R361): The secure controller signs and writes the PROVENANCE record of a closed side. -/
  | provenanceSign (t : Nat) (n : Fin 8)
  /-- DOC_LEAD (R46): The DOC_LEAD task latches a leading edge and arms a new side. -/
  | docLead (t : Nat) (n : Fin 8)
  /-- DOC_TRAIL (R46): The DOC_TRAIL task latches a trailing edge and fixes the side's last line. -/
  | docTrail (t : Nat) (n : Fin 8)
  /-- TABLE_SWITCH (R35): A pending edge-table switch takes effect at a line boundary or in a document gap. -/
  | tableSwitch (t : Nat) (n : Fin 8)
  /-- DISARM_EFFECT (R49): A pending PORT_DISARM takes effect at a line boundary with no side open. -/
  | disarmEffect (t : Nat) (n : Fin 8)
  /-- RECONFIG_ENTER (R50): At the first line boundary with no side open and no slot queued, the port enters RECONFIG. -/
  | reconfigEnter (t : Nat) (n : Fin 8)
  /-- RECONFIG_DRAINED (R50): Once drained, the new configuration takes effect and the port returns to SCAN or IDLE. -/
  | reconfigDrained (t : Nat) (n : Fin 8)
  /-- LVDS_TRAIN_DONE (R42): Receiver training completes on the first aligned sol_word and lvds_locked is set. -/
  | lvdsTrainDone (t : Nat) (n : Fin 8) (res : TrainResult)
  /-- LVDS_TRAIN_TIMEOUT (R43): A training step that misses its bound sets train_fail and returns the port to IDLE. -/
  | lvdsTrainTimeout (t : Nat) (n : Fin 8) (step : Fin 8) (lanes : BitVec 9)
  /-- LOCK_LOSS (R44): The LVDS receiver loses lock and starts level-L1 resynchronisation. -/
  | lockLoss (t : Nat) (n : Fin 8) (cause : LockCause)
  /-- LVDS_RESYNC_DONE (R45): The receiver regains word and lane alignment within 50 µs. -/
  | lvdsResyncDone (t : Nat) (n : Fin 8)
  /-- LVDS_RESYNC_TIMEOUT (R45): Resynchronisation misses 50 µs and the fault passes to L2. -/
  | lvdsResyncTimeout (t : Nat) (n : Fin 8) (canTrain : Bool)
  /-- VREF_SETTLED (R56): The video reference settles 5 ms after power-up and initial slice calibration begins. -/
  | vrefSettled (t : Nat) (n : Fin 8)
  /-- VID_READY (R56): Initial slice calibration completes, vid_ready is set and a waiting arm or calibration
  proceeds. Entry 9c + k is what slice k of lane c measured, the second for a repeat (R65). -/
  | vidReady (t : Nat) (n : Fin 8) (res : List (SliceResult × SliceResult))
  /-- SLICE_CAL_START (R62): The lane starts calibrating its spare slice in turn. -/
  | sliceCalStart (t : Nat) (n : Fin 8) (c : Fin 4)
  /-- SLICE_CAL_DONE (R65): A slice calibration ends, and the slice passes, is retried, or is retired. -/
  | sliceCalDone (t : Nat) (n : Fin 8) (c : Fin 4) (res : SliceResult)
  /-- SLICE_SWAP (R63): At a line boundary the calibrated spare replaces the active slice with the oldest calibration. -/
  | sliceSwap (t : Nat) (n : Fin 8) (c : Fin 4)
  /-- SLICE_CAL_STEP (R67): A lane without a spare runs one 2 µs calibration step in an idle interval. -/
  | sliceCalStep (t : Nat) (n : Fin 8) (c : Fin 4) (res : SliceResult)
  /-- CAL_OVERDUE (R68): A good slice exceeds 2 s since its calibration and cal_overdue is set. -/
  | calOverdue (t : Nat) (n : Fin 8) (c : Fin 4)
  /-- VIDEO_EFFECT (R55): A changed VIDEO record takes effect at a line boundary with no side open. -/
  | videoEffect (t : Nat) (n : Fin 8)
  /-- TIME_EFFECT (R210): A new TIME record takes effect on a port at a line boundary with no side open. -/
  | timeEffect (t : Nat) (n : Fin 8)
  /-- ALIGN_EFFECT (R90): A pending alignment takes effect at a boundary allowed by R78 and the ALIGN_SET reply is
  written. -/
  | alignEffect (t : Nat) (n : Fin 8)
  /-- SHADE_LOAD (R79): A SHADE record is loaded into the shading store at an allowed time and the drift state is
  reset. -/
  | shadeLoad (t : Nat) (n : Fin 8)
  /-- REFRESH_SEGMENT (R84): A segment of 1,024 refreshed gains is written to the shading store in a gap. -/
  | refreshSegment (t : Nat) (n : Fin 8)
  /-- PIPE_CAP_UPDATE (R75): Every 10 µs the port publishes its live pipeline capacity. -/
  | pipeCapUpdate (t : Nat) (n : Fin 8) (rate : Nat)
  /-- GOVERNOR_UPDATE (R106): Every 10 µs the governor samples its inputs and slews each master toward its target. -/
  | governorUpdate (t : Nat)
  /-- OVERRUN_HOLD_END (R107): The overrun hold expires and the overrun cap is removed. -/
  | overrunHoldEnd (t : Nat) (n : Fin 8)
  /-- SWITCHBACK_DRAINED (R118): The pipeline has drained in HOLD, the strip closes at L and the switchback waits for
  release. -/
  | switchbackDrained (t : Nat) (g : Fin 4)
  /-- STEP_EVENT (R146): At the interval's expiry the step timer emits a step and reloads from the queue. -/
  | stepEvent (t : Nat) (a : Fin 12)
  /-- LOAD_SAMPLE_REQUEST (R176): zc_window after a zero-index step, the axis requests an urgent MADC conversion. -/
  | loadSampleRequest (t : Nat) (a : Fin 12)
  /-- CHOP_BLANK_END (R172): Blanking ends and a trip already present starts the OFF period. -/
  | chopBlankEnd (t : Nat) (a : Fin 12) (ph : Phase) (tripPresent : Bool)
  /-- CHOP_TRIP (R172): The sense voltage reaches the threshold and the OFF period begins. -/
  | chopTrip (t : Nat) (a : Fin 12) (ph : Phase)
  /-- CHOP_OFF_END (R172): The OFF period of t_off ends and the phase returns to ON. -/
  | chopOffEnd (t : Nat) (a : Fin 12) (ph : Phase)
  /-- CHOP_ON_MAX (R174): An ON period reaches t_on_max and is ended as a trip, which may set open_a or open_b. -/
  | chopOnMax (t : Nat) (a : Fin 12) (ph : Phase)
  /-- HOLD_CURRENT_DELAY (R175): After hold_delay_ms without a step, the current falls to i_hold. -/
  | holdCurrentDelay (t : Nat) (a : Fin 12)
  /-- LIMIT_SWITCH (R150): AXn_LIM becomes active during guarded motion and the axis quick-stops into FAULT. -/
  | limitSwitch (t : Nat) (a : Fin 12) (active : Bool)
  /-- HOME_SWITCH_EDGE (R161): A debounced edge of a homing switch advances the homing sequence. -/
  | homeSwitchEdge (t : Nat) (a : Fin 12) (active : Bool)
  /-- BRIDGE_FAULT (R180): A filtered low on AXn_FLT_N turns the bridges off and puts the axis in FAULT. -/
  | bridgeFault (t : Nat) (a : Fin 12) (low : Bool)
  /-- EN_SETTLE_DONE (R180): en_settle expires after the bridges are re-enabled and the phases are energised. -/
  | enSettleDone (t : Nat) (a : Fin 12)
  /-- PARK_RAMP_DONE (R182): The park current ramp ends, the park state is recorded and the axis becomes PARKED. -/
  | parkRampDone (t : Nat) (a : Fin 12)
  /-- WAKE_RAMP_DONE (R182): The wake current ramp ends, the position is checked and the axis returns to IDLE. -/
  | wakeRampDone (t : Nat) (a : Fin 12)
  /-- MADC_TRIG_PIN (R191): An enabled edge on TRIG_A to TRIG_D triggers its sequences. -/
  | madcTrigPin (t : Nat) (pin : Fin 4) (rising : Bool)
  /-- SEQ_TRIG (R191): The MADC_SEQ_TRIG task triggers its sequence. -/
  | seqTrig (t : Nat) (q : Fin 16)
  /-- MADC_PERIOD_TRIGGER (R191): The period of a PERIODIC sequence expires and triggers it. -/
  | madcPeriodTrigger (t : Nat) (q : Fin 16)
  /-- MADC_CONVERSION_DONE (R190): A sequence entry's samples complete and its result is formed and queued. -/
  | madcConversionDone (t : Nat) (core : Fin 2) (samples : List Int)
  /-- URGENT_RESULT (R193): An urgent conversion completes and its result goes to its requester. -/
  | urgentResult (t : Nat) (core : Fin 2) (samples : List Int)
  /-- MADC_SLOT_FLUSH (R198): 100 µs after its first entry, a partly filled measurement ring slot is written. -/
  | madcSlotFlush (t : Nat)
  /-- REF_SETTLED (R189): 5 ms after the MADC reference is turned on, ref_settled is set. -/
  | refSettled (t : Nat)
  /-- CAL_PHASE_DONE (R212): A phase of a port calibration has averaged its lines and the run moves on or completes. -/
  | calPhaseDone (t : Nat) (meas : CalMeasure)
  /-- DEFERRED_CAL_START (R221): A calibration deferred by capture starts once the batch has been sealed. -/
  | deferredCalStart (t : Nat)
  /-- NVM_ERASE_DONE (R225): The target slot's erase ends and programming begins, or the store fails. -/
  | nvmEraseDone (t : Nat) (ok : Bool)
  /-- NVM_PROGRAM_DONE (R225): The body is programmed and read back, and the check words are programmed. -/
  | nvmProgramDone (t : Nat) (res : NvmResult)
  /-- NVM_CHECK_DONE (R225): The check words read back and the new generation is in force. -/
  | nvmCheckDone (t : Nat) (ok : Bool)
  /-- WEATHER_PLAN (R324): The daily or event-driven weathering plan is made from the monitors and stored. -/
  | weatherPlan (t : Nat) (mon : List Nat) (temps : List Int) (vddMv : Nat) (verniers : List (List Nat))
  /-- VDD_SAG (R324): VDD_CORE below plan_mv by 10 mV for 1 ms starts a new plan. -/
  | vddSag (t : Nat) (mv : Nat)
  /-- INIT_DONE (R268): The background initialisation of a Cellar granule completes, up to init_done. -/
  | initDone (t : Nat)
  /-- REGION_EFFECT (R270): An accepted region's granules are initialised or zeroed and the region takes effect. -/
  | regionEffect (t : Nat) (r : Fin 64)
  /-- PATROL_SCRUB (R267): The patrol scrub reads and corrects an initialised line in spare bandwidth. -/
  | patrolScrub (t : Nat) (addr : Nat) (res : EccResult)
  /-- DMA_DELIVERY (R277): A delivery channel moves a complete record from the port store to its image ring when room
  allows. -/
  | dmaDelivery (t : Nat) (n : Fin 8)
  /-- DMA_CHAIN_START (R282): A copy channel starts its next queued chain and checks each descriptor before moving
  bytes. -/
  | dmaChainStart (t : Nat) (ch : Fin 32) (desc : List Byte)
  /-- DESCRIPTOR_COMPLETE (R284): A descriptor's last write leaves the engine and the chain continues or replies. -/
  | descriptorComplete (t : Nat) (ch : Fin 32) (data : ReadBytes) (nextDesc : List Byte)
  /-- FENCE_READ_DONE (R285): The zero-length flush read completes and the FENCE descriptor completes. -/
  | fenceReadDone (t : Nat) (ch : Fin 32) (nextDesc : List Byte)
  /-- DMA_ERROR_RESPONSE (R287): An error response is retried once at L1, and a second failure halts the channel. -/
  | dmaErrorResponse (t : Nat) (ch : Fin 32) (kind : DmaErr) (addr : BitVec 64)
  /-- DMA_TIMEOUT (R287): A Cellar access unanswered for 50 µs, or a host read timeout, halts the channel. -/
  | dmaTimeout (t : Nat) (ch : Fin 32) (host : Bool) (addr : BitVec 64)
  /-- DMA_ERROR_LATE (R286): An error after completion writes a late-error event and halts the channel. -/
  | dmaErrorLate (t : Nat) (ch : Fin 32) (index : BitVec 32) (addr : BitVec 64)
  /-- REPLY_WRITE (R233): A completed command's reply is written to its reply ring when there is room. -/
  | replyWrite (t : Nat) (ring : Nat)
  /-- EVENT_RECORD_WRITE (R275): A waiting event record is written to its event ring when there is room. -/
  | eventRecordWrite (t : Nat) (ring : Nat)
  /-- DEADLINE_EXPIRY (R240): A command's deadline_us expires before its reply. -/
  | deadlineExpiry (t : Nat) (seq : BitVec 64)
  /-- LEDGER_PERIODIC_CHECKPOINT (R253): After 65,536 entries since the last checkpoint, a periodic checkpoint is
  written. -/
  | ledgerPeriodicCheckpoint (t : Nat)
  /-- WAYMARK_DELIVERY (R293): A channel delivers a fired event to the tasks of its route. -/
  | waymarkDelivery (t : Nat) (ch : BitVec 8)
  /-- JUNCTION (R296): A JUNCTION task fires its junction generator at once. -/
  | junction (t : Nat) (k : Fin 16)
  /-- STOP_RAMP (R297): The STOP_RAMP task acts as a ramp STOP with no reply. -/
  | stopRamp (t : Nat) (a : Fin 12)
  /-- STOP_QUICK (R297): The STOP_QUICK task acts as a quick STOP with no reply. -/
  | stopQuick (t : Nat) (a : Fin 12)
  /-- WAKE (R316): The SYS WAKE task, or a doorbell, starts the wake from DORMANT. -/
  | wake (t : Nat)
  /-- WAKE_COMPLETE (R316): The device reaches READY after a wake and takes the waking packet. -/
  | wakeComplete (t : Nat)
  /-- SECOND (R373): Each whole second fires the SECOND generator and can pulse TB_OUT. -/
  | second (t : Nat)
  /-- STRAP_LATCH (R311): PWRGOOD or RESET_N rising latches the straps and starts a new boot epoch. -/
  | strapLatch (b : BootInputs)
  /-- READY_REACHED (R311): When the start-up steps are done the device enters READY and MODE_CHANGE fires. -/
  | readyReached (t : Nat) (ownHigh : Bool)
  /-- RESET_N_ASSERT (R401): RESET_N going low drives outputs to safe levels and ends the boot epoch. -/
  | resetNAssert (t : Nat)
  /-- PWRGOOD_FALL (R401): PWRGOOD falling drives outputs to safe levels before the rails drop. -/
  | pwrgoodFall (t : Nat)
  /-- FLR_PF0 (R314): A function-level reset of PF0 resets only its configuration space and MSI-X table. -/
  | flrPf0 (t : Nat)
  /-- FLR_PF1 (R370): A function-level reset of PF1 resets only PF1's PCIe state. -/
  | flrPf1 (t : Nat)
  /-- HOT_RESET (R314): A PCIe hot reset acts as a function-level reset of both functions. -/
  | hotReset (t : Nat)
  /-- PCIE_LINK_DOWN (R370): With the link down or bus mastering off, host transfers stop while capture continues. -/
  | pcieLinkDown (t : Nat) (what : LinkPart)
  /-- WATCHDOG_RECOVERY (R22): The L2 watchdog restarts a hung control core while capture runs on. -/
  | watchdogRecovery (t : Nat) (core : Fin 4) (ok : Bool)
  /-- SAFE_ENTRY (R322): A SAFE cause drives every output safe, stops the Rope heartbeat and puts the Cellar in self-
  refresh. -/
  | safeEntry (t : Nat) (cause : Fin 7)
  /-- FW_START_TIMEOUT (R360): A newly activated image that misses its start bound is revoked and the previous image
  is restarted. -/
  | fwStartTimeout (t : Nat) (secure : Bool)
  /-- BATCH_SEAL (R362): After the drain, BATCH_SEAL records are signed and the seal checkpoint ends the batch. -/
  | batchSeal (t : Nat)
  /-- HEARTBEAT_SEND (R329): Every 25 µs the device sends a heartbeat on the lanes and on ROPE_HB_OUT. -/
  | heartbeatSend (t : Nat)
  /-- HEARTBEAT (R343): A heartbeat from the peer is received and restarts its age. -/
  | heartbeat (t : Nat) (path : HbPath) (peer : PeerInfo)
  /-- YIELD (R343): YIELD is received from the lead before it releases OWN_N. -/
  | yield (t : Nat)
  /-- LEAD_LOST (R343): The second declares the lead lost and runs the takeover. `netHigh` is the `OWN_N` net as it reads
  it. -/
  | leadLost (t : NetSample)
  /-- ROPE_FAULT (R347): Heartbeats absent on both paths for 200 µs detach the second and leave the lead solo. -/
  | ropeFault (t : NetSample)
  /-- HB_PATH_LOST (R343): The pin heartbeat absent for 200 µs while the lanes are up clears hb_pin. -/
  | hbPathLost (t : Nat)
  /-- MIRROR_ACK_TIMEOUT (R331): No acknowledgement within 20 µs detaches the second. -/
  | mirrorAckTimeout (t : Nat)
  /-- MIRROR_ITEM (R336): The second applies a mirrored entry or item at its effect mark and compares the outcome. -/
  | mirrorItem (t : Nat) (item : MirrorItem)
  /-- TB_LOCK_LOSS (R332): A phase error above 1 ns for 1 ms clears tb_locked and drops the second to FOLLOWING. -/
  | tbLockLoss (t : Nat)
  /-- TB_RELOCK (R332): The lock held for 10 ms restores tb_locked. -/
  | tbRelock (t : Nat)
  /-- OWN_TAKE (R328): A side-B device takes OWN_N after the net is high for 200 µs with no peer heartbeat. -/
  | ownTake (t : NetSample)
  /-- SYNC_DONE (R334): The state transfer completes, the second enters FOLLOWING and ROPE_PAIR replies. -/
  | syncDone (t : Nat)
  /-- SYNC_TIMEOUT (R334): SYNCING outlasts sync_ms and both devices stay solo. -/
  | syncTimeout (t : Nat)
  /-- ELIGIBLE (R334): The second becomes ELIGIBLE once locked and past a boundary with no side open on each port. -/
  | eligible (t : Nat)
  /-- SWAP_INSTANT (R348): At the chosen instant the lead sends YIELD and the handover runs. -/
  | swapInstant (t : Nat)
  /-- ROPE_WAKE_PULSE (R350): A 5 µs pulse on ROPE_HB_IN wakes a dormant peer. -/
  | ropeWakePulse (t : Nat)
  /-- SMB_READ_MODE (R388): SMBus command 0x00 returns the mode, SAFE cause and margin_low. -/
  | smbReadMode (t : Nat)
  /-- SMB_READ_TEMP (R388): SMBus command 0x01 returns the highest die temperature. -/
  | smbReadTemp (t : Nat) (sites : List Int)
  /-- SMB_READ_TEMP_SITES (R388): SMBus command 0x02 returns the eight site temperatures. -/
  | smbReadTempSites (t : Nat) (sites : List Int)
  /-- SMB_READ_POWER (R388): SMBus command 0x03 returns the total power. -/
  | smbReadPower (t : Nat) (power : Nat)
  /-- SMB_READ_RAIL_POWER (R388): SMBus command 0x04 returns the power of each rail. -/
  | smbReadRailPower (t : Nat) (rails : List Nat)
  /-- SMB_READ_ID (R388): SMBus command 0x05 returns SYS_ID and the serial number. -/
  | smbReadId (t : Nat)
  /-- SMB_ALERT_RESPONSE (R394): A read of the Alert Response Address returns the address and releases SMB_ALERT_N. -/
  | smbAlertResponse (t : Nat)
  /-- SMB_NACK (R388): A write beyond the command code, or an unknown code, is NACKed. -/
  | smbNack (t : Nat)
  /-- BYPASS (R389): JTAG instruction BYPASS selects the bypass register. -/
  | bypass (t : Nat)
  /-- IDCODE (R389): JTAG instruction IDCODE reads the device identification code. -/
  | idcode (t : Nat)
  /-- SAMPLE_PRELOAD (R389): JTAG instruction SAMPLE/PRELOAD samples or loads the boundary register. -/
  | samplePreload (t : Nat) (pins : List Bool)
  /-- EXTEST (R389): JTAG instruction EXTEST drives the pins while RESET_N is low, and acts as BYPASS otherwise. -/
  | extest (t : Nat)
  /-- CLAMP (R389): JTAG instruction CLAMP holds the outputs while RESET_N is low, and acts as BYPASS otherwise. -/
  | clamp (t : Nat)
  /-- HIGHZ (R389): JTAG instruction HIGHZ floats the outputs while RESET_N is low, and acts as BYPASS otherwise. -/
  | highz (t : Nat)
  /-- DBG_ACCESS (R390): JTAG instruction DBG_ACCESS opens the debug port before the provisioning lock and writes a
  DEVICE entry. -/
  | dbgAccess (t : Nat)
  /-- TL_SYMBOL_LOCK (R376): After 16 consecutive valid symbols at one alignment the transport link receiver sets
  symbol lock and begins to receive frames. -/
  | tlSymbolLock (t : Nat)
  /-- TL_SYMBOL_LOCK_LOSS (R376): When 4 of 16 consecutive symbols are invalid the receiver clears symbol lock and
  searches for K28.5 again. -/
  | tlSymbolLockLoss (t : Nat)
  /-- PCIE_LINK_UP (R370): The PCIe link trains, or Bus Master Enable is set again or D0 re-entered, and transfers to
  the function's host space resume. -/
  | pcieLinkUp (t : Nat) (what : LinkPart) (gen : Fin 6) (width : Fin 9)
  /-- TIMEBASE_LOCK_LOSS (R329): The timebase PLL loses lock or its reference on TB_XI, SYS_EVT records it, and on a
  Rope-fitted device the heartbeat stops and OWN_N is released. -/
  | timebaseLockLoss (t : Nat)
  /-- DIE_TEMPERATURE_ALERT (R394): A die temperature site reaches 105 °C and SMB_ALERT_N is pulled low, guarantees
  lapsing until it cools. -/
  | dieTemperatureAlert (t : Nat) (site : Fin 8) (temp : Int)
  /-- ROPE_LANE_ERROR (R331): Errors on a Rope lane are retransmitted at L0 within 20 µs, counted in ROPE_RETX_CNT,
  and LANE_RETRY fires. -/
  | ropeLaneError (t : Nat) (lane : Fin 2)
  /-- ROPE_LANES_DOWN (R347): A Rope lane goes down and traffic moves to the other, and with both lanes down while pin
  heartbeats continue the second is detached and the lead goes solo. -/
  | ropeLanesDown (t : Nat) (mask : BitVec 2)
  /-- ROPE_LANES_LOCKED (R350): A failed or powered-down Rope lane completes its retraining and locks again, letting
  the second return towards ELIGIBLE. -/
  | ropeLanesLocked (t : Nat) (mask : BitVec 2)
  /-- OWN_FAULT (R343): The OWN_N net reads high while its holder pulls it low, and own_fault is set without a
  takeover. -/
  | ownFault (t : Nat)
  /-- CHECKPOINT_SIGNED (R253): The capture-key signature of a checkpoint completes, the checkpoint record is held and
  a further LEDGER_CHECKPOINT is no longer refused as busy. -/
  | checkpointSigned (t : Nat)
  /-- IMAGE_STARTED (R360): A newly activated firmware image starts within its bound, command acceptance, signing and
  slot refill resume, and the svn minimum is raised. -/
  | imageStarted (t : Nat) (secure : Bool)
  /-- RECOVERY_BUDGET_EXPIRY (R257): A recovery level's budget ends with the fault unsettled, a DEVICE entry records
  the failure, and the fault passes to the next level, for example from the lead's L2 to L3 with YIELD. -/
  | recoveryBudgetExpiry (t : Nat) (level : Fin 5) (fault : BitVec 32)
  deriving DecidableEq, Repr

end Sys2Proof
end

