-- ==== Sys2Proof/Config.lean ====
section
/-! DEFINITION. What the spec names and does not define, and the values it leaves open: constants with no body. -/

namespace Sys2Proof.Config

/-- SHA-384 of a byte string (10 R244, 15 Keys): named by the spec and not defined there. Log entry 3. -/
opaque sha384 : List Byte → BitVec 384

/-- ECDSA signature (r then s, 96 bytes as one number) of a digest under the key with the given identifier
(15 Table 15.3). Log entry 3. -/
opaque ecdsa : DWord → BitVec 384 → BitVec 768

/-- Whether a signature over a digest verifies under the vendor root (15 R358). Log entry 3. -/
opaque vendorVerifies : BitVec 384 → BitVec 768 → Bool

/-- Public keys as 97-byte points: the vendor root and the device identity key (15 Table 15.3). Log entry 3. -/
opaque vendorRootPub : BitVec 776
opaque dikPub : BitVec 776

/-- Capture key drawn from the on-chip random source for a boot epoch (15 Table 15.3). Log entry 3. -/
opaque capturePub : BitVec 24 → BitVec 776

/-- The device certificate written at manufacture (15 Table 15.4), 256 bytes as one number. Log entry 3. -/
opaque deviceCert : BitVec 2048

/-- The serial number written at manufacture and the silicon revision (16 Table 16.5). Log entry 5. -/
opaque serial : BitVec 128
opaque revision : BitVec 8

/-- A value the spec leaves open, drawn afresh for each number it is applied to. Log entry 2. -/
opaque free8 : Nat → BitVec 8
opaque free16 : Nat → BitVec 16
opaque free32 : Nat → BitVec 32
opaque free64 : Nat → BitVec 64
opaque freeInt : Nat → Int

/-- What the weathering model predicts (13 R324): from the monitors, the site temperatures and the supply in mV, the
ceiling of a port, a point of the voltage-to-speed curve, a lane's conversion time in 1/16 tick, and the margin in
0.01 year. Log entry 4. -/
opaque ceiling : List Nat → List Int → Nat → Nat → Nat
opaque curve : List Nat → List Int → Nat → Nat
opaque sliceTiming : List Nat → List Int → Nat → Nat
opaque margin : List Nat → List Int → Nat → Nat

/-- The WEATHER baseline's cycle time of each monitor at manufacture (13 Weathering). Log entry 4. -/
opaque monitorBaseline : Nat → Nat

/-- The cycle time that a plan made from the given monitors predicts for a monitor later on (13 R324). Log entry 4. -/
opaque monitorForecast : List Nat → Nat → Nat

/-- A port's factor from the rate of its replica loop to its live capacity in Msample/s, set at manufacture (04 R75). -/
opaque pipeFactor : Nat → Rat

end Sys2Proof.Config
end

