-- ==== Sys2Proof/Machine/Operands.lean ====
section
/-! DEFINITION. Reading and laying out operand bytes: packets, records and register words are little-endian (00 R8). -/

namespace Sys2Proof.Machine

/-- The byte at an offset; past the end of the bytes it reads 0. -/
def byteAt (l : List Byte) (off : Nat) : Nat := (l.getD off 0).toNat

/-- An unsigned little-endian field of `n` bytes at an offset. -/
def fieldAt (l : List Byte) (off : Nat) : Nat → Nat
  | 0 => 0
  | n + 1 => byteAt l off + 256 * fieldAt l (off + 1) n

def u8 (l : List Byte) (off : Nat) : Nat := byteAt l off
def u16 (l : List Byte) (off : Nat) : Nat := fieldAt l off 2
def u32 (l : List Byte) (off : Nat) : Nat := fieldAt l off 4
def u64 (l : List Byte) (off : Nat) : Nat := fieldAt l off 8

/-- Two's complement value of an `n`-bit number. -/
def signed (n x : Nat) : Int := if x < 2 ^ (n - 1) then (x : Int) else (x : Int) - 2 ^ n

def i8 (l : List Byte) (off : Nat) : Int := signed 8 (u8 l off)
def i16 (l : List Byte) (off : Nat) : Int := signed 16 (u16 l off)
def i32 (l : List Byte) (off : Nat) : Int := signed 32 (u32 l off)
def i64 (l : List Byte) (off : Nat) : Int := signed 64 (u64 l off)

/-- Reserved bytes must be zero (00 R10): every byte of [off, off + n) reads 0. -/
def zeroBytes (l : List Byte) (off n : Nat) : Bool := (List.range n).all fun k => byteAt l (off + k) == 0

/-- Bits [hi:lo] of a number. -/
def bitsOf (x hi lo : Nat) : Nat := (x >>> lo) % 2 ^ (hi + 1 - lo)

/-- Little-endian bytes of the low 8·n bits of a number. -/
def leBytes : Nat → Nat → List Byte
  | 0, _ => []
  | n + 1, x => BitVec.ofNat 8 x :: leBytes n (x / 256)

/-- Little-endian bytes of an integer in two's complement. -/
def leInt (n : Nat) (x : Int) : List Byte := leBytes n (x % 2 ^ (8 * n)).toNat

/-- Big-endian bytes of the low 8·n bits of a number (hashes, key points and signatures, 15 Keys). -/
def beBytes (n x : Nat) : List Byte := (leBytes n x).reverse

/-- A field padded with zeros, or cut, to `n` bytes. -/
def padTo (n : Nat) (l : List Byte) : List Byte := (l ++ List.replicate n 0).take n

def b2n (b : Bool) : Nat := if b then 1 else 0

/-- A register word from a number. -/
def word (x : Nat) : Word := BitVec.ofNat 32 x

/-- An integer as a register word in two's complement. -/
def wordInt (x : Int) : Word := BitVec.ofInt 32 x

/-- The low and the high half of a 64-bit register pair. -/
def lowHalf (x : DWord) : Word := x.setWidth 32
def highHalf (x : DWord) : Word := (x >>> 32).setWidth 32

/-- The halves of a pair whose value is an integer. -/
def lowInt (x : Int) : Word := lowHalf (BitVec.ofInt 64 x)
def highInt (x : Int) : Word := highHalf (BitVec.ofInt 64 x)

/-- An integer held within bounds. -/
def clampInt (lo hi x : Int) : Int := max lo (min hi x)

/-- Nearest whole number, ties away from zero. -/
def ratNearest (x : Rat) : Int := if 0 ≤ x then (x + mkRat 1 2).floor else -((-x + mkRat 1 2).floor)

/-- Nearest whole number of a quotient, ties upward. -/
def roundHalfUp (num den : Int) : Int := (2 * num + den) / (2 * den)

/-- Integer square root by bits from the top: the largest r with r² ≤ x, for x below 2^(2·bits). -/
def isqrtAux (x : Nat) : Nat → Nat → Nat
  | 0, r => r
  | k + 1, r => let r' := r + 2 ^ k; if r' * r' ≤ x then isqrtAux x k r' else isqrtAux x k r
def isqrt (x : Nat) : Nat := isqrtAux x (Nat.log2 x / 2 + 1) 0

/-- Integer cube root in the same way. -/
def icbrtAux (x : Nat) : Nat → Nat → Nat
  | 0, r => r
  | k + 1, r => let r' := r + 2 ^ k; if r' * r' * r' ≤ x then icbrtAux x k r' else icbrtAux x k r
def icbrt (x : Nat) : Nat := icbrtAux x (Nat.log2 x / 3 + 1) 0

/-- Replace the element at a place of a list. -/
def setNth {α : Type} (l : List α) (k : Nat) (x : α) : List α := l.set k x

/-- The ports, axes and encoders that a mask names, lowest first. -/
def maskPorts (m : Nat) : List (Fin 8) := (List.finRange 8).filter fun n => m.testBit n.val
def maskAxes (m : Nat) : List (Fin 12) := (List.finRange 12).filter fun n => m.testBit n.val

/-- Generations and widths at which the PCI Express link trains (16 R366). -/
def linkShape (gen width : Nat) : Bool := 1 ≤ gen && [1, 2, 4, 8].contains width

/-- One byte of the CRC-16, most significant bit first (16 R376). -/
def crc16Byte (crc : BitVec 16) (b : Byte) : BitVec 16 :=
  (List.range 8).foldl (fun c _ => if c.msb then (c <<< 1) ^^^ 0x1021#16 else c <<< 1) (crc ^^^ (b.setWidth 16 <<< 8))

/-- CRC-16 of the transport link: polynomial 0x1021, initial 0xFFFF (16 R376). -/
def crc16 (l : List Byte) : BitVec 16 := l.foldl crc16Byte 0xFFFF#16

/-- One byte of the CRC-32C: polynomial 0x1EDC6F41 reflected (09 Table 9.8). -/
def crc32cByte (crc : BitVec 32) (b : Byte) : BitVec 32 :=
  (List.range 8).foldl (fun c _ => if c.getLsbD 0 then (c >>> 1) ^^^ 0x82F63B78#32 else c >>> 1)
    (crc ^^^ b.setWidth 32)

def crc32c (l : List Byte) : BitVec 32 := ~~~ (l.foldl crc32cByte 0xFFFFFFFF#32)

end Sys2Proof.Machine
end

