-- ==== Sys2Proof/Machine/Flags.lean ====
section
/-! DEFINITION. Flag and counter arithmetic of the registers: event bits, W1C, saturating counters (00 Table 0.3). -/

namespace Sys2Proof.Machine

/-- Set one bit of a register. -/
def setBit (w : Word) (i : Nat) : Word := w ||| (1#32 <<< i)

/-- Clear one bit of a register. -/
def clearBit (w : Word) (i : Nat) : Word := w &&& ~~~ (1#32 <<< i)

/-- W1C: writing 1 clears the bit, writing 0 has no effect (00 Table 0.3). -/
def w1c (old written : Word) : Word := old &&& ~~~ written

/-- A counter that saturates at all ones. -/
def satInc (w : Word) : Word := if w = 0xFFFFFFFF#32 then w else w + 1

/-- A saturating counter moved by `n`. -/
def satAdd (w : Word) (n : Nat) : Word := if w.toNat + n ≥ 2 ^ 32 then 0xFFFFFFFF#32 else w + BitVec.ofNat 32 n

/-- A 16-bit counter that saturates. -/
def satInc16 (w : BitVec 16) : BitVec 16 := if w = 0xFFFF#16 then w else w + 1

/-- An unsigned number held to 32 bits by saturation. -/
def sat32 (n : Nat) : Word := if n ≥ 2 ^ 32 then 0xFFFFFFFF#32 else BitVec.ofNat 32 n

/-- A signed number held to 32 bits by saturation. -/
def satInt32 (x : Int) : Word := BitVec.ofInt 32 (clampInt (-(2 ^ 31)) (2 ^ 31 - 1) x)

/-- A number held to 16 bits by saturation. -/
def sat16 (n : Nat) : Nat := min n 0xFFFF

/-- Build a register word from fields placed at bit positions. -/
def packWord (fields : List (Nat × Nat)) : Word :=
  BitVec.ofNat 32 (fields.foldl (fun acc f => acc ||| (f.1 <<< f.2)) 0)

end Sys2Proof.Machine
end

