-- ==== Sys2Proof/Machine/Mem.lean ====
section
/-! DEFINITION. Sparse memory: a list of address and byte pairs with strictly rising addresses and no entry equal to
what an unlisted address reads as. The Cellar's unlisted bytes read 0 (11 R268); host memory lists what the device has
written there, and an unlisted byte is one that it has not written. -/

namespace Sys2Proof.Machine

/-- Write one byte; `d` is what an unlisted address reads as. -/
def Mem.put (d : Option Byte) (a : Nat) (b : Byte) : List Host.Cell → List Host.Cell
  | [] => if d = some b then [] else [(a, b)]
  | c :: m =>
    if a < c.1 then (if d = some b then c :: m else (a, b) :: c :: m)
    else if a = c.1 then (if d = some b then m else (a, b) :: m)
    else c :: Mem.put d a b m

/-- Write bytes from an address upward. -/
def Mem.write (d : Option Byte) : Nat → List Byte → List Host.Cell → List Host.Cell
  | _, [], m => m
  | a, b :: l, m => Mem.write d (a + 1) l (Mem.put d a b m)

/-- The byte listed at an address. -/
def Mem.find (m : List Host.Cell) (a : Nat) : Option Byte := (m.find? fun c => c.1 == a).map Prod.snd

/-- The Cellar's byte at an address: 0 where nothing is listed. -/
def Mem.get (m : List Host.Cell) (a : Nat) : Byte := (Mem.find m a).getD 0

/-- The Cellar's bytes from an address upward. -/
def Mem.read (m : List Host.Cell) (a n : Nat) : List Byte := (List.range n).map fun k => Mem.get m (a + k)

/-- Bytes of [lo, hi) returned to what an unlisted address reads as. -/
def Mem.clear (lo hi : Nat) (m : List Host.Cell) : List Host.Cell := m.filter fun c => c.1 < lo || hi ≤ c.1

/-- The canonical form. -/
abbrev Mem.wf (d : Option Byte) (m : List Host.Cell) : Prop :=
  m.Pairwise (fun x y => x.1 < y.1) ∧ ∀ c ∈ m, d ≠ some c.2

end Sys2Proof.Machine
end

