-- ==== Sys2Proof/Machine/CoreTypes.lean ====
section
/-! DEFINITION. The plain data of the units that the host reaches first: commands and the Ledger (10), the Cellar,
rings and DMA (11), the waymark fabric (12), modes (13), worlds and keys (15), the links (16). -/

namespace Sys2Proof.Machine

/-- A unit of the BAR0 map (16 Table 16.2), which events, worlds and event rings name. -/
inductive BlockId where
  | sys | cmd | ldg | evf | dma | madc | trig | sec | rope | tlnk | pace | cel | wea
  | port (n : Fin 8)
  | ax (n : Fin 12)
  | enc (n : Fin 8)
  deriving DecidableEq, Repr

/-- Secure or open (15 R352). -/
inductive World where
  | opened
  | secure
  deriving DecidableEq, Repr

/-- The three memories that the device writes: host memory of PF0 and of PF1, and the Cellar. -/
inductive Space where
  | host0
  | host1
  | cellar
  deriving DecidableEq, Repr

/-- A write that has left a unit and reaches its memory at the end of the step. -/
structure PostedWrite where
  space : Space
  addr : Nat
  zero : Nat                      -- bytes from `addr` that are zeroed first
  data : List Byte
  deriving DecidableEq, Repr

/-! ### Ledger (10 Table 10.8, 10.9, 10.14) -/

/-- Kinds of Ledger entries (10 Table 10.8 `world_flags` [3:1]). -/
inductive EntryKind where
  | accept | done | duplicate | device | checkpoint | trim
  deriving DecidableEq, Repr

/-- A Ledger entry (10 Table 10.8). -/
structure LedgerEntry where
  seq : DWord
  time : DWord
  tag : BitVec 32
  opcode : BitVec 16
  ring : BitVec 16
  status : BitVec 16
  secure : Bool
  kind : EntryKind
  mirrored : Bool
  fault : BitVec 32
  digest : BitVec 128
  detail : BitVec 32
  result : BitVec 32
  chain : BitVec 64
  ends : DWord := 0               -- of a DONE entry: the ACCEPT entry it belongs to; the model's own, not among the bytes
  deriving DecidableEq, Repr

/-- A checkpoint record (10 Table 10.9); `signature` is none while the capture key signs. -/
structure Checkpoint where
  seq : DWord
  time : DWord
  firstSeq : DWord
  estate : BitVec 32
  reason : BitVec 8
  batch : BitVec 32
  chain : BitVec 384
  signature : Option (BitVec 768)
  deriving DecidableEq, Repr

structure Ledger where
  entries : List LedgerEntry      -- held entries, oldest first
  spilled : Nat                   -- how many of the oldest lie in the overflow region
  region : Option Nat             -- the LEDGER region designated
  capOvf : Nat                    -- its capacity in entries
  ready : Bool                    -- the epoch's first CHECKPOINT has been written
  epoch : BitVec 24
  nextNo : Nat                    -- entry number of the next entry
  chain : BitVec 384              -- C of the last entry
  sessionSeq : DWord
  ckptSeq : DWord
  ckptFirst : DWord               -- first entry after the last CHECKPOINT entry
  ckptChain : BitVec 384          -- C of the entry before the last CHECKPOINT entry
  ckpts : List Checkpoint         -- held checkpoint records, oldest first
  signing : List Checkpoint       -- checkpoints being signed, oldest first
  sinceCkpt : Nat
  ckptWaiting : List (BitVec 8)   -- reasons of checkpoints that wait for room (R252)
  ledgerDrawn : Nat               -- entries drawn from the Ledger-command reserve
  deviceDrawn : Nat               -- entries drawn from the device reserve
  faultNext : BitVec 32
  faults : List (BitVec 32 × Nat) -- open faults with the level that owns them (R257)
  devLost : BitVec 32
  unreadable : Bool
  evt : Word
  irqEn : Word
  winSeqLo : Word
  winSeqHi : Word
  win : Option LedgerEntry
  mirrorWaiting : List (Nat × LedgerEntry) -- copies that wait for a ledger-mirror ring, each with its ring
  deriving DecidableEq, Repr

/-! ### Commands and replies (10 Table 10.1, 10.2, 10.13) -/

/-- A reply that waits for its slot (10 Table 10.2). -/
structure Reply where
  ring : Nat                      -- the reply ring
  cmdRing : Nat
  status : BitVec 16
  opcode : BitVec 16
  tag : BitVec 32
  seq : DWord
  cookie : DWord
  detail : BitVec 32
  result : BitVec 32
  time : DWord
  fault : BitVec 32
  flight : Option DWord           -- the ACCEPT sequence of the command in flight that it answers
  buffers : List (Nat × List Byte) -- host buffer writes that come before it (R235)
  deriving DecidableEq, Repr

/-- A duplicate answered while its original is in flight (10 R246). -/
structure DupAnswer where
  ring : Nat
  cmdRing : Nat
  opcode : BitVec 16
  tag : BitVec 32
  cookie : DWord
  deriving DecidableEq, Repr

/-- Whose command a flight is: the host's, one mirrored from the lead, or the host's on a second, which writes no entry of
its own (14 R335, R336). -/
inductive FlightKind where
  | host | mirrored | unledgered
  deriving DecidableEq, Repr

/-- A command in flight (10 R233): from its acceptance until its reply is written. -/
structure Flight where
  seq : DWord                     -- its ACCEPT entry
  ring : Nat
  replyRing : Nat
  secure : Bool
  opcode : BitVec 16
  flags : BitVec 16
  tag : BitVec 32
  cookie : DWord
  digest : BitVec 128
  params : List Byte
  hostData : List Byte
  deadline : Option Nat           -- device time in ns at which deadline_us expires
  begun : Bool                    -- it has begun to change device state (R240)
  finished : Bool                 -- its DONE entry is written and its reply waits
  queuedReply : Bool              -- its OK_QUEUED reply is formed, its outcome is still to come (R247)
  replied : Bool                  -- that reply is written
  dups : List DupAnswer
  kind : FlightKind
  deriving DecidableEq, Repr

structure CmdUnit where
  evt : Word
  irqEn : Word
  accepted : Word
  rejected : Word
  dups : Word
  badDoorbells : Word
  lastRejRing : BitVec 13
  lastRejStatus : BitVec 16
  lastRejTag : BitVec 32
  lastRejDetail : BitVec 32
  flights : List Flight           -- oldest first
  replies : List Reply            -- completion order
  coreWait : Bool                 -- acceptance waits for a control core (R22, R321)
  stallShown : Bool               -- reply_stall as last seen
  deriving DecidableEq, Repr

/-! ### Rings (11 Table 11.3 to 11.6) -/

/-- Ring types (11 Table 11.4). -/
inductive RingType where
  | command | reply | image | event | measurement | ledgerMirror
  deriving DecidableEq, Repr

/-- An event record before its ring gives it `pass` (11 Table 11.6). -/
structure EventRecord where
  status : BitVec 16
  block : BlockId
  detail : BitVec 32
  time : DWord
  fault : BitVec 32
  seq : DWord
  address : DWord
  data : List Byte
  deriving DecidableEq, Repr

/-- A ring table entry, with what the device holds beside it. -/
structure Ring where
  id : Nat
  base : DWord
  sizeLog2 : Nat
  kind : RingType
  secure : Bool
  irqEn : Bool
  fence : Bool
  head : Nat
  tail : Nat                      -- the producer's index
  ahead : Nat                     -- slots written that `tail` does not show yet: a flush read is awaited (11 R274)
  msix : Nat
  pass : BitVec 32
  irqRaised : Bool                -- raised since the last doorbell (R232)
  bind : Nat                      -- command ring: its reply ring
  slot : Nat                      -- command ring: its k in CMD_BINDk
  port : Nat                      -- image ring: its port
  fenceHold : Option DWord        -- command ring: the fence_reply command it waits for (R239)
  waitDoorbell : Bool             -- waits for its first doorbell (R345)
  events : List EventRecord       -- event ring: records that wait (R275)
  recSeq : Nat                    -- image ring: next record_seq (04 Table 4.5)
  deriving DecidableEq, Repr

/-! ### Cellar and DMA (11 Table 11.1, 11.12, 11.13) -/

/-- Region purposes (11 Table 11.1). -/
inductive Purpose where
  | none | general | image | delay | ledger | system
  deriving DecidableEq, Repr

structure Region where
  purpose : Purpose
  secure : Bool
  port : Nat
  base : Nat
  size : Nat
  inEffect : Bool
  deriving DecidableEq, Repr

/-- A region change that waits until its granules are initialised or zeroed (11 R270). -/
structure RegionRequest where
  region : Nat
  new : Region
  seq : DWord
  deriving DecidableEq, Repr

structure Dimm where
  gib : Nat
  x8 : Bool
  ranks : Nat
  present : Bool
  trained : Bool
  inUse : Bool
  deriving DecidableEq, Repr

/-- A delay store allocated in a DELAY region in units of 2 MiB (11 R271). -/
structure DelayStore where
  region : Nat
  first : Nat
  units : Nat
  deriving DecidableEq, Repr

structure Cellar where
  dimms : Vector Dimm 8
  channels : BitVec 4
  trained : Bool
  popMismatch : Bool
  scrubRunning : Bool
  selfRefresh : Bool
  capGib : Nat
  initialised : BitVec 2048       -- granules initialised (R268)
  granSecure : BitVec 2048        -- granules whose contents belong to the secure world
  granOpen : BitVec 2048          -- granules whose contents belong to the open world
  ceCnt : Word
  ueCnt : Word
  replayCnt : Word
  ueAddr : DWord
  scrubPos : Nat
  scrubPass : Word
  scrubDone : BitVec 2048         -- granules read in the present scrub pass
  winBase0 : Nat
  winBase1 : Nat
  regions : Vector Region 64
  waiting : List RegionRequest
  delays : Vector (Option DelayStore) 8
  evt : Word
  irqEn : Word
  mem : List Host.Cell            -- contents: strictly rising addresses, no zero byte listed
  deriving DecidableEq, Repr

/-- A descriptor (11 Table 11.10). -/
structure Descriptor where
  src : Nat
  dst : Nat
  next : Nat
  length : Nat
  srcCellar : Bool
  dstCellar : Bool
  fence : Bool
  flagsRest : Nat
  reserved : Nat
  deriving DecidableEq, Repr

/-- A chain queued on a copy channel by DMA_COPY (11 Table 11.9). -/
structure Chain where
  seq : DWord
  secure : Bool
  chainCellar : Bool
  inlined : Bool
  hopLimit : Nat
  addr : Nat
  desc : List Byte
  deriving DecidableEq, Repr

/-- What a DMA channel is doing (11 Table 11.13 `DMA_CHc_STAT`). -/
inductive ChanPhase where
  | idle | running | fencing
  deriving DecidableEq, Repr

structure Channel where
  phase : ChanPhase
  halted : Bool
  queue : List Chain              -- chains queued, oldest first; the first is in progress unless idle
  cur : Option Descriptor         -- the descriptor in progress
  wroteHost : Bool                -- it has written host memory since the last flush
  chainHost : Bool                -- so has the chain in progress (11 R285)
  done : Bool                     -- it has completed some descriptor
  hopLimit : Nat
  index : Word                    -- DMA_CHc_DESC
  remain : Word
  failAddr : DWord
  err : Word
  bytes : DWord
  retried : Bool
  retryFault : BitVec 32
  stopped : Bool                  -- stopped by SAFE (13 R322), or a delivery channel that waits for REWIND (14 R345)
  deriving DecidableEq, Repr

/-- A channel that moves nothing: halted by an error, stopped by SAFE, or waiting for REWIND. -/
def Channel.stuck (c : Channel) : Bool := c.halted || c.stopped

/-- A DMA_FENCE that waits for the writes of its channels (11 R290). -/
structure FenceWait where
  seq : DWord
  channels : BitVec 32            -- channels whose writes have not been answered yet
  deriving DecidableEq, Repr

structure DmaUnit where
  evt : Word
  irqEn : Word
  retryCnt : Word
  errCnt : Word
  evtLost : Word
  chans : Vector Channel 32
  fences : List FenceWait
  served : Vector Bool 4          -- of channels 8 to 11: the ring that each served last is secure (11 Table 11.8)
  deriving DecidableEq, Repr

/-! ### Waymark fabric (12) -/

/-- A task of one instance (12 R296): its number and instance. -/
structure TaskRef where
  num : Nat
  inst : Nat
  deriving DecidableEq, Repr

/-- A route entry in force (12 Table 12.3). -/
structure Route where
  gen : Nat
  inst : Nat
  enable : Bool
  rate : Nat                      -- as sent; 0 means 10,000,000
  tasks : List TaskRef
  system : Bool
  deriving DecidableEq, Repr

/-- What a system route carries with a count edge (12 R298, 06 R137). -/
structure CountEdge where
  pos : Int
  up : Bool
  tick : Nat
  interval : Nat                  -- t_est in force, 24.8
  deriving DecidableEq, Repr

/-- An event that has fired and is on its way (12 R293, R300). -/
structure Fired where
  ch : Nat
  tick : Nat                      -- when its generator fired
  route : Route                   -- the route in force then
  edge : Option CountEdge
  deriving DecidableEq, Repr

/-- A pending activation of a task input (12 R299). -/
structure Activation where
  task : TaskRef
  tick : Nat                      -- arrival
  latch : Nat                     -- the instant whose encoder position an edge latches (R297)
  edges : List CountEdge          -- system routes: the count edges carried
  deriving DecidableEq, Repr

structure EvfChan where
  route : Option Route
  count : DWord                   -- events carried; its low half is EVF_CHc_CNT
  fast : Nat
  storms : Nat
  lastTick : Option Nat
  quarantined : Bool
  deriving DecidableEq, Repr

structure Evf where
  chans : Vector EvfChan 256
  fired : List Fired              -- oldest first
  acts : List Activation
  merged : List (TaskRef × Nat)   -- MERGED counters that are not 0
  evt : Word
  irqEn : Word
  tsel : Word
  deriving DecidableEq, Repr

/-! ### Modes (13, 16 SYS) -/

/-- Device modes (13 Table 13.1). -/
inductive Mode where
  | startUp | ready | dormant | run | service | safe | shadow
  deriving DecidableEq, Repr

/-- Batch states (13 R310): none, open, closing, aborting. -/
inductive BatchState where
  | none | opened | closing | aborting
  deriving DecidableEq, Repr

/-- The fitted-unit map (00 R3, 16 Table 16.5). -/
structure Fitted where
  ports : BitVec 8
  axes : BitVec 12
  encs : BitVec 8
  rope : Bool
  valid : Bool
  lanes : BitVec 32
  dimms : BitVec 8
  ain : BitVec 8
  tlink : Bool
  deriving DecidableEq, Repr

structure SysUnit where
  inReset : Bool                  -- RESET_N or PWRGOOD low
  dead : Bool                     -- supplies gone
  mode : Mode
  phase : Nat
  safeCause : Nat
  batchState : BatchState
  batch : BitVec 32
  docs : BitVec 32
  closeStep : Nat                 -- step of Table 13.8 reached, 0 outside a close
  batchWait : Option DWord        -- the BATCH_OPEN, BATCH_CLOSE or BATCH_ABORT in flight
  bootLast : BitVec 32            -- last batch number of the boot record
  straps : BitVec 3
  resetCause : BitVec 4
  safeEnded : BitVec 4
  evt : Word
  irqEn : Word
  wallOffset : Option Int
  tbOut : Nat
  tbOutEnd : Nat                  -- device time up to which TB_OUT is high
  lastSecond : Nat                -- whole seconds of device time fired so far
  lastWallSecond : Int
  pllLocked : Bool
  refPresent : Bool
  lockLosses : BitVec 16
  fit : Fitted
  badAcc : Word
  lrMiss : Word
  dormantAt : Nat                 -- device time at which DORMANT was entered
  waking : Bool
  wakeTick : Nat
  watchdog : List Nat             -- ticks of the failed L2 restarts of the last second (SAFE cause 1)
  alert : Bool                    -- SMB_ALERT_N pulled low
  siteTemps : Vector Int 8        -- last die temperatures, in 1/128 degree
  deriving DecidableEq, Repr

/-! ### PCI Express (16) -/

structure PciFunction where
  bme : Bool
  d0 : Bool
  msixTable : List (Nat × Word)   -- words of the MSI-X table that differ from their reset value
  msixPending : List Nat
  shadow : Word
  lrOff : Option Nat              -- the LR register read last
  lastRead : DWord                -- what the last read returned
  msixSent : List Nat             -- vectors sent, oldest first
  aer : Bool                      -- a poisoned write has been reported through AER (16 R368)
  deriving DecidableEq, Repr

structure Pcie where
  linkUp : Bool
  gen : Nat
  width : Nat
  pf0 : PciFunction
  pf1 : PciFunction
  deriving DecidableEq, Repr

/-! ### Worlds, keys and firmware (15) -/

/-- A firmware slot of the flash (15 Table 15.5). -/
structure FwSlot where
  version : BitVec 32
  svn : Nat
  compatible : Bool
  digest : BitVec 384
  authentic : Bool                -- signature, digest and target hold
  activation : Option Nat
  revoked : Bool
  deriving DecidableEq, Repr

/-- A restart of a firmware target on a newly activated image (15 R360); on a lead, `peer` while the second activates
first. -/
structure FwStart where
  seq : DWord
  tick : Nat
  peer : Bool
  deriving DecidableEq, Repr

structure SecUnit where
  estateWords : List Nat          -- one-time words used, oldest first
  locked : Bool
  debug : Bool
  svnMinCtl : Nat
  svnMinSec : Nat
  capReady : Bool
  capEpoch : BitVec 24            -- boot epoch for which the capture key was drawn
  ctl : Vector FwSlot 2
  sec : Vector FwSlot 2
  ctlRun : Fin 2
  secRun : Fin 2
  ctlStart : Option FwStart
  secStart : Option FwStart
  signPolicy : BitVec 8
  signCnt : Word
  backlogMax : BitVec 16
  denyCnt : Word
  authFailCnt : Word
  worldBlk : BitVec 13
  worldPort : BitVec 8
  worldAx : BitVec 12
  worldEnc : BitVec 8
  evt : Word
  irqEn : Word
  epochCert : List Byte
  deriving DecidableEq, Repr

/-! ### Transport link (16) -/

/-- A kept answer to an ARRIVE (16 R379). -/
structure Answer where
  seq : BitVec 8
  payload : List Byte
  typ : BitVec 8
  answer : List Byte
  deriving DecidableEq, Repr

/-- A REJECT frame that waits for its ACK (16 R384). -/
structure RejectFrame where
  seq : BitVec 8
  doc : BitVec 32
  mask : BitVec 8
  reason : BitVec 8
  sends : Nat
  nextTick : Nat
  deriving DecidableEq, Repr

/-- A frame on the wire: type, seq, payload (16 Table 16.6) and the CRC over them (R376). -/
structure Frame where
  typ : BitVec 8
  seq : BitVec 8
  payload : List Byte
  crc : BitVec 16 := crc16 ([typ, seq] ++ payload)
  deriving DecidableEq, Repr

structure Tlnk where
  linkUp : Bool
  symLock : Bool
  validCnt : Nat                  -- valid frames since the link was lost, up to 16
  lastValid : Nat                 -- tick of the last valid frame
  lost : Bool
  path : BitVec 8
  evt : Word
  irqEn : Word
  answers : List Answer           -- newest first, at most 16
  slots : List Nat                -- free document numbers, rising
  rejects : List RejectFrame
  gateSent : BitVec 4
  txSeq : BitVec 8
  lastSent : Nat                  -- tick at which the last frame went out
  sent : List Frame               -- frames sent, oldest first
  txFreeAt : Nat                  -- tick at which the transmitter is free
  txPlan : List (Nat × Bool)      -- frames not yet out, in their order: tick at which each begins, whether it is an answer
  arriveCnt : Word
  refuseCnt : Word
  repeatCnt : Word
  crcErrCnt : Word
  ansMax : Word
  lastRefuse : Word
  speedTicks : Vector Nat 4       -- last SPEED of each group
  deriving DecidableEq, Repr

/-! ### Flash and one-time store (09, 13, 15) -/

/-- The body of a boot record slot (13 R312): epoch and last batch number; `none` is an invalid slot. -/
structure BootRecord where
  epoch : BitVec 24
  lastBatch : BitVec 32
  generation : Nat
  deriving DecidableEq, Repr

/-- State of a flash slot: erased, holding a valid body, or neither (09 R226). -/
inductive SlotState (α : Type) where
  | empty
  | valid (x : α)
  | invalid
  deriving DecidableEq, Repr

/-- The board record (16 R374). -/
structure BoardRecord where
  ports : BitVec 8
  encs : BitVec 8
  axes : BitVec 12
  lanes : BitVec 32
  ain : BitVec 8
  tlink : Bool
  twin : Bool
  ssvid : BitVec 16
  ssid : BitVec 16
  deriving DecidableEq, Repr

end Sys2Proof.Machine
end

