-- ==== Sys2Proof/Machine/CoreReset.lean ====
section
/-! DEFINITION. Reset values of the core units, as the register tables of 10 to 13, 15 and 16 give them; what the spec
leaves open is named in the assumption log (entries 6 to 8). -/

namespace Sys2Proof.Machine

/-- The Ledger of a new epoch before its first CHECKPOINT: empty, chain 48 zero bytes (10 R248, R250). -/
def Ledger.fresh : Ledger :=
  { entries := [], spilled := 0, region := none, capOvf := 0, ready := false, epoch := 0, nextNo := 0
    chain := 0, sessionSeq := 0, ckptSeq := 0, ckptFirst := 0, ckptChain := 0, ckpts := [], signing := [], sinceCkpt := 0
    ckptWaiting := [], ledgerDrawn := 0, deviceDrawn := 0, faultNext := 1, faults := [], devLost := 0
    unreadable := false, evt := 0, irqEn := 0, winSeqLo := 0, winSeqHi := 0, win := none, mirrorWaiting := [] }

/-- CMD registers of 10 Table 10.13 at reset, nothing in flight. -/
def CmdUnit.fresh : CmdUnit :=
  { evt := 0, irqEn := 0, accepted := 0, rejected := 0, dups := 0, badDoorbells := 0, lastRejRing := 0
    lastRejStatus := 0, lastRejTag := 0, lastRejDetail := 0, flights := [], replies := [], coreWait := false
    stallShown := false }

/-- A ring as RING_CREATE makes it: head and tail 0, first pass (11 R278). -/
def Ring.fresh (id : Nat) (kind : RingType) (secure : Bool) : Ring :=
  { id, base := 0, sizeLog2 := 0, kind, secure, irqEn := false, fence := false, head := 0, tail := 0, ahead := 0, msix := 0
    pass := 1, irqRaised := false, bind := 0, slot := 0, port := 0, fenceHold := none, waitDoorbell := false
    events := [], recSeq := 0 }

/-- RING0 to RING3 exist from reset with size 0 (10 R229, 11 R273). -/
def Ring.bootRings : List Ring :=
  [{ Ring.fresh 0 .command true with bind := 1, slot := 0 }, Ring.fresh 1 .reply true,
   { Ring.fresh 2 .command false with bind := 3, slot := 1 }, Ring.fresh 3 .reply false]

def Region.undefined : Region :=
  { purpose := .none, secure := false, port := 0, base := 0, size := 0, inEffect := false }

def Dimm.absent : Dimm := { gib := 0, x8 := false, ranks := 0, present := false, trained := false, inUse := false }

/-- CEL registers of 11 Table 11.12 at reset: untrained, no region, nothing initialised. -/
def Cellar.fresh : Cellar :=
  { dimms := Vector.replicate 8 Dimm.absent, channels := 0, trained := false, popMismatch := false
    scrubRunning := false, selfRefresh := false, capGib := 0, initialised := 0, granSecure := 0, granOpen := 0
    ceCnt := 0, ueCnt := 0, replayCnt := 0, ueAddr := 0, scrubPos := 0, scrubPass := 0, scrubDone := 0, winBase0 := 0
    winBase1 := 0, regions := Vector.replicate 64 Region.undefined, waiting := []
    delays := Vector.replicate 8 none, evt := 0, irqEn := 0, mem := [] }

def Channel.fresh : Channel :=
  { phase := .idle, halted := false, queue := [], cur := none, wroteHost := false, chainHost := false, done := false
    hopLimit := 4096, index := 0, remain := 0, failAddr := 0, err := 0, bytes := 0, retried := false, retryFault := 0, stopped := false }

def DmaUnit.fresh : DmaUnit :=
  { evt := 0, irqEn := 0, retryCnt := 0, errCnt := 0, evtLost := 0, chans := Vector.replicate 32 Channel.fresh
    fences := [], served := Vector.replicate 4 false }

def EvfChan.fresh : EvfChan :=
  { route := none, count := 0, fast := 0, storms := 0, lastTick := none, quarantined := false }

/-- No route, nothing pending (12 R306). -/
def Evf.fresh : Evf :=
  { chans := Vector.replicate 256 EvfChan.fresh, fired := [], acts := [], merged := [], evt := 0, irqEn := 0, tsel := 0 }

def Fitted.none : Fitted :=
  { ports := 0, axes := 0, encs := 0, rope := false, valid := false, lanes := 0, dimms := 0, ain := 0, tlink := false }

/-- SYS registers of 16 Table 16.5 with RESET_N low: start-up, phase 0. The reset cause reads 1 and the straps 0 until
the latch loads them (log entry 6). -/
def SysUnit.fresh : SysUnit :=
  { inReset := true, dead := true, mode := .startUp, phase := 0, safeCause := 0, batchState := .none, batch := 0
    docs := 0, closeStep := 0, batchWait := none, bootLast := 0, straps := 0, resetCause := 1, safeEnded := 0, evt := 0
    irqEn := 0, wallOffset := none, tbOut := 0, tbOutEnd := 0, lastSecond := 0, lastWallSecond := 0
    pllLocked := false, refPresent := false, lockLosses := 0, fit := Fitted.none, badAcc := 0, lrMiss := 0
    dormantAt := 0, waking := false, wakeTick := 0, watchdog := [], alert := false
    siteTemps := Vector.replicate 8 0 }

/-- A function after reset: no bus mastering, D0, MSI-X table at its PCI Express reset values (log entry 7). -/
def PciFunction.fresh : PciFunction :=
  { bme := false, d0 := true, msixTable := [], msixPending := [], shadow := 0, lrOff := none, lastRead := 0
    msixSent := [], aer := false }

def Pcie.fresh : Pcie := { linkUp := false, gen := 0, width := 0, pf0 := PciFunction.fresh, pf1 := PciFunction.fresh }

/-- A firmware slot of a device as delivered: slot A authentic, never activated (log entry 8). -/
def FwSlot.delivered (authentic : Bool) : FwSlot :=
  { version := 0, svn := 0, compatible := false, digest := 0, authentic, activation := none, revoked := false }

/-- SEC registers of 15 Table 15.10 at reset, worlds of 15 Table 15.1; the one-time store is unused and unlocked
(log entry 8). -/
def SecUnit.fresh : SecUnit :=
  { estateWords := [], locked := false, debug := false, svnMinCtl := 0, svnMinSec := 0, capReady := false, capEpoch := 0
    ctl := #v[FwSlot.delivered true, FwSlot.delivered false], sec := #v[FwSlot.delivered true, FwSlot.delivered false]
    ctlRun := 0, secRun := 0, ctlStart := none, secStart := none, signPolicy := 0, signCnt := 0
    backlogMax := 0, denyCnt := 0, authFailCnt := 0, worldBlk := 0x00C0, worldPort := 0, worldAx := 0, worldEnc := 0
    evt := 0, irqEn := 0, epochCert := [] }

/-- TLNK registers of 16 Table 16.9 at reset: link down. -/
def Tlnk.fresh : Tlnk :=
  { linkUp := false, symLock := false, validCnt := 0, lastValid := 0, lost := false, path := 0, evt := 0, irqEn := 0
    answers := [], slots := [], rejects := [], gateSent := 0, txSeq := 0, lastSent := 0, sent := [], txFreeAt := 0, txPlan := []
    arriveCnt := 0, refuseCnt := 0, repeatCnt := 0, crcErrCnt := 0, ansMax := 0, lastRefuse := 0
    speedTicks := Vector.replicate 4 0 }

end Sys2Proof.Machine
end

