-- ==== Sys2Proof/Machine/MadcTypes.lean ====
section
/-! DEFINITION. The plain data of the measurement converter (08), with its reset values. -/

namespace Sys2Proof.Machine

/-- A sequence entry (08 Table 8.5). -/
structure MadcEntry where
  input : Nat
  raw : Bool
  count : Nat
  shift : Nat
  settle : Nat
  deriving DecidableEq, Repr

/-- A sequence (08 Table 8.4, R191). -/
structure MadcSeq where
  core : Nat
  mode : Nat                      -- 0 SINGLE, 1 CONTINUOUS, 2 PERIODIC
  entries : List MadcEntry
  pins : Nat
  edges : Nat
  wm : Bool
  queue : Bool
  period : Nat
  armed : Bool
  pend : Bool                     -- a trigger is pending behind a run, or behind its core
  missed : Nat
  runs : Word
  nextTick : Nat                  -- PERIODIC: tick of the next period
  lastTrig : Option Nat           -- tick of the last trigger taken (R191)
  last : List Word                -- its words of MADC_LAST
  stops : List DWord              -- DISARM commands that wait for its run to end
  deriving DecidableEq, Repr

/-- A run on a core: sequence and entry in progress. The samples not yet converted follow one another from the settling that
began at `start`; `unsettled` holds for a sample begun before `judged` (08 R189, R194). -/
structure MadcRun where
  seq : Fin 16
  entry : Nat
  start : Nat
  done : Nat                      -- samples converted before that settling
  judged : Nat
  unsettled : Bool
  deriving DecidableEq, Repr

/-- Who asks for an urgent conversion (08 R193). -/
inductive Requester where
  | axis (a : Fin 12)
  | lamp (n : Fin 8)
  | software
  deriving DecidableEq, Repr

/-- An urgent request. -/
structure Urgent where
  who : Requester
  input : Nat
  raw : Bool
  due : Nat                       -- tick from which it may be served
  seq : Option DWord
  deriving DecidableEq, Repr

/-- An urgent conversion: the request, the tick at which its core took it, and whether its sample began while the reference
was not settled, once that is known before the conversion ends. -/
structure UrgentConv where
  req : Urgent
  at_ : Nat
  unsettled : Option Bool
  deriving DecidableEq, Repr

/-- A converter core: its run, its urgent conversion and the end of the last one, and generation, zero and span of the record
in force (08 R188, R193, R200). `noRecord` shows as `cal_default`. -/
structure MadcCore where
  run : Option MadcRun
  urg : Option UrgentConv
  freeAt : Nat
  noRecord : Bool
  held : Option DWord             -- held by a calibration (R199)
  gen : BitVec 32
  z : Int
  s : Nat
  next : Option (BitVec 32 × Int × Nat) -- a record that waits for the entry boundary
  deriving DecidableEq, Repr

/-- The result queue (08 R196 to R198). -/
structure MadcQueue where
  entries : List DWord            -- oldest first
  gap : Bool
  ring : Nat                      -- 0: registers
  thresh : Nat
  ovf : Word
  top : Nat                       -- greatest count since the last seal
  times : List Nat                -- tick at which each entry came
  deriving DecidableEq, Repr

structure Madc where
  cores : Vector MadcCore 2
  seqs : Vector MadcSeq 16
  urgent : List Urgent            -- pending, arrival order
  urgLast : Word
  urgCnt : Word
  urgDrop : Word
  q : MadcQueue
  refOn : Bool
  refMout : Bool
  refTick : Nat
  refSettled : Bool
  refSaved : Bool                 -- on before DORMANT
  seqDone : Word
  evt : Word
  irqEn : Word
  deriving DecidableEq, Repr

def MadcSeq.empty : MadcSeq :=
  { core := 0, mode := 0, entries := [], pins := 0, edges := 0, wm := false, queue := false, period := 0, armed := false
    pend := false, missed := 0, runs := 0, nextTick := 0, lastTrig := none, last := [], stops := [] }

def MadcCore.fresh : MadcCore :=
  { run := none, urg := none, freeAt := 0, noRecord := false, held := none, gen := 0, z := 0, s := 2 ^ 30, next := none }

def MadcQueue.fresh : MadcQueue :=
  { entries := [], gap := false, ring := 0, thresh := 1024, ovf := 0, top := 0, times := [] }

/-- MADC registers at reset (08 Table 8.8, R202). -/
def Madc.fresh : Madc :=
  { cores := Vector.replicate 2 MadcCore.fresh, seqs := Vector.replicate 16 MadcSeq.empty, urgent := []
    urgLast := 0xFFFFFFFF, urgCnt := 0, urgDrop := 0, q := MadcQueue.fresh, refOn := false, refMout := false, refTick := 0
    refSettled := false, refSaved := false, seqDone := 0, evt := 0, irqEn := 0 }

end Sys2Proof.Machine
end

