-- ==== Sys2Proof/Machine/MotionTypes.lean ====
section
/-! DEFINITION. The plain data of encoders and axes (06) and of the stepper drive (07), with their reset values. -/

namespace Sys2Proof.Machine

/-- An encoder (06 R136 to R139, Table 6.15). -/
structure Encoder where
  invert : Bool
  idxEn : Bool
  idxPol : Bool
  idxGate : Bool
  filter : Nat
  estEdges : Nat
  idxMode : Bool
  preset : Int
  pos : Int
  idxPos : Int
  stamps : List Nat               -- stamps of the edges counted in the present direction, newest first, then the turning edge
  tEst : Nat                      -- ticks per count, 24.8
  backward : Bool
  lastEdge : Option Nat
  still : Bool                    -- at standstill: no edge for 200 us
  posInvalid : Bool
  log : List (Nat × Int)          -- last edges: stamp and position, newest first
  illegalCnt : Word
  idxCnt : Word
  evt : Word                      -- the W1C bits of ENCn_STAT
  irqEn : Word
  deriving DecidableEq, Repr

/-- Axis states (06 Table 6.11), in register order. -/
inductive AxisState where
  | disabled | parked | idle | moving | stopping | homing | geared | fault
  deriving DecidableEq, Repr

/-- Move kinds of `AXn_STATE` [14:12]. -/
inductive MoveKind where
  | none | position | velocity | geared | homing | governed
  deriving DecidableEq, Repr

/-- A point of a profile: pu, pu/s, pu/s² (06 R143). -/
structure Kin where
  p : Rat
  v : Rat
  a : Rat
  deriving DecidableEq, Repr

/-- A segment of constant jerk: its number in R144, its duration in s, its jerk in pu/s³. -/
structure Seg where
  no : Nat
  dur : Rat
  jerk : Rat
  deriving DecidableEq, Repr

/-- A profile in force: from a tick and a point, through its segments; after the last the velocity holds. A plan that ends
at rest names the position. -/
structure Plan where
  start : Rat
  kin : Kin
  segs : List Seg
  dest : Option Int
  deriving DecidableEq, Repr

/-- AXIS_LIMITS in force (06 Table 6.3). -/
structure Limits where
  v : Nat
  a : Nat
  j : Nat
  aStop : Nat
  jStop : Nat
  softEn : Bool
  softMin : Int
  softMax : Int
  deriving DecidableEq, Repr

/-- The move in force: what was asked, and V, A and J (06 R143). -/
structure Move where
  kind : MoveKind
  target : Int
  vel : Int
  v : Nat
  a : Nat
  j : Nat
  deriving DecidableEq, Repr

/-- A ratio change that waits (06 R158). -/
structure GearNext where
  up : Bool
  pos : Int
  ratio : Int
  blend : Nat
  seq : DWord
  deriving DecidableEq, Repr

/-- Gearing (06 R156 to R158): the ratio moves from `r1` to `r2` over `len` counts from `x0`; ratios are 32.32. -/
structure Gear where
  src : Fin 8
  sync : Nat
  r1 : Int
  r2 : Int
  x0 : Int
  len : Nat
  blending : Bool                 -- the ratio moves, or has moved, by a GEAR_RATIO_AT
  up : Bool                       -- direction of its blend
  x : Int                         -- master position of the last edge taken
  p : Rat                         -- p(x)
  ahead : Rat                     -- p one count further on
  stamp : Nat
  tEst : Nat
  next : Option GearNext
  waiting : List DWord            -- commands that reply at the end of the sync or blend travel
  deriving DecidableEq, Repr

/-- The kept state of an interrupted move (06 R154). -/
structure Kept where
  move : Move
  gear : Option (Fin 8 × Int × Nat)
  deriving DecidableEq, Repr

/-- Homing in progress (06 Table 6.9, 6.10). -/
structure Homing where
  seq : DWord
  step : Nat
  method : Nat
  positive : Bool
  vFast : Nat
  vSlow : Nat
  backoff : Nat
  search : Nat
  homePos : Int
  origin : Int                    -- position at which the search step began
  released : Bool                 -- step 4: the switch has released and the backoff runs
  governed : Bool
  ending : Option (BitVec 16 × BitVec 32) -- comes to rest to end under R161 with this status and detail
  deriving DecidableEq, Repr

/-- What a wait for en_settle leads to (07 R180, Table 7.4). -/
inductive AfterSettle where
  | resume | home | wake
  deriving DecidableEq, Repr

/-- A current code that moves linearly (07 R175, Table 7.4). -/
structure Current where
  start : Nat
  dur : Nat
  lo : Nat                        -- value at the start
  hi : Nat                        -- value at the end
  deriving DecidableEq, Repr

/-- Park sequence (07 Table 7.3, 7.4): the command, ramp in ticks, power_off. -/
structure Parking where
  seq : DWord
  waking : Bool
  ramp : Nat
  powerOff : Bool
  deriving DecidableEq, Repr

/-- Chopper states of a phase (07 R172, Table 7.8): ON, the OFF period, held in SLOW by a zero threshold, bridge idle. -/
inductive ChopState where
  | on | off | held | idle
  deriving DecidableEq, Repr

structure Chop where
  st : ChopState
  since : Nat
  blanked : Bool                  -- blanking has ended
  neg : Bool                      -- polarity driven
  fast : Nat                      -- FAST part of the OFF period in ticks
  falling : Bool                  -- the commanded magnitude fell at the last step event
  cycles : List Nat               -- starts of the chopper cycles of the last 1 ms
  onMax : Nat                     -- ON periods ended by t_on_max
  onMaxRun : Nat                  -- consecutive ones with a threshold of at least 128
  deadTo : Nat                    -- its last change goes through SLOW until this tick (R165)
  turning : Bool                  -- the OFF period is the FAST of a change of polarity (R173)
  ofs : Int                       -- comparator offset in force (09 R219)
  ofsRec : Int                    -- comparator offset of the record, in force from the next ON period (09 R210)
  deriving DecidableEq, Repr

/-- Bridge and chopper fields of the drive block (07 Table 7.5). -/
structure ChopCfg where
  flags : Nat
  mixRise : Nat
  mixFall : Nat
  tDead : Nat
  tBlank : Nat
  tOff : Nat
  tOnMax : Nat
  deriving DecidableEq, Repr

/-- Current fields of the drive block. -/
structure CurCfg where
  iRun : Nat
  iMax : Nat
  iHold : Nat
  iPark : Nat
  fUp : Nat
  enSettle : Nat
  holdDelay : Nat
  deriving DecidableEq, Repr

/-- Load and stall fields of the drive block. -/
structure LoadCfg where
  zc : Nat
  adapt : Nat
  target : Nat
  band : Nat
  stall : Nat
  count : Nat
  up : Nat
  down : Nat
  follow : Nat
  ke : Nat
  vMin : Nat
  deriving DecidableEq, Repr

/-- The load figure (07 R176 to R178). -/
structure LoadFig where
  lambda : Nat
  top : Nat                       -- greatest since the last move began
  samples : Nat
  valid : Bool
  run : Nat                       -- consecutive samples that reach stall_lambda
  wait : Option (Nat × Phase × Rat) -- a sample to take: tick of the step, phase, full steps/s
  asked : Bool                    -- its conversion has been requested
  nextCur : Option Nat            -- I_cur from the next step event
  deriving DecidableEq, Repr

/-- The park registers (07 Table 7.4). -/
structure ParkRec where
  powerOff : Bool
  idx : Nat
  valid : Bool
  pos : Int
  enc : Int
  deriving DecidableEq, Repr

/-- The drive of an axis (07). -/
structure Drive where
  chop : ChopCfg
  lev : CurCfg
  ld : LoadCfg
  en : Bool
  fltLow : Bool                   -- `AXn_FLT_N` is low
  idxOfs : Nat
  idxRef : Nat                    -- the microstep reference: idx_ofs as step 7 of a homing recorded it (R171)
  refValid : Bool
  res : Nat                       -- resolution: 0 for 1/256 to 8 for full steps
  cur : Current
  load : LoadFig
  chopA : Chop
  chopB : Chop
  evt : Word
  irqEn : Word
  parked : ParkRec
  stallCnt : Word
  stalled : Option (Nat × BitVec 32) -- tick and fault number of the last stall (R180)
  faultTick : Option Nat          -- tick of the last bridge fault (R180)
  skipCnt : Word
  deriving DecidableEq, Repr

/-- Configuration of an axis (06 Table 6.1). -/
structure AxisCfg where
  invert : Bool
  homePol : Bool
  limPol : Bool
  limDir : Bool
  enc : Option (Fin 8)
  ratio : Nat
  followLimit : Nat
  deriving DecidableEq, Repr

/-- The commands that wait on an axis, and what its stop is for. -/
structure AxisWaits where
  seq : Option DWord              -- command of the move in progress
  stops : List DWord              -- STOP commands that wait for rest
  soft : Bool                     -- the velocity move brakes for a soft limit
  disengage : Option DWord
  settle : Option (Nat × AfterSettle) -- end of en_settle, and what follows
  park : Option Parking
  deferred : Bool                 -- a MOVE_TO asked for lower values that wait for the next move
  deriving DecidableEq, Repr

/-- Step timer figures. -/
structure StepFigures where
  last : Nat                      -- tick of the last step or of the start of motion
  lastInt : Nat
  starve : Nat
  steps : Word
  moves : Word
  deriving DecidableEq, Repr

/-- An axis (06 Table 6.13). -/
structure Axis where
  st : AxisState
  positionLost : Bool
  cfg : AxisCfg
  encOfs : Rat                    -- offset of the encoder-derived position
  homeActive : Bool
  limActive : Bool
  lim : Limits
  pos : Int                       -- commanded position: the steps emitted
  plan : Option Plan
  move : Move
  waits : AxisWaits
  kept : Option Kept
  remain : Int
  overshoot : Nat
  gear : Option Gear
  home : Option Homing
  steps : StepFigures
  faultCause : Nat                -- 0 none, 1 stall, 2 bridge, 3 limit switch, 4 encoder
  evt : Word
  irqEn : Word
  drive : Drive
  deriving DecidableEq, Repr

/-- ENCn registers at reset (06 Table 6.15). -/
def Encoder.fresh : Encoder :=
  { invert := false, idxEn := false, idxPol := false, idxGate := false, filter := 0, estEdges := 4, idxMode := false
    preset := 0, pos := 0, idxPos := 0, stamps := [], tEst := 0xFFFFFFFF, backward := false, lastEdge := none
    still := true, posInvalid := false, log := [], illegalCnt := 0, idxCnt := 0, evt := 0, irqEn := 0 }

def Limits.fresh : Limits :=
  { v := 0, a := 0, j := 0, aStop := 0, jStop := 0, softEn := false, softMin := 0, softMax := 0 }

def Move.none : Move := { kind := .none, target := 0, vel := 0, v := 0, a := 0, j := 0 }

def Chop.idle : Chop :=
  { st := .idle, since := 0, blanked := false, neg := false, fast := 0, falling := false, cycles := [], onMax := 0
    onMaxRun := 0, deadTo := 0, turning := false, ofs := 0, ofsRec := 0 }

def Current.at (n : Nat) : Current := { start := 0, dur := 0, lo := n, hi := n }

def LoadFig.fresh : LoadFig :=
  { lambda := 0, top := 0, samples := 0, valid := false, run := 0, wait := none, asked := false, nextCur := none }

/-- Drive registers at reset (07 Table 7.7): `f_up` 250,000. -/
def Drive.fresh : Drive :=
  { chop := { flags := 0, mixRise := 0, mixFall := 0, tDead := 0, tBlank := 0, tOff := 0, tOnMax := 0 }
    lev := { iRun := 0, iMax := 0, iHold := 0, iPark := 0, fUp := 250000, enSettle := 0, holdDelay := 0 }
    ld := { zc := 0, adapt := 0, target := 0, band := 0, stall := 0, count := 0, up := 0, down := 0, follow := 0
            ke := 0, vMin := 0 }
    en := false, fltLow := false, idxOfs := 0, idxRef := 0, refValid := false, res := 0, cur := Current.at 0
    load := LoadFig.fresh, chopA := Chop.idle, chopB := Chop.idle, evt := 0, irqEn := 0
    parked := { powerOff := false, idx := 0, valid := false, pos := 0, enc := 0 }, stallCnt := 0
    stalled := none, faultTick := none, skipCnt := 0 }

def AxisWaits.none : AxisWaits :=
  { seq := Option.none, stops := [], soft := false, disengage := Option.none
    settle := Option.none, park := Option.none, deferred := false }

/-- An axis at reset: DISABLED with `position_lost` set (06 R142). -/
def Axis.fresh : Axis :=
  { st := .disabled, positionLost := true
    cfg := { invert := false, homePol := false, limPol := false, limDir := false, enc := none, ratio := 0
             followLimit := 0 }
    encOfs := 0, homeActive := false, limActive := false, lim := Limits.fresh, pos := 0, plan := none
    move := Move.none, waits := AxisWaits.none, kept := none, remain := 0, overshoot := 0, gear := none, home := none
    steps := { last := 0, lastInt := 0, starve := 0, steps := 0, moves := 0 }, faultCause := 0, evt := 0, irqEn := 0
    drive := Drive.fresh }

end Sys2Proof.Machine
end

