-- ==== Sys2Proof/Machine/PaceTypes.lean ====
section
/-! DEFINITION. The plain data of the pace governor (05), with its reset values. -/

namespace Sys2Proof.Machine

/-- A group's configuration (05 Table 5.8). -/
structure PaceCfg where
  stoppable : Bool
  master : Fin 12
  enc : Fin 8
  feeder : Option (Fin 12)
  mask : Nat
  vMax : Nat
  vFloor : Nat
  accel : Nat
  jerk : Nat
  tauMs : Nat
  windowMs : Nat
  holdMs : Nat
  feedStop : Nat
  levels : List (Nat × Nat × Nat × Nat) -- LOW, HIGH, RESERVE, STOP of each port in MiB
  deriving DecidableEq, Repr

/-- A seam policy (05 Table 5.9). -/
structure SeamPolicy where
  overlap : Nat
  retries : Nat
  closeOnFail : Bool
  limit : Nat
  maxSplices : Nat
  backExtra : Nat
  deriving DecidableEq, Repr

/-- The seam of one port in a switchback (05 R118, R119). -/
structure Seam where
  port : Fin 8
  doc : BitVec 32
  k : Option Int                  -- K, counted from the side's line 0; none until it is fixed
  retaken : List (Nat × List (List Nat)) -- overlap captures retaken: grid line and signature
  rewound : Bool                  -- step 5 has marked the overlap lines untriggered: captures up to K are overlap captures
  resume : Option Nat             -- trigger instant of capture K + 1 since the last step 6
  verdict : Option Nat            -- 0 PASS, 1 FAIL, 2 UNCHECKED
  closing : Bool                  -- the side closes at this seam (R125)
  stopTime : DWord
  stopPos : Int
  deriving DecidableEq, Repr

/-- A switchback in progress (05 Table 5.3). -/
structure Switchback where
  step : Nat
  cause : Nat                     -- 1 RESERVE, 2 LINE_LOSS, 3 axis standstill
  reserve : Bool                  -- release conditions that must hold
  axes : List (Fin 12)
  attempts : Nat
  seams : List Seam
  pBack : Int
  stopNs : Nat                    -- device time in ns at the last step 2
  forwardNs : Nat                 -- device time in ns at the last step 6
  since : Option Nat              -- device time in ns from which steps 2 to 6 are in progress
  policy : SeamPolicy
  deriving DecidableEq, Repr

structure PaceGroup where
  cfg : Option PaceCfg            -- none: disabled
  next : Option (Option PaceCfg)  -- a configuration accepted, in effect from the next update (R130)
  nextOld : Bool                  -- it was accepted before the group came into WAIT, and does not end it
  policy : SeamPolicy
  wait : Bool                     -- in WAIT
  gapStop : Bool
  sb : Option Switchback
  gateHeld : Bool                 -- non-stoppable: closed from HIGH until every port is below LOW
  slowed : Bool
  vSet : Nat                      -- set-point: the velocity of the slew that the master is given (R106)
  vCap : Nat
  limit : Nat
  limitPort : Nat
  planV : Nat
  marginLow : Bool
  floorBreach : Bool
  sbCnt : Word
  gapCnt : Word
  failCnt : Word
  pmax : Int
  ignoreEdges : Bool              -- DOC_LEAD and DOC_TRAIL are ignored up to Pmax (R120)
  slowNs : Nat
  holdNs : Nat
  shot : List Byte                -- the figures of PACE_QUERY at the last update (Table 5.10)
  deriving DecidableEq, Repr

/-- Pace figures of a port (05 Table 5.12). -/
structure PacePort where
  fill : Nat
  drain : Nat
  level : Nat
  vLim : Nat
  seamK : Int
  spliceErr : Nat
  texture : Nat
  drained : Nat
  ovrCap : Nat
  ovrUntil : Option Nat           -- tick at which the overrun hold ends
  ovrAsked : Bool                 -- the overrun waymark fired since the last update
  fillMax : Nat
  deriving DecidableEq, Repr

structure Pace where
  groups : Vector PaceGroup 4
  ports : Vector PacePort 8
  updates : Word
  lastUpdate : Nat
  evt : Word
  irqEn : Word
  deriving DecidableEq, Repr

/-- The policy in force from reset (05 R131). -/
def SeamPolicy.default : SeamPolicy :=
  { overlap := 8, retries := 1, closeOnFail := false, limit := 256, maxSplices := 64, backExtra := 64 }

def PaceGroup.disabled : PaceGroup :=
  { cfg := none, next := none, nextOld := false, policy := SeamPolicy.default, wait := false, gapStop := false, sb := none
    gateHeld := false, slowed := false, vSet := 0, vCap := 0, limit := 0, limitPort := 0, planV := 0, marginLow := false
    floorBreach := false, sbCnt := 0, gapCnt := 0, failCnt := 0, pmax := 0, ignoreEdges := false, slowNs := 0
    holdNs := 0, shot := List.replicate 192 0 }

def PacePort.fresh : PacePort :=
  { fill := 0, drain := 0, level := 0, vLim := 0, seamK := 0, spliceErr := 0, texture := 0, drained := 0, ovrCap := 0
    ovrUntil := none, ovrAsked := false, fillMax := 0 }

/-- PACE registers at reset (05 Table 5.12). -/
def Pace.fresh : Pace :=
  { groups := Vector.replicate 4 PaceGroup.disabled, ports := Vector.replicate 8 PacePort.fresh, updates := 0
    lastUpdate := 0, evt := 0, irqEn := 0 }

end Sys2Proof.Machine
end

