-- ==== Sys2Proof/Machine/PortTypes.lean ====
section
/-! DEFINITION. The plain data of a sensor port: 02 (ports, pattern, grid, LVDS), 03 (video lanes), 04 (pipeline,
alignment, output), 05 (splice), 15 (provenance). -/

namespace Sys2Proof.Machine

/-- Port states (02 Table 2.9). -/
inductive PortState where
  | off | idle | cal | scan | hold | reconfig
  deriving DecidableEq, Repr

/-- A lane entry (03 Table 3.6); mode 3 is OFF. -/
structure LaneCfg where
  mode : Nat
  invert : Bool
  shd : Nat
  shr : Nat
  shdV : Nat
  shrV : Nat
  deriving DecidableEq, Repr

/-- The lane block (03 Table 3.5). -/
structure LaneBlock where
  pxPeriod : Nat
  pxHigh : Nat
  rdStart : Nat
  lead : Nat
  pxckEn : Bool
  lanes : Vector LaneCfg 4
  deriving DecidableEq, Repr

/-- A port configuration (02 Table 2.2). `pitch` and `edgeOfs` count 2^-32 of an encoder count. -/
structure PortCfg where
  digital : Bool
  colourCount : Nat
  pgLevel : Nat
  colours : List Nat
  width : Nat
  sampleBits : Nat
  lanes : Nat
  dataOrder : Nat
  encoder : Fin 8
  laneRate : Nat
  down : Bool
  leadLines : Nat
  trailLines : Nat
  pitch : Nat
  edgeOfs : Int
  trainWord : Nat
  solWord : Nat
  idleWord : Nat
  pgIdle : BitVec 24
  lampPeriod : Nat
  lampDuty : Nat
  maxLines : Nat
  pgMode : List Nat
  pgShut : List Nat
  block : LaneBlock
  deriving DecidableEq, Repr

/-- One of the two edge tables (02 Table 2.7): entries of 32 bits, shift, and the switch that waits (1 line, 2 gap). -/
structure EdgeTable where
  edges : List Word
  shift : Nat
  pending : Nat
  deriving DecidableEq, Repr

/-- The line grid (02 R37): positions in 2^-32 counts of the direction-corrected count. -/
structure Grid where
  x0 : Int
  pitch : Nat
  next : Nat                      -- first untriggered grid line
  sched : List (Nat × Nat)        -- scheduled lines with their ticks, in grid order
  tEst : Nat                      -- ticks per count, 24.8, of the last edge
  lastEnc : Int                   -- direction-corrected count of the last edge
  deriving DecidableEq, Repr

/-- A passed line that has not started (02 R39): its grid line and its trigger instant, none beyond 16 lines. -/
structure WaitLine where
  k : Nat
  instant : Option Nat
  tline : Nat                     -- interval to the line before, for R40
  tEst : Nat                      -- ticks per count at its trigger instant, for R36
  deriving DecidableEq, Repr

/-- The line that the pattern generator runs. -/
structure LineRun where
  k : Nat
  instant : Option Nat
  start : Nat
  tline : Nat
  lateField : Nat                 -- lateness in 4 ns units, 0xFFFF saturating
  late : Bool
  beyond : Bool                   -- late beyond Tline / 4
  encPos : Int
  edgeEnd : Nat                   -- tick of its last pattern edge
  edges : List (Nat × Nat × Bool) -- instants in 1/30 ps after its start, output, level
  lost : Bool                     -- overlaps a time out of lock (R45)
  excluded : Bool                 -- the gap line R55 excludes
  deriving DecidableEq, Repr

/-- A line in the input buffer: its samples per slot, raw, with flags (01 R13). -/
structure RawLine where
  run : LineRun
  samples : List (List Nat)
  overrange : Bool
  retired : Bool
  deriving DecidableEq, Repr

/-- A corrected capture in the alignment stage (04 R87). -/
structure Capture where
  k : Nat
  start : Nat
  encPos : Int
  late : Bool
  beyond : Bool
  lateField : Nat
  overrange : Bool
  retired : Bool
  lost : Bool
  y : List (List Nat)
  deriving DecidableEq, Repr

/-- Output format (04 Table 4.4). -/
structure OutFmt where
  bits : Nat
  interleaved : Bool
  packed : Bool
  slotMask : Nat
  linesPerStrip : Nat
  ring : Nat
  deriving DecidableEq, Repr

/-- Alignment in force or waiting (04 Table 4.3). -/
structure Align where
  fromRecord : Bool
  delays : List Nat
  phases : List Nat
  gen : BitVec 32
  deriving DecidableEq, Repr

/-- An alignment that waits for its boundary: of an ALIGN_SET (04 R90), or of a changed record (04 R91). -/
structure AlignPending where
  align : Align
  seq : Option DWord
  deriving DecidableEq, Repr

/-- The pace record of a side (05 Table 5.7); `vMin` is none until a set-point has been seen. -/
structure PaceRecord where
  vMin : Option Nat
  vMax : Nat
  slowed : Nat
  capped : Nat
  seams : Nat
  fails : Nat
  overruns : Nat
  standstills : Nat
  holdNs : Nat
  fillMax : Nat
  ceiling : Nat
  flags : Nat
  deriving DecidableEq, Repr

/-- A document side from its latched leading edge to its DOC_CLOSE (02 R46, 04 R97 to R99). -/
structure Side where
  doc : BitVec 32
  batch : BitVec 32
  lead : Int                      -- E
  first : Nat                     -- first grid line
  last : Option Nat               -- last grid line
  trail : Option Int              -- F
  opened : Bool                   -- its first line has been triggered and it has opened
  due : Bool                      -- its first line has been triggered during a load of the shading store (04 R79)
  openTime : Nat
  openTick : Nat
  wallTime : Nat
  fmt : OutFmt
  align : Align
  sealOnly : Bool                 -- SIGN_POLICY at its latch (15 R363)
  videoGen : List (BitVec 32)
  shadeGen : BitVec 32
  timeGen : BitVec 32
  planGen : BitVec 32
  driftOff : List Int
  driftGain : List Nat
  stale : Bool
  refreshed : Bool
  released : Nat                  -- number of the next output line
  lastOut : Nat                   -- device time in ns at which its last line was released (04 Table 4.12)
  missed : Nat                    -- lines before it that were lost (02 R45)
  strip : List (List Byte × List Byte) -- lines of the open STRIP with their tags
  stripFirst : Nat
  strips : Nat
  lateLines : Nat
  overLines : Nat
  overrangeLines : Nat
  clipped : Nat
  splices : Nat
  lineLoss : Bool
  tooLong : Bool
  reject : Bool
  rejectReason : Nat              -- of Table 16.8; the first cause stands
  laneFail : Bool
  badStore : Bool
  hashed : List Byte
  spliceBytes : List Byte
  takeover : Bool
  pace : PaceRecord
  seams : List Nat                -- lines a seam follows
  endCmd : List DWord             -- DOC_END commands that wait for its DOC_CLOSE
  deriving DecidableEq, Repr

/-- A record of the image store (04 R96, 11 R277). -/
structure ImageRec where
  typ : Nat
  ring : Nat
  recSeq : DWord
  bytes : List Byte
  addr : Nat                      -- Cellar address of its first byte
  delivered : Bool
  slotsLeft : Nat                 -- host ring slots not released yet, once delivered
  keep : Bool                     -- kept by BATCH_ABORT (13 R320)
  ends : List DWord := []         -- of a DOC_CLOSE that waits for room: the DOC_END commands that wait for it
  deriving DecidableEq, Repr

/-- A closed side that awaits its PROVENANCE record (15 R361): the record up to byte 255, and what signing adds. -/
structure ProvJob where
  body : List Byte
  ring : Nat
  sealOnly : Bool
  batch : BitVec 32
  tick : Nat
  keep : Bool
  deriving DecidableEq, Repr

/-- Figures of the batch for the BATCH_SEAL record (15 Table 15.8). -/
structure SealFigures where
  sides : Nat
  rejected : Nat
  lines : Nat
  discarded : Nat
  provs : Nat
  chain : BitVec 384
  deriving DecidableEq, Repr

/-- The refresh block of a SHADE record (04 Table 4.2). -/
structure RefreshBlock where
  enable : Bool
  passShift : Nat
  refreshWeight : Nat
  driftWeight : Nat
  refreshBound : Nat
  gainBound : Nat
  darkBound : Nat
  validLimit : Nat
  darkFirst : Nat
  darkCount : Nat
  staleSides : Nat
  gainFirst : Nat
  gainCount : Nat
  stalePixels : Nat
  deriving DecidableEq, Repr

/-- The shading store of a port with what it learns (04 R77 to R86). An empty list reads D = 0, G = 0x4000. -/
structure Shading where
  gen : BitVec 32                 -- 0: no SHADE record in force (R80)
  dark : List (List Nat)
  gain : List (List Nat)
  grec : List (List Nat)
  bref : List (List Nat)
  block : Option RefreshBlock
  offLearn : List Int
  gainLearn : List Nat
  driftOff : List Int
  driftGain : List Nat
  acc : List (List Nat)
  accLines : Nat
  newGain : Option (List (List Nat)) -- gains of a complete pass that are being written
  segNext : Nat                   -- next segment to write
  newClamped : Nat
  segWritten : Bool
  epoch : Word
  clamped : Word
  sidesSince : Nat
  loadPending : Bool              -- a SHADE record, or the lack of one, waits for its load (R79, R80)
  loading : Bool                  -- the load has begun: no side opens until it has completed (R79)
  excludeNext : Bool              -- the next gap line is excluded (R55)
  deriving DecidableEq, Repr

/-- The LVDS receiver (02 R42 to R45). -/
structure Lvds where
  training : Option Nat           -- tick at which training began
  stopping : Bool                 -- the port stops in IDLE at the end of the line in progress (R35, R43, R45)
  locked : Bool
  clock : Bool
  taps : List Nat
  offsets : List Int
  errs : List Nat
  ckKhz : Nat
  resync : Option Nat             -- tick at which lock was lost
  resyncFault : BitVec 32
  deriving DecidableEq, Repr

/-- One slice of a video lane (03 R61 to R67). -/
structure Slice where
  retired : Bool
  calTick : Nat                   -- end of its last calibration that passed
  calDone : Bool
  timing : Nat                    -- conversion time of the plan it was last calibrated under, in 1/16 tick (R64)
  coeff : List Int                -- coefficients in use: offset, gain, bit weights, skew (R62)
  newCoeff : Option (List Int)    -- coefficients that come into use at its swap (R63)
  deriving DecidableEq, Repr

/-- A video lane (03). -/
structure VideoLane where
  pga : Nat
  offset : Int
  gen : BitVec 32
  changed : Bool                  -- a changed VIDEO record waits for its boundary (R55)
  slices : Vector Slice 9
  order : List (Fin 9)            -- active slices by position
  spare : Option (Fin 9)
  calSlice : Option (Fin 9)
  calStart : Nat
  calTiming : Nat                 -- conversion time that the calibration in progress tests, in 1/16 tick (R64)
  retry : Bool
  steps : Nat
  stepTick : Nat                  -- end of its last step (R67)
  up : Bool                       -- its initial calibration is complete (R56)
  swapReady : Bool                -- the spare has passed and waits for the line boundary (R63)
  noSpare : Bool
  overdue : Bool
  fail : Bool
  calCycles : Word
  resid : Word
  ovr : Word
  und : Word
  range : Word
  deriving DecidableEq, Repr

structure Video where
  on : Bool
  powered : BitVec 4              -- lanes powered: those whose slots are in use (03 R52)
  onTick : Nat
  settled : Bool
  ready : Bool
  lanes : Vector VideoLane 4
  deriving DecidableEq, Repr

/-- Counters of 02 Table 2.11 and 04 Table 4.14. -/
structure PortCounters where
  busyTicks : Word
  late : Word
  overrun : Word
  lateMax : Nat
  gapLines : Word
  edgeErr : Word
  lockLoss : Word
  pipeCap : Word
  pipeCeil : Word
  capHistory : List (Nat × Nat)   -- loop rates of the last 100 us
  demand : List (Nat × Nat)       -- samples entered, by tick, of the last 1 ms
  inbufHwm : Word
  gapRej : Word
  clip : Word
  neg : Word
  docs : Word
  strips : Word
  deriving DecidableEq, Repr

/-- The commands that wait on a port, and its readiness (16 check 7). -/
structure PortWaits where
  ready : Bool
  disarm : List DWord
  reconfig : Option (DWord × List Byte × Nat) -- PORT_RECONFIG: command, parameters, step of Table 2.10
  later : List (DWord × List Byte) -- further PORT_RECONFIG commands, oldest first
  arm : List DWord                -- PORT_ARM (or a reconfiguration in IDLE) that waits for vid_ready or training
  docBegin : Option (BitVec 32)   -- unused DOC_BEGIN
  slots : List (BitVec 32)        -- queued slots, oldest first
  deriving DecidableEq, Repr

/-- Captured registers of PORTn_SNAP (02 R51). -/
structure PortSnap where
  nextFrac : Word
  nextInt : Word
  enc : Word
  time : Word
  tEst : Word
  deriving DecidableEq, Repr

/-- Signature of a capture for the splice check (05 R121): grid line and block sums per slot. -/
structure Signature where
  k : Nat
  sums : List (List Nat)
  deriving DecidableEq, Repr

/-- The burst of the pixel clock that reads one line out (03 R58): the ticks of its first rise and of its end, its period
and its high time. -/
structure PxRun where
  first : Nat
  stop : Nat
  period : Nat
  high : Nat
  deriving DecidableEq, Repr

structure Port where
  st : PortState
  cfg : PortCfg
  configured : Bool
  stat : Word
  irqEn : Word
  tabA : EdgeTable
  tabB : EdgeTable
  active : Option Bool            -- none, table A (false) or table B (true)
  calNeeded : Bool
  keepLamp : Bool
  darkPhase : Bool
  waits : PortWaits
  grid : Grid
  line : Option LineRun
  waiting : List WaitLine
  lastInstant : Option Nat
  lampFrom : Option Nat           -- last trigger instant, from which the lamp waveform runs (02 R33)
  pxRuns : List PxRun             -- clock bursts of PXCK that have not ended (03 R58)
  pxEnd : Nat                     -- tick at which the clock of the last line ended holds low (03 Table 3.3 step 6)
  sides : List Side
  lastFree : Nat                  -- first grid line free of the side before, trailing lines included
  inbuf : List RawLine
  caps : List Capture
  align : Align
  alignPending : List AlignPending -- oldest first
  fmt : OutFmt
  fmtPending : Option OutFmt
  shade : Shading
  lvds : Lvds
  vid : Video
  cnt : PortCounters
  snap : PortSnap
  held : List ImageRec            -- records that wait for room in the store
  store : List ImageRec
  writeOff : Nat                  -- next byte of the store's circular buffer
  released : List (Nat × Nat)     -- bytes released, by tick (05 R105)
  provs : List ProvJob
  figures : SealFigures
  signatures : List Signature
  recent : List (Nat × Nat)       -- grid lines and start ticks of the captures corrected last, newest first (14 R344)
  timePending : Bool              -- a TIME record waits for its boundary (09 R210)
  timeGen : BitVec 32
  timeTables : List (List Nat)    -- vernier tables in effect: pattern, then lanes 0 to 3; empty without a record
  deriving DecidableEq, Repr

end Sys2Proof.Machine
end

