-- ==== Sys2Proof/Machine/PortReset.lean ====
section
/-! DEFINITION. Reset values of a sensor port (02 Table 2.11, 03 Table 3.7, 04 Table 4.14, 04 R92). -/

namespace Sys2Proof.Machine

def LaneCfg.off : LaneCfg := { mode := 3, invert := false, shd := 0, shr := 0, shdV := 0, shrV := 0 }

def LaneBlock.fresh : LaneBlock :=
  { pxPeriod := 0, pxHigh := 0, rdStart := 0, lead := 0, pxckEn := false, lanes := Vector.replicate 4 LaneCfg.off }

def PortCfg.fresh : PortCfg :=
  { digital := false, colourCount := 0, pgLevel := 0, colours := [0xFF, 0xFF, 0xFF, 0xFF], width := 0, sampleBits := 0
    lanes := 0, dataOrder := 0, encoder := 0, laneRate := 0, down := false, leadLines := 0, trailLines := 0, pitch := 0
    edgeOfs := 0, trainWord := 0, solWord := 0, idleWord := 0, pgIdle := 0, lampPeriod := 0, lampDuty := 0
    maxLines := 0, pgMode := List.replicate 24 1, pgShut := List.replicate 24 0, block := LaneBlock.fresh }

def EdgeTable.empty : EdgeTable := { edges := [], shift := 0, pending := 0 }

def Grid.stopped : Grid := { x0 := 0, pitch := 0, next := 0, sched := [], tEst := 0, lastEnc := 0 }

/-- The default alignment: `source` 1, every delay and phase zero (04 R92). -/
def Align.default : Align := { fromRecord := false, delays := [0, 0, 0, 0], phases := [0, 0, 0, 0], gen := 0 }

/-- The default output format: 16 bits, planar, containers, every used slot, 256 lines, RING16 + n (04 R92). -/
def OutFmt.default (n : Fin 8) (used : Nat) : OutFmt :=
  { bits := 16, interleaved := false, packed := false, slotMask := used, linesPerStrip := 256, ring := 16 + n.val }

/-- The shading store with no SHADE record in force (04 R80). -/
def Shading.none : Shading :=
  { gen := 0, dark := [], gain := [], grec := [], bref := [], block := Option.none, offLearn := [0, 0, 0, 0]
    gainLearn := [0x4000, 0x4000, 0x4000, 0x4000], driftOff := [0, 0, 0, 0]
    driftGain := [0x4000, 0x4000, 0x4000, 0x4000], acc := [], accLines := 0, newGain := Option.none, segNext := 0
    newClamped := 0, segWritten := false, epoch := 0, clamped := 0, sidesSince := 0, loadPending := false
    loading := false, excludeNext := false }

def Lvds.fresh : Lvds :=
  { training := none, stopping := false, locked := false, clock := false, taps := [], offsets := [], errs := [], ckKhz := 0
    resync := none, resyncFault := 0 }

def Slice.untested : Slice := { retired := false, calTick := 0, calDone := false, timing := 0, coeff := [], newCoeff := none }

def VideoLane.fresh : VideoLane :=
  { pga := 0, offset := 0, gen := 0, changed := false, slices := Vector.replicate 9 Slice.untested, order := []
    spare := none, calSlice := none, calStart := 0, calTiming := 0, retry := false, steps := 0, stepTick := 0
    up := false, swapReady := false, noSpare := false
    overdue := false, fail := false, calCycles := 0, resid := 0, ovr := 0, und := 0, range := 0 }

def Video.off : Video :=
  { on := false, powered := 0, onTick := 0, settled := false, ready := false, lanes := Vector.replicate 4 VideoLane.fresh }

def PortCounters.fresh : PortCounters :=
  { busyTicks := 0, late := 0, overrun := 0, lateMax := 0, gapLines := 0, edgeErr := 0, lockLoss := 0, pipeCap := 0
    pipeCeil := 0, capHistory := [], demand := [], inbufHwm := 0, gapRej := 0, clip := 0, neg := 0, docs := 0
    strips := 0 }

def PortWaits.fresh : PortWaits :=
  { ready := true, disarm := [], reconfig := none, later := [], arm := [], docBegin := none, slots := [] }

def PortSnap.fresh : PortSnap := { nextFrac := 0, nextInt := 0, enc := 0, time := 0, tEst := 0 }

def SealFigures.fresh : SealFigures := { sides := 0, rejected := 0, lines := 0, discarded := 0, provs := 0, chain := 0 }

def Port.fresh (n : Fin 8) : Port :=
  { st := .off, cfg := PortCfg.fresh, configured := false, stat := 0, irqEn := 0, tabA := EdgeTable.empty
    tabB := EdgeTable.empty, active := none, calNeeded := false, keepLamp := false, darkPhase := false
    waits := PortWaits.fresh, grid := Grid.stopped, line := none, waiting := [], lastInstant := none, lampFrom := none
    pxRuns := [], pxEnd := 0, sides := []
    lastFree := 0, inbuf := [], caps := [], align := Align.default, alignPending := []
    fmt := OutFmt.default n 0, fmtPending := none, shade := Shading.none, lvds := Lvds.fresh
    vid := Video.off, cnt := PortCounters.fresh, snap := PortSnap.fresh, held := [], store := [], writeOff := 0
    released := [], provs := [], figures := SealFigures.fresh, signatures := [], recent := [], timePending := false, timeGen := 0, timeTables := [] }

end Sys2Proof.Machine
end

