-- ==== Sys2Proof/Machine/RopeTypes.lean ====
section
/-! DEFINITION. The plain data of the Rope (14), of the board record, the SMBus target and the test port (16 R374, R388,
R389), with their reset values. -/

namespace Sys2Proof.Machine

/-- Roles (14 Table 14.12). -/
inductive Role where
  | solo | lead | second
  deriving DecidableEq, Repr

/-- Follow states of a second (14 Table 14.3). -/
inductive Follow where
  | detached | syncing | following | eligible
  deriving DecidableEq, Repr

/-- What the second computed for a mirrored command (14 R336). -/
structure Outcome where
  seq : DWord
  status : BitVec 16
  detail : BitVec 32
  result : BitVec 32
  fault : BitVec 32
  deriving DecidableEq, Repr

/-- A ROPE_PAIR in progress on the device that is to lead (14 R333, R334). -/
structure Pairing where
  seq : DWord
  waitSeal : Bool                 -- join 0: it begins at the next batch seal
  syncMs : Nat
  start : Nat                     -- tick at which SYNCING began
  deriving DecidableEq, Repr

/-- A ROPE_SWAP or a ROPE_RELEASE with `which` 1 that waits for its instant (14 R348, R349). -/
structure Swap where
  seq : DWord
  atOnce : Bool
  release : Bool
  deriving DecidableEq, Repr

/-- Counters and figures of 14 Table 14.11. -/
structure RopeFigures where
  hbMiss : Word
  retx : Word
  stepDiv : Word
  encDiv : Word
  takeCnt : Word
  takeTime : DWord
  takeInfo : Word
  takeFault : BitVec 32
  acked : Bool                    -- an item has been acknowledged since the last seal (R331)
  laned : Bool                    -- a lane has locked since reset
  deriving DecidableEq, Repr

structure Rope where
  role : Role
  follow : Follow
  own : Bool                      -- this device pulls OWN_N low
  netLow : Bool                   -- the OWN_N net reads low
  hbRunning : Bool                -- the heartbeat generator
  hbSent : Nat                    -- tick of the last heartbeat sent
  hbLane : Option Nat             -- ticks of the last heartbeats received
  hbPin : Option Nat
  hbLostFired : Bool              -- both paths have been found silent (R347)
  lanes : BitVec 2                -- lanes locked
  retrain0 : BitVec 8
  retrain1 : BitVec 8
  tbLocked : Bool
  calMismatch : BitVec 64         -- record indices that differ in outcome (R341)
  ownFault : Bool
  peer : Option PeerInfo
  pairing : Option Pairing
  swap : Option Swap
  joinTick : Nat                  -- tick at which FOLLOWING began
  yielded : Bool                  -- YIELD received
  led : Bool                      -- it has led a pair since reset
  toPass : BitVec 8               -- ports that have not passed a line boundary with no side open since it follows (R334)
  openAtJoin : BitVec 8           -- ports whose side was open on the lead at the join
  releasing : Option DWord        -- a ROPE_RELEASE of the second whose end its heartbeat has not told yet (R349)
  yieldSent : Bool                -- YIELD has been sent (R343)
  wakeSent : Option Nat           -- tick at which the wake pulse began (R350)
  outcomes : List Outcome         -- of mirrored commands that have ended here and whose DONE item is still to come
  fig : RopeFigures
  evt : Word
  irqEn : Word
  deriving DecidableEq, Repr

/-- Lead or second (14 R327). -/
def Rope.paired (r : Rope) : Bool := r.role != .solo

def RopeFigures.fresh : RopeFigures :=
  { hbMiss := 0, retx := 0, stepDiv := 0, encDiv := 0, takeCnt := 0
    takeTime := 0, takeInfo := 0, takeFault := 0, acked := false, laned := false }

/-- ROPE at reset (14 R351, Table 14.11): solo, no heartbeat heard, no lane up. -/
def Rope.fresh : Rope :=
  { role := .solo, follow := .detached, own := false, netLow := false, hbRunning := false, hbSent := 0, hbLane := none
    hbPin := none, hbLostFired := false, lanes := 0, retrain0 := 0, retrain1 := 0, tbLocked := false, calMismatch := 0
    ownFault := false, peer := none, pairing := none, swap := none, joinTick := 0, yielded := false, led := false
    toPass := 0, openAtJoin := 0, releasing := none, yieldSent := false, wakeSent := none, outcomes := []
    fig := RopeFigures.fresh, evt := 0, irqEn := 0 }

/-- JTAG instructions (16 R389). -/
inductive TestInstr where
  | bypass | idcode | samplePreload | extest | clamp | highz | dbgAccess
  deriving DecidableEq, Repr

/-- Which register the test port has selected between TDI and TDO. -/
inductive TestReg where
  | bypass | idcode | boundary | debug
  deriving DecidableEq, Repr

/-- The test port (16 R389, R390): instruction, selected register, what was captured into it, the boundary cells. -/
structure TestPort where
  ir : TestInstr
  reg : TestReg
  captured : Nat
  cells : List Bool
  driving : Bool                  -- the boundary cells drive the pins
  floating : Bool                 -- the outputs are high-impedance
  debugOpen : Bool
  deriving DecidableEq, Repr

/-- With `RESET_N` low a loaded EXTEST, CLAMP or HIGHZ takes effect; once it is high they act as BYPASS (16 R389). -/
def TestPort.inReset (j : TestPort) : TestPort :=
  { j with reg := if j.ir = .extest then .boundary else j.reg, driving := j.ir = .extest || j.ir = .clamp
           floating := j.ir = .highz }

def TestPort.released (j : TestPort) : TestPort :=
  { j with reg := if j.ir = .extest then .bypass else j.reg, driving := false, floating := false }

/-- The SMBus target (16 R388): the bytes of the last answer, PEC last, and whether the last access was refused. -/
structure Smbus where
  answer : List Byte
  nacked : Bool
  sites : Option (Nat × List Int) -- the snapshots: the millisecond each was taken in, and its values
  power : Option (Nat × Nat)
  rails : Option (Nat × List Nat)
  deriving DecidableEq, Repr

/-- What the board gives (16 R374, R388, R389; 17). -/
structure Board where
  record : SlotState BoardRecord
  smb : Smbus
  jtag : TestPort
  deriving DecidableEq, Repr

/-- The slot of the board record in xSPI, and the class in its header (16 R374). -/
def boardSlot : Nat := 0x06900000
def boardClass : Nat := 9

/-- The record that the 32-byte body of a board record holds (16 R374); the header before it is that of 09 Table 9.8. -/
def BoardRecord.ofBody (l : List Byte) : BoardRecord :=
  { ports := BitVec.ofNat 8 (fieldAt l 0 1), encs := BitVec.ofNat 8 (fieldAt l 1 1), axes := BitVec.ofNat 12 (u16 l 2)
    lanes := BitVec.ofNat 32 (u32 l 4), ain := BitVec.ofNat 8 (fieldAt l 8 1), tlink := (fieldAt l 9 1).testBit 0
    twin := (fieldAt l 9 1).testBit 1, ssvid := BitVec.ofNat 16 (u16 l 12), ssid := BitVec.ofNat 16 (u16 l 14) }

/-- The body of a board record. -/
def BoardRecord.body (r : BoardRecord) : List Byte :=
  leBytes 1 r.ports.toNat ++ leBytes 1 r.encs.toNat ++ leBytes 2 r.axes.toNat ++ leBytes 4 r.lanes.toNat ++ leBytes 1 r.ain.toNat
    ++ leBytes 1 (b2n r.tlink + 2 * b2n r.twin) ++ leBytes 2 0 ++ leBytes 2 r.ssvid.toNat ++ leBytes 2 r.ssid.toNat
    ++ List.replicate 16 0

/-- A board record of a board with every unit fitted and no twin. -/
def BoardRecord.full : BoardRecord :=
  { ports := 0xFF, encs := 0xFF, axes := 0xFFF, lanes := 0xFFFFFFFF, ain := 0xFF, tlink := true, twin := false, ssvid := 0
    ssid := 0 }

/-- The board maker's record (log entry 8), no SMBus answer; the test port holds IDCODE after reset (log entry 7). -/
def Board.fresh : Board :=
  { record := .valid BoardRecord.full, smb := { answer := [], nacked := false, sites := none, power := none, rails := none }
    jtag := { ir := .idcode, reg := .idcode, captured := 0, cells := [], driving := false, floating := false
              debugOpen := false } }

end Sys2Proof.Machine
end

