-- ==== Sys2Proof/Machine/TrigTypes.lean ====
section
/-! DEFINITION. Trig records, candidates and runs (09), with their reset values. -/

namespace Sys2Proof.Machine

/-- The body of a VIDEO record (09 Table 9.9). -/
structure VideoBody where
  pga : Nat
  offset : Int
  dark : Nat
  white : Nat
  refl : Nat
  deriving DecidableEq, Repr

/-- The body of a SHADE record (09 Table 9.9, 04 Table 4.2): the refresh block as it was sent, and the arrays by slot. -/
structure ShadeBody where
  blockBytes : List Byte
  dark : List (List Nat)
  gain : List (List Nat)
  bref : List (List Nat)
  deriving DecidableEq, Repr

/-- The body of an ALIGN record. -/
structure AlignBody where
  delays : List Nat
  phases : List Nat
  refSlot : Nat
  deriving DecidableEq, Repr

/-- The body of a MADC record: z and r0 in 1/16 code, s in 2.30. -/
structure MadcBody where
  z : Int
  s : Nat
  r0 : Int
  zeroUv : Nat
  refUv : Nat
  deriving DecidableEq, Repr

/-- One phase of a DRIVE record. -/
structure DrivePhase where
  ua : Nat
  ofs : Int
  deriving DecidableEq, Repr

/-- A weathering plan (13 Table 13.10): ceilings in Msample/s by port, the capacity at 0.60 V to 0.90 V, slice timings in
1/16 tick by lane, monitors in ps, the margin in 0.01 year. -/
structure PlanBody where
  planTime : Nat
  planWall : Nat
  margin : Nat
  marginLow : Bool
  ceilings : List Nat
  curve : List Nat
  slices : List Nat
  monitors : List Nat
  planMv : Nat
  deriving DecidableEq, Repr

inductive TrigBody where
  | video (x : VideoBody)
  | shade (x : ShadeBody)
  | align (x : AlignBody)
  | madc (x : MadcBody)
  | drive (a b : DrivePhase)
  | time (tables : List (List Nat))
  | weather (x : PlanBody)
  deriving DecidableEq, Repr

/-- Slot header (09 Table 9.8) without what follows from the body and the index. -/
structure TrigHead where
  gen : Nat
  count : Nat
  calTime : Nat
  wallTime : Nat
  resid : Int
  sourceGen : Nat
  flags : Nat
  colours : List Nat
  width : Nat
  signature : Option (BitVec 768)
  deriving DecidableEq, Repr

structure TrigRecord where
  head : TrigHead
  body : TrigBody
  deriving DecidableEq, Repr

/-- A candidate (09 R208): what has been measured, its residual, the phases it holds. -/
structure Candidate where
  body : TrigBody
  resid : Int
  phases : Nat
  calTime : Nat
  wallTime : Nat
  colours : List Nat
  width : Nat
  deriving DecidableEq, Repr

/-- A record index (09 R207): its two slots, which of them is in force, its flags and its candidate. -/
structure TrigCell where
  a : SlotState TrigRecord
  b : SlotState TrigRecord
  force : Option Bool             -- none: absent; slot A (false) or B (true) in force
  rev : Bool
  top : Nat                       -- highest generation that the index has held
  cand : Option Candidate
  deriving DecidableEq, Repr

/-- Stage of a calibration: waiting for the seal (Table 9.6), for `vid_ready` (R214), for the line in progress, running
its phases, or storing. -/
inductive CalStage where
  | deferred
  | vidReady
  | boundary
  | phase
  | storing
  deriving DecidableEq, Repr

/-- A calibration that runs or is queued: the command, its opcode's low byte, the port, core or axis, its parameters. -/
structure CalRun where
  seq : DWord
  op : Nat
  num : Nat
  params : List Byte
  stage : CalStage
  expired : Bool                  -- its deadline has passed: it is abandoned at the end of the line in progress
  wasScan : Bool
  start : Nat                     -- tick at which the present phase began
  phases : List Nat               -- phases still to run: 0 dark, 1 lit or white, 2 backing, 3 verify, 4 edges
  repeated : Bool
  waited : Bool                   -- it was deferred to the seal (Table 9.6)
  codes : List (Nat × Int)        -- VIDEO: codes in force for the measurement
  saved : List (Nat × Int)        -- VIDEO: codes to return to
  darkSum : List (List Nat)
  litSum : List (List Nat)
  backSum : List (List Nat)
  resid : Int
  deriving DecidableEq, Repr

/-- A queued gap request for Bref (09 Table 9.6). -/
structure GapJob where
  port : Fin 8
  op : Nat
  seq : DWord
  params : List Byte
  lines : Nat
  sums : List (List Nat)
  deriving DecidableEq, Repr

/-- What is written to flash: a Trig record, the boot record or a firmware image (09 R225, 13 R312, 15 R359). -/
inductive NvmItem where
  | trig (index : Fin 64) (slotB : Bool) (r : TrigRecord)
  | boot (slot : Fin 2) (r : BootRecord)
  | image (secure : Bool) (slot : Fin 2) (x : FwSlot)
  deriving DecidableEq, Repr

/-- A store under 09 Table 9.10: the item, the command that waits for it, the step reached (2 erase, 3 program, 4 check),
and the candidate it stores, which a calibration may replace while the store runs (R208). -/
structure NvmStore where
  item : NvmItem
  job : Option DWord
  step : Nat
  taken : Option Candidate := none
  deriving DecidableEq, Repr

/-- A CAL_COMMIT, CAL_REVERT or committing calibration whose stores are under way (09 R209, R211): the sub-instances
written, the indices left, the phases of a DRIVE record that are committed, and for a calibration its opcode and residual. -/
structure StoreJob where
  seq : DWord
  revert : Bool
  written : Nat
  left : List (Fin 64)
  phases : Nat
  cal : Option (Nat × Int)
  gap : Option (Fin 8)            -- the port of a queued gap request
  waited : Bool                   -- of a calibration that was deferred to the seal (Table 9.6)
  deriving DecidableEq, Repr

structure Trig where
  cells : Vector TrigCell 64
  runs : List CalRun
  gaps : List GapJob
  stores : List NvmStore          -- the first is in progress
  jobs : List StoreJob
  last : Word
  lastDetail : Word
  lastResid : Word
  nvmErr : Word
  timeRunning : Bool
  timeImplausible : Bool
  evt : Word
  irqEn : Word
  boot : Vector (SlotState BootRecord) 2
  deriving DecidableEq, Repr

def TrigCell.empty : TrigCell := { a := .empty, b := .empty, force := none, rev := false, top := 0, cand := none }

/-- TRIG at reset with empty flash slots (09 Table 9.13). -/
def Trig.fresh : Trig :=
  { cells := Vector.replicate 64 TrigCell.empty, runs := [], gaps := [], stores := [], jobs := [], last := 0, lastDetail := 0
    lastResid := 0, nvmErr := 0, timeRunning := false, timeImplausible := false, evt := 0, irqEn := 0
    boot := Vector.replicate 2 .empty }

end Sys2Proof.Machine
end

