-- ==== Sys2Proof/Machine/WeaTypes.lean ====
section
/-! DEFINITION. The plain data of the weathering planner (13 R324 to R326), with its reset values. -/

namespace Sys2Proof.Machine

structure Weather where
  planning : Bool                 -- a plan is being stored
  due : Bool                      -- a plan has fallen due
  storeFailed : Bool              -- the last store failed, the previous plan is in force
  lastPlan : Nat                  -- device time in ns of the last plan made
  vddLow : Nat                    -- lowest VDD_CORE in mV since the previous plan; 0 none measured
  monitors : List Nat             -- cycle times as last measured, in ps
  marginLow : Bool
  evt : Word
  irqEn : Word
  deriving DecidableEq, Repr

/-- WEA at reset (13 Table 13.11): a plan is due, since each start makes one. -/
def Weather.fresh : Weather :=
  { planning := false, due := true, storeFailed := false, lastPlan := 0, vddLow := 0, monitors := [], marginLow := false
    evt := 0, irqEn := 0 }

end Sys2Proof.Machine
end

