-- ==== Sys2Proof/Machine/State.lean ====
section
/-! DEFINITION. The whole state of the block, with the queue of waiting commands, and the state after reset. -/

namespace Sys2Proof.Machine

structure State where
  pending : List Instr            -- commands that wait, first in first out
  ticks : Nat                     -- device ticks since the strap latch (16 R372)
  free : Nat                      -- the model's counter of free values (log entry 2)
  sys : SysUnit
  cmd : CmdUnit
  ldg : Ledger
  evf : Evf
  dma : DmaUnit
  madc : Madc
  trig : Trig
  sec : SecUnit
  rope : Rope
  board : Board
  tl : Tlnk
  pace : Pace
  cel : Cellar
  wea : Weather
  ports : Vector Port 8
  axes : Vector Axis 12
  encs : Vector Encoder 8
  rings : List Ring               -- the ring table, by number, existing rings only
  pci : Pcie
  host0 : List Host.Cell          -- what the device has written to host memory of PF0
  host1 : List Host.Cell          -- and of PF1
  smbShot : Nat                   -- the mode word of the SMBus snapshot (16 R388)
  posted : List PostedWrite       -- writes of the step in progress; empty between steps
  deriving DecidableEq, Repr

/-- Raised by PATROL_SCRUB for a Cellar address at or above the capacity in use: there is no such address (11 R264).
Safe: the model stops where the device has nothing to read. -/
inductive Fault where
  | noSuchAddress
  deriving DecidableEq, Repr

/-- Raised by the dispatch of a command whose meaning is not written. Safe: the model stops. -/
inductive Refusal where
  | notModelled (mnemonic : String)
  deriving DecidableEq, Repr

/-- The block with RESET_N low and no power-on history: every unit at its reset values, as the register tables and the log
give them; nothing is pending. -/
def State.reset : State :=
  { pending := [], ticks := 0, free := 0, sys := SysUnit.fresh, cmd := CmdUnit.fresh, ldg := Ledger.fresh, evf := Evf.fresh
    dma := DmaUnit.fresh, madc := Madc.fresh, trig := Trig.fresh, sec := SecUnit.fresh, rope := Rope.fresh
    board := Board.fresh, tl := Tlnk.fresh, pace := Pace.fresh, cel := Cellar.fresh, wea := Weather.fresh
    ports := Vector.ofFn Port.fresh, axes := Vector.replicate 12 Axis.fresh, encs := Vector.replicate 8 Encoder.fresh
    rings := Ring.bootRings, pci := Pcie.fresh, host0 := [], host1 := [], smbShot := 0, posted := [] }

end Sys2Proof.Machine
end

