-- ==== Sys2Proof/Machine/Ops.lean ====
section
/-! DEFINITION. The operations that the meanings share: time, worlds, posted writes, interrupts, event records, the
Ledger, waymark events, replies. -/

namespace Sys2Proof.Machine

/-! ### Time (16 R372) -/

/-- Device time in ns: floor(ticks x 2 / 3), in steps of 40 ns while DORMANT (13 R315). -/
def State.ns (s : State) : Nat :=
  let now := s.ticks * 2 / 3
  if s.sys.mode = .dormant then s.sys.dormantAt + (now - s.sys.dormantAt) / 40 * 40 else now

def State.time (s : State) : DWord := BitVec.ofNat 64 s.ns

/-- The mode number of 13 Table 13.3, as `SYS_MODE` holds it. -/
def Mode.code : Mode → Nat
  | .startUp => 0 | .ready => 1 | .dormant => 2 | .run => 3 | .service => 4 | .safe => 5 | .shadow => 6

/-- The word of SMBus command code 0x00 (16 Table 16.11): the mode, the SAFE cause, `margin_low`. -/
def State.modeWord (s : State) : Nat := s.sys.mode.code + 256 * s.sys.safeCause + 4096 * b2n s.wea.marginLow

/-- The SMBus snapshot at a later tick: refreshed every 1 ms, 1,500,000 ticks from the strap latch (16 R388, log entry 66). -/
def State.shotAt (s : State) (t : Nat) : Nat :=
  if !s.sys.inReset && decide (s.ticks / 1500000 < t / 1500000) then s.modeWord else s.smbShot

/-- A command happens at its tick; time never steps backward. -/
def State.advance (t : Nat) (s : State) : State := { s with ticks := max s.ticks t, smbShot := s.shotAt (max s.ticks t) }

/-- Estate wall-clock time: device time plus the offset, 0 until the first SET_TIME. -/
def State.wallAt (s : State) (ns : Nat) : Nat :=
  match s.sys.wallOffset with
  | none => 0
  | some o => ((ns : Int) + o).toNat

def State.wall (s : State) : Nat := s.wallAt s.ns

/-! ### Free values (log entry 2) -/

/-- Move the counter of free values on by one. -/
def State.drawn (s : State) : State := { s with free := s.free + 1 }

/-! ### Units, fitted units and worlds -/

/-- Position of a block in the BAR0 table (12 R296). -/
def BlockId.code : BlockId → Nat
  | .sys => 0 | .cmd => 1 | .ldg => 2 | .evf => 3 | .dma => 4 | .madc => 5 | .trig => 6 | .sec => 7 | .rope => 8
  | .tlnk => 9 | .pace => 10 | .cel => 11 | .wea => 12 | .port _ => 13 | .ax _ => 14 | .enc _ => 15

/-- Instance of a block; 0 for a block with none. -/
def BlockId.unit : BlockId → Nat
  | .port n => n.val
  | .ax n => n.val
  | .enc n => n.val
  | _ => 0

/-- The block with a position and an instance, if there is one. -/
def BlockId.ofCode (code inst : Nat) : Option BlockId :=
  match code with
  | 0 => some .sys | 1 => some .cmd | 2 => some .ldg | 3 => some .evf | 4 => some .dma | 5 => some .madc
  | 6 => some .trig | 7 => some .sec | 8 => some .rope | 9 => some .tlnk | 10 => some .pace | 11 => some .cel
  | 12 => some .wea
  | 13 => if h : inst < 8 then some (.port ⟨inst, h⟩) else none
  | 14 => if h : inst < 12 then some (.ax ⟨inst, h⟩) else none
  | 15 => if h : inst < 8 then some (.enc ⟨inst, h⟩) else none
  | _ => none

/-- Whether a block or instance belongs to the secure world (15 R352, Table 15.1). -/
def State.secureBlock (s : State) : BlockId → Bool
  | .port n => s.sec.worldPort.getLsbD n.val
  | .ax n => s.sec.worldAx.getLsbD n.val
  | .enc n => s.sec.worldEnc.getLsbD n.val
  | b => s.sec.worldBlk.getLsbD b.code

/-- Whether an instance is fitted (00 R3, R5); blocks without instances always are. -/
def State.fittedBlock (s : State) : BlockId → Bool
  | .port n => s.sys.fit.ports.getLsbD n.val
  | .ax n => s.sys.fit.axes.getLsbD n.val
  | .enc n => s.sys.fit.encs.getLsbD n.val
  | .rope => s.sys.fit.rope
  | _ => true

/-- Entries are marked mirrored on a pair: the second holds the lead's entries with the same chain (10 R249). -/
def State.mirroring (s : State) : Bool := s.rope.paired && !(s.rope.role = .second && s.rope.follow = .syncing)

/-- The shared outputs are this device's: always without a twin, else while it pulls `OWN_N` low (14 R327). -/
def State.owns (s : State) : Bool := !s.sys.fit.rope || s.rope.own

/-- A second reaches neither the host nor the machine, and writes no entry of its own (14 R335, R336). -/
def State.second (s : State) : Bool := s.rope.role = .second

/-! ### Instances -/

def State.modPort (n : Fin 8) (f : Port → Port) (s : State) : State :=
  { s with ports := s.ports.set n (f s.ports[n]) }
def State.modAxis (n : Fin 12) (f : Axis → Axis) (s : State) : State :=
  { s with axes := s.axes.set n (f s.axes[n]) }
def State.modEnc (n : Fin 8) (f : Encoder → Encoder) (s : State) : State :=
  { s with encs := s.encs.set n (f s.encs[n]) }
def State.modChan (n : Fin 32) (f : Channel → Channel) (s : State) : State :=
  { s with dma.chans := s.dma.chans.set n (f s.dma.chans[n]) }

/-- Do something for each of a list of things, in order. -/
def State.each {α : Type} (l : List α) (f : α → State → State) (s : State) : State := l.foldl (fun s x => f x s) s

/-- Do something where a condition holds. -/
def State.when (c : Bool) (f : State → State) (s : State) : State := if c then f s else s

/-! ### Rings -/

def State.ring? (s : State) (id : Nat) : Option Ring := s.rings.find? fun r => r.id == id

def State.modRing (id : Nat) (f : Ring → Ring) (s : State) : State :=
  { s with rings := s.rings.map fun r => if r.id == id then f r else r }

def Ring.size (r : Ring) : Nat := 2 ^ r.sizeLog2

/-- Slots between head and tail. -/
def Ring.used (r : Ring) : Nat := if r.sizeLog2 = 0 then 0 else (r.tail + r.size - r.head) % r.size

/-- The tail that the ring table shows and a head may reach: slots that await a flush read are not covered (11 R274). -/
def Ring.shownTail (r : Ring) : Nat := if r.ahead = 0 then r.tail else (r.tail + r.size - r.ahead % r.size) % r.size

/-- The channel that serves a ring (11 Table 11.8). -/
def Ring.channel (r : Ring) : Fin 32 :=
  match r.kind with
  | .command => 8
  | .reply => 9
  | .event | .measurement => 10
  | .ledgerMirror => 11
  | .image => Fin.ofNat 32 (r.port % 8)

/-- Slots a producer may fill: one stays free (10 R230). -/
def Ring.room (r : Ring) : Nat := if r.sizeLog2 = 0 then 0 else r.size - 1 - r.used

def Ring.slotAddr (r : Ring) (k : Nat) : Nat := r.base.toNat + 64 * (k % r.size)

/-! ### Posted writes and interrupts -/

/-- The host space of a world: PF1's for the secure world (16 R367). -/
def hostSpace (secure : Bool) : Space := if secure then .host1 else .host0

/-- A write leaves its unit; it reaches memory at the end of the step. -/
def State.post (sp : Space) (addr : Nat) (data : List Byte) (s : State) : State :=
  { s with posted := s.posted ++ [{ space := sp, addr, zero := 0, data }] }

/-- A range of the Cellar is zeroed (11 R268, R270). -/
def State.zeroCellar (addr n : Nat) (s : State) : State :=
  { s with posted := s.posted ++ [{ space := .cellar, addr, zero := n, data := [] }] }

/-- The function of a world. -/
def State.pf (s : State) (secure : Bool) : PciFunction := if secure then s.pci.pf1 else s.pci.pf0

def State.modPf (secure : Bool) (f : PciFunction → PciFunction) (s : State) : State :=
  if secure then { s with pci.pf1 := f s.pci.pf1 } else { s with pci.pf0 := f s.pci.pf0 }

/-- Transfers to a function's host space are possible (16 R370). -/
def State.canHost (s : State) (secure : Bool) : Bool := s.pci.linkUp && (s.pf secure).bme && (s.pf secure).d0

/-- A word of a function's MSI-X table; unwritten words hold their reset value: vector control masked (log entry 7). -/
def PciFunction.msixWord (f : PciFunction) (k : Nat) : Word :=
  ((f.msixTable.find? fun e => e.1 == k).map Prod.snd).getD (if k % 4 = 3 then 1 else 0)

/-- Raise a vector: sent, or pending while it is masked or no transfer is possible (16 R369, R370). -/
def State.raiseVector (secure : Bool) (v : Nat) (s : State) : State :=
  s.modPf secure fun f =>
    if s.canHost secure && !((f.msixWord (4 * v + 3)).getLsbD 0) then { f with msixSent := f.msixSent ++ [v] }
    else { f with msixPending := if f.msixPending.contains v then f.msixPending else f.msixPending ++ [v] }

/-- Interrupt rule of a device-produced ring (10 R232, 11 R274): once between two doorbells. -/
def State.ringInterrupt (id : Nat) (s : State) : State :=
  match s.ring? id with
  | none => s
  | some r =>
    if r.irqEn && !r.irqRaised then
      (s.modRing id fun r => { r with irqRaised := true }).raiseVector r.secure r.msix
    else s

/-- A channel of 8 to 11 serves a ring: its work is of the ring's world (11 Table 11.8; log entry 43). -/
def State.serves (r : Ring) (s : State) : State :=
  match r.kind with
  | .image => s
  | .command => { s with dma.served := s.dma.served.set 0 r.secure }
  | .reply => { s with dma.served := s.dma.served.set 1 r.secure }
  | .event | .measurement => { s with dma.served := s.dma.served.set 2 r.secure }
  | .ledgerMirror => { s with dma.served := s.dma.served.set 3 r.secure }

/-- Put 64-byte slots at the tail of a device-produced ring, `pass` (at `passOff` of each slot) written last, then
advance the tail (10 R231, 11 R274); with `fence` the tail covers them once a flush read has completed. Slots whose `passOff`
is none carry no pass. -/
def State.produceSlots (id : Nat) (slots : List (List Byte)) (passOff : Option Nat) (s : State) : State :=
  match s.ring? id with
  | none => s
  | some r =>
    let s := (slots.foldl (fun (a : State × Ring) sl =>
      let (s, r) := a
      let addr := r.slotAddr r.tail
      let s := match passOff with
        | none => s.post (hostSpace r.secure) addr sl
        | some o => ((s.post (hostSpace r.secure) addr (sl.take o)).post (hostSpace r.secure) (addr + o + 4)
            (sl.drop (o + 4))).post (hostSpace r.secure) (addr + o) (leBytes 4 r.pass.toNat)
      let tail := (r.tail + 1) % r.size
      (s, { r with tail, pass := if tail = 0 then r.pass + 1 else r.pass })) (s, r))
    let s := (s.1.modRing id fun r =>
      { r with tail := s.2.tail, pass := s.2.pass, ahead := if r.fence then r.ahead + slots.length else r.ahead }).serves r
    if r.fence then s else s.ringInterrupt id

/-! ### Event bits -/

/-- Set an event bit of a block's event register (the `_EVT` or `_STAT` register of its map). -/
def State.setEvt (b : BlockId) (i : Nat) (s : State) : State :=
  match b with
  | .sys => { s with sys.evt := setBit s.sys.evt i }
  | .cmd => { s with cmd.evt := setBit s.cmd.evt i }
  | .ldg => { s with ldg.evt := setBit s.ldg.evt i }
  | .evf => { s with evf.evt := setBit s.evf.evt i }
  | .dma => { s with dma.evt := setBit s.dma.evt i }
  | .madc => { s with madc.evt := setBit s.madc.evt i }
  | .trig => { s with trig.evt := setBit s.trig.evt i }
  | .sec => { s with sec.evt := setBit s.sec.evt i }
  | .rope => { s with rope.evt := setBit s.rope.evt i }
  | .tlnk => { s with tl.evt := setBit s.tl.evt i }
  | .pace => { s with pace.evt := setBit s.pace.evt i }
  | .cel => { s with cel.evt := setBit s.cel.evt i }
  | .wea => { s with wea.evt := setBit s.wea.evt i }
  | .port n => s.modPort n fun p => { p with stat := setBit p.stat i }
  | .ax n => s.modAxis n fun a => { a with evt := setBit a.evt i }
  | .enc n => s.modEnc n fun e => { e with evt := setBit e.evt i }

/-- A block's event register and its enables. -/
def State.evtOf (s : State) : BlockId → Word × Word
  | .sys => (s.sys.evt, s.sys.irqEn)
  | .cmd => (s.cmd.evt, s.cmd.irqEn)
  | .ldg => (s.ldg.evt, s.ldg.irqEn)
  | .evf => (s.evf.evt, s.evf.irqEn)
  | .dma => (s.dma.evt, s.dma.irqEn)
  | .madc => (s.madc.evt, s.madc.irqEn)
  | .trig => (s.trig.evt, s.trig.irqEn)
  | .sec => (s.sec.evt, s.sec.irqEn)
  | .rope => (s.rope.evt, s.rope.irqEn)
  | .tlnk => (s.tl.evt, s.tl.irqEn)
  | .pace => (s.pace.evt, s.pace.irqEn)
  | .cel => (s.cel.evt, s.cel.irqEn)
  | .wea => (s.wea.evt, s.wea.irqEn)
  | .port n => (s.ports[n].stat, s.ports[n].irqEn)
  | .ax n => (s.axes[n].evt, s.axes[n].irqEn)
  | .enc n => (s.encs[n].evt, s.encs[n].irqEn)

/-- Every block and instance of the BAR0 map. -/
def BlockId.all : List BlockId :=
  [.sys, .cmd, .ldg, .evf, .dma, .madc, .trig, .sec, .rope, .tlnk, .pace, .cel, .wea]
    ++ (List.finRange 8).map .port ++ (List.finRange 12).map .ax ++ (List.finRange 8).map .enc

/-- An enabled event of a block or instance is set; an axis has two event registers (06 Table 6.13, 07 Table 7.7). -/
def State.hasEvent (s : State) (b : BlockId) : Bool :=
  let e := s.evtOf b
  decide (e.1 &&& e.2 ≠ 0) || match b with
    | .ax n => decide (s.axes[n].drive.evt &&& s.axes[n].drive.irqEn ≠ 0)
    | _ => false

/-- SYS_IRQ_SUM as a function sees it: bit b when an enabled event of block b that it can reach is set (16 R375). -/
def State.irqSum (s : State) (secure : Bool) : Word :=
  BlockId.all.foldl (fun w b => if s.hasEvent b && (secure || !s.secureBlock b) then setBit w b.code else w) 0

/-- Vector 0 of a function when its SYS_IRQ_SUM goes from zero to non-zero in a step (16 R369). -/
def State.sumInterrupt (before : State) (secure : Bool) (s : State) : State :=
  if before.irqSum secure = 0 && s.irqSum secure ≠ 0 then s.raiseVector secure 0 else s

/-! ### A step: time, the effect, then the writes and interrupts it made -/

/-- The bytes a memory takes from the posted writes of a step. -/
def commitWrites (sp : Space) (d : Option Byte) (l : List PostedWrite) (m : List Host.Cell) : List Host.Cell :=
  l.foldl (fun m w => if w.space = sp then Mem.write d w.addr w.data (Mem.clear w.addr (w.addr + w.zero) m) else m) m

/-- `reply_stall` (10 R233): a reply waits for room in its ring. -/
def State.replyStall (s : State) : Bool :=
  s.cmd.replies.any fun r => match s.ring? r.ring with
    | some q => decide (q.kind = .reply) && q.room == 0
    | none => false

/-- The beginning of a stall sets its event bit. -/
def State.stallCheck (s : State) : State :=
  let now := s.replyStall
  let s := if now && !s.cmd.stallShown then s.setEvt .cmd 3 else s
  { s with cmd.stallShown := now }

/-- Bytes of the Cellar as they stand within a step, what the step itself has written included. -/
def State.cellarNow (s : State) (addr n : Nat) : List Byte := Mem.read (commitWrites .cellar (some 0) s.posted s.cel.mem) addr n

/-- End of a step that began in `s0`: the queue and the clock are the step's own, the posted writes reach their
memories, and the summary interrupts are raised. -/
def State.settle (s0 s : State) : State :=
  let s := State.sumInterrupt s0 true (State.sumInterrupt s0 false s.stallCheck)
  { s with pending := s0.pending, ticks := s0.ticks, posted := []
           cel.mem := commitWrites .cellar (some 0) s.posted s0.cel.mem
           host0 := commitWrites .host0 none s.posted s0.host0
           host1 := commitWrites .host1 none s.posted s0.host1 }

/-- A command of tick `t` with effect `f`, on a device that may be held in reset. -/
def State.actAlways (t : Nat) (f : State → State) (s : State) : State := (s.advance t).settle (f (s.advance t))

/-- A command of tick `t` with effect `f`: a device held in reset takes no notice (17 R401). -/
def State.act (t : Nat) (f : State → State) (s : State) : State :=
  if s.sys.inReset then s.advance t else s.actAlways t f

/-! ### Event records (11 R275) -/

/-- The event ring of Table 11.5 for a unit. -/
def eventRing (secure : Bool) : BlockId → Nat
  | .port n => 6 + n.val
  | .ax _ | .enc _ | .madc => 14
  | .pace | .rope | .tlnk => 15
  | _ => if secure then 4 else 5

/-- The ring that an event of a unit goes to: its own, else RING4 or RING5 of its world, else none. -/
def State.eventTarget (s : State) (secure : Bool) (b : BlockId) : Option Nat :=
  let ok (id : Nat) : Bool := match s.ring? id with
    | some r => decide (r.kind = .event) && r.secure == secure
    | none => false
  let own := eventRing secure b
  let dflt := if secure then 4 else 5
  if ok own then some own else if ok dflt then some dflt else none

/-- An event record of a unit that counts as of the given world: it waits for its ring, at most 256 per ring, and is
counted in DMA_EVT_LOST otherwise. -/
def State.eventIn (secure : Bool) (e : EventRecord) (s : State) : State :=
  let lost := { s with dma.evtLost := satInc s.dma.evtLost, dma.evt := setBit s.dma.evt 5 }
  if s.second then s else
  match s.eventTarget secure e.block with
  | none => lost
  | some id =>
    match s.ring? id with
    | none => lost
    | some r =>
      if r.events.length < 256 then s.modRing id fun r => { r with events := r.events ++ [e] } else lost

/-- An event record of a block in the block's own world. -/
def State.event (b : BlockId) (status : BitVec 16) (detail : BitVec 32) (s : State) (fault : BitVec 32 := 0)
    (seq : DWord := -1) (address : DWord := 0) (data : List Byte := []) : State :=
  s.eventIn (s.secureBlock b)
    { status, block := b, detail, time := s.time, fault, seq, address, data := padTo 16 data }

/-- Bytes of an event record before `pass` (11 Table 11.6). -/
def EventRecord.bytes (e : EventRecord) : List Byte :=
  leBytes 2 e.status.toNat ++ leBytes 1 e.block.code ++ leBytes 1 e.block.unit ++ leBytes 4 e.detail.toNat
    ++ leBytes 8 e.time.toNat ++ leBytes 4 e.fault.toNat ++ leBytes 4 0 ++ leBytes 8 e.seq.toNat
    ++ leBytes 8 e.address.toNat ++ padTo 16 e.data ++ leBytes 4 0

/-! ### Waymark events (12) -/

/-- Generators that work in DORMANT: junctions, TRIG pin edges and HB_LOST (12 Table 12.1, mark D). -/
def dormantGenerator (b : BlockId) (off : Nat) : Bool :=
  match b with
  | .evf => off < 16
  | .madc => 18 ≤ off && off ≤ 25
  | .rope => off == 0
  | _ => false

/-- Ticks of the shortest gap of a channel's events that are not fast come from its rate limit (12 R303): 1 / rate_limit. -/
def Route.isFast (r : Route) (gap : Nat) : Bool :=
  !r.system && decide (gap * (if r.rate = 0 then 10000000 else r.rate) < 1500000000)

/-- The source field of a route (12 Table 12.3). -/
def Route.source (r : Route) : Nat := r.gen + 1024 * r.inst

/-- The source of a channel fires: the event is on its way under the route in force (12 R295, R300), unless the channel has
no enabled route, is quarantined, or is a resynchronised one in DORMANT (12 R294). The 1,000th consecutive fast event
quarantines the channel (12 R303); the answer says whether it did. -/
def State.fireOn (c : Fin 256) (edge : Option CountEdge) (s : State) : State × Bool :=
  let x := s.evf.chans[c]
  match x.route with
  | none => (s, false)
  | some r =>
    if !r.enable || x.quarantined || (s.sys.mode = .dormant && c.val ≥ 240) then (s, false)
    else
      let fast := match x.lastTick with
        | none => 0
        | some l => if r.isFast (s.ticks - l) then x.fast + 1 else 0
      let x := { x with fast, lastTick := some s.ticks }
      if fast ≥ 1000 then
        let s := { s with evf.chans := s.evf.chans.set c { x with quarantined := true, storms := min 65535 (x.storms + 1) } }
        ((s.setEvt .evf 0).event .evf 0x0401 0x0704 (data := leBytes 2 c.val ++ leBytes 2 r.source), true)
      else
        ({ s with evf.chans := s.evf.chans.set c { x with count := x.count + 1 }
                  evf.fired := s.evf.fired ++ [{ ch := c.val, tick := s.ticks, route := r, edge }] }, false)

/-- A generator number and instance fires on every channel whose route names it; a storm fires STORM in turn. Each storm
quarantines a channel, so that the bound is never reached. -/
def State.fireNum : Nat → Nat → Nat → Option CountEdge → State → State
  | 0, _, _, _, s => s
  | n + 1, gen, inst, edge, s =>
    (List.finRange 256).foldl (fun s c =>
      match s.evf.chans[c].route with
      | none => s
      | some r =>
        if r.gen == gen && r.inst == inst then
          let (s, storm) := s.fireOn c edge
          if storm && decide (s.sys.mode ≠ .dormant) then State.fireNum n (3 * 64 + 16) 0 none s else s
        else s) s

/-- A generator of a block fires; a unit that is not fitted never fires (00 R5), and in DORMANT only marked generators do
(12 R294). -/
def State.fireEdge (b : BlockId) (off : Nat) (edge : Option CountEdge) (s : State) : State :=
  if !s.fittedBlock b || (s.sys.mode = .dormant && !dormantGenerator b off) then s
  else s.fireNum 257 (b.code * 64 + off) b.unit edge

def State.fire (b : BlockId) (off : Nat) (s : State) : State := s.fireEdge b off none

/-! ### The Ledger (10 R242 to R260) -/

/-- Bytes of a hash, first byte first. -/
def hashBytes (h : BitVec 384) : List Byte := beBytes 48 h.toNat

/-- First 16 and first 8 bytes of a hash. -/
def first16 (h : BitVec 384) : BitVec 128 := h.extractLsb' 256 128
def first8 (h : BitVec 384) : BitVec 64 := h.extractLsb' 320 64

def EntryKind.code : EntryKind → Nat
  | .accept => 0 | .done => 1 | .duplicate => 2 | .device => 3 | .checkpoint => 4 | .trim => 5

/-- The 64 bytes of a Ledger entry (10 Table 10.8). -/
def LedgerEntry.bytes (e : LedgerEntry) : List Byte :=
  leBytes 8 e.seq.toNat ++ leBytes 8 e.time.toNat ++ leBytes 4 e.tag.toNat ++ leBytes 2 e.opcode.toNat
    ++ leBytes 2 e.ring.toNat ++ leBytes 2 e.status.toNat
    ++ leBytes 2 (b2n e.secure + 2 * e.kind.code + 16 * b2n e.mirrored) ++ leBytes 4 e.fault.toNat
    ++ beBytes 16 e.digest.toNat ++ leBytes 4 e.detail.toNat ++ leBytes 4 e.result.toNat ++ beBytes 8 e.chain.toNat

def Ledger.seqOf (l : Ledger) (no : Nat) : DWord := BitVec.ofNat 64 (l.epoch.toNat * 2 ^ 40 + no)
def Ledger.nextSeq (l : Ledger) : DWord := l.seqOf l.nextNo

def Ledger.onChip (l : Ledger) : Nat := l.entries.length - l.spilled

/-- Room left in both extents. -/
def Ledger.roomLeft (l : Ledger) : Nat := 16384 + l.capOvf - l.entries.length

/-- DONE entries that commands in flight hold (10 R252). -/
def State.doneHeld (s : State) : Nat := (s.cmd.flights.filter fun f => !f.finished).length

/-- What is left of the two reserves of 128 entries (10 R252). -/
def Ledger.ledgerReserve (l : Ledger) : Nat := 128 - l.ledgerDrawn
def Ledger.deviceReserve (l : Ledger) : Nat := 128 - l.deviceDrawn

/-- General room: what is left after the reserves and the DONE entries held (10 R252). -/
def State.generalRoom (s : State) : Nat :=
  s.ldg.roomLeft - s.ldg.ledgerReserve - s.ldg.deviceReserve - s.doneHeld

/-- The oldest 1,024 entries move to the overflow region (10 R251), once more than 15,360 lie on chip. -/
def State.spill (s : State) : State :=
  if s.ldg.onChip > 15360 && s.ldg.spilled + 1024 ≤ s.ldg.capOvf && !s.cel.selfRefresh then
    match s.ldg.region with
    | none => s
    | some r =>
      let base := if h : r < 64 then s.cel.regions[r].base * 2 ^ 30 else 0
      let moved := (s.ldg.entries.drop s.ldg.spilled).take 1024
      let s := s.each moved fun e s =>
        s.post .cellar (base + 64 * ((e.seq.toNat % 2 ^ 40) % s.ldg.capOvf)) e.bytes
      { s with ldg.spilled := s.ldg.spilled + 1024 }
  else s

/-- Write an entry of a time: it takes the next sequence and the chain field; C moves on to it (10 R248); a copy goes to
each ledger-mirror ring (10 R249), but not from a second (14 R336). -/
def State.appendEntryAt (time : DWord) (e : LedgerEntry) (s : State) : State :=
  let e := { e with seq := s.ldg.nextSeq, time, chain := first8 s.ldg.chain, mirrored := s.mirroring }
  let c := Config.sha384 (hashBytes s.ldg.chain ++ e.bytes)
  let copies := (s.rings.filter fun r => decide (r.kind = .ledgerMirror)).map fun r => (r.id, e)
  State.spill { s with ldg.entries := s.ldg.entries ++ [e], ldg.nextNo := s.ldg.nextNo + 1, ldg.chain := c
                       ldg.sinceCkpt := s.ldg.sinceCkpt + 1
                       ldg.mirrorWaiting := if s.second then s.ldg.mirrorWaiting else s.ldg.mirrorWaiting ++ copies }

/-- An entry written now. -/
def State.appendEntry (e : LedgerEntry) (s : State) : State := s.appendEntryAt s.time e

/-- An entry with the fields that its kind leaves open at zero. -/
def LedgerEntry.blank (kind : EntryKind) : LedgerEntry :=
  { seq := 0, time := 0, tag := 0, opcode := 0, ring := 0xFFFF, status := 0, secure := false, kind, mirrored := false
    fault := 0, digest := 0, detail := 0, result := 0, chain := 0 }

/-- Draw one entry of room for a Ledger-command purpose: general room first, then the Ledger-command reserve. -/
def State.drawLedger (s : State) : State :=
  if s.generalRoom > 0 then s else { s with ldg.ledgerDrawn := s.ldg.ledgerDrawn + 1 }

/-- A DEVICE entry of an event (10 R247, R252, Table 10.8). It draws on general room, then on the device reserve; with
neither it is counted as lost. -/
def State.device (secure : Bool) (status : BitVec 16) (detail result fault : BitVec 32) (event : List Byte)
    (s : State) : State :=
  if !s.ldg.ready || s.second then s
  else if s.generalRoom = 0 && s.ldg.deviceReserve = 0 then
    { s with ldg.devLost := satInc s.ldg.devLost, ldg.evt := setBit s.ldg.evt 2 }
  else
    let s := if s.generalRoom > 0 then s else { s with ldg.deviceDrawn := s.ldg.deviceDrawn + 1 }
    s.appendEntry { LedgerEntry.blank .device with
      status, detail, result, fault, secure, digest := first16 (Config.sha384 event) }

/-- A fault takes its number when it first needs a DEVICE entry (10 R260): 1 upward, skipping 0. -/
def State.takeFault (s : State) : State :=
  { s with ldg.faultNext := if s.ldg.faultNext + 1 = 0 then 1 else s.ldg.faultNext + 1 }

/-- A DEVICE entry of a unit of a world together with its event record, both under one fault number (10 R258, R260). -/
def State.deviceEventIn (secure : Bool) (b : BlockId) (status : BitVec 16) (detail result fault : BitVec 32) (address : DWord)
    (data : List Byte) (s : State) : State :=
  let e : EventRecord := { status, block := b, detail, time := s.time, fault, seq := s.ldg.nextSeq, address
                           data := padTo 16 data }
  let n := s.ldg.nextNo
  let s := s.device secure status detail result fault e.bytes
  s.eventIn secure (if s.ldg.nextNo = n then { e with seq := -1 } else e)

/-- The same in the block's own world. -/
def State.deviceEvent (b : BlockId) (status : BitVec 16) (detail result fault : BitVec 32) (address : DWord)
    (data : List Byte) (s : State) : State :=
  s.deviceEventIn (s.secureBlock b) b status detail result fault address data

/-- What a Cellar access that succeeded at L0 adds to the counters (11 R266). -/
def State.eccCount (e : EccResult) (s : State) : State :=
  match e with
  | .corrected => State.setEvt .cel 0 { s with cel.ceCnt := satInc s.cel.ceCnt }
  | .replayed => { s with cel.replayCnt := satInc s.cel.replayCnt }
  | .clean | .failed => s

/-- A Cellar read that three replays have not settled (11 R266): counted, its address latched. -/
def State.cellarFail (address : DWord) (s : State) : State :=
  ({ s with cel.ueCnt := satInc s.cel.ueCnt, cel.replayCnt := satAdd s.cel.replayCnt 3, cel.ueAddr := address }.setEvt
    .cel 1).fire .cel 0

/-- The secure controller restarts on a new image: signing, slot refill and Trig work wait (13 R321). -/
def State.secPaused (s : State) : Bool :=
  match s.sec.secStart with
  | some x => !x.peer
  | none => false

/-- Signing goes on: not on a second, and not while a controller or a control core restarts (13 R321, 01 R22, 14 Table 14.5). -/
def State.signs (s : State) : Bool := s.sec.capReady && !s.secPaused && !s.cmd.coreWait && !s.second

/-- Records that await a signature of the capture key (15 Table 15.10): PROVENANCE records of EACH sides and checkpoints. -/
def State.backlog (s : State) : Nat :=
  s.ldg.signing.length + (List.finRange 8).foldl (fun n p => n + (s.ports[p].provs.filter fun j => !j.sealOnly).length) 0

/-- The signing backlog has grown: its greatest value since the last seal, and the event above 64. -/
def State.backlogCheck (s : State) : State :=
  let n := s.backlog
  let s := { s with sec.backlogMax := BitVec.ofNat 16 (max s.sec.backlogMax.toNat (min n 0xFFFF)) }
  if 64 < n then s.setEvt .sec 2 else s

/-- A signature is made, by the capture key or the device identity key (15 Table 15.10, a count that wraps). -/
def State.signedOne (s : State) : State := { s with sec.signCnt := s.sec.signCnt + 1 }

/-- An outcome AUTH_FAIL (15 Table 15.10). -/
def State.authFail (s : State) : State :=
  ({ s with sec.authFailCnt := satInc s.sec.authFailCnt }.setEvt .sec 0).fire .sec 1

/-- Bytes 0 to 95 of a checkpoint record (10 Table 10.9). -/
def Checkpoint.head (c : Checkpoint) : List Byte :=
  leBytes 8 c.seq.toNat ++ leBytes 8 c.time.toNat ++ leBytes 8 c.firstSeq.toNat ++ leBytes 4 c.estate.toNat
    ++ leBytes 1 c.reason.toNat ++ leBytes 3 0 ++ leBytes 4 c.batch.toNat ++ leBytes 4 0 ++ hashBytes c.chain
    ++ leBytes 8 0

/-- The 192 bytes of a checkpoint record. -/
def Checkpoint.bytes (c : Checkpoint) : List Byte := c.head ++ beBytes 96 (c.signature.getD 0).toNat

/-- Estate unit number in force: the last one-time word used (15 R356). -/
def SecUnit.estate (u : SecUnit) : Nat := u.estateWords.getLastD 0

/-- Batch number as a checkpoint carries it: 0 outside a batch (10 Table 10.9). -/
def State.batchNow (s : State) : BitVec 32 := if s.sys.batchState = .none then 0 else s.sys.batch

/-- A checkpoint (10 R253): its CHECKPOINT entry is written and its record goes to the capture key. Without room it
waits (10 R252). -/
def State.checkpoint (reason : BitVec 8) (s : State) : State :=
  if s.second then s
  else if s.ldg.ready && s.generalRoom = 0 && s.ldg.ledgerReserve = 0 then
    { s with ldg.ckptWaiting := s.ldg.ckptWaiting ++ [reason] }
  else
    let s := s.drawLedger
    let seq := s.ldg.nextSeq
    let c : Checkpoint :=
      { seq, time := s.time, firstSeq := if s.ldg.ready then s.ldg.ckptFirst else seq
        estate := BitVec.ofNat 32 s.sec.estate, reason, batch := s.batchNow, chain := s.ldg.chain, signature := none }
    let s := s.appendEntry { LedgerEntry.blank .checkpoint with digest := first16 (Config.sha384 c.head) }
    { s with ldg.ready := true, ldg.sinceCkpt := 0, ldg.ckptSeq := seq, ldg.ckptFirst := s.ldg.nextSeq, ldg.ckptChain := c.chain
             ldg.signing := s.ldg.signing ++ [c], ldg.evt := setBit s.ldg.evt 1 }.backlogCheck.fire .ldg 0

/-- A Ledger session begins with the entry of the given sequence (10 R242). -/
def State.beginSession (seq : DWord) (s : State) : State :=
  { s with ldg.sessionSeq := seq, ldg.evt := setBit s.ldg.evt 5 }

/-! ### Replies (10 R231 to R247) -/

def State.flight? (s : State) (seq : DWord) : Option Flight := s.cmd.flights.find? fun f => f.seq == seq

def State.modFlight (seq : DWord) (f : Flight → Flight) (s : State) : State :=
  { s with cmd.flights := s.cmd.flights.map fun x => if x.seq == seq then f x else x }

def State.pushReply (r : Reply) (s : State) : State := { s with cmd.replies := s.cmd.replies ++ [r] }

/-- A command in flight ends: its DONE entry is written, and its reply waits for its slot (10 R247). A command answered
OK_QUEUED writes its DONE entry alone. A mirrored command keeps its outcome for the comparison of 14 R336; a second's own
command has no entry (log entry 32). -/
def State.finish (seq : DWord) (status : BitVec 16) (detail result : BitVec 32) (s : State) (fault : BitVec 32 := 0)
    (buffers : List (Nat × List Byte) := []) : State :=
  match s.flight? seq with
  | none => s
  | some f =>
    if f.finished then s
    else
      let s := s.modFlight seq fun f => { f with finished := true }
      if f.kind = .mirrored then
        { s with rope.outcomes := s.rope.outcomes ++ [{ seq, status, detail, result, fault }] }
      else
      let s := if f.kind = .unledgered then s else s.appendEntry { LedgerEntry.blank .done with
        tag := f.tag, opcode := f.opcode, ring := BitVec.ofNat 16 f.ring, status, secure := f.secure, fault
        digest := f.digest, detail, result, ends := seq }
      if f.queuedReply then
        (if f.replied then { s with cmd.flights := s.cmd.flights.filter fun x => x.seq != seq } else s)
      else
        s.pushReply { ring := f.replyRing, cmdRing := f.ring, status, opcode := f.opcode, tag := f.tag
                      seq := if f.kind = .unledgered then -1 else seq, cookie := f.cookie, detail, result, time := s.time, fault
                      flight := some seq, buffers }

/-- A command ends OK with a result word. -/
def State.finishOk (seq : DWord) (result : BitVec 32) (s : State) : State := s.finish seq 0 0 result

/-- Every command of a list ends in the same way. -/
def State.finishAll (seqs : List DWord) (status : BitVec 16) (detail result : BitVec 32) (s : State) : State :=
  s.each seqs fun q s => s.finish q status detail result

/-- A command is answered OK_QUEUED; its outcome follows (10 Table 10.5). -/
def State.answerQueued (seq : DWord) (s : State) : State :=
  match s.flight? seq with
  | none => s
  | some f =>
    if f.kind = .mirrored then s.modFlight seq fun f => { f with queuedReply := true } else
    (s.modFlight seq fun f => { f with queuedReply := true }).pushReply
      { ring := f.replyRing, cmdRing := f.ring, status := 2, opcode := f.opcode, tag := f.tag, seq, cookie := f.cookie
        detail := 0, result := 0, time := s.time, fault := 0, flight := some seq, buffers := [] }

/-- The command has begun to change device state (10 R240). -/
def State.begun (seq : DWord) (s : State) : State := s.modFlight seq fun f => { f with begun := true }

/-! ### System routes (12 R298) -/

/-- The calibration that runs or waits on a port. -/
def State.portRun (s : State) (n : Fin 8) : Option CalRun := s.trig.runs.find? fun r => r.op ≤ 3 && r.num = n.val

/-- A port is armed: in SCAN, or in a state that it entered from SCAN and leaves for it. -/
def State.armed (s : State) (n : Fin 8) : Bool :=
  let p := s.ports[n]
  decide (p.st = .scan ∨ p.st = .hold ∨ p.st = .reconfig) || (decide (p.st = .cal) && (s.portRun n).any fun r => r.wasScan)

/-- Consumers of an encoder's counts: armed ports it triggers and axes geared to it. -/
def State.countTasks (s : State) (e : Fin 8) : List TaskRef :=
  ((List.finRange 8).filter fun n => s.armed n && decide (s.ports[n].cfg.encoder = e)).map
    (fun n => { num := 13 * 64 + 2, inst := n.val })
  ++ ((List.finRange 12).filter fun a => s.axes[a].st = .geared && (match s.axes[a].gear with
      | some g => g.src == e
      | none => false)).map (fun a => { num := 14 * 64 + 2, inst := a.val })

/-- The system route of each encoder follows its consumers. -/
def State.sysRoutes (s : State) : State :=
  s.each (List.finRange 8) fun e s =>
    let l := s.countTasks e
    let c : Fin 256 := Fin.ofNat 256 (248 + e.val)
    let r : Option Route :=
      if l.isEmpty then none else some { gen := 15 * 64, inst := e.val, enable := true, rate := 0, tasks := l, system := true }
    { s with evf.chans := s.evf.chans.set c { s.evf.chans[c] with route := r } }

end Sys2Proof.Machine
end

