-- ==== Sys2Proof/Machine/Profile.lean ====
section
/-! DEFINITION. Jerk-limited profiles and step instants (06 R143 to R147, R151; 07 R169, R170) and geared positions
(06 R156 to R158). Square and cube roots and profile points are held to 2^-64, far below the 1/16 tick of R145
(log entry 12). -/

namespace Sys2Proof.Machine

/-- A number on the grid of 2^-64. -/
def snap (x : Rat) : Rat := mkRat (x * 2 ^ 64).floor (2 ^ 64)

/-- Square and cube root of a number that is not negative, to 2^-64. -/
def ratSqrt (x : Rat) : Rat := mkRat (isqrt (x * 2 ^ 128).floor.toNat) (2 ^ 64)
def ratCbrt (x : Rat) : Rat := mkRat (icbrt (x * 2 ^ 192).floor.toNat) (2 ^ 64)

def ratAbs (x : Rat) : Rat := if x < 0 then -x else x

/-- Nearest whole number, ties upward. -/
def ratRound (x : Rat) : Int := (x + mkRat 1 2).floor

def ticksPerSecond : Rat := 1500000000

/-- The state at time tau of a segment of jerk j (06 R143). -/
def Kin.at (k : Kin) (j tau : Rat) : Kin :=
  { p := k.p + k.v * tau + k.a * tau * tau / 2 + j * tau * tau * tau / 6
    v := k.v + k.a * tau + j * tau * tau / 2
    a := k.a + j * tau }

def Kin.snapped (k : Kin) : Kin := { p := snap k.p, v := snap k.v, a := snap k.a }

def Kin.after (k : Kin) (s : Seg) : Kin := (k.at s.jerk s.dur).snapped

def Kin.end (k : Kin) (l : List Seg) : Kin := l.foldl Kin.after k

def segsDur (l : List Seg) : Rat := l.foldl (fun d s => d + s.dur) 0

/-- Segments of zero duration are omitted (06 R144). -/
def keepSegs (l : List Seg) : List Seg := l.filter fun s => decide (0 < s.dur)

/-- Time-optimal change of velocity from (v0, a0) to v1 under A and J; the segments are numbered from `n`. -/
def rampSegs (n : Nat) (v0 a0 v1 A J : Rat) : List Seg :=
  let s : Rat := if v0 + a0 * ratAbs a0 / (2 * J) ≤ v1 then 1 else -1
  let a := s * a0
  let dv := s * (v1 - v0)
  let pre := if a < 0 then [⟨n, snap (-a / J), s * J⟩] else []
  let dv := if a < 0 then dv + a * a / (2 * J) else dv
  let a := if a < 0 then 0 else a
  let peak := ratSqrt (J * dv + a * a / 2)
  let l : List Seg :=
    if peak ≤ A then [⟨n, snap ((peak - a) / J), s * J⟩, ⟨n + 2, snap (peak / J), -s * J⟩]
    else if A < a then
      [⟨n, snap ((a - A) / J), -s * J⟩, ⟨n + 1, snap ((dv - a * a / (2 * J)) / A), 0⟩, ⟨n + 2, snap (A / J), -s * J⟩]
    else
      [⟨n, snap ((A - a) / J), s * J⟩, ⟨n + 1, snap ((dv - (2 * A * A - a * a) / (2 * J)) / A), 0⟩,
        ⟨n + 2, snap (A / J), -s * J⟩]
  keepSegs (pre ++ l)

/-- Rest to rest over a distance d > 0 in direction s (06 R144). -/
def restSegs (s d v a j : Rat) : List Seg :=
  let a := if v * j < a * a then ratSqrt (v * j) else a
  let dRamp := v * (v / a + a / j) / 2
  let t : Rat × Rat × Rat :=
    if 2 * dRamp ≤ d then (a / j, v / a - a / j, (d - 2 * dRamp) / v)
    else if 2 * a * a * a / (j * j) ≤ d then
      let v := (-a * a / j + ratSqrt (a * a * a * a / (j * j) + 4 * a * d)) / 2;
      (a / j, v / a - a / j, 0)
    else (ratCbrt (d / (2 * j)), 0, 0)
  let tj := snap t.1
  let ta := snap t.2.1
  let tv := snap t.2.2
  keepSegs [⟨1, tj, s * j⟩, ⟨2, ta, 0⟩, ⟨3, tj, -s * j⟩, ⟨4, tv, 0⟩, ⟨5, tj, -s * j⟩, ⟨6, ta, 0⟩, ⟨7, tj, s * j⟩]

/-- Distance covered from (v0, a0) by reaching vp and stopping from it. -/
def reachDist (v0 a0 vp A J : Rat) : Rat :=
  let k : Kin := { p := 0, v := v0, a := a0 };
  ((k.end (rampSegs 1 v0 a0 vp A J)).end (rampSegs 5 vp 0 0 A J)).p

/-- The greatest cruise velocity, by halving, whose path covers no more than d. -/
def cruiseSearch (v0 a0 A J d : Rat) : Nat → Rat → Rat → Rat
  | 0, lo, _ => lo
  | n + 1, lo, hi =>
    let m := snap ((lo + hi) / 2)
    if reachDist v0 a0 m A J ≤ d then cruiseSearch v0 a0 A J d n m hi else cruiseSearch v0 a0 A J d n lo m

/-- A deceleration eased from a0 to a1, a0 ≤ a1 ≤ 0, and then a stop. -/
def easeSegs (v0 a0 a1 A J : Rat) : List Seg :=
  let g : Seg := ⟨5, snap ((a1 - a0) / J), J⟩
  let k := (Kin.mk 0 v0 a0).after g
  g :: rampSegs 5 k.v k.a 0 A J

/-- The greatest easing, by halving, whose stop covers no more than d. -/
def easeSearch (v0 a0 A J d : Rat) : Nat → Rat → Rat → Rat
  | 0, lo, _ => lo
  | n + 1, lo, hi =>
    let m := snap ((lo + hi) / 2)
    if ((Kin.mk 0 v0 a0).end (easeSegs v0 a0 m A J)).p ≤ d then easeSearch v0 a0 A J d n m hi
    else easeSearch v0 a0 A J d n lo m

/-- The last segment cut short by a time. -/
def cutLast (x : Rat) : List Seg → List Seg
  | [] => []
  | [g] => [{ g with dur := g.dur - x }]
  | g :: l => g :: cutLast x l

/-- The ramp down to V that reaches it with a deceleration of b left, and the stop from there. -/
def brakeSegs (v0 a0 V b A J : Rat) : List Seg :=
  let l := cutLast (snap (b / J)) (rampSegs 1 v0 a0 (V - b * b / (2 * J)) A J)
  let k := (Kin.mk 0 v0 a0).end l
  l ++ rampSegs 5 k.v k.a 0 A J

/-- The deceleration left at V, by halving, with which the stop covers d: the more is left, the shorter the path, down to the
stop at once. -/
def brakeSearch (v0 a0 V A J d : Rat) : Nat → Rat → Rat → Rat
  | 0, lo, _ => lo
  | n + 1, lo, hi =>
    let m := snap ((lo + hi) / 2)
    let l := brakeSegs v0 a0 V m A J
    if l.all (fun g => 0 ≤ g.dur) && decide (d < ((Kin.mk 0 v0 a0).end l).p) then brakeSearch v0 a0 V A J d n m hi
    else brakeSearch v0 a0 V A J d n lo m

/-- From a moving state to rest d ahead, d at or beyond the stopping point: ramp, cruise and stop (06 R144). The state is
given in the direction of motion. `vm` is the velocity at which its acceleration can reach zero soonest: from there on the
distance grows with the cruise velocity, and a deceleration in progress that leaves less than that distance is eased. Above V
the axis comes down to it; where the way by V and a cruise is longer than d, the deceleration that is left at V makes the path
as short as d. -/
def aheadSegs (v0 a0 d V A J : Rat) : List Seg :=
  let vm := v0 + a0 * ratAbs a0 / (2 * J)
  let cruise (vp : Rat) : List Seg :=
    let rest := d - reachDist v0 a0 vp A J
    rampSegs 1 v0 a0 vp A J ++ (if 0 < vp ∧ 0 < rest then [⟨4, snap (rest / vp), 0⟩] else []) ++ rampSegs 5 vp 0 0 A J
  keepSegs <|
    if reachDist v0 a0 V A J ≤ d then cruise V
    else if V < vm then brakeSegs v0 a0 V (brakeSearch v0 a0 V A J d 80 0 A) A J
    else if reachDist v0 a0 vm A J ≤ d then cruise (cruiseSearch v0 a0 A J d 80 vm V)
    else easeSegs v0 a0 (easeSearch v0 a0 A J d 80 (min a0 0) 0) A J

def Seg.flip (s : Seg) : Seg := { s with jerk := -s.jerk }

/-- The segments of a stop at once, and the point where it comes to rest. -/
def Kin.stopSegs (k : Kin) (A J : Rat) : List Seg := rampSegs 5 k.v k.a 0 A J
def Kin.stopPoint (k : Kin) (A J : Rat) : Rat := (k.end (k.stopSegs A J)).p

/-- Path to rest at a target, with the overshoot (06 R144, R151). -/
def Kin.toTarget (k : Kin) (target V A J : Rat) : List Seg × Rat :=
  let back (sp : Rat) (pre : List Seg) : List Seg :=
    if sp = target then pre
    else pre ++ restSegs (if target < sp then -1 else 1) (ratAbs (target - sp)) V A J
  if k.v = 0 ∧ k.a = 0 then (back k.p [], 0)
  else
    let sp := k.stopPoint A J
    if 0 < k.v ∧ sp ≤ target then (aheadSegs k.v k.a (target - k.p) V A J, 0)
    else if k.v < 0 ∧ target ≤ sp then ((aheadSegs (-k.v) (-k.a) (k.p - target) V A J).map Seg.flip, 0)
    else (back sp (k.stopSegs A J), ratAbs (sp - k.p))

/-! ### Plans -/

/-- State and segment number at time tau of a list of segments; after the last the velocity holds. -/
def walkSegs : Kin → List Seg → Rat → Kin × Nat
  | k, [], tau => ({ p := k.p + k.v * tau, v := k.v, a := 0 }, if k.v = 0 then 0 else 4)
  | k, s :: l, tau => if tau ≤ s.dur then (k.at s.jerk tau, s.no) else walkSegs (k.after s) l (tau - s.dur)

/-- What is left of the segment in progress at time tau: the next segment boundary is its end. -/
def cutSegs : List Seg → Rat → List Seg
  | [], _ => []
  | g :: l, d => if d ≤ g.dur then [{ g with dur := g.dur - d }] else cutSegs l (d - g.dur)

/-- Tick at which the last segment ends. -/
def Plan.endTick (pl : Plan) : Rat := pl.start + segsDur pl.segs * ticksPerSecond

def Plan.at (pl : Plan) (t : Rat) : Kin × Nat :=
  match pl.dest with
  | some d => if pl.endTick ≤ t then ({ p := d, v := 0, a := 0 }, 0)
    else walkSegs pl.kin pl.segs ((t - pl.start) / ticksPerSecond)
  | none => walkSegs pl.kin pl.segs ((t - pl.start) / ticksPerSecond)

/-- Position at half-tick h. -/
def Plan.posHalf (pl : Plan) (h : Nat) : Rat := (pl.at ((h : Rat) / 2)).1.p
def Plan.velHalf (pl : Plan) (h : Nat) : Rat := (pl.at ((h : Rat) / 2)).1.v

/-- The first half-tick in (lo, hi] at which a condition that stays true once true holds, by halving. -/
def firstHalf (f : Nat → Bool) : Nat → Nat → Nat → Nat
  | 0, _, hi => hi
  | n + 1, lo, hi => if hi ≤ lo + 1 then hi else
    let m := (lo + hi) / 2;
    if f m then firstHalf f n lo m else firstHalf f n m hi

/-- Half-ticks at which a plan's segments end. -/
def segEnds : Rat → List Seg → List Nat
  | _, [] => []
  | t, s :: l => let e := t + s.dur * ticksPerSecond; (e * 2).ceil.toNat :: segEnds e l

/-- Crossing of `up` or `down` in a span over which the velocity keeps its sign. -/
def Plan.crossSpan (pl : Plan) (up down : Rat) (lo hi : Nat) : Option (Nat × Bool) :=
  if up ≤ pl.posHalf hi then some (firstHalf (fun h => decide (up ≤ pl.posHalf h)) 64 lo hi, true)
  else if pl.posHalf hi ≤ down then some (firstHalf (fun h => decide (pl.posHalf h ≤ down)) 64 lo hi, false)
  else none

/-- A span of one segment, cut where the velocity changes sign. -/
def Plan.crossSeg (pl : Plan) (up down : Rat) (lo hi : Nat) : Option (Nat × Bool) :=
  if hi ≤ lo then none
  else if pl.velHalf lo * pl.velHalf hi < 0 then
    let pos := decide (0 < pl.velHalf lo)
    let m := firstHalf (fun h => decide (0 < pl.velHalf h) != pos) 64 lo hi
    match pl.crossSpan up down lo m with
    | some x => some x
    | none => pl.crossSpan up down m hi
  else pl.crossSpan up down lo hi

def Plan.crossSegs (pl : Plan) (up down : Rat) : Nat → List Nat → Option (Nat × Bool)
  | _, [] => none
  | lo, e :: l =>
    match pl.crossSeg up down lo e with
    | some x => some x
    | none => pl.crossSegs up down (max lo e) l

/-- The half-tick after `lo` at which the profile first reaches `up` or `down`. A plan that ends at rest reaches its
destination by its end. -/
def Plan.cross (pl : Plan) (up down : Rat) (lo : Nat) : Option (Nat × Bool) :=
  match pl.crossSegs up down lo (segEnds pl.start pl.segs) with
  | some x => some x
  | none =>
    let h := max lo (pl.endTick * 2).ceil.toNat
    match pl.dest with
    | some d => if up ≤ d then some (h, true) else if (d : Rat) ≤ down then some (h, false) else none
    | none =>
      let k := pl.at ((h : Rat) / 2)
      if 0 < k.1.v then some (h + ((up - k.1.p) / k.1.v * ticksPerSecond * 2).ceil.toNat, true)
      else if k.1.v < 0 then some (h + ((down - k.1.p) / k.1.v * ticksPerSecond * 2).ceil.toNat, false)
      else none

/-! ### Gearing (06 R156 to R158) -/

/-- Master travel from `x0` in the direction of a blend; from engagement it counts in both directions (R157, R158). -/
def Gear.travel (g : Gear) (u : Int) : Int :=
  if g.blending then (if g.up then u - g.x0 else g.x0 - u) else (u - g.x0).natAbs

/-- The ratio at a master position, in pu per count. It is a function of the position alone, so that backing up within a blend
retraces it; behind `at_pos` r1 is not restored, and r2 holds (R156, R158; log entry 143). -/
def Gear.ratioAt (g : Gear) (u : Int) : Rat :=
  let d := min (g.travel u) g.len
  if g.len = 0 ∨ d < 0 then mkRat g.r2 (2 ^ 32)
  else mkRat g.r1 (2 ^ 32) + mkRat (g.r2 - g.r1) (2 ^ 32) * d / g.len

/-- p one count further on from p(x): the ratio is linear between whole counts. -/
def Gear.stepFrom (g : Gear) (p : Rat) (x : Int) (up : Bool) : Rat :=
  let y := if up then x + 1 else x - 1
  let r := (g.ratioAt x + g.ratioAt y) / 2
  if up then p + r else p - r

/-! ### The axis -/

/-- The profile point of an axis at a tick: its plan's, or rest at its position. A geared axis has |r| times the master's
velocity. -/
def Axis.kin (a : Axis) (t : Nat) : Kin :=
  match a.plan with
  | some pl => (pl.at t).1
  | none =>
    match a.gear with
    | some g =>
      if a.st = .geared ∧ g.tEst < 0xFFFFFFFF ∧ t < g.stamp + 300000 then
        { p := a.pos, v := (g.ahead - g.p) * ticksPerSecond * 256 / g.tEst, a := 0 }
      else { p := a.pos, v := 0, a := 0 }
    | none => { p := a.pos, v := 0, a := 0 }

/-- Microstep index: (s p + idx_ofs) mod 1,024 (07 R167). -/
def Axis.index (a : Axis) : Nat :=
  (((if a.cfg.invert then -a.pos else a.pos) + a.drive.idxOfs) % 1024).toNat

/-- Offset that keeps the index when the position or the sense is redefined (07 R171). -/
def Axis.reref (a : Axis) (pos : Int) (invert : Bool) : Axis :=
  { a with pos, cfg.invert := invert, drive.idxOfs := ((a.index - (if invert then -pos else pos)) % 1024).toNat }

/-- Resolution that a velocity asks for at a step event (07 R169): one step coarser or finer. -/
def Axis.wantRes (a : Axis) (v : Rat) : Nat :=
  let f := ratAbs v / 2 ^ a.drive.res
  if a.drive.res < 8 ∧ (a.drive.lev.fUp : Rat) < f then
    (if a.index % 2 ^ (a.drive.res + 1) = 0 then a.drive.res + 1 else a.drive.res)
  else if 0 < a.drive.res ∧ 2 * f < mkRat 3 4 * a.drive.lev.fUp then a.drive.res - 1
  else a.drive.res

/-- The finest change that keeps the next boundary from lying beyond the move's end (07 R170). -/
def fitRes (left : Nat) : Nat → Nat
  | 0 => 0
  | r + 1 => if left < 2 ^ (r + 1) then fitRes left r else r + 1

/-- The resolution refined so that the next boundary in a direction does not lie beyond the move's end (07 R170). -/
def Axis.fitted (a : Axis) (up : Bool) : Nat :=
  match a.plan.bind fun pl => pl.dest with
  | some d => if (up ∧ a.pos ≤ d) ∨ (!up ∧ d ≤ a.pos) then fitRes (d - a.pos).natAbs a.drive.res else a.drive.res
  | none => a.drive.res

/-- Step size in force, in pu, in a direction. -/
def Axis.stepSize (a : Axis) (up : Bool) : Nat := 2 ^ a.fitted up

/-- The next step: its instant and the position it gives (06 R145, R146, R156). No interval is under 750 ticks. -/
def Axis.nextStep (a : Axis) : Option (Nat × Int) :=
  let up := a.stepSize true
  let down := a.stepSize false
  match a.plan with
  | some pl =>
    match pl.cross (a.pos + up : Int) (a.pos - down : Int) (2 * max a.steps.last pl.start.floor.toNat) with
    | some (h, true) => some (max (h / 2) (a.steps.last + 750), a.pos + up)
    | some (h, false) => some (max (h / 2) (a.steps.last + 750), a.pos - down)
    | none => none
  | none =>
    match a.gear with
    | some g =>
      if a.st ≠ .geared then none
      else
        let d := g.ahead - g.p
        let tickOf (b : Int) : Nat :=
          if d = 0 ∨ ((b : Rat) - g.p) / d ≤ 0 then 0
          else (ratRound (g.stamp + ((b : Rat) - g.p) / d * g.tEst / 256)).toNat
        let goUp := decide (((a.pos + up : Int) : Rat) ≤ max g.p g.ahead)
        let goDown := decide (min g.p g.ahead ≤ ((a.pos - down : Int) : Rat))
        if goUp ∧ (0 ≤ d ∨ !goDown) then some (max (tickOf (a.pos + up)) (a.steps.last + 750), a.pos + up)
        else if goDown then some (max (tickOf (a.pos - down)) (a.steps.last + 750), a.pos - down)
        else none
    | none => none

/-- The step emitted: the position moves, the resolution follows (06 R146, 07 R169, R170): the one that the step was made at,
then the choice for the next. -/
def Axis.stepped (a : Axis) (t : Nat) (pos : Int) : Axis :=
  let int := t - a.steps.last
  let up := decide (a.pos < pos)
  let a := { a with pos, steps.last := t, steps.steps := a.steps.steps + 1, drive.res := a.fitted up
                    steps.lastInt := if int ≤ 2 ^ 32 - 1 then int else (int - 1) % (2 ^ 32 - 1) + 1 }
  let a := { a with drive.res := a.wantRes (a.kin t).v };
  { a with drive.res := a.fitted up }

/-- Step instants that the interval queue holds: up to 16 ahead (06 R145). -/
def Axis.queued (a : Axis) : Nat → Nat
  | 0 => 0
  | n + 1 =>
    match a.nextStep with
    | none => 0
    | some (t, pos) => 1 + (a.stepped t pos).queued n

/-- A plan from the present point. -/
def Axis.startPlan (a : Axis) (t : Nat) (segs : List Seg) (dest : Option Int) : Axis :=
  { a with plan := some { start := t, kin := (a.kin t).snapped, segs, dest }
           steps.last := if a.plan.isNone ∧ a.st ≠ .geared then t else a.steps.last }

/-- A stop from the present point under A and J in pu/s² and full steps/s³. It rests on the last whole pu of its path. -/
def Axis.stopPlan (a : Axis) (t A J : Nat) : Axis :=
  let k := (a.kin t).snapped
  let sp := k.stopPoint A (256 * J)
  let dest := if k.p ≤ sp then sp.floor else sp.ceil
  if k.v = 0 ∧ k.a = 0 then { a with plan := none } else a.startPlan t (k.stopSegs A (256 * J)) (some dest)

/-- A position move from the present point (06 R144, R151): the overshoot is recorded. -/
def Axis.movePlan (a : Axis) (t : Nat) (target : Int) (V A J : Nat) : Axis :=
  let x := (a.kin t).snapped.toTarget target V A (256 * J)
  if x.1.isEmpty then { a with plan := none, overshoot := 0 }
  else { a.startPlan t x.1 (some target) with overshoot := (ratRound x.2).toNat }

/-- A velocity move from the present point. -/
def Axis.velPlan (a : Axis) (t : Nat) (vel : Int) (A J : Nat) : Axis :=
  let k := (a.kin t).snapped
  if vel = 0 then a.stopPlan t A J else a.startPlan t (rampSegs 1 k.v k.a vel A (256 * J)) none

/-- Encoder-derived position in pu (06 Table 6.1, `follow_limit`). -/
def State.encoderPos (s : State) (a : Axis) : Option Rat :=
  match a.cfg.enc with
  | none => none
  | some e => if a.cfg.ratio = 0 then none
    else some (a.encOfs + mkRat (s.encs[e].pos * 256 * 2 ^ 32) a.cfg.ratio)

/-- `AXn_FOLLOW_ERR`: axis position less the encoder-derived one, 0 without an encoder. -/
def State.followErr (s : State) (a : Axis) : Int :=
  match s.encoderPos a with
  | none => 0
  | some x => ratRound ((a.pos : Rat) - x)

/-- The offset is set so that the encoder-derived position is the axis's (log entry 24). -/
def State.alignEncoder (s : State) (a : Axis) : Axis :=
  match a.cfg.enc with
  | none => { a with encOfs := 0 }
  | some e => if a.cfg.ratio = 0 then { a with encOfs := 0 }
    else { a with encOfs := (a.pos : Rat) - mkRat (s.encs[e].pos * 256 * 2 ^ 32) a.cfg.ratio }

end Sys2Proof.Machine
end

