-- ==== Sys2Proof/Machine/Chopper.lean ====
section
/-! DEFINITION. Microstep thresholds, the chopper of each phase and the bridge outputs (07 R164 to R175). -/

namespace Sys2Proof.Machine

/-! ### Thresholds (07 R168) -/

/-- round(1024 cos) of a quarter turn in steps of 360/1,024 degrees. -/
def cosPart0 : List Nat :=
  [1024, 1024, 1024, 1024, 1024, 1024, 1023, 1023, 1023, 1022, 1022, 1022, 1021, 1021, 1020, 1020, 1019, 1018, 1018,
   1017, 1016, 1016, 1015, 1014, 1013, 1012, 1011, 1010, 1009, 1008, 1007, 1006, 1004, 1003, 1002, 1000, 999, 998,
   996, 995, 993, 992, 990, 989, 987, 985, 983, 982, 980, 978, 976, 974, 972, 970, 968, 966, 964, 962, 960, 958, 955,
   953, 951, 948]

def cosPart1 : List Nat :=
  [946, 944, 941, 939, 936, 934, 931, 928, 926, 923, 920, 917, 915, 912, 909, 906, 903, 900, 897, 894, 891, 888, 885,
   882, 878, 875, 872, 868, 865, 862, 858, 855, 851, 848, 844, 841, 837, 834, 830, 826, 822, 819, 815, 811, 807, 803,
   799, 796, 792, 788, 784, 779, 775, 771, 767, 763, 759, 755, 750, 746, 742, 737, 733, 729]

def cosPart2 : List Nat :=
  [724, 720, 715, 711, 706, 702, 697, 692, 688, 683, 678, 674, 669, 664, 659, 654, 650, 645, 640, 635, 630, 625, 620,
   615, 610, 605, 600, 595, 590, 584, 579, 574, 569, 564, 558, 553, 548, 543, 537, 532, 526, 521, 516, 510, 505, 499,
   494, 488, 483, 477, 472, 466, 460, 455, 449, 443, 438, 432, 426, 421, 415, 409, 403, 398]

def cosPart3 : List Nat :=
  [392, 386, 380, 374, 369, 363, 357, 351, 345, 339, 333, 327, 321, 315, 309, 303, 297, 291, 285, 279, 273, 267, 261,
   255, 249, 243, 237, 230, 224, 218, 212, 206, 200, 194, 187, 181, 175, 169, 163, 156, 150, 144, 138, 132, 125, 119,
   113, 107, 100, 94, 88, 82, 75, 69, 63, 57, 50, 44, 38, 31, 25, 19, 13, 6]

def cosPart4 : List Nat :=
  [0]

def cosQuarter : List Nat := cosPart0 ++ cosPart1 ++ cosPart2 ++ cosPart3 ++ cosPart4

/-- round(1024 |cos|) and whether the cosine is negative, at an angle in 1/1,024 turns. -/
def cosAt (j : Nat) : Nat × Bool :=
  let j := j % 1024
  if j ≤ 256 then (cosQuarter.getD j 0, false)
  else if j ≤ 512 then (cosQuarter.getD (512 - j) 0, true)
  else if j < 768 then (cosQuarter.getD (j - 512) 0, true)
  else (cosQuarter.getD (1024 - j) 0, false)

/-- I_cur at a tick: linear between its ends (07 R175). -/
def Current.now (c : Current) (t : Nat) : Nat :=
  if c.dur = 0 ∨ c.start + c.dur ≤ t then c.hi
  else ((c.lo : Int) + ((c.hi : Int) - c.lo) * ((t - c.start : Nat) : Int) / c.dur).toNat

/-- round(1024 |cos|) or round(1024 |sin|) of a phase at the present index, and whether it is negative (07 R168). -/
def Axis.mag (a : Axis) : Phase → Nat × Bool
  | .a => cosAt (a.index + 128)
  | .b => cosAt (a.index + 128 + 768)

/-- Threshold and polarity of a phase at the present index and current (07 R168). -/
def Axis.thr (a : Axis) (ph : Phase) (t : Nat) : Nat × Bool :=
  let m := a.mag ph;
  ((m.1 * a.drive.cur.now t + 512) / 1024, m.2)

def Axis.chop (a : Axis) : Phase → Chop
  | .a => a.drive.chopA
  | .b => a.drive.chopB

def Axis.setChop (a : Axis) (ph : Phase) (c : Chop) : Axis :=
  match ph with
  | .a => { a with drive.chopA := c }
  | .b => { a with drive.chopB := c }

/-- The output that a phase drives high just before a tick, or is to drive once its t_dead is over: X1, X2 or none. -/
def Chop.drives (c : Chop) (t : Nat) : Option Bool :=
  match c.st with
  | .on => some (!c.neg)
  | .off => if 0 < c.fast ∧ t ≤ c.since + c.fast then some c.neg else none
  | .held | .idle => none

/-- The end of the t_dead of a change at a tick to a state that drives an output: from an opposite one it lasts t_dead, and one
that is in progress goes on unless the output driven before it is driven again (R165). -/
def Axis.deadFor (a : Axis) (c : Chop) (t : Nat) (high : Bool) : Nat :=
  match c.drives t with
  | some p => if t < c.deadTo then (if p = high then c.deadTo else 0) else if p = high then 0 else t + a.drive.chop.tDead
  | none => 0

/-- A phase takes up its threshold: ON of its polarity, or SLOW for a threshold of zero (R172, R173). -/
def Axis.phaseOn (a : Axis) (t : Nat) (ph : Phase) : Axis :=
  let c := a.chop ph
  let x := a.thr ph t
  if x.1 = 0 then a.setChop ph { c with st := .held, since := t }
  else a.setChop ph { c with st := .on, since := t, blanked := false, neg := x.2, ofs := c.ofsRec
                             deadTo := a.deadFor c t (!x.2), turning := false
                             cycles := (t :: c.cycles).filter fun u => t < u + 1500000 }

/-- OFF begins: FAST for t_off x mix / 16 ticks of the polarity, then SLOW (R172). -/
def Axis.phaseOff (a : Axis) (t : Nat) (ph : Phase) : Axis :=
  let c := a.chop ph
  let mix := if c.falling then a.drive.chop.mixFall else a.drive.chop.mixRise
  let fast := a.drive.chop.tOff * mix / 16
  a.setChop ph { c with st := .off, since := t, fast, turning := false, deadTo := if fast = 0 then 0 else a.deadFor c t c.neg }

/-- First tick at which a current on its way up has reached a code. -/
def Current.rises (c : Current) (n : Nat) : Nat :=
  c.start + ((n - c.lo) * c.dur + (c.hi - c.lo) - 1) / max (c.hi - c.lo) 1

/-- A phase as it is at a tick: a threshold that a current on its way up has brought above zero turns a held phase ON at the
tick at which it did, and one that a falling current has brought to zero holds it in SLOW (R173). -/
def Axis.phaseSync (a : Axis) (t : Nat) (ph : Phase) : Axis :=
  let c := a.chop ph
  let x := a.thr ph t
  if c.st = .held ∧ 0 < x.1 then
    a.phaseOn (if a.drive.cur.dur = 0 then t else min t (a.drive.cur.rises ((511 + (a.mag ph).1) / (a.mag ph).1))) ph
  else if (c.st = .on ∨ c.st = .off) ∧ x.1 = 0 then
    a.setChop ph { c with st := .held, since := t, onMaxRun := if c.st = .on then 0 else c.onMaxRun }
  else a

def Axis.sync (a : Axis) (t : Nat) : Axis := (a.phaseSync t .a).phaseSync t .b

/-- A phase after a step event (R172, R173). A change of polarity is followed by a full t_off of FAST of the old polarity, which
further steps do not begin again, and an ON period that it or a threshold of zero ends was ended by no t_on_max (R174). -/
def Axis.phaseStep (a : Axis) (t : Nat) (ph : Phase) (before : Nat × Bool) : Axis :=
  let c := a.chop ph
  let x := a.thr ph t
  let c := { c with falling := decide (x.1 < before.1) }
  if c.st = .idle then a.setChop ph c
  else if x.1 = 0 then a.setChop ph { c with st := .held, since := t, onMaxRun := if c.st = .on then 0 else c.onMaxRun }
  else if c.st = .off ∧ c.turning then a.setChop ph c
  else if x.2 != c.neg then
    a.setChop ph { c with st := .off, since := t, fast := a.drive.chop.tOff, turning := true, deadTo := a.deadFor c t c.neg
                          onMaxRun := if c.st = .on then 0 else c.onMaxRun }
  else if c.st = .held then (a.setChop ph c).phaseOn t ph
  else a.setChop ph c

/-- The bridges are driven at the present index (Table 7.2). -/
def Axis.energise (a : Axis) (t : Nat) : Axis :=
  (({ a with drive.en := true }).phaseOn t .a).phaseOn t .b

/-- The bridge of a phase is off. An ON period in progress is not ended by t_on_max (R174). -/
def Chop.bridgeOff (c : Chop) : Chop := { c with st := .idle, onMaxRun := if c.st = .on then 0 else c.onMaxRun }

/-- The bridges are off: `AXn_EN` low, both phases OFF. -/
def Axis.bridgesOff (a : Axis) : Axis :=
  { a with drive.en := false, drive.chopA := a.drive.chopA.bridgeOff, drive.chopB := a.drive.chopB.bridgeOff }

/-- I_cur at once. -/
def Axis.setCur (a : Axis) (t n : Nat) : Axis :=
  let a := a.sync t
  ({ a with drive.cur := Current.at n }).sync t

/-- I_cur moves linearly from a code to another (R175, Table 7.4). -/
def Axis.rampCur (a : Axis) (t dur lo hi : Nat) : Axis :=
  let a := a.sync t
  { a with drive.cur := { start := t, dur, lo, hi } }

/-- Threshold code at the comparator of a phase: raised by the record's offset, clamped (09 R219). -/
def Axis.comparator (a : Axis) (ph : Phase) (t : Nat) : Nat :=
  (clampInt 0 1023 ((a.thr ph t).1 + (a.chop ph).ofs)).toNat

/-- Register code of a chopper state (Table 7.8): 0 ON, 1 FAST, 2 SLOW, 3 OFF. -/
def Axis.chopCode (a : Axis) (t : Nat) (ph : Phase) : Nat :=
  let c := (a.phaseSync t ph).chop ph
  match c.st with
  | .on => 0
  | .off => if t < c.since + c.fast then 1 else 2
  | .held => 2
  | .idle => 3

/-- Levels of a phase's two pins (07 Table 7.1): X1, X2. A change between two states that drive opposite outputs passes through
SLOW for t_dead (R165). -/
def Axis.bridgePins (a : Axis) (t : Nat) (ph : Phase) : Bool × Bool :=
  let c := (a.phaseSync t ph).chop ph
  let slow := a.drive.chop.flags % 2 = 1
  if (c.st = .on ∨ c.st = .off) ∧ t < c.deadTo then (slow, slow)
  else match a.chopCode t ph with
    | 0 => (!c.neg, c.neg)
    | 1 => (c.neg, !c.neg)
    | 2 => (slow, slow)
    | _ => (false, false)

end Sys2Proof.Machine
end

