-- ==== Sys2Proof/Machine/Packets.lean ====
section
/-! DEFINITION. How a packet is taken from its command ring, checked, rejected, answered as a duplicate or accepted
(10 R230 to R247, R410), and how replies and event records are written (10 R231 to R239, 11 R274, R275). -/

namespace Sys2Proof.Machine

/-- Why a command is rejected: status, detail code and result word. -/
structure Reject where
  status : BitVec 16
  detail : BitVec 32
  result : BitVec 32              -- result word of the reply; 0 unless the owning chapter gives one
  deriving DecidableEq, Repr

def badParam (d : BitVec 32) : Option Reject := some ⟨0x0101, d, 0⟩
def badLength (d : BitVec 32) : Option Reject := some ⟨0x0102, d, 0⟩
def badState (d : BitVec 32) : Option Reject := some ⟨0x0103, d, 0⟩
def busy (d : BitVec 32) : Option Reject := some ⟨0x0104, d, 0⟩
def worldDenied (d : BitVec 32) : Option Reject := some ⟨0x0105, d, 0⟩
def noResource (d : BitVec 32) : Option Reject := some ⟨0x0106, d, 0⟩

/-- The first of a list of checks that fails. -/
def firstFail : List (Bool × Option Reject) → Option Reject
  | [] => none
  | (c, r) :: l => if c then r else firstFail l

/-- What one opcode adds to the common checks of 10 Table 10.3, and its effect once accepted. -/
structure PacketSpec where
  code : BitVec 16
  /-- Check 6 (R410): the opcode and every block that the parameters name belong to the ring's world. -/
  world : State → Packet → Bool → Bool
  /-- Check 10. -/
  len : Packet → Bool
  /-- Check 12 (00 R5). -/
  fitted : State → Packet → Bool
  /-- Check 13. -/
  check : State → Packet → Bool → Option Reject
  /-- The effect, given the world of its ring and its ACCEPT sequence. -/
  run : Packet → Bool → DWord → State → State

/-- The assigned opcodes (10 Table 10.4). -/
def assignedOpcodes : List Nat :=
  [0x0001, 0x0002, 0x0003, 0x0004, 0x0005, 0x0006, 0x0007, 0x0101, 0x0102, 0x0103, 0x0104, 0x0105,
   0x0201, 0x0202, 0x0203, 0x0204, 0x0205, 0x0206, 0x0207,
   0x0301, 0x0302, 0x0303, 0x0304, 0x0305, 0x0306, 0x0307, 0x0308, 0x0309, 0x030A,
   0x0401, 0x0402, 0x0403, 0x0404, 0x0501, 0x0502, 0x0503, 0x0504, 0x0505, 0x0506, 0x0507, 0x0508, 0x0509,
   0x0601, 0x0602, 0x0603, 0x0604, 0x0605, 0x0701, 0x0702, 0x0703, 0x0801, 0x0802, 0x0803,
   0x0901, 0x0902, 0x0903, 0x0904, 0x0A01, 0x0A02, 0x0A03, 0x0A04, 0x0A05, 0x0A06, 0x0A07,
   0x0B01, 0x0B02, 0x0B03]

/-- The Ledger commands, which may draw on the Ledger-command reserve (10 R252). -/
def ledgerOpcode (code : BitVec 16) : Bool := code == 0x0B01 || code == 0x0B02 || code == 0x0B03

/-- Slots that a packet occupies (10 R234). -/
def packetSlots (p : Packet) : Nat := (32 + p.paramLen.toNat + 63) / 64

/-- The parameter digest of a packet (10 R244). -/
def packetDigest (p : Packet) (code : BitVec 16) : BitVec 128 :=
  first16 (Config.sha384 (leBytes 2 code.toNat ++ leBytes 2 p.paramLen.toNat ++ p.params))

/-- Commands in flight: accepted, reply not yet written (10 R233). -/
def State.inFlight (s : State) : List Flight := s.cmd.flights.filter fun f => !f.replied
def State.inFlightOn (s : State) (ring : Nat) : Nat := (s.inFlight.filter fun f => f.ring == ring).length

/-- The device can take this packet now: its ring is served, the tail covers its slots, the in-flight limits and a
waiting fence_reply allow it (10 R233, R234, R239; 13 R310; 14 R345; 16 R370). -/
def State.takeable (s : State) (p : Packet) : Option Ring :=
  match s.ring? p.ring with
  | none => none
  | some r =>
    if decide (r.kind = .command) && r.sizeLog2 != 0 && !r.waitDoorbell && r.fenceHold.isNone && s.ldg.ready
        && decide (s.sys.mode ≠ .dormant) && !s.cmd.coreWait && !s.dma.chans[8].stuck && s.canHost r.secure
        && (if p.paramLen.toNat ≤ 4064 then packetSlots p ≤ r.used else 1 ≤ r.used)
        && s.inFlightOn p.ring < 256 && s.inFlight.length < 4096 then some r
    else none

/-- Checks 2 to 4 of 10 Table 10.3, with the reply ring that each failure uses. -/
def headerCheck (s : State) (p : Packet) (r : Ring) : Option Reject :=
  let replyOk := p.replyRing = 0 || match s.ring? p.replyRing.toNat with
    | some q => decide (q.kind = .reply) && q.secure == r.secure
    | none => false
  firstFail [(p.reserved != 0 || p.flags >>> 4 != 0, badParam 4), (!replyOk, badParam 6),
    (p.flags.getLsbD 3 != r.secure, worldDenied 8)]

/-- The reply ring of a packet: the bound one when it names none, or when check 2 or 3 fails (10 R236). -/
def replyRingOf (s : State) (p : Packet) (r : Ring) : Nat :=
  let named := p.replyRing != 0 && p.reserved == 0 && p.flags >>> 4 == 0 && match s.ring? p.replyRing.toNat with
    | some q => decide (q.kind = .reply) && q.secure == r.secure
    | none => false
  if named then p.replyRing.toNat else r.bind

/-- Opcodes that a paired second accepts (14 R337); 09 R221 answers the calibration opcodes among them. -/
def shadowOpcodes : List (BitVec 16) :=
  [0x0001, 0x0002, 0x0004, 0x0903, 0x0904, 0x0B01, 0x0501, 0x0502, 0x0503, 0x0504, 0x0505, 0x0506, 0x0507, 0x0508, 0x0509]

/-- Check 11: the device mode allows the opcode (13 R310). -/
def State.modeAllows (s : State) (code : BitVec 16) (p : Packet) (secure : Bool) : Bool :=
  let reader := code == 0x0002 || code == 0x0004 || code == 0x0B01
  let batchOp := code == 0x0102 || code == 0x0103 || code == 0x0104 || code == 0x0105
  (match s.sys.mode with
    | .startUp => reader
    | .safe => reader
    | .dormant => false
    | .ready => true
    | .run => !(code == 0x0003 && u8 p.params 0 != 5) && !(code == 0x0007 && u8 p.params 0 == 0xFF)
    | .service =>
      !(code == 0x0101 || code == 0x0203 || code == 0x0801) && (secure || reader || code == 0x0001)
    | .shadow => true)
  && (!s.second || shadowOpcodes.contains code)
  && !(batchOp && s.sys.batchState = .none)

/-- An ACCEPT entry of the current session, still held, with the ring and tag of a packet (10 R245). -/
def State.acceptedBefore (s : State) (p : Packet) : Option LedgerEntry :=
  s.ldg.entries.find? fun e => decide (e.kind = .accept) && e.ring == BitVec.ofNat 16 p.ring && e.tag == p.tag
    && s.ldg.sessionSeq.toNat ≤ e.seq.toNat

/-- Check 9: room for the ACCEPT entry and the DONE entry (10 R252). -/
def State.roomFor (s : State) (code : BitVec 16) : Bool :=
  s.generalRoom ≥ 2 || (ledgerOpcode code && s.ldg.ledgerReserve ≥ (if code = 0x0B03 then 3 else 2))

/-- A rejection (10 R237): no Ledger entry, no effect, the last rejection recorded, the reply formed. -/
def State.reject (p : Packet) (r : Ring) (code : BitVec 16) (j : Reject) (s : State) : State :=
  let full := j == ⟨0x0106, 0x0C, 0⟩
  let s := { s with cmd.rejected := satInc s.cmd.rejected, cmd.evt := setBit s.cmd.evt 0
                    cmd.lastRejRing := BitVec.ofNat 13 p.ring, cmd.lastRejStatus := j.status
                    cmd.lastRejTag := p.tag, cmd.lastRejDetail := j.detail }
  let s := s.when full fun s => ((s.setEvt .cmd 4).setEvt .ldg 0).fire .ldg 1
  (s.pushReply { ring := replyRingOf s p r, cmdRing := p.ring, status := j.status, opcode := code, tag := p.tag
                 seq := -1, cookie := p.cookie, detail := j.detail, result := j.result, time := s.time, fault := 0
                 flight := none, buffers := [] }).fire .cmd 0

/-- The DONE entry of an earlier command (10 R246). -/
def State.doneOf (s : State) (e : LedgerEntry) : Option LedgerEntry :=
  s.ldg.entries.find? fun d => decide (d.kind = .done) && d.ends == e.seq && e.seq.toNat < d.seq.toNat

/-- The reply of a duplicate (10 R246). -/
def dupReply (time : DWord) (d : DupAnswer) (seq : DWord) (status : BitVec 16) (detail result fault : BitVec 32) :
    Reply :=
  { ring := d.ring, cmdRing := d.cmdRing, status := 1, opcode := d.opcode, tag := d.tag, seq, cookie := d.cookie
    detail := (status.setWidth 32 <<< 16) ||| (detail &&& 0xFFFF), result, time, fault, flight := none, buffers := [] }

/-- A duplicate (10 R245, R246): a DUPLICATE entry, and the original's outcome once it is known. -/
def State.duplicate (p : Packet) (r : Ring) (code : BitVec 16) (e : LedgerEntry) (s : State) : State :=
  if s.generalRoom = 0 && s.ldg.ledgerReserve = 0 then s.reject p r code ⟨0x0106, 0x0C, 0⟩
  else
    let s := if s.second then s else s.drawLedger.appendEntry { LedgerEntry.blank .duplicate with
      tag := p.tag, opcode := code, ring := BitVec.ofNat 16 p.ring, status := 1, secure := r.secure, digest := packetDigest p code }
    let s := { s with cmd.dups := satInc s.cmd.dups, cmd.evt := setBit s.cmd.evt 5 }
    let d : DupAnswer := { ring := replyRingOf s p r, cmdRing := p.ring, opcode := code, tag := p.tag, cookie := p.cookie }
    match s.flight? e.seq with
    | some f =>
      if f.replied then s.pushReply (dupReply s.time d e.seq 2 0 0 0)
      else s.modFlight e.seq fun f => { f with dups := f.dups ++ [d] }
    | none =>
      match s.doneOf e with
      | some x => s.pushReply (dupReply s.time d e.seq x.status x.detail x.result x.fault)
      | none => s.pushReply (dupReply s.time d e.seq 0 0 0 0)

/-- The sequence that names an accepted command in the machine: that of its ACCEPT entry. A command that a second accepts
from its own host has no entry; a number beyond every sequence names it (log entry 32). -/
def State.acceptSeq (s : State) : DWord := if s.second then BitVec.ofNat 64 (2 ^ 63 + s.free) else s.ldg.nextSeq

/-- Acceptance (10 R238, R247): the ACCEPT entry comes before any change of state; the command is then in flight. -/
def State.accept (p : Packet) (r : Ring) (code : BitVec 16) (s : State) : State :=
  let seq := s.acceptSeq
  let f : Flight :=
    { seq, ring := p.ring, replyRing := replyRingOf s p r, secure := r.secure, opcode := code, flags := p.flags
      tag := p.tag, cookie := p.cookie, digest := packetDigest p code, params := p.params, hostData := p.hostData
      deadline := if p.deadlineUs = 0 then none else some (s.ns + 1000 * p.deadlineUs.toNat), begun := false
      finished := false, queuedReply := false, replied := false, dups := []
      kind := if s.second then .unledgered else .host }
  let s := if s.second then s.drawn
    else
      let s := if s.generalRoom ≥ 2 then s else { s with ldg.ledgerDrawn := s.ldg.ledgerDrawn + 2 }
      s.appendEntry { LedgerEntry.blank .accept with
        tag := p.tag, opcode := code, ring := BitVec.ofNat 16 p.ring, status := 0xFFFF, secure := r.secure
        digest := packetDigest p code }
  let s := { s with cmd.flights := s.cmd.flights ++ [f], cmd.accepted := s.cmd.accepted + 1 }
  if p.flags.getLsbD 2 then s.modRing p.ring fun r => { r with fenceHold := some seq } else s

/-- A packet rejected at check 1 (10 R236): one rejection to the bound ring, then the head goes to the tail. -/
def State.flushRing (p : Packet) (r : Ring) (code : BitVec 16) (s : State) : State :=
  let s := s.reject { p with replyRing := 0 } r code ⟨0x0102, 2, 0⟩
  (s.modRing p.ring fun r => { r with head := r.tail }).setEvt .cmd 6

/-- Checks 5 to 13 in order, after the header: what becomes of the packet. -/
inductive Verdict where
  | reject (j : Reject)
  | duplicate (e : LedgerEntry)
  | accept
  deriving DecidableEq, Repr

/-- The detail of a refusal at check 11: what a paired device of either role refuses has one of its own (14 R337). -/
def State.modeDetail (s : State) (code : BitVec 16) (p : Packet) : BitVec 32 :=
  let image (secure : Bool) : FwSlot := if secure then s.sec.sec[1 - s.sec.secRun] else s.sec.ctl[1 - s.sec.ctlRun]
  let paired :=
    (code = 0x0003 && u8 p.params 0 = 4) || code = 0x0A07
      || (code = 0x0A04 && [1, 2].contains (u8 p.params 0) && !(image (u8 p.params 0 = 2)).compatible)
  if s.second && paired then 0x907 else 0x0D

def PacketSpec.verdict (sp : PacketSpec) (s : State) (p : Packet) (r : Ring) : Verdict :=
  match headerCheck s p r with
  | some j => .reject j
  | none =>
    if !sp.world s p r.secure then .reject ⟨0x0105, 9, 0⟩
    else if p.deadlineUs ≠ 0 && p.deadlineUs.toNat < 1000 then .reject ⟨0x0101, 7, 0⟩
    else
      match s.acceptedBefore p with
      | some e => if e.digest = packetDigest p sp.code then .duplicate e else .reject ⟨0x0101, 5, 0⟩
      | none =>
        if !s.roomFor sp.code then .reject ⟨0x0106, 0x0C, 0⟩
        else if !sp.len p then .reject ⟨0x0102, 3, 0⟩
        else if !s.modeAllows sp.code p r.secure then .reject ⟨0x0103, s.modeDetail sp.code p, 0⟩
        else if !sp.fitted s p then .reject ⟨0x0106, 0x0B, 0⟩
        else match sp.check s p r.secure with
          | some j => .reject j
          | none => .accept

/-- The head moves past a packet that has been taken. -/
def State.takePacket (p : Packet) (s : State) : State :=
  let s := s.modRing p.ring fun r => { r with head := (r.head + packetSlots p) % r.size }
  match s.ring? p.ring with
  | some r => s.serves r
  | none => s

/-- A packet of an assigned opcode: taken when it can be, then rejected, answered as a duplicate, or accepted and run. -/
def State.packet (sp : PacketSpec) (p : Packet) (s : State) : State :=
  match s.takeable p with
  | none => s
  | some r =>
    if p.paramLen.toNat > 4064 then s.flushRing p r sp.code
    else
      match sp.verdict s p r with
      | .reject j => (s.takePacket p).reject p r sp.code j
      | .duplicate e => (s.takePacket p).duplicate p r sp.code e
      | .accept => sp.run p r.secure s.acceptSeq ((s.takePacket p).accept p r sp.code)

/-- A packet with an unassigned opcode or a bad header (10 R236): rejected, never accepted. A packet that passes checks
1 to 5 is no packet of this row, and nothing happens. -/
def State.badPacket (op : BitVec 16) (p : Packet) (s : State) : State :=
  match s.takeable p with
  | none => s
  | some r =>
    if p.paramLen.toNat > 4064 then s.flushRing p r op
    else
      match headerCheck s p r with
      | some j => (s.takePacket p).reject p r op j
      | none => if assignedOpcodes.contains op.toNat then s else (s.takePacket p).reject p r op ⟨0x0100, 1, 0⟩

def execBadOpcode (op : BitVec 16) (p : Packet) (s : State) : Host.Outcome State Fault Refusal :=
  .next (s.act p.tick (State.badPacket op p))

/-- Check 6 for an opcode of either world that names no block. -/
def eitherWorld : State → Packet → Bool → Bool := fun _ _ _ => true

/-- Check 6 for an opcode of the world of one block. -/
def blockWorld (b : BlockId) : State → Packet → Bool → Bool := fun s _ secure => s.secureBlock b == secure

/-- Check 6 for opcodes that only a secure ring carries. -/
def secureOnly : State → Packet → Bool → Bool := fun _ _ secure => secure

/-- Check 12 for opcodes that address no fitted unit. -/
def alwaysFitted : State → Packet → Bool := fun _ _ => true

/-- NOP (10 Table 10.4): answered OK with no other effect. -/
def nopSpec : PacketSpec where
  code := 0x0001
  world := eitherWorld
  len p := p.paramLen == 0
  fitted := alwaysFitted
  check _ _ _ := none
  run _ _ seq s := s.finishOk seq 0

def execNop (p : Packet) (s : State) : Host.Outcome State Fault Refusal := .next (s.act p.tick (State.packet nopSpec p))

/-! ### Writing replies and event records -/

/-- Bytes of a reply slot with zeros for `pass` (10 Table 10.2). -/
def Reply.bytes (r : Reply) : List Byte :=
  leBytes 2 r.status.toNat ++ leBytes 2 r.opcode.toNat ++ leBytes 4 r.tag.toNat ++ leBytes 8 r.seq.toNat
    ++ leBytes 8 r.cookie.toNat ++ leBytes 4 r.detail.toNat ++ leBytes 4 r.result.toNat ++ leBytes 8 r.time.toNat
    ++ leBytes 4 0 ++ leBytes 4 r.fault.toNat ++ leBytes 16 0

/-- A reply with fence_reply waits for the replies of every earlier accepted command of its ring (10 R239). -/
def State.replyAllowed (s : State) (r : Reply) : Bool :=
  match r.flight with
  | none => true
  | some q =>
    match s.flight? q with
    | none => true
    | some f => !f.flags.getLsbD 2 || s.inFlight.all fun g => g.ring != f.ring || f.seq.toNat ≤ g.seq.toNat

/-- The first reply that may go to a reply ring now. -/
def State.nextReply (s : State) (ring : Nat) : Option Reply :=
  s.cmd.replies.find? fun r => r.ring == ring && s.replyAllowed r

/-- What the writing of a reply ends: the flight, the hold of its ring, and the answers of its duplicates (10 R246). -/
def State.replyWritten (r : Reply) (s : State) : State :=
  match r.flight with
  | none => s
  | some q =>
    match s.flight? q with
    | none => s
    | some f =>
      let dups := f.dups.map fun d => dupReply s.time d q r.status r.detail r.result r.fault
      let s := { s with cmd.replies := dups ++ s.cmd.replies
                        cmd.flights := if f.finished then s.cmd.flights.filter fun x => x.seq != q else s.cmd.flights }
      let s := s.modFlight q fun f => { f with replied := true, dups := [] }
      s.modRing f.ring fun x => if x.fenceHold = some q then { x with fenceHold := none } else x

/-- REPLY_WRITE: the next reply of a ring goes to its slot when there is room and a transfer can be made; the command's
buffers come first, `pass` last (10 R231, R233, R235). -/
def State.writeReply (ring : Nat) (s : State) : State :=
  match s.ring? ring, s.nextReply ring with
  | some q, some r =>
    if decide (q.kind = .reply) && q.room > 0 && !q.waitDoorbell && s.canHost q.secure && !s.dma.chans[9].stuck then
      let s := s.each r.buffers fun b s => s.post (hostSpace q.secure) b.1 b.2
      let s := { s with cmd.replies := s.cmd.replies.erase r }
      (s.produceSlots ring [r.bytes] (some 40)).replyWritten r
    else s
  | _, _ => s

def execReplyWrite (t ring : Nat) (s : State) : Host.Outcome State Fault Refusal := .next (s.act t (State.writeReply ring))

/-- EVENT_RECORD_WRITE: the oldest waiting record of an event ring goes to its slot (11 R275). -/
def State.writeEvent (ring : Nat) (s : State) : State :=
  match s.ring? ring with
  | none => s
  | some q =>
    match q.events with
    | [] => s
    | e :: rest =>
      if q.room > 0 && !q.waitDoorbell && s.canHost q.secure && !s.dma.chans[10].stuck && !s.second then
        (s.modRing ring fun q => { q with events := rest }).produceSlots ring [e.bytes ++ leBytes 4 0] (some 60)
      else s

/-- Copies of Ledger entries that wait for a ledger-mirror ring (10 R249), one to a slot. -/
def State.writeMirror (ring : Nat) (s : State) : State :=
  match s.ring? ring with
  | none => s
  | some q =>
    match s.ldg.mirrorWaiting.find? fun x => x.1 = ring with
    | none => s
    | some e =>
      if decide (q.kind = .ledgerMirror) && q.room > 0 && !q.waitDoorbell && s.canHost q.secure && !s.dma.chans[11].stuck && !s.second then
        { s with ldg.mirrorWaiting := s.ldg.mirrorWaiting.erase e }.produceSlots ring [e.2.bytes] none
      else if decide (q.kind = .ledgerMirror) && q.room = 0 then s.setEvt .ldg 4 else s

def execEventRecordWrite (t ring : Nat) (s : State) : Host.Outcome State Fault Refusal :=
  .next (s.act t fun s => (s.writeEvent ring).writeMirror ring)

end Sys2Proof.Machine
end

