-- ==== Sys2Proof/Machine/TrigOps.lean ====
section
/-! DEFINITION. Trig records in force (09 R206, R207, R226). -/

namespace Sys2Proof.Machine

/-- Record indices (09 R207). -/
def videoIndex (n : Fin 8) (c : Fin 4) : Fin 64 := Fin.ofNat 64 (n.val * 4 + c.val)
def shadeIndex (n : Fin 8) : Fin 64 := Fin.ofNat 64 (32 + n.val)
def alignIndex (n : Fin 8) : Fin 64 := Fin.ofNat 64 (40 + n.val)
def madcIndex (k : Fin 2) : Fin 64 := Fin.ofNat 64 (48 + k.val)
def driveIndex (a : Fin 12) : Fin 64 := Fin.ofNat 64 (50 + a.val)
def timeIndex : Fin 64 := 62
def planIndex : Fin 64 := 63

def SlotState.get? {α : Type} : SlotState α → Option α
  | .valid x => some x
  | _ => none

/-- The record of a cell that is in force. -/
def TrigCell.current (c : TrigCell) : Option TrigRecord :=
  match c.force with
  | none => none
  | some false => c.a.get?
  | some true => c.b.get?

/-- The record of the other slot, if it is valid. -/
def TrigCell.other (c : TrigCell) : Option TrigRecord :=
  match c.force with
  | none => none
  | some false => c.b.get?
  | some true => c.a.get?

def State.trigRec (s : State) (i : Fin 64) : Option TrigRecord := s.trig.cells[i].current

/-- Generation in force of a record; 0 if absent. -/
def State.trigGen (s : State) (i : Fin 64) : Nat := ((s.trigRec i).map fun r => r.head.gen).getD 0

def State.modCell (i : Fin 64) (f : TrigCell → TrigCell) (s : State) : State :=
  { s with trig.cells := s.trig.cells.set i (f s.trig.cells[i]) }

def State.videoOf (s : State) (n : Fin 8) (c : Fin 4) : Option (TrigHead × VideoBody) :=
  match s.trigRec (videoIndex n c) with
  | some ⟨h, .video b⟩ => some (h, b)
  | _ => none

def State.shadeOf (s : State) (n : Fin 8) : Option (TrigHead × ShadeBody) :=
  match s.trigRec (shadeIndex n) with
  | some ⟨h, .shade b⟩ => some (h, b)
  | _ => none

def State.alignOf (s : State) (n : Fin 8) : Option (TrigHead × AlignBody) :=
  match s.trigRec (alignIndex n) with
  | some ⟨h, .align b⟩ => some (h, b)
  | _ => none

def State.madcOf (s : State) (k : Fin 2) : Option (TrigHead × MadcBody) :=
  match s.trigRec (madcIndex k) with
  | some ⟨h, .madc b⟩ => some (h, b)
  | _ => none

def State.driveOf (s : State) (a : Fin 12) : Option (TrigHead × DrivePhase × DrivePhase) :=
  match s.trigRec (driveIndex a) with
  | some ⟨h, .drive x y⟩ => some (h, x, y)
  | _ => none

def State.timeOf (s : State) : Option (TrigHead × List (List Nat)) :=
  match s.trigRec timeIndex with
  | some ⟨h, .time t⟩ => some (h, t)
  | _ => none

def State.planOf (s : State) : Option (TrigHead × PlanBody) :=
  match s.trigRec planIndex with
  | some ⟨h, .weather p⟩ => some (h, p)
  | _ => none

/-- The SHADE record matches a colour set and width (02 R48). -/
def State.shadeMatches (s : State) (n : Fin 8) (colours : List Nat) (width : Nat) : Bool :=
  match s.shadeOf n with
  | some (h, _) => h.colours == colours && h.width == width
  | none => false

/-- The refresh block of a SHADE record (04 Table 4.2). -/
def RefreshBlock.parse (l : List Byte) : RefreshBlock :=
  { enable := u8 l 0 == 1, passShift := u8 l 1, refreshWeight := u8 l 2, driftWeight := u8 l 3, refreshBound := u16 l 4
    gainBound := u16 l 6, darkBound := u16 l 8, validLimit := u16 l 10, darkFirst := u32 l 12, darkCount := u16 l 16
    staleSides := u16 l 18, gainFirst := u32 l 20, gainCount := u32 l 24, stalePixels := u32 l 28 }

/-- Candidates of a port's records are discarded (09 R208). -/
def State.dropCandidates (n : Fin 8) (s : State) : State :=
  let idx := (List.finRange 4).map (videoIndex n) ++ [shadeIndex n, alignIndex n]
  s.each idx fun i s => s.modCell i fun c => { c with cand := none }

/-- The last calibration that ended (TRIG_LAST, Table 9.13), with its event bit and generator. -/
def State.calLast (op idx : Nat) (status : BitVec 16) (detail : BitVec 32) (resid : Int) (s : State) : State :=
  let s := { s with trig.last := packWord [(status.toNat, 0), (idx, 16), (op, 24)], trig.lastDetail := detail
                    trig.lastResid := satInt32 resid }
  let s := s.when (status = 0 || status = 2) fun s => (s.setEvt .trig 0).fire .trig 0
  let s := s.when (status = 0x0201) fun s => s.setEvt .trig 1
  s.when (status = 0x0200) fun s => s.setEvt .trig 2

/-- A CAL_DRIVE whose axis leaves DISABLED ends BAD_STATE 0x518: `AXn_EN` stays low throughout the run (R219; log entry 148). -/
def State.endDriveCal (a : Fin 12) (s : State) : State :=
  match s.trig.runs.find? fun r => r.op = 9 && r.num = a.val with
  | none => s
  | some r =>
    ((State.calLast 9 (driveIndex a).val 0x0103 0x0518 0
      { s with trig.runs := s.trig.runs.filter fun x => x.seq ≠ r.seq }).finish r.seq 0x0103 0x0518 0)

end Sys2Proof.Machine
end

