-- ==== Sys2Proof/Machine/PortConfig.lean ====
section
/-! DEFINITION. The configuration of a port and what it does to it (02 R25 to R36), PATTERN_LOAD, the lane block (03 R71), and
the pattern and readout timing that follow from a table and a configuration. -/

namespace Sys2Proof.Machine

/-! ### Reading a configuration block (02 Table 2.2, 03 Table 3.5, 3.6) -/

/-- 4-bit fields, low nibble first. -/
def nibbles (l : List Byte) (off n : Nat) : List Nat :=
  (List.range n).map fun k => let b := byteAt l (off + k / 2); if k % 2 = 0 then b % 16 else b / 16

def LaneCfg.parse (l : List Byte) (off : Nat) : LaneCfg :=
  { mode := u8 l off, invert := u8 l (off + 1) % 2 = 1, shd := u16 l (off + 2), shr := u16 l (off + 4)
    shdV := u8 l (off + 6), shrV := u8 l (off + 7) }

def LaneBlock.parse (l : List Byte) (o : Nat) : LaneBlock :=
  { pxPeriod := u16 l (o + 88), pxHigh := u16 l (o + 90), rdStart := u32 l (o + 92), lead := u16 l (o + 96)
    pxckEn := u8 l (o + 98) = 1
    lanes := Vector.ofFn fun c : Fin 4 => LaneCfg.parse l (o + 100 + 12 * c.val) }

def PortCfg.parse (l : List Byte) (o : Nat) : PortCfg :=
  { digital := u8 l (o + 1) = 1, colourCount := u8 l (o + 2), pgLevel := u8 l (o + 3)
    colours := (List.range 4).map fun k => u8 l (o + 4 + k)
    width := u32 l (o + 8), sampleBits := u8 l (o + 12), lanes := u8 l (o + 13), dataOrder := u8 l (o + 14)
    encoder := Fin.ofNat 8 (u8 l (o + 15)), laneRate := u32 l (o + 16), down := u8 l (o + 20) = 1
    leadLines := u16 l (o + 22), trailLines := u16 l (o + 40), pitch := u64 l (o + 24), edgeOfs := i64 l (o + 32)
    trainWord := u16 l (o + 42), solWord := u16 l (o + 44), idleWord := u16 l (o + 46)
    pgIdle := BitVec.ofNat 24 (u32 l (o + 48)), lampPeriod := u32 l (o + 52), lampDuty := u32 l (o + 56)
    maxLines := u32 l (o + 60), pgMode := nibbles l (o + 64) 24, pgShut := nibbles l (o + 76) 24
    block := if u8 l (o + 1) = 1 then LaneBlock.fresh else LaneBlock.parse l o }

/-- Colour slots in use. -/
def PortCfg.slots (c : PortCfg) : List Nat := List.range c.colourCount
def PortCfg.slotMask (c : PortCfg) : Nat := 2 ^ c.colourCount - 1

/-- Samples of one line. -/
def PortCfg.samples (c : PortCfg) : Nat := c.width * c.colourCount

/-- Lane block checks (03 R71): ranges of Tables 3.5 and 3.6, CDS spacing, modes against the slots. -/
def laneBlockCheck (l : List Byte) (o : Nat) (c : PortCfg) : Option Reject :=
  let b := c.block
  let laneBad (k : Fin 4) : Bool :=
    let e := b.lanes[k]
    let off := o + 100 + 12 * k.val
    e.mode > 3 || u8 l (off + 1) > 1 || !zeroBytes l (off + 8) 4 || e.shd > 2 * b.pxPeriod - 1 || e.shdV > 15
      || (e.mode != 2 && (e.shr != 0 || e.shrV != 0)) || e.shrV > 15 || (e.mode == 2 && e.shd < e.shr + 3)
  let bad := b.pxPeriod < 15 || b.pxPeriod > 1500 || b.pxHigh < 1 || b.pxHigh > b.pxPeriod - 1 || b.rdStart > 4194303
    || b.lead > 1023 || (b.lead < 8 && (List.finRange 4).any fun k => b.lanes[k].mode == 1) || u8 l (o + 98) > 1
    || !zeroBytes l (o + 99) 1 || !zeroBytes l (o + 148) 4 || (List.finRange 4).any laneBad
  firstFail [(bad, badParam 0x20B),
    ((List.finRange 4).any fun k => (k.val < c.colourCount) == (b.lanes[k].mode == 3), badParam 0x20C)]

/-- The encoder that a configuration block at an offset names. -/
def cfgEncoder (l : List Byte) (o : Nat) : Option (Fin 8) :=
  if h : u8 l (o + 15) < 8 then some ⟨u8 l (o + 15), h⟩ else none

/-- The complete check of a configuration block at an offset (02 R25, R28, R30, Table 2.5). Fields for which Table 2.5 names no
detail take one of their kind (DESIGN CHOICE, log entry 20): geometry fields 0x0204, output fields 0x0205, and a training,
start or idle word wider than `sample_bits`, or an idle word equal to another, 0x0203. -/
def portCfgCheck (l : List Byte) (o : Nat) : Option Reject :=
  let c := PortCfg.parse l o
  let used := c.colours.take c.colourCount
  let colourBad := c.colourCount < 1 || c.colourCount > 4 || used.any (· > 5) || !used.Nodup
    || (c.colours.drop c.colourCount).any (· != 0xFF)
  let typ := u8 l (o + 1)
  let words := [c.trainWord, c.solWord, c.idleWord]
  let typeBad :=
    if typ = 1 then
      !([8, 10, 12, 14, 16].contains c.sampleBits) || !([1, 2, 4, 8].contains c.lanes) || c.dataOrder > 2
        || c.laneRate < 150000 || c.laneRate > 1500000 || words.any (fun w => w ≥ 2 ^ c.sampleBits)
        || c.idleWord == c.solWord || c.idleWord == c.trainWord
    else c.sampleBits != 16 || c.lanes != 0 || c.dataOrder != 0 || c.laneRate != 0
  let widthBad := c.width < 1 || c.width > 65536
    || (typ == 1 && c.lanes != 0 && (c.samples % c.lanes != 0 || (c.dataOrder == 2 && c.width % c.lanes != 0)))
  let geomBad := c.pitch == 0 || decide (c.edgeOfs - (c.leadLines * c.pitch : Nat) < 2 * (c.pitch : Int))
    || c.leadLines > 1023 || c.trailLines > 1023 || c.maxLines < 1 || c.maxLines > 2000000 || u8 l (o + 15) > 7
    || u8 l (o + 20) > 1
  let outBad := c.pgLevel > 1 || u32 l (o + 48) ≥ 2 ^ 24 || c.lampDuty > c.lampPeriod || c.pgMode.any (· > 4)
    || (c.pgMode.zip c.pgShut).any fun x => x.2 > 4 || (x.2 != 0 && x.1 != 0)
  firstFail [(typ > 1, badParam 0x203), (colourBad, badParam 0x201), (typeBad, badParam 0x203),
    (widthBad, badParam 0x202), (geomBad, badParam 0x204), (outBad, badParam 0x205),
    (!zeroBytes l (o + 21) 1, badParam 4), (typ == 0, laneBlockCheck l o c)]

/-! ### Port helpers -/

/-- The port that a parameter byte names. -/
def portAt (p : Packet) (off : Nat) : Option (Fin 8) :=
  if h : u8 p.params off < 8 then some ⟨u8 p.params off, h⟩ else none

/-- Check 6 for a command to the port named in byte 0; a number that names no port belongs to no world. -/
def portWorld (s : State) (p : Packet) (secure : Bool) : Bool :=
  match portAt p 0 with
  | some n => s.secureBlock (.port n) == secure
  | none => true

/-- Check 12 for a command to the port named in byte 0; a number that names no port is not fitted (00 R5). -/
def portFitted (s : State) (p : Packet) : Bool :=
  match portAt p 0 with
  | some n => s.fittedBlock (.port n)
  | none => false

/-- A reconfiguration or an arming waits on the port. -/
def Port.waitsBusy (p : Port) : Bool := !p.waits.arm.isEmpty || p.waits.reconfig.isSome

/-- Whether a video lane is fitted (00 R3, R5). -/
def State.laneFitted (s : State) (n : Fin 8) (c : Fin 4) : Bool := s.sys.fit.lanes.getLsbD (4 * n.val + c.val)

/-- Check 12 for the video lanes that a configuration block at an offset uses (00 R5). -/
def State.lanesFitted (s : State) (l : List Byte) (o : Nat) : Bool :=
  if h : u8 l o < 8 then
    u8 l (o + 1) != 0 || (List.finRange 4).all fun c => (LaneBlock.parse l o).lanes[c].mode = 3 || s.laneFitted ⟨u8 l o, h⟩ c
  else true

/-- No document side is latched or open on the port (log entry 21). -/
def Port.noSide (p : Port) : Bool := p.sides.isEmpty

/-- A document side is open: its first line has been triggered (02 R46). -/
def Port.docOpen (p : Port) : Bool := p.sides.any fun d => d.opened

/-- A line boundary: no line in progress and none waiting to start. -/
def Port.atBoundary (p : Port) : Bool := p.line.isNone && p.waiting.isEmpty

/-- Set a PORTn_STAT bit. A bit that becomes set while enabled also raises an event record (02 R51): status LINE_LOSS
for line_loss and OK for the others, the bit in `data` (log entry 22). -/
def State.portFlag (n : Fin 8) (bit : Nat) (s : State) : State :=
  let fresh := !s.ports[n].stat.getLsbD bit && s.ports[n].irqEn.getLsbD bit
  let s := s.setEvt (.port n) bit
  if fresh then s.event (.port n) (if bit = 1 then 0x0900 else 0) 0 (data := leBytes 4 (2 ^ bit)) else s

/-! ### Records that match a configuration (02 R48, 03 R72) -/

/-- The VIDEO records of the used slots agree with the colours (03 R72), and the SHADE record with colours and width. -/
def State.recordsMatch (s : State) (n : Fin 8) (c : PortCfg) : Bool :=
  let videoOk := (List.finRange 4).all fun k => k.val ≥ c.colourCount || match s.videoOf n k with
    | some (h, _) => h.colours.getD k.val 0xFF == c.colours.getD k.val 0xFF
    | none => false
  let shadeOk := s.shadeMatches n c.colours c.width
  c.digital || (videoOk && shadeOk)

/-- cal_needed of a configuration: calibration records do not match it (02 Table 2.12). -/
def State.setCalNeeded (n : Fin 8) (s : State) : State :=
  let need := !s.recordsMatch n s.ports[n].cfg
  let was := s.ports[n].calNeeded
  (s.modPort n fun p => { p with calNeeded := need }).when (need && !was) fun s => s.portFlag n 6

/-! ### Video power (03 R52, R56, R57) -/

/-- A lane powers up: every slice untested, the initial calibration to come (R56, R57). A lane in mode OFF stays down. -/
def VideoLane.powerUp (l : VideoLane) (e : LaneCfg) : VideoLane :=
  { VideoLane.fresh with
    pga := l.pga, offset := l.offset, gen := l.gen, changed := l.changed, ovr := l.ovr, und := l.und
    range := l.range, resid := l.resid
    order := if e.mode = 3 then [] else (List.finRange 9).take 8
    spare := if e.mode = 3 then none else some 8 }

/-- A lane powers down: a calibration in progress ends, retired slices stay retired until the next power-up (R57). -/
def VideoLane.powerDown (l : VideoLane) : VideoLane :=
  { l with calSlice := none, retry := false, steps := 0, swapReady := false, up := false }

/-- The lanes whose slots are in use (R52). -/
def PortCfg.lanesUsed (c : PortCfg) : BitVec 4 :=
  BitVec.ofNat 4 ((List.finRange 4).foldl (fun m k => if c.block.lanes[k].mode = 3 then m else m + 2 ^ k.val) 0)

/-- A lane is powered (R52). -/
def Port.laneOn (p : Port) (c : Fin 4) : Bool := p.vid.on && p.vid.powered.getLsbD c.val

/-- The lanes and the reference power up. -/
def Video.powerUp (t : Nat) (v : Video) (c : PortCfg) : Video :=
  { on := true, powered := c.lanesUsed, onTick := t, settled := false, ready := false
    lanes := Vector.ofFn fun k : Fin 4 => v.lanes[k].powerUp c.block.lanes[k] }

/-- The lanes and the reference power down. -/
def Video.powerDown (v : Video) : Video :=
  { on := false, powered := 0, onTick := 0, settled := false, ready := false, lanes := v.lanes.map VideoLane.powerDown }

/-- A port that stays analogue: a lane whose slot becomes used powers up and has its initial calibration to come, one whose
slot becomes unused powers down (R52). -/
def Video.relane (v : Video) (old c : PortCfg) : Video :=
  let wasOff (k : Fin 4) : Bool := old.block.lanes[k].mode == 3
  let isOff (k : Fin 4) : Bool := c.block.lanes[k].mode == 3
  { v with
    powered := c.lanesUsed
    ready := v.ready && (List.finRange 4).all fun k => !wasOff k || isOff k
    lanes := Vector.ofFn fun k : Fin 4 =>
      if wasOff k && !isOff k then v.lanes[k].powerUp c.block.lanes[k]
      else if !wasOff k && isOff k then v.lanes[k].powerDown else v.lanes[k] }

/-- The receiver without a lock: the counts of sync errors and the measured clock stay. -/
def Lvds.cleared (l : Lvds) : Lvds := { Lvds.fresh with errs := l.errs, ckKhz := l.ckKhz }

/-- Codes that VIDEO records give the lanes of a port, applied at once (03 R55 with no line in progress). -/
def State.applyVideo (n : Fin 8) (s : State) : State :=
  let lane (l : VideoLane) (r : Option (TrigHead × VideoBody)) : VideoLane :=
    match r with
    | some (h, r) => { l with pga := r.pga, offset := r.offset, gen := BitVec.ofNat 32 h.gen, changed := false }
    | none => { l with pga := 0, offset := 0, gen := 0, changed := false }
  s.modPort n fun p => { p with vid.lanes := Vector.ofFn fun k : Fin 4 => lane p.vid.lanes[k] (s.videoOf n k) }

/-! ### Applying a configuration (02 R30, R32, 04 R92) -/

/-- The delay store of a port is given back (11 R271). -/
def State.freeDelay (n : Fin 8) (s : State) : State := { s with cel.delays := s.cel.delays.set n none }

/-- Alignment and output format at their defaults (04 R92). An alignment that waits has had its boundary: its commands are
answered (04 R90). -/
def State.portDefaults (n : Fin 8) (c : PortCfg) (s : State) : State :=
  let q := s.ports[n].alignPending.filterMap fun a => a.seq
  State.finishAll q 0 0 0 ((s.modPort n fun p =>
    { p with align := Align.default, alignPending := [], fmt := OutFmt.default n c.slotMask
             fmtPending := none, caps := [] }).freeDelay n)

/-- The shading store without a record (04 R80): the refresh epoch and its count of clamped pixels clear only with a load
(04 R101), and a gap line that R55 excludes stays excluded. -/
def Shading.dropped (h : Shading) (loadPending : Bool) : Shading :=
  { Shading.none with epoch := h.epoch, clamped := h.clamped, excludeNext := h.excludeNext, loadPending }

/-- A new configuration takes effect: tables kept unless a pg_mode changes (R32), alignment and format kept unless the
colour set or width changes (04 R92), the lanes powered as the type asks (03 R56, R57). Changed VIDEO records come into force
with it, and the next gap line is excluded (03 R55). -/
def State.applyPortCfg (n : Fin 8) (c : PortCfg) (s : State) : State :=
  let old := s.ports[n]
  let shape := !old.configured || old.cfg.colours != c.colours || old.cfg.width != c.width
  let s := s.modPort n fun p => { p with cfg := c, configured := true }
  let s := s.when (old.cfg.pgMode != c.pgMode) fun s => s.modPort n fun p =>
    { p with tabA := EdgeTable.empty, tabB := EdgeTable.empty, active := none }
  let s := s.when shape fun s => s.portDefaults n c
  let s := s.when (shape || old.cfg.digital != c.digital) fun s => s.dropCandidates n
  let s := s.when shape fun s => s.modPort n fun p =>
    { p with shade := p.shade.dropped (s.shadeMatches n c.colours c.width) }
  let changed := old.configured && !c.digital && (List.finRange 4).any fun k => old.vid.lanes[k].changed
  let s := s.modPort n fun p =>
    { p with
      shade.excludeNext := p.shade.excludeNext || changed
      vid := if c.digital then p.vid.powerDown
        else if p.vid.on && decide (p.st ≠ .off) then p.vid.relane old.cfg c else p.vid.powerUp s.ticks c }
  let s := s.when (c.digital && (old.cfg.lanes != c.lanes || old.cfg.laneRate != c.laneRate
      || old.cfg.sampleBits != c.sampleBits || old.cfg.dataOrder != c.dataOrder || !old.cfg.digital)) fun s =>
    s.modPort n fun p => { p with lvds := p.lvds.cleared }
  (s.when (!c.digital) fun s => s.applyVideo n).setCalNeeded n

/-- The length that check 10 requires of a block of the given type (02 R30). -/
def cfgLenOk (p : Packet) (o : Nat) : Bool :=
  let len := p.paramLen.toNat
  let typ := u8 p.params (o + 1)
  if typ = 1 then len == o + 88 else if typ = 0 then len == o + 152 else len == o + 88 || len == o + 152

/-- Checks 6 and 12 for the encoder that a block names (10 R410). -/
def State.encWorld (s : State) (p : Packet) (o : Nat) (secure : Bool) : Bool :=
  match cfgEncoder p.params o with
  | some e => s.secureBlock (.enc e) == secure
  | none => true
def State.encFitted (s : State) (p : Packet) (o : Nat) : Bool :=
  match cfgEncoder p.params o with
  | some e => s.fittedBlock (.enc e)
  | none => true

/-! ### Edge tables (02 R31, R32, R35) -/

def edgeOutput (w : Word) : Nat := bitsOf w.toNat 31 27
def edgeLevel (w : Word) : Bool := w.getLsbD 26
def edgeVernier (w : Word) : Nat := bitsOf w.toNat 25 22
def edgeOffset (w : Word) : Nat := bitsOf w.toNat 21 0

/-- The entries of a PATTERN_LOAD, inline or from the host buffer. -/
def patternEdges (p : Packet) : List Word :=
  let count := u16 p.params 4
  if u64 p.params 8 = 0 then (List.range count).map fun k => word (u32 p.params (16 + 4 * k))
  else (List.range count).map fun k => word (u32 p.hostData (4 * k))

/-- Order and spacing of a table (02 R31). -/
def edgeOrderOk (shift : Nat) : List Word → Bool
  | [] => true
  | w :: l =>
    (match l with
      | [] => true
      | v :: _ => edgeOffset w ≤ edgeOffset v)
    && (l.all fun v => edgeOutput v != edgeOutput w || edgeOffset w * 2 ^ shift + 2 ≤ edgeOffset v * 2 ^ shift)
    && edgeOrderOk shift l

/-- Every entry names an EDGE output, and no vernier goes with a shift (02 R31). -/
def edgeModesOk (c : PortCfg) (shift : Nat) (l : List Word) : Bool :=
  l.all fun w => edgeOutput w < 24 && c.pgMode.getD (edgeOutput w) 1 == 0 && (shift == 0 || edgeVernier w == 0)

def Port.tab (p : Port) (b : Bool) : EdgeTable := if b then p.tabB else p.tabA
def Port.setTab (p : Port) (b : Bool) (t : EdgeTable) : Port := if b then { p with tabB := t } else { p with tabA := t }

/-- A table becomes the active one. -/
def Port.activate (p : Port) (b : Bool) : Port :=
  { p with active := some b, tabA.pending := 0, tabB.pending := 0 }

def State.loadPattern (p : Packet) (seq : DWord) (s : State) : State :=
  match portAt p 0 with
  | none => s
  | some n =>
    let b := u8 p.params 1 = 1
    let sw := u8 p.params 2
    let s := s.modPort n fun q =>
      let q := q.setTab b { edges := patternEdges p, shift := u8 p.params 3, pending := sw }
      if sw ≠ 0 && (q.active.isNone || q.st = .idle) then q.activate b else q
    s.finishOk seq 0

/-- PATTERN_LOAD (02 R31, R32). A table, switch or tick_shift out of its range is refused with detail 0x0206, for which the
spec names none (DESIGN CHOICE, log entry 20). -/
def patternLoadSpec : PacketSpec where
  code := 0x0202
  world := portWorld
  len p := if u64 p.params 8 = 0 then p.paramLen.toNat == 16 + 4 * u16 p.params 4 else p.paramLen.toNat == 16
  fitted := portFitted
  check s p _ :=
    match portAt p 0 with
    | none => badParam 0x206
    | some n =>
      let q := s.ports[n]
      let shift := u8 p.params 3
      let count := u16 p.params 4
      firstFail [(!zeroBytes p.params 6 2, badParam 4),
        (u8 p.params 1 > 1 || u8 p.params 2 > 2 || shift > 7 || count < 1 || count > 4096, badParam 0x206),
        (q.st = .off, badState 0x216), (q.active == some (u8 p.params 1 == 1), badState 0x208),
        (!edgeModesOk q.cfg shift (patternEdges p), badParam 0x207),
        (!edgeOrderOk shift (patternEdges p), badParam 0x206)]
  run p _ seq s := s.loadPattern p seq

def execPatternLoad (p : Packet) (s : State) : Host.Outcome State Fault Refusal :=
  .next (s.act p.tick (State.packet patternLoadSpec p))

/-! ### Pattern timing (02 R34, R36) -/

/-- The delay of a vernier step in 1/30 ps, table 0 for the pattern and 1 + c for lane c: the TIME record in effect on the
port in units of 0.1 ps; without a record, nominal steps of 41.7 ps (09 R210, R220). -/
def Port.vernier (p : Port) (table step : Nat) : Nat := 3 * (p.timeTables.getD table []).getD step (417 * step)

/-- Predicted line period of a port in ticks times 2^40, at an estimate of ticks per count: pitch x estimate (02 R36). -/
def Port.tlineFixed (p : Port) (tEst : Nat) : Nat := p.cfg.pitch * tEst

/-- Shutter shift of a slot in sixteenths of a tick: phase/256 x Tline to the nearest sixteenth (02 R36). -/
def Port.shutterShift (p : Port) (tEst slot : Nat) : Nat :=
  (2 * (p.align.phases.getD slot 0 * p.tlineFixed tEst * 16) + 256 * 2 ^ 40) / (2 * 256 * 2 ^ 40)

/-- Edge instants of the active table after a line's start, in 1/30 ps (a tick is 20,000), with output and level, for the
estimate at the line's trigger instant. -/
def State.lineEdges (s : State) (n : Fin 8) (tEst : Nat) : List (Nat × Nat × Bool) :=
  let p := s.ports[n]
  match p.active with
  | none => []
  | some b =>
    let t := p.tab b
    t.edges.map fun w =>
      let o := edgeOutput w
      let shut := p.cfg.pgShut.getD o 0
      let shift := if shut = 0 then 0 else 1250 * p.shutterShift tEst (shut - 1)
      (edgeOffset w * 2 ^ t.shift * 20000 + p.vernier 0 (edgeVernier w) + shift, o, edgeLevel w)

/-- Ticks from a line's start to its last edge, rounded up. -/
def edgesEnd (l : List (Nat × Nat × Bool)) : Nat := l.foldl (fun m e => max m ((e.1 + 19999) / 20000)) 0

/-- Rising edge of clock period i after the line's trigger, in ticks (03 R58). -/
def LaneBlock.rise (b : LaneBlock) (i : Nat) : Nat := b.rdStart + i * b.pxPeriod

/-- The clock runs for `lead_clocks` + width + 2 periods (03 R58): ticks from the line's trigger to the end of the last. -/
def PortCfg.clockEnd (c : PortCfg) : Nat := c.block.rise (c.block.lead + c.width + 2)

/-- The clock burst of a line that starts now; none while `pxck_enable` is 0 (03 R58). -/
def PortCfg.pxRun (c : PortCfg) (t : Nat) : List PxRun :=
  if c.digital || !c.block.pxckEn then []
  else [{ first := t + c.block.rise 0, stop := t + c.clockEnd, period := c.block.pxPeriod, high := c.block.pxHigh }]

/-- Data sample instant of pixel i on a lane after the line's trigger, in 1/30 ps: the rising edge of period `lead_clocks` + i,
`shd_delay` and the vernier step (03 R59). -/
def Port.dataInstant (p : Port) (c : Fin 4) (i : Nat) : Nat :=
  let e := p.cfg.block.lanes[c]
  (p.cfg.block.rise (p.cfg.block.lead + i) + e.shd) * 20000 + p.vernier (1 + c.val) e.shdV

/-- Reset sample instant of pixel i on a lane, in CDS mode only (03 R59). -/
def Port.resetInstant (p : Port) (c : Fin 4) (i : Nat) : Option Nat :=
  let e := p.cfg.block.lanes[c]
  if e.mode = 2 then some ((p.cfg.block.rise (p.cfg.block.lead + i) + e.shr) * 20000 + p.vernier (1 + c.val) e.shrV) else none

/-- The last data sample instant of a line over the lanes in use, after the trigger and in ticks rounded up (03 R60). -/
def Port.lastSample (p : Port) : Nat :=
  (List.finRange 4).foldl (fun m c =>
    if p.cfg.block.lanes[c].mode = 3 then m else max m ((p.dataInstant c (p.cfg.width - 1) + 19999) / 20000)) 0

/-- Bound of the last sample's arrival after the trigger on an analogue port, in ticks: 250 ns is 375 ticks (03 R60). -/
def Port.readoutEnd (p : Port) : Nat := p.lastSample + 375

/-- Minimum line period reported for powered lanes without a spare (03 R66): the full busy time plus 2 us; 0 with no such
lane. -/
def State.minPeriod (s : State) (n : Fin 8) : Nat :=
  let p := s.ports[n]
  if (List.finRange 4).any fun k => p.laneOn k && p.vid.lanes[k].noSpare then
    max p.readoutEnd (edgesEnd (s.lineEdges n p.grid.tEst)) + 3000
  else 0

/-- The lamps are on (02 Table 2.6, Table 2.9). -/
def Port.lampOn (p : Port) : Bool :=
  match p.st with
  | .scan | .hold => true
  | .cal => !p.darkPhase
  | .reconfig => p.keepLamp
  | _ => false

/-- The live level of an output at a tick (02 Table 2.6, R33): `pg_idle` outside a line, the last edge passed within. Before
the port's first line trigger there is no lamp waveform, and a LAMP_PWM output is held high while the lamps are on (DESIGN
CHOICE, log entry 106). -/
def State.outputLevel (s : State) (n : Fin 8) (o : Nat) : Bool :=
  let p := s.ports[n]
  let idle := p.cfg.pgIdle.getLsbD o
  match p.st with
  | .off => false
  | _ =>
    match p.cfg.pgMode.getD o 1 with
    | 0 =>
      match p.line with
      | none => idle
      | some r =>
        ((r.edges.filter fun e => e.2.1 == o && e.1 ≤ (s.ticks - r.start) * 20000).foldl
          (fun (a : Nat × Bool) e => if a.1 ≤ e.1 then (e.1, e.2.2) else a) (0, idle)).2
    | 1 => idle
    | 2 => p.lampOn
    | 3 =>
      p.lampOn && (p.cfg.lampPeriod == 0 || match p.lampFrom with
        | none => true
        | some i => (s.ticks - i) % p.cfg.lampPeriod < p.cfg.lampDuty)
    | _ => p.lvds.training.isSome

/-- The clock is high at a tick of its burst. -/
def PxRun.high? (r : PxRun) (t : Nat) : Bool :=
  decide (r.first ≤ t) && decide (t < r.stop) && decide ((t - r.first) % r.period < r.high)

/-- The level of `PXCKn` (03 R58): from each line's trigger plus `readout_start` it rises every `px_period` ticks and falls
`px_high` later, under the configuration the line was triggered with. It holds low after the last period, while `pxck_enable`
is 0, and on a port that is not analogue or is OFF. A line triggered before the two flush periods of the line before are over
adds its burst to that one. -/
def State.pxckLevel (s : State) (n : Fin 8) : Bool :=
  let p := s.ports[n]
  !p.cfg.digital && decide (p.st ≠ .off) && p.pxRuns.any fun r => r.high? s.ticks

end Sys2Proof.Machine
end

