-- ==== Sys2Proof/Machine/PaceOps.lean ====
section
/-! DEFINITION. What the pace governor's rules share (05 R103 to R129): groups, inputs, the control law, the feed gate, and
the course of a switchback up to the records it writes. -/

namespace Sys2Proof.Machine

def State.modGroup (g : Fin 4) (f : PaceGroup → PaceGroup) (s : State) : State :=
  { s with pace.groups := s.pace.groups.set g (f s.pace.groups[g]) }

def State.modPace (n : Fin 8) (f : PacePort → PacePort) (s : State) : State :=
  { s with pace.ports := s.pace.ports.set n (f s.pace.ports[n]) }

/-- The configuration of a group: the one in effect (log entry 69). -/
def State.paceCfg (s : State) (g : Fin 4) : Option PaceCfg := s.pace.groups[g].cfg

def allGroups : List (Fin 4) := List.finRange 4

/-- The enabled group that a port belongs to (05 R103). -/
def State.groupOfPort (s : State) (n : Fin 8) : Option (Fin 4) :=
  allGroups.find? fun g => match s.paceCfg g with
    | some c => c.mask.testBit n.val
    | none => false

/-- The enabled group whose master or feeder an axis is. -/
def State.groupOfAxis (s : State) (a : Fin 12) : Option (Fin 4) :=
  allGroups.find? fun g => match s.paceCfg g with
    | some c => c.master == a || c.feeder == some a
    | none => false

/-- The enabled group whose master encoder an encoder is. -/
def State.groupOfEnc (s : State) (e : Fin 8) : Option (Fin 4) :=
  allGroups.find? fun g => match s.paceCfg g with
    | some c => c.enc == e
    | none => false

/-- The group that a geared axis follows: it is geared, or keeps a geared move, to the group's encoder. -/
def State.groupOfGeared (s : State) (a : Fin 12) : Option (Fin 4) :=
  match s.axes[a].gear, s.axes[a].kept with
  | some g, _ => s.groupOfEnc g.src
  | none, some k => match k.gear with
    | some x => s.groupOfEnc x.1
    | none => none
  | none, none => none

def PaceCfg.ports (c : PaceCfg) : List (Fin 8) := maskPorts c.mask

/-- Ports of a group. -/
def State.groupPorts (s : State) (g : Fin 4) : List (Fin 8) :=
  match s.paceCfg g with
  | some c => c.ports
  | none => []

/-- An axis is under the control of its group's governor: enabled, not homing, in fault, parked or kept from it
(05 R104, 06 R154, R160). -/
def State.governed (s : State) (a : Fin 12) : Bool :=
  let x := s.axes[a]
  (s.groupOfAxis a).isSome && x.home.isNone && x.kept.isNone && x.waits.settle.isNone
    && (x.st = .idle || x.st = .moving)

/-- A batch is open: opened and not aborting (05 R104; 13). -/
def State.batchRuns (s : State) : Bool := s.sys.batchState = .opened || s.sys.batchState = .closing

/-- Some port still holds a side. -/
def State.anySide (s : State) : Bool := (List.finRange 8).any fun n => !s.ports[n].sides.isEmpty

/-- The groups run: RUN, or SHADOW in a second (14 R338), with a batch open (R104); a close brings the masters to rest once its sides have completed
(13 Table 13.8 step 2). -/
def State.groupRuns (s : State) : Bool :=
  (s.sys.mode = .run || s.sys.mode = .shadow) && (s.sys.batchState = .opened || (s.sys.batchState = .closing && s.anySide))

/-- The feed gate is closed (05 R113); with the transport link lost every gate is (16 R385). -/
def State.gateClosed (s : State) (g : Fin 4) : Bool :=
  let x := s.pace.groups[g]
  match x.cfg with
  | none => false
  | some c => s.tl.lost || !s.groupRuns || x.wait || (if c.stoppable then x.sb.isSome || x.gapStop else x.gateHeld)

/-! ### Inputs (05 R105) -/

def ImageRec.slots (r : ImageRec) : Nat := (r.bytes.length + 63) / 64

/-- Bytes that a record takes in the store, freed with its last slot (11 R276, R277). -/
def ImageRec.held (r : ImageRec) : Nat := 64 * r.slots

/-- fill[p]: bytes written by the formatter and not released. -/
def Port.fill (p : Port) : Nat := p.store.foldl (fun n r => n + r.held) 0

/-- drain[p] in bytes/s over a window in ms. -/
def State.drainOf (s : State) (n : Fin 8) (windowMs : Nat) : Nat :=
  let w := windowMs * 1500000
  let b := s.ports[n].released.foldl (fun m r => if s.ticks < r.1 + w then m + r.2 else m) 0
  if windowMs = 0 then 0 else b * 1000 / windowMs

/-- Slots that a format writes. -/
def OutFmt.slots (f : OutFmt) : List Nat := (List.range 4).filter fun c => f.slotMask.testBit c

/-- `line_bytes` (04 R95). -/
def OutFmt.lineBytes (f : OutFmt) (width : Nat) : Nat :=
  let n := f.slots.length * width
  if f.packed then (n * f.bits + 7) / 8 else if f.bits = 8 then n else 2 * n

/-- bpl[p]: bytes of image ring per output line. -/
def Port.bpl (p : Port) : Nat :=
  p.fmt.lineBytes p.cfg.width + 16 + (216 + p.fmt.linesPerStrip - 1) / p.fmt.linesPerStrip

/-- `PORTn_PIPE_CEIL`: the ceiling of the weathering plan. -/
def Port.ceil (p : Port) : Nat := p.cnt.pipeCeil.toNat

/-- Greatest `v_max` that a ceiling allows a port (05 R128): 31/32 of the ceiling in samples/s, over spl, times pitch. -/
def Port.planV (p : Port) (ceil : Nat) : Nat :=
  if p.cfg.samples = 0 then 0 else 31 * ceil * 1000000 * p.cfg.pitch / (32 * p.cfg.samples * 2 ^ 32)

/-- Highest `v_max` that the plan in force allows a list of ports. -/
def State.planVOf (s : State) (l : List (Fin 8)) : Nat :=
  l.foldl (fun m n => min m (s.ports[n].planV s.ports[n].ceil)) 0xFFFFFFFF

def State.maxDelay (p : Port) (l : List Nat) : Nat :=
  (List.range p.cfg.colourCount).foldl (fun m c => max m (l.getD c 0)) 0

/-- Dmax: the largest delay among the used slots (04 R87). -/
def Port.dMaxOf (p : Port) (a : Align) : Nat := State.maxDelay p a.delays

/-- Counts/s of the master encoder in pu/s of an axis (06 R135): 256 / enc_ratio. -/
def toPu (ratio : Nat) (x : Rat) : Rat := if ratio = 0 then 0 else x * 256 * 2 ^ 32 / ratio

/-- And back. -/
def fromPu (ratio : Nat) (x : Rat) : Rat := x * ratio / (256 * 2 ^ 32)

/-- `accel` and `jerk` in an axis's units, no higher than its own limits (05 R106, 06 R135). -/
def PaceCfg.rampFor (c : PaceCfg) (a : Axis) : Nat × Nat :=
  (min (toPu a.cfg.ratio c.accel).floor.toNat a.lim.a,
   min (if a.cfg.ratio = 0 then 0 else c.jerk * 2 ^ 32 / a.cfg.ratio) a.lim.j)

/-- Time from standstill to v_max in s (05 R109), to 2^-64. -/
def PaceCfg.tSlew (c : PaceCfg) : Rat :=
  let v : Rat := c.vMax
  let a : Rat := c.accel
  let j : Rat := c.jerk
  if a * a / j ≤ v then v / a + a / j else 2 * ratSqrt (v / j)

/-- Stopping distance from v_max in counts (05 R112). -/
def PaceCfg.dStop (c : PaceCfg) : Rat :=
  let v : Rat := c.vMax
  let a : Rat := c.accel
  let j : Rat := c.jerk
  if a * a / j ≤ v then v * v / (2 * a) + v * a / (2 * j) else v * ratSqrt (v / j)

/-- Levels of a port, in bytes: LOW, HIGH, RESERVE, STOP. -/
def PaceCfg.level (c : PaceCfg) (n : Fin 8) : Nat × Nat × Nat × Nat :=
  let l := c.levels.getD n.val (0, 0, 0, 0);
  (l.1 * 2 ^ 20, l.2.1 * 2 ^ 20, l.2.2.1 * 2 ^ 20, l.2.2.2 * 2 ^ 20)

/-- `PACE_Pp_LEVEL` [2:0]. -/
def levelOf (fill : Nat) (l : Nat × Nat × Nat × Nat) : Nat :=
  if fill ≥ l.2.2.2 then 4 else if fill ≥ l.2.2.1 then 3 else if fill ≥ l.2.1 then 2 else if fill ≥ l.1 then 1 else 0

/-- STOP reached: the formatter writes no line record (05 R111). The fill of a second does not act (14 R339). -/
def State.aboveStop (s : State) (n : Fin 8) : Bool :=
  match s.groupOfPort n with
  | none => false
  | some g => match s.paceCfg g with
    | some c => !s.second && s.ports[n].fill > (c.level n).2.2.2
    | none => false

/-- Every port of a group is below LOW. -/
def State.allBelowLow (s : State) (g : Fin 4) : Bool :=
  match s.paceCfg g with
  | none => true
  | some c => c.ports.all fun n => s.ports[n].fill < (c.level n).1

/-! ### Motion of the master -/

/-- The governor's plan for an axis under its control: a ramp to a velocity in pu/s, no higher than the axis's own limit
(06 R135). -/
def State.governAxis (g : Fin 4) (ax : Fin 12) (v : Rat) (s : State) : State :=
  match s.paceCfg g with
  | none => s
  | some c =>
    let x := s.axes[ax]
    let r := c.rampFor x
    let vel := clampInt (-(x.lim.v : Int)) x.lim.v (ratRound v)
    if !s.governed ax || r.1 = 0 || r.2 = 0 then s
    else if x.move.kind = .governed && x.move.vel = vel && x.move.a = r.1 && x.move.j = r.2 && (x.plan.isSome || vel = 0)
    then s
    else s.modAxis ax fun x =>
      let fresh := x.plan.isNone
      let x := x.velPlan s.ticks vel r.1 r.2;
      let x := if fresh && x.plan.isSome then x.setCur s.ticks x.drive.lev.iRun else x;
      { x with move := { kind := .governed, target := 0, vel, v := vel.natAbs, a := r.1, j := r.2 }
               st := if x.plan.isSome then .moving else .idle }

/-- The master and feeder go to zero on the ramp. -/
def State.stopGroup (g : Fin 4) (s : State) : State :=
  match s.paceCfg g with
  | none => s
  | some c =>
    let s := s.governAxis g c.master 0
    match c.feeder with
    | some f => s.governAxis g f 0
    | none => s

/-- The master profile is at zero. -/
def State.masterAtRest (s : State) (g : Fin 4) : Bool :=
  match s.paceCfg g with
  | none => true
  | some c => (s.axes[c.master].kin s.ticks).v == 0

/-- The direction-corrected count of a port (02 R37). -/
def State.count (s : State) (n : Fin 8) : Int :=
  let p := s.encs[s.ports[n].cfg.encoder].pos
  if s.ports[n].cfg.down then -p else p

/-- Position of grid line k in 2^-32 counts. -/
def Grid.pos (g : Grid) (k : Nat) : Int := g.x0 + k * g.pitch

/-! ### Switchbacks (05 R117 to R127) -/

/-- The side whose lines the port is capturing: the last that has opened and not yet closed. -/
def Port.openSide (p : Port) : Option Side := (p.sides.filter fun d => d.opened).getLast?

/-- A side is marked for rejection; the first cause names the REJECT reason (16 Table 16.8). -/
def Side.rejected (d : Side) (reason : Nat) : Side :=
  { d with reject := true, rejectReason := if d.rejectReason = 0 then reason else d.rejectReason }

def Port.modSide (doc : BitVec 32) (f : Side → Side) (p : Port) : Port :=
  { p with sides := p.sides.map fun d => if d.doc = doc then f d else d }

/-- The seam of a port in its group's switchback. -/
def State.seamOf (s : State) (n : Fin 8) : Option (Fin 4 × Switchback × Seam) :=
  match s.groupOfPort n with
  | none => none
  | some g =>
    match s.pace.groups[g].sb with
    | none => none
    | some b => (b.seams.find? fun m => m.port = n).map fun m => (g, b, m)

def State.modSb (g : Fin 4) (f : Switchback → Switchback) (s : State) : State :=
  s.modGroup g fun x => { x with sb := x.sb.map f }

def State.modSeam (g : Fin 4) (n : Fin 8) (f : Seam → Seam) (s : State) : State :=
  s.modSb g fun b => { b with seams := b.seams.map fun m => if m.port = n then f m else m }

/-- A seam of each of a list of ports that has a side open; a side that already holds max_splices seams closes at this one
(R125). -/
def State.newSeams (s : State) (l : List (Fin 8)) (pol : SeamPolicy) : List Seam :=
  l.filterMap fun n =>
    match s.ports[n].openSide with
    | none => none
    | some d => some { port := n, doc := d.doc, k := none, retaken := [], rewound := false, resume := none, verdict := none
                       closing := decide (pol.maxSplices ≤ d.splices), stopTime := 0, stopPos := 0 }

/-- The last capture triggered on a port, counted from the side's line 0. It may still wait for its start. -/
def Port.lastCapture (p : Port) (d : Side) : Int := (p.grid.next : Int) - 1 - d.first

/-- Time that steps 2 to 6 of a switchback have taken since it was last added up. -/
def Switchback.heldNs (b : Switchback) (now : Nat) : Nat :=
  match b.since with
  | some t => now - t
  | none => 0

/-- Steps 2 to 6 are over: their time is added to the group's figure and to the pace records of the sides (R129). -/
def State.endHold (g : Fin 4) (s : State) : State :=
  match s.pace.groups[g].sb with
  | none => s
  | some b =>
    let held := b.heldNs s.ns
    let s := s.each b.seams fun m s => s.modPort m.port fun p => p.modSide m.doc fun d =>
      { d with pace.holdNs := d.pace.holdNs + held }
    s.modGroup g fun x => { x with holdNs := x.holdNs + held, sb := some { b with since := none } }

/-- A switchback goes back to step 1, with the same K (Table 5.6, R124): the master comes to rest again. -/
def State.sbAgain (g : Fin 4) (s : State) : State := ((s.endHold g).modSb g fun b => { b with step := 1 }).stopGroup g

/-! ### GATE (16 R376, R377, R385) -/

/-- Mask of the closed feed gates. While a fitted link is lost every gate counts as closed (16 R385). -/
def State.gateMask (s : State) : BitVec 4 :=
  allGroups.foldl (fun m g => if s.tl.lost || s.gateClosed g then m ||| (1#4 <<< g.val) else m) 0

/-- The transmitter is this device's: a link that is not fitted idles, and a second transmits nothing (R386). -/
def State.transmits (s : State) : Bool := s.sys.fit.tlink && !s.second && s.owns

/-- The responder and the sequence of frames run in a second as in its lead (R386). -/
def State.formsFrames (s : State) : Bool := s.sys.fit.tlink && (s.second || s.owns)

/-- What goes out on `TL_TX`: `l` from the device that transmits, nothing new from another. -/
def State.sentOr (s : State) (l : List Frame) : List Frame := if s.transmits then l else s.tl.sent

/-- Frames of the plan that are not out at a tick. -/
def Tlnk.unsent (u : Tlnk) (now : Nat) : List (Nat × Bool) := u.txPlan.filter fun e => now < e.1 + 720

/-- A frame leaves after what is already formed and one K28.5: 480 ns and 40 ns, 720 and 60 ticks (R376). -/
def State.sendFrame (typ seq : BitVec 8) (payload : List Byte) (s : State) : State :=
  if !s.formsFrames then s
  else
    let start := max s.ticks s.tl.txFreeAt
    { s with tl.txFreeAt := start + 780, tl.lastSent := start + 720, tl.txPlan := s.tl.unsent s.ticks ++ [(start, false)]
             tl.sent := s.sentOr (s.tl.sent ++ [{ typ, seq, payload := padTo 6 payload }]) }

/-- A frame under the device's own seq, rising by 1 modulo 256 (R377). -/
def State.sendOwn (typ : BitVec 8) (payload : List Byte) (s : State) : State :=
  if !s.formsFrames then s
  else { s.sendFrame typ s.tl.txSeq payload with tl.txSeq := s.tl.txSeq + 1 }

/-- GATE at every change of a feed gate (R377). -/
def State.sendGate (s : State) : State :=
  if s.gateMask = s.tl.gateSent then s
  else { s with tl.gateSent := s.gateMask }.sendOwn 0x83 (leBytes 1 s.gateMask.toNat)

/-- A switchback begins, or a cause is absorbed or sends it back (R117, R118 step 1, Table 5.6). `causeNo` is 1 RESERVE,
2 LINE_LOSS, 3 axis standstill; `ax` is the axis of an axis cause, and whether STOP brought it to rest. A STOP at step 5, for
which Table 5.6 has no row, goes back to step 4 as a stall does (DESIGN CHOICE, log entry 120). A gap stop that turns into a
switchback keeps its release condition. One that begins before the master has passed the Pmax of the switchback before keeps
that Pmax, below which edges stay ignored (R120). -/
def State.switchback (g : Fin 4) (causeNo : Nat) (ax : Option (Fin 12 × Bool)) (s : State) : State :=
  let x := s.pace.groups[g]
  match x.cfg with
  | none => s
  | some c =>
    if !c.stoppable || x.wait then s
    else
      let addCause (b : Switchback) : Switchback :=
        { b with reserve := b.reserve || causeNo == 1
                 axes := match ax with
                   | some a => if b.axes.contains a.1 then b.axes else b.axes ++ [a.1]
                   | none => b.axes }
      let byStop := ax.any fun a => a.2
      match x.sb with
      | some b =>
        if b.step ≤ 4 then s.modSb g addCause
        else if causeNo = 3 && (b.step = 5 || !byStop) then s.modSb g fun b => { addCause b with step := 4 }
        else if b.step = 6 then (s.modSb g addCause).sbAgain g
        else s.modSb g addCause
      | none =>
        let b : Switchback :=
          { step := 1, cause := causeNo, reserve := x.gapStop, axes := [], attempts := 1
            seams := s.newSeams c.ports x.policy, pBack := 0, stopNs := 0, forwardNs := 0, since := none, policy := x.policy }
        let s := s.modGroup g fun x =>
          { x with sb := some (addCause b), gapStop := false, sbCnt := x.sbCnt + 1
                   pmax := if x.ignoreEdges then x.pmax else s.encs[c.enc].pos }
        let s := (s.setEvt .pace (4 + g.val)).fire .pace g.val
        (s.stopGroup g).sendGate

/-- A standstill of a master or geared axis by STOP, or by a stall or a bridge fault (R114, R117). -/
def State.axisStandstill (a : Fin 12) (byStop : Bool) (s : State) : State :=
  let go (g : Fin 4) (s : State) : State :=
    match s.paceCfg g with
    | none => s
    | some c =>
      let isOpen := c.ports.any fun n => s.ports[n].docOpen
      if c.stoppable then s.when (isOpen || s.pace.groups[g].sb.isSome) fun s => s.switchback g 3 (some (a, byStop))
      else if c.master = a then
        s.each c.ports fun n s => s.modPort n fun p =>
          { p with sides := p.sides.map fun d => if d.opened then
              { d.rejected 1 with lineLoss := true, pace.standstills := d.pace.standstills + 1 }
            else d }
      else s
  match s.groupOfAxis a, s.groupOfGeared a with
  | some g, _ => match s.paceCfg g with
    | some c => if c.master = a then go g s else s
    | none => s
  | none, some g => go g s
  | none, none => s

/-- Grid line of capture number i of a side. -/
def Side.lineOf (d : Side) (i : Int) : Int := d.first + i

/-- The seam of step 1 still holds at step 2: its side has not closed, and step 1 has fixed its K or it is the side that the
port is capturing. -/
def State.seamHolds (s : State) (m : Seam) : Bool :=
  let p := s.ports[m.port]
  (p.sides.any fun d => d.doc = m.doc) && (m.k.isSome || p.openSide.any fun d => d.doc = m.doc)

/-- Step 2 begins: every port with a side open has a seam, that of a side which opened after step 1 among them; K is fixed on
each, and Pmax is latched. A side that has closed since step 1 has no seam. -/
def State.sbStop (g : Fin 4) (s : State) : State :=
  match s.paceCfg g, s.pace.groups[g].sb with
  | some c, some b =>
    let kept := b.seams.filter fun m => s.seamHolds m
    let fresh := s.newSeams (c.ports.filter fun n => kept.all fun m => m.port ≠ n) b.policy
    let fix (m : Seam) : Seam :=
      let p := s.ports[m.port]
      let last : Int := match p.sides.find? fun d => d.doc = m.doc with
        | some d => p.lastCapture d
        | none => -1;
      { m with k := some (m.k.getD last), stopTime := s.time, stopPos := s.encs[c.enc].pos }
    let seams := (kept ++ fresh).map fix
    let s := s.modGroup g fun x => { x with sb := some { b with step := 2, stopNs := s.ns, since := some s.ns, seams } }
    s.each seams fun m s => s.modPace m.port fun q => { q with seamK := m.k.getD 0 }
  | _, _ => s

/-- Step 2 comes with the master at zero and the encoder at standstill. -/
def State.sbStopped (g : Fin 4) (s : State) : State :=
  match s.paceCfg g, s.pace.groups[g].sb with
  | some c, some b => if b.step = 1 && s.masterAtRest g && s.encs[c.enc].still then s.sbStop g else s
  | _, _ => s

/-- The last grid line that a port of a switchback captures before HOLD: that of K, none without a seam. -/
def State.lastHeld (s : State) (b : Switchback) (n : Fin 8) : Option Int :=
  match b.seams.find? fun m => m.port = n with
  | none => none
  | some m => (s.ports[n].sides.find? fun d => d.doc = m.doc).map fun d => d.first + m.k.getD 0

/-- No line past a last one is captured any more; a port with none left enters HOLD. -/
def Port.enterHold (p : Port) (last : Option Int) : Port :=
  let p := { p with waiting := p.waiting.filter fun w => last.any fun l => (w.k : Int) ≤ l, grid.sched := [] }
  if p.line.isNone && p.waiting.isEmpty then { p with st := .hold } else p

/-- Ports enter HOLD at the end of their line in progress (R35), lines up to K that were late to start among them; then the
pipeline drains. -/
def State.sbHold (g : Fin 4) (s : State) : State :=
  match s.pace.groups[g].sb with
  | some b =>
    if 2 ≤ b.step && b.step ≤ 4 then
      let s := s.each (s.groupPorts g) fun n s =>
        s.modPort n fun p => if p.st = .scan then p.enterHold (s.lastHeld b n) else p
      if b.step = 2 && (s.groupPorts g).all fun n => s.ports[n].st ≠ .scan then s.modSb g fun b => { b with step := 3 } else s
    else s
  | none => s

/-- The release conditions of step 4 hold: every port below LOW for RESERVE; every axis of an axis cause back under its
governor or in gear, which takes a completed HOME where `position_lost` is set (R104, R118, 06 R160). -/
def State.sbReleasable (s : State) (g : Fin 4) (b : Switchback) : Bool :=
  (!b.reserve || s.allBelowLow g)
    && b.axes.all fun a => (s.governed a || decide (s.axes[a].st = .geared)) && !s.axes[a].positionLost

/-- P_back: the lowest over the seams of the position of capture K - m + 1 less back_extra, rounded down (R118). With no side
open any more there is nothing to move back for: the present position (DESIGN CHOICE, log entry 140). -/
def State.pBackOf (s : State) (b : Switchback) (here : Int) : Int :=
  let l := b.seams.filterMap fun m =>
    let p := s.ports[m.port]
    (p.sides.find? fun d => d.doc = m.doc).map fun d =>
      (p.grid.x0 + (d.lineOf (m.k.getD 0 - b.policy.overlap + 1)) * p.grid.pitch
        - b.policy.backExtra * 2 ^ 32) / 2 ^ 32
  match l with
  | [] => here
  | x :: l => l.foldl min x

/-- Step 5 begins: the overlap lines are marked untriggered, document edges are ignored, and the master moves back to P_back
at its run current. -/
def State.sbRewind (g : Fin 4) (s : State) : State :=
  match s.paceCfg g, s.pace.groups[g].sb with
  | some c, some b =>
    let down := c.ports.any fun n => s.ports[n].cfg.down
    let here : Int := if down then -s.encs[c.enc].pos else s.encs[c.enc].pos
    let pb := s.pBackOf b here
    let s := s.each b.seams fun m s => s.modPort m.port fun p =>
      match p.sides.find? fun d => d.doc = m.doc with
      | some d => { p with grid.next := (d.lineOf (m.k.getD 0 - b.policy.overlap + 1)).toNat, grid.sched := []
                           caps := p.caps.filter fun c => (c.k : Int) ≤ d.lineOf (m.k.getD 0) }
      | none => p
    let s := s.modGroup g fun x =>
      { x with ignoreEdges := true
               sb := some { b with step := 5, axes := [], reserve := false, pBack := if down then -pb else pb
                                   seams := b.seams.map fun m => { m with retaken := [], rewound := true, resume := none
                                                                          verdict := none } } }
    let ax := s.axes[c.master]
    let r := c.rampFor ax
    let v := min (toPu ax.cfg.ratio c.vMax).floor.toNat ax.lim.v
    if r.1 = 0 || r.2 = 0 || v = 0 then s
    else s.modAxis c.master fun x =>
      let target := x.pos + ratRound (toPu x.cfg.ratio ((min 0 (pb - here) : Int) : Rat))
      let x := x.movePlan s.ticks target v r.1 r.2
      let x := if x.plan.isSome then x.setCur s.ticks x.drive.lev.iRun else x;
      { x with move := { kind := .governed, target, vel := 0, v, a := r.1, j := r.2 }
               st := if x.plan.isSome then .moving else .idle }
  | _, _ => s

/-- Step 5 comes with the release conditions. -/
def State.sbBack (g : Fin 4) (s : State) : State :=
  match s.pace.groups[g].sb with
  | some b => if b.step = 4 && s.sbReleasable g b then s.sbRewind g else s
  | none => s

/-- Step 6 begins: the ports return to SCAN and the governor takes the master forward. -/
def State.sbScan (g : Fin 4) (s : State) : State :=
  (s.each (s.groupPorts g) fun n s => s.modPort n fun p => if p.st = .hold then { p with st := .scan } else p).modSb g fun b =>
    { b with step := 6, forwardNs := s.ns }

/-- Step 6 comes with the move over, at standstill at P_back. -/
def State.sbForward (g : Fin 4) (s : State) : State :=
  match s.paceCfg g, s.pace.groups[g].sb with
  | some c, some b =>
    if b.step = 5 && s.axes[c.master].plan.isNone && s.masterAtRest g && s.encs[c.enc].still then s.sbScan g else s
  | _, _ => s

/-- The steps of a switchback that come about within other steps. A second takes its steps from the lead (R127, 14 R338). -/
def State.sbAdvance (g : Fin 4) (s : State) : State :=
  if s.second then s.sbHold g else (((s.sbStopped g).sbHold g).sbBack g).sbForward g

def State.sbAdvanceAll (s : State) : State := s.each allGroups fun g s => s.sbAdvance g

/-- R116: at standstill a gap stop with a side open goes on as a switchback from step 2. -/
def State.gapStopCheck (g : Fin 4) (s : State) : State :=
  match s.paceCfg g with
  | none => s
  | some c =>
    if s.pace.groups[g].gapStop && s.masterAtRest g && s.encs[c.enc].still
        && c.ports.any fun n => s.ports[n].docOpen then s.switchback g 1 none
    else s

/-- An overlap line of a port: a grid line up to K that step 5 has marked untriggered, until the verdict. -/
def State.isOverlap (s : State) (n : Fin 8) (k : Nat) : Bool :=
  match s.seamOf n with
  | none => false
  | some (_, _, m) =>
    m.rewound && m.verdict.isNone && match s.ports[n].sides.find? fun d => d.doc = m.doc with
      | some d => (k : Int) ≤ d.lineOf (m.k.getD 0)
      | none => false

/-- Capture K + 1 of a seam is triggered at step 6 (05 Table 5.5 `resume_time`). -/
def State.noteResume (n : Fin 8) (k instant : Nat) (s : State) : State :=
  match s.seamOf n with
  | none => s
  | some (g, b, m) =>
    match s.ports[n].sides.find? fun d => d.doc = m.doc with
    | some d => if b.step = 6 && d.lineOf (m.k.getD 0) + 1 = k then s.modSeam g n fun m => { m with resume := some instant } else s
    | none => s

/-- Captures after a fixed K are discarded at the entry to the alignment stage (step 1, LINE_LOSS). -/
def State.pastK (s : State) (n : Fin 8) (k : Nat) : Bool :=
  match s.seamOf n with
  | none => false
  | some (_, b, m) =>
    b.step ≤ 5 && match m.k, s.ports[n].sides.find? fun d => d.doc = m.doc with
      | some kk, some d => d.lineOf kk < (k : Int)
      | _, _ => false

/-- While a seam waits for its verdict, lines that need a capture after K wait (05 Table 5.3 step 7). -/
def State.heldForVerdict (s : State) (n : Fin 8) (k : Nat) : Bool :=
  match s.seamOf n with
  | none => false
  | some (_, _, m) =>
    m.verdict.isNone && match m.k, s.ports[n].sides.find? fun d => d.doc = m.doc with
      | some kk, some d => d.lineOf kk < (k : Int)
      | _, _ => false

end Sys2Proof.Machine
end

