-- ==== Sys2Proof/Machine/AxisOps.lean ====
section
/-! DEFINITION. What the axis rules share: rest, kept state, stall, bridge fault, homing steps (06 R149 to R161, 07 R178 to
R181). -/

namespace Sys2Proof.Machine

/-! ### Axis helpers -/

def axisAt (p : Packet) (off : Nat) : Option (Fin 12) :=
  if h : u8 p.params off < 12 then some ⟨u8 p.params off, h⟩ else none

/-- Check 6 and check 12 for a command to the axis named in byte 0. -/
def axisWorld (s : State) (p : Packet) (secure : Bool) : Bool :=
  match axisAt p 0 with
  | some a => s.secureBlock (.ax a) == secure
  | none => true
def axisFitted (s : State) (p : Packet) : Bool :=
  match axisAt p 0 with
  | some a => s.fittedBlock (.ax a)
  | none => true

def State.axisFlag (a : Fin 12) (bit : Nat) (s : State) : State := s.setEvt (.ax a) bit

def State.drvFlag (a : Fin 12) (bit : Nat) (s : State) : State :=
  s.modAxis a fun x => { x with drive.evt := setBit x.drive.evt bit }

/-- Driver power is lost: `position_lost` is set (07 R181). -/
def State.powerLost (a : Fin 12) (s : State) : State :=
  (s.modAxis a fun x => { x with positionLost := true }).drvFlag a 6

/-- A number saturated to a 32-bit result word. -/
def result32 (x : Int) : BitVec 32 := satInt32 x

/-- Distance left of the move in progress; 0 for a move without a target. -/
def Axis.left (a : Axis) : Int :=
  match a.move.kind with
  | .position => a.move.target - a.pos
  | _ => 0

/-- The commands waiting on the axis, in order. -/
def Axis.waiting (a : Axis) : List DWord :=
  a.waits.seq.toList ++ a.waits.stops ++ a.waits.disengage.toList ++ (match a.gear with
    | some g => g.waiting ++ (match g.next with
      | some n => [n.seq]
      | none => [])
    | none => []) ++ (match a.home with
    | some h => [h.seq]
    | none => []) ++ (match a.waits.park with
    | some k => [k.seq]
    | none => [])

/-- The kept state of the motion in progress (R154). An axis that is stopping keeps what its stop has kept, with the distance
left from here; without a motion nothing new is kept. A geared axis that has been disengaged has no move to keep. -/
def Axis.keep (a : Axis) : Axis :=
  if a.st = .stopping ∧ a.kept.isSome then { a with remain := a.left }
  else match a.move.kind with
    | .none | .homing => a
    | .geared => match a.gear with
      | some g => { a with kept := some { move := a.move, gear := some (g.src, g.r2, g.sync) }, remain := 0 }
      | none => a
    | _ => { a with kept := some { move := a.move, gear := none }, remain := a.left }

/-- A position is redefined without motion: the profile in progress shifts with it, the index stays (07 R171). -/
def Axis.redefine (a : Axis) (shift : Int) : Axis :=
  let b := a.reref (a.pos + shift) a.cfg.invert
  { b with plan := b.plan.map fun pl => { pl with kin.p := pl.kin.p + shift, dest := pl.dest.map (· + shift) }
           encOfs := b.encOfs + shift }

/-- A move, stop or homing has ended: `move_done`, and the MOVE_DONE generator. -/
def State.moveDone (a : Fin 12) (s : State) : State := (s.axisFlag a 0).fire (.ax a) 1

/-- A command waiting on the axis ends with MOTION_LIMIT. -/
def State.motionLimit (a : Fin 12) (seq : Option DWord) (detail : BitVec 32) (result : BitVec 32) (s : State) : State :=
  (s.finishAll seq.toList 0x0300 detail result).axisFlag a 2

/-- The end of homing under R161 once at rest: the reply, IDLE, `position_lost` as it is, back to the governor. A homing that
still waited for en_settle leaves the bridges driven, as IDLE has them (07 Table 7.2). -/
def State.homeEnd (a : Fin 12) (status : BitVec 16) (detail : BitVec 32) (s : State) : State :=
  match s.axes[a].home with
  | none => s
  | some h =>
    let s := s.modAxis a fun x =>
      let y := { x with home := none, st := .idle, move := Move.none, plan := none, waits.settle := none };
      if x.waits.settle.isSome then y.energise s.ticks else y
    let s := (s.finish h.seq status detail 0).axisFlag a 9
    let stops := s.axes[a].waits.stops
    let s := s.modAxis a fun x => { x with waits.stops := [] }
    ((s.when (status = 0x0300) fun s => s.axisFlag a 2).finishAll stops 0 0 0).moveDone a

/-- Homing comes to rest on the ramp, to end with a status and detail (R161). -/
def State.homeAbort (a : Fin 12) (status : BitVec 16) (detail : BitVec 32) (s : State) : State :=
  let s := s.modAxis a fun x =>
    let x := x.stopPlan s.ticks x.lim.a x.lim.j;
    { x with home := x.home.map fun h => { h with ending := some (status, detail) } }
  if s.axes[a].plan.isNone then s.homeEnd a status detail else s

/-- Whether the switch that a homing method uses is active. -/
def Axis.homeSwitch (a : Axis) (h : Homing) : Bool := if h.method = 2 then a.limActive else a.homeActive

/-- A homing search step: a velocity run in one direction from here, within the limits in force. -/
def Axis.homeRun (a : Axis) (t step v : Nat) (positive : Bool) : Axis :=
  let vel : Int := if positive then (min v a.lim.v : Nat) else -(min v a.lim.v : Nat)
  let a := a.velPlan t vel a.lim.a a.lim.j
  { a with st := .homing, move := { kind := .homing, target := 0, vel, v := vel.natAbs, a := a.lim.a, j := a.lim.j }
           home := a.home.map fun h => { h with step, origin := a.pos, released := false } }

/-- The axis comes to rest within homing, under its limits. -/
def Axis.homeStop (a : Axis) (t step : Nat) : Axis :=
  let a := a.stopPlan t a.lim.a a.lim.j
  { a with home := a.home.map fun h => { h with step } }

/-- Step 7 of Table 6.10: the reference is taken, with the microstep reference (07 R171), and the axis rests. -/
def State.homeDone (a : Fin 12) (s : State) : State :=
  match s.axes[a].home with
  | none => s
  | some h =>
    let pos := s.axes[a].pos
    let s := s.modAxis a fun x =>
      { s.alignEncoder x with home := none, st := .idle, move := Move.none, plan := none, positionLost := false,
                              drive.refValid := true, drive.idxRef := x.drive.idxOfs, faultCause := 0 }
    ((s.finish h.seq 0 0 (result32 pos)).moveDone a).sbAdvanceAll

/-- Homing at rest: what follows in Table 6.10. -/
def State.homeRest (a : Fin 12) (s : State) : State :=
  let x := s.axes[a]
  match x.home with
  | none => s
  | some h =>
    match h.ending with
    | some e => s.homeEnd a e.1 e.2
    | none =>
      if h.method = 3 then
        let enc : Rat := match x.cfg.enc with
          | some e => if x.cfg.ratio = 0 then 0 else mkRat (s.encs[e].pos * 256 * 2 ^ 32) x.cfg.ratio
          | none => 0
        let pos := h.homePos + ratRound enc
        (s.modAxis a fun x => x.redefine (pos - x.pos)).homeDone a
      else if h.step = 3 then s.modAxis a fun x => x.homeRun s.ticks 4 h.vSlow (!h.positive)
      else if h.step = 4 then s.modAxis a fun x => x.homeRun s.ticks 5 h.vSlow h.positive
      else if h.step = 6 then s.homeDone a
      else s

/-- The axis has come to rest: what its motion was for decides what follows. An adapted current that waited for a step is not
taken into the next motion (07 R177). -/
def State.axisRest (a : Fin 12) (s : State) : State :=
  let x := s.axes[a]
  let s := s.modAxis a fun x => { x with plan := none, drive.res := 0, drive.load.nextCur := none }
  match x.st with
  | .homing => s.homeRest a
  | .stopping =>
    let w := x.waits
    let fault := x.faultCause ≠ 0
    let s := s.modAxis a fun x =>
      let x := if fault then x.setCur s.ticks x.drive.lev.iHold else x;
      { x with st := if fault then .fault else .idle, move := Move.none, gear := none
               waits := { x.waits with stops := [], disengage := none, soft := false, seq := none } }
    let s := s.finishAll w.stops 0 0 (result32 x.remain)
    let s := s.finishAll w.disengage.toList 0 0 0
    let s := s.when (w.soft) fun s => ((s.finishAll w.seq.toList 0x0300 0x0304 0).axisFlag a 2).event (.ax a) 0x0300 0x0304
    let s := s.moveDone a
    if w.stops.isEmpty && !fault && x.kept.isNone then s else s.axisStandstill a !fault
  | .moving =>
    if x.move.kind = .governed then (s.modAxis a fun x => { x with st := .idle }).sbAdvanceAll
    else if x.waits.soft then
      let s := s.modAxis a fun x => { x with st := .idle, move := Move.none, waits.soft := false, waits.seq := none }
      (((s.motionLimit a x.waits.seq 0x0304 0).axisFlag a 2).event (.ax a) 0x0300 0x0304).moveDone a
    else
      let s := s.modAxis a fun x =>
        { x with st := .idle, move := Move.none, waits.seq := none, waits.deferred := false }
      let s := if x.waits.deferred then s.motionLimit a x.waits.seq 0x0303 (BitVec.ofNat 32 (min x.overshoot (2 ^ 32 - 1)))
        else s.finishAll x.waits.seq.toList 0 0 (BitVec.ofNat 32 (min x.overshoot (2 ^ 32 - 1)))
      s.moveDone a
  | _ => s

/-- An axis whose plan has gone is at rest at once. -/
def State.restIfStill (a : Fin 12) (s : State) : State := if s.axes[a].plan.isNone then s.axisRest a else s

/-- The motion in progress is replaced: its command replies OK, 0x0301, with the distance left (R149). -/
def State.replaceMove (a : Fin 12) (detail : BitVec 32) (s : State) : State :=
  let x := s.axes[a]
  let s := s.modAxis a fun x => { x with waits.seq := none, waits.deferred := false }
  s.finishAll x.waits.seq.toList 0 detail (result32 x.left)

/-- A RESUME that waits for en_settle is ended by a STOP (0x302) or a later command (0x301): the kept state stays, and the
bridges are off again (R149, R153, 07 Table 7.2). -/
def State.dropResume (a : Fin 12) (detail : BitVec 32) (s : State) : State :=
  let x := s.axes[a]
  match x.waits.settle with
  | some (_, .resume) =>
    (s.modAxis a fun x => { x with waits.settle := none, waits.seq := none, drive.en := false }).finishAll x.waits.seq.toList 0 detail
      (result32 x.remain)
  | _ => s

/-- A PARK whose current ramp is running, the axis still in IDLE, is ended by a later command that IDLE accepts: OK, 0x0301, and
the axis is not parked (DESIGN CHOICE, log entry 142). -/
def State.dropPark (a : Fin 12) (s : State) : State :=
  match s.axes[a].waits.park with
  | some k => if k.waking then s
    else (s.modAxis a fun x => { x with waits.park := none }).finish k.seq 0 0x0301 0
  | none => s

/-- A command that acts from IDLE or FAULT takes the place of what waits there. -/
def State.dropStart (a : Fin 12) (s : State) : State := (s.dropPark a).dropResume a 0x0301

/-- STOP of mode 0 or 1 (R153, R154; 12 R297): `seq` is the command, none for a task. At rest it replies at once with the kept
distance. -/
def State.stopAxis (a : Fin 12) (quick : Bool) (seq : Option DWord) (s : State) : State :=
  let x := s.axes[a]
  let gear := x.gear.map fun g => g.waiting ++ (match g.next with
    | some n => [n.seq]
    | none => [])
  match x.st with
  | .moving | .geared =>
    let s := s.modAxis a Axis.keep
    let s := s.replaceMove a 0x0302
    let s := s.finishAll (gear.getD []) 0 0x0302 0
    let s := s.modAxis a fun x =>
      let y := if quick then x.stopPlan s.ticks x.lim.aStop x.lim.jStop
        else if x.st = .geared ∨ x.move.a = 0 ∨ x.move.j = 0 then x.stopPlan s.ticks x.lim.a x.lim.j
        else x.stopPlan s.ticks x.move.a x.move.j;
      { y with st := .stopping, gear := none, waits.stops := y.waits.stops ++ seq.toList, waits.soft := false }
    (s.restIfStill a).sysRoutes
  | .stopping =>
    let s := s.modAxis a fun x => { x with waits.stops := x.waits.stops ++ seq.toList }
    if quick then
      let s := s.modAxis a fun x =>
        let left : List Seg := match x.plan with
          | some pl =>
            let tau := ((s.ticks : Rat) - pl.start) / ticksPerSecond
            cutSegs pl.segs tau
          | none => []
        let k := (x.kin s.ticks).snapped
        let e := k.end left
        let tail := e.stopSegs x.lim.aStop (256 * x.lim.jStop)
        let sp := (e.end tail).p
        if x.plan.isNone then x
        else x.startPlan s.ticks (keepSegs left ++ tail) (some (if k.p ≤ sp then sp.floor else sp.ceil))
      s.restIfStill a
    else s
  | .homing =>
    let s := s.modAxis a fun x => { x with waits.stops := x.waits.stops ++ seq.toList }
    s.homeAbort a 0 0x0302
  | .idle =>
    let s := s.when ((s.groupOfAxis a).isSome && x.kept.isNone) fun s => s.modAxis a fun x =>
      { x with kept := some { move := { x.move with kind := .governed }, gear := none } }
    (s.finishAll seq.toList 0 0 (result32 x.remain)).when (x.kept.isNone && (s.groupOfAxis a).isSome) fun s => s.axisStandstill a true
  | _ => (s.dropResume a 0x0302).finishAll seq.toList 0 0 (result32 x.remain)

/-- The step timer stops at once and the kept state is taken (07 R179 step 1 to 3). -/
def State.haltAxis (a : Fin 12) (s : State) : State :=
  s.modAxis a fun x => { x.keep with plan := none, drive.res := 0, drive.load.nextCur := none }

/-- Every command waiting on the axis ends with one status and detail, those on its gearing among them. -/
def State.endWaiting (a : Fin 12) (status : BitVec 16) (detail : BitVec 32) (fault : BitVec 32) (s : State) : State :=
  let x := s.axes[a]
  let s := s.modAxis a fun x => { x with waits := AxisWaits.none, home := none, gear := none }
  s.each x.waiting fun q s => s.finish q status detail (result32 x.remain) fault

/-- A stall (07 R178, R179): `byLoad` names the criterion. The coils are held at i_hold. -/
def State.stall (a : Fin 12) (byLoad : Bool) (s : State) : State :=
  let homing := s.axes[a].st = .homing
  let s := s.haltAxis a
  let detail : BitVec 32 := if byLoad then 0x0313 else 0x0312
  let no := s.ldg.faultNext
  let s := s.takeFault
  let s := s.modAxis a fun x =>
    { (x.setCur s.ticks x.drive.lev.iHold) with
      st := .fault, positionLost := true, faultCause := 1, drive.stallCnt := satInc x.drive.stallCnt
      drive.stalled := some (s.ticks, no), drive.load.run := 0 }
  let s := (s.drvFlag a (if byLoad then 1 else 0)).fire (.ax a) 2
  let s := s.endWaiting a 0x0301 detail no
  let s := s.when homing fun s => s.axisFlag a 9
  let s := s.modAxis a fun x => { x with move := Move.none }
  ((s.deviceEvent (.ax a) 0x0301 detail 0 no 0 []).axisStandstill a false).sysRoutes

/-- The encoder criterion of a stall (07 R178). -/
def State.followStall (s : State) (x : Axis) : Bool :=
  x.cfg.enc.isSome && x.drive.ld.follow != 0 && decide (x.drive.ld.follow < (s.followErr x).natAbs)

/-- Follow checks at every encoder edge and step event, at rest as well: `follow_limit`, `stall_follow` (06 Table 6.1, 07 R178).
With the bridges off there is nothing to check; a stall declared stands until its FAULT is left (DESIGN CHOICE, log entry 123). -/
def State.followCheck (a : Fin 12) (s : State) : State :=
  let x := s.axes[a]
  let e := (s.followErr x).natAbs
  if x.cfg.enc.isNone ∨ x.st = .disabled ∨ (x.st = .parked ∧ !x.drive.en) then s
  else
    let s := s.when (x.cfg.followLimit ≠ 0 && x.cfg.followLimit < e) fun s => s.axisFlag a 6
    if s.followStall x && !(x.st = .fault && (x.faultCause = 1 || x.faultCause = 2)) then s.stall a false else s

/-- An encoder fault of a gear source or linked encoder (06 R138, R154): a geared axis stops and enters FAULT. -/
def State.encoderLost (e : Fin 8) (s : State) : State :=
  s.each (List.finRange 12) fun a s =>
    let x := s.axes[a]
    let geared := match x.gear with
      | some g => g.src == e && x.st == .geared
      | none => false
    let s := s.when (geared || x.cfg.enc == some e) fun s => s.axisFlag a 7
    s.when geared fun s => (s.modAxis a fun x => { x with faultCause := 4 }).stopAxis a false none

/-- An overshoot sets its bit (06 R151). -/
def State.noteOvershoot (a : Fin 12) (s : State) : State := s.when (s.axes[a].overshoot ≠ 0) fun s => s.axisFlag a 1

/-- The soft limits are enforced (06 R142); homing suspends them (R160). -/
def Axis.softOn (a : Axis) : Bool := a.lim.softEn && !a.positionLost && a.home.isNone

/-- The point where the axis rests when it decelerates at once under A and J. -/
def Axis.stopAt (a : Axis) (t A J : Nat) : Rat :=
  if A = 0 ∨ J = 0 then a.pos else (a.kin t).snapped.stopPoint A (256 * J)

/-- Motion in a direction runs into the active limit switch (06 R150). -/
def Axis.blocked (a : Axis) (positive : Bool) : Bool := a.limActive && a.cfg.limDir == positive

end Sys2Proof.Machine
end

