-- ==== Sys2Proof/Machine/MotionCmds.lean ====
section
/-! DEFINITION. The motion commands: AXIS_CONFIG, AXIS_LIMITS, MOVE_TO, MOVE_VELOCITY, STOP, RESUME, HOME, GEAR_SET,
GEAR_RATIO_AT (06) and HOLD_PARK (07). -/

namespace Sys2Proof.Machine

/-! ### AXIS_CONFIG (06 R140, 07 R184) -/

/-- Drive block fields in range (07 Table 7.5). -/
def driveBlockOk (l : List Byte) : Bool :=
  let on := u8 l 94 % 4 ≠ 0
  u8 l 64 < 4 && u8 l 65 ≤ 16 && u8 l 66 ≤ 16 && 150 ≤ u16 l 68 && u16 l 68 ≤ 4500
    && 750 ≤ u32 l 72 && u32 l 72 ≤ 48000 && u16 l 68 ≤ u32 l 76 && u32 l 76 ≤ 1500000
    && 1 ≤ u16 l 80 && u16 l 80 ≤ 1023 && u16 l 80 ≤ u16 l 82 && u16 l 82 ≤ 1023 && u16 l 84 ≤ u16 l 82
    && u16 l 86 ≤ u16 l 84 && (u32 l 88 = 0 || (16384 ≤ u32 l 88 && u32 l 88 ≤ 1000000))
    && 150 ≤ u16 l 92 && u16 l 92 ≤ 15000 && u8 l 94 < 4 && 1 ≤ u8 l 96 && u8 l 96 ≤ 64
    && u8 l 95 + u8 l 96 < u8 l 97 && 1 ≤ u8 l 98 && 1 ≤ u8 l 99 && 1 ≤ u8 l 100
    && (u16 l 102 = 0 || (128 ≤ u16 l 102 && u16 l 102 ≤ 1024)) && (!on || 1 ≤ u16 l 104)
    && 1 ≤ u32 l 108 && u32 l 108 ≤ 2000000 && u16 l 112 ≤ 10000

def driveReservedOk (l : List Byte) : Bool :=
  zeroBytes l 70 2 && zeroBytes l 101 1 && zeroBytes l 106 2 && zeroBytes l 116 12

def Drive.configured (d : Drive) (l : List Byte) : Drive :=
  { d with
    chop := { flags := u8 l 64, mixRise := u8 l 65, mixFall := u8 l 66, tDead := u8 l 67, tBlank := u16 l 68
              tOff := u32 l 72, tOnMax := u32 l 76 }
    lev := { iRun := u16 l 80, iMax := u16 l 82, iHold := u16 l 84, iPark := u16 l 86
             fUp := if u32 l 88 = 0 then 250000 else u32 l 88, enSettle := u16 l 112, holdDelay := u16 l 114 }
    ld := { zc := u16 l 92, adapt := u8 l 94, target := u8 l 95, band := u8 l 96, stall := u8 l 97
            count := u8 l 98, up := u8 l 99, down := u8 l 100, follow := u16 l 102, ke := u16 l 104
            vMin := u32 l 108 }
    stallCnt := 0, skipCnt := 0
    load.nextCur := none
    chopA := { d.chopA with onMax := 0, onMaxRun := 0, cycles := [] }
    chopB := { d.chopB with onMax := 0, onMaxRun := 0, cycles := [] } }

def encAt (n : Nat) : Option (Fin 8) := if h : n < 8 then some ⟨n, h⟩ else none

def State.configAxis (a : Fin 12) (l : List Byte) (s : State) : State :=
  let x := s.axes[a]
  let c : AxisCfg :=
    { invert := (u8 l 2).testBit 0, homePol := (u8 l 2).testBit 1, limPol := (u8 l 2).testBit 2
      limDir := (u8 l 2).testBit 3, enc := encAt (u8 l 3), ratio := u64 l 8, followLimit := u32 l 16 }
  let lost := x.positionLost || x.cfg.invert != c.invert || x.cfg.enc != c.enc || x.cfg.ratio != c.ratio
    || decide (x.st = .disabled)
  let bridges := x.drive.chop.flags ≠ u8 l 64
  let s := s.modAxis a fun x =>
    let y := x.reref x.pos c.invert
    let y := { y with cfg := c, positionLost := lost, st := .idle, kept := none, remain := 0, plan := none, gear := none
                      faultCause := 0, move := Move.none, drive := { y.drive.configured l with res := 0 } }
    let y := s.alignEncoder y;
    ((y.setCur s.ticks y.drive.lev.iHold).energise s.ticks)
  s.when bridges fun s => s.powerLost a

def State.configEncoder (e : Fin 8) (l : List Byte) (s : State) : State :=
  let s := s.modEnc e fun x =>
    { Encoder.fresh with
      invert := (u8 l 2).testBit 0, idxEn := (u8 l 2).testBit 1, idxPol := (u8 l 2).testBit 2
      idxGate := (u8 l 2).testBit 3, filter := u8 l 3, estEdges := u8 l 4, idxMode := u8 l 5 = 1, preset := i64 l 8
      pos := i64 l 8, idxPos := x.idxPos, evt := x.evt, irqEn := x.irqEn, still := x.still, lastEdge := x.lastEdge
      backward := x.backward }
  s.each (List.finRange 12) fun a s =>
    if s.axes[a].cfg.enc = some e then s.modAxis a fun x => s.alignEncoder x else s

/-- An encoder in use (06 R140): by a port that is not at rest, by a geared axis or by a pace group. -/
def State.encUsed (s : State) (e : Fin 8) : Bool :=
  ((List.finRange 8).any fun n => s.ports[n].configured && s.ports[n].cfg.encoder = e
    && !(s.ports[n].st = .off || s.ports[n].st = .idle))
  || ((List.finRange 12).any fun a => s.axes[a].st = .geared && (match s.axes[a].gear with
    | some g => g.src == e
    | none => false))
  || (s.groupOfEnc e).isSome

/-- AXIS_CONFIG. -/
def axisConfigSpec : PacketSpec where
  code := 0x0301
  world s p secure :=
    match u8 p.params 0, axisAt p 1, encAt (u8 p.params 1) with
    | 0, some a, _ => s.secureBlock (.ax a) == secure && (match encAt (u8 p.params 3) with
        | some e => s.secureBlock (.enc e) == secure
        | none => true)
    | 1, _, some e => s.secureBlock (.enc e) == secure
    | _, _, _ => true
  len p := if u8 p.params 0 = 0 then p.paramLen == 128 else if u8 p.params 0 = 1 then p.paramLen == 32
    else p.paramLen == 128 || p.paramLen == 32
  fitted s p :=
    match u8 p.params 0 with
    | 0 => match axisAt p 1 with
      | some a => s.fittedBlock (.ax a) && (match encAt (u8 p.params 3) with
        | some e => s.fittedBlock (.enc e)
        | none => true)
      | none => true
    | 1 => match encAt (u8 p.params 1) with
      | some e => s.fittedBlock (.enc e)
      | none => true
    | _ => true
  check s p _ :=
    let l := p.params
    match u8 l 0, axisAt p 1, encAt (u8 l 1) with
    | 0, some a, _ =>
      let x := s.axes[a]
      let noEnc := u8 l 3 = 0xFF
      firstFail [(u8 l 2 ≥ 16 || (!noEnc && u8 l 3 > 7) || (noEnc && u64 l 8 ≠ 0), badParam 0x308),
        (!zeroBytes l 4 4 || !zeroBytes l 20 44, badParam 0x308),
        (!driveReservedOk l || !driveBlockOk l, badParam 0x310), ((s.groupOfAxis a).isSome, badState 0x809),
        (!(x.st = .disabled || x.st = .idle || x.st = .fault), badState 0x30B)]
    | 1, _, some e =>
      firstFail [(u8 l 2 ≥ 16 || u8 l 3 > 15 || u8 l 4 < 1 || u8 l 4 > 16 || u8 l 5 > 1, badParam 0x308),
        (!zeroBytes l 6 2 || !zeroBytes l 16 16, badParam 0x308),
        (s.encUsed e, badState 0x30E)]
    | _, _, _ => badParam 0x308
  run p _ seq s :=
    match u8 p.params 0, axisAt p 1, encAt (u8 p.params 1) with
    | 0, some a, _ => (((s.dropStart a).endDriveCal a).configAxis a p.params).finishOk seq 0
    | 1, _, some e => (s.configEncoder e p.params).finishOk seq 0
    | _, _, _ => s

def execAxisConfig (p : Packet) (s : State) : Host.Outcome State Fault Refusal :=
  .next (s.act p.tick (State.packet axisConfigSpec p))

/-! ### AXIS_LIMITS (06 R141, R152) -/

def Limits.parse (l : List Byte) : Limits :=
  { v := u32 l 8, a := u32 l 12, j := u32 l 16, aStop := u32 l 20, jStop := u32 l 24, softEn := (u8 l 1).testBit 0
    softMin := i64 l 32, softMax := i64 l 40 }

def Limits.inside (m : Limits) (x : Rat) : Bool := decide ((m.softMin : Rat) ≤ x) && decide (x ≤ m.softMax)

/-- The stopping point of the motion in progress under new values (R141, R144), under the values that the motion then uses. A
stop in progress rests where it is planned to (DEDUCED, log entry 124). -/
def Axis.restsUnder (a : Axis) (t : Nat) (m : Limits) : Rat :=
  let dest : Option Rat := (a.plan.bind fun pl => pl.dest).map fun d => (d : Rat)
  match a.st, dest with
  | .stopping, some d => d
  | _, _ =>
    let own := decide (a.move.kind = .position) || decide (a.move.kind = .velocity)
    a.stopAt t (if own then min a.move.a m.a else m.a) (if own then min a.move.j m.j else m.j)

/-- A position move replanned at the next segment boundary under lower values, if it can still rest at its target (R152). -/
def Axis.lowered (a : Axis) (t V A J : Nat) : Option Axis :=
  match a.plan with
  | none => none
  | some pl =>
    let k := (a.kin t).snapped
    let cut := keepSegs (cutSegs pl.segs (((t : Rat) - pl.start) / ticksPerSecond))
    let e := k.end cut
    let sp := e.stopPoint A (256 * J)
    let ahead := if 0 < e.v then decide (sp ≤ a.move.target) else if e.v < 0 then decide ((a.move.target : Rat) ≤ sp) else true
    if ahead then
      let y := a.startPlan t (cut ++ (e.toTarget a.move.target V A (256 * J)).1) (some a.move.target);
      some { y with move := { a.move with v := V, a := A, j := J } }
    else none

/-- Under enforced soft limits a velocity move brakes so as to rest no further than the limit (R150). -/
def Axis.velGuarded (x : Axis) (t : Nat) (vel : Int) (A J : Nat) : Axis :=
  let y := { x.velPlan t vel A J with waits.soft := false }
  if !x.softOn || vel = 0 then y
  else
    let z := x.movePlan t (if 0 < vel then x.lim.softMax else x.lim.softMin) vel.natAbs A J;
    { z with waits.soft := true }

/-- A velocity move under new values from the next segment boundary on, if it can still rest within an enforced soft limit from
there (R152). -/
def Axis.velLowered (x : Axis) (t : Nat) (vel : Int) (A J : Nat) : Option Axis :=
  match x.plan with
  | none => some x
  | some pl =>
    let cut := keepSegs (cutSegs pl.segs (((t : Rat) - pl.start) / ticksPerSecond))
    let e := (x.kin t).snapped.end cut
    let sp := e.stopPoint A (256 * J)
    if vel = 0 then some (x.startPlan t (cut ++ e.stopSegs A (256 * J)) (some (if e.p ≤ sp then sp.floor else sp.ceil)))
    else if !x.softOn then some { x.startPlan t (cut ++ rampSegs 1 e.v e.a vel A (256 * J)) none with waits.soft := false }
    else
      let lim : Int := if 0 < vel then x.lim.softMax else x.lim.softMin
      if (0 < vel ∧ (lim : Rat) < sp) ∨ (vel < 0 ∧ sp < lim) then none
      else some { x.startPlan t (cut ++ (e.toTarget lim vel.natAbs A (256 * J)).1) (some lim) with waits.soft := true }

/-- A move whose values are no higher than the limits (R143). -/
def Move.within (k : Move) (m : Limits) : Move :=
  { k with v := min k.v m.v, a := min k.a m.a, j := min k.j m.j, vel := clampInt (-(m.v : Int)) m.v k.vel }

/-- A velocity move, or a run of a homing, under lower limits from the next segment boundary (R141, R152). -/
def Axis.velLimited (x : Axis) (t : Nat) : Option Axis :=
  let k := x.move.within x.lim
  (x.velLowered t k.vel k.a k.j).map fun y => { y with move := k }

/-- The move in progress runs at a velocity, as a velocity move or as a search of a homing that is not coming to rest. -/
def Axis.runsAtVel (x : Axis) : Bool :=
  (x.st = .moving && x.move.kind = .velocity) || (x.st = .homing && x.plan.any fun pl => pl.dest.isNone)

/-- AXIS_LIMITS takes effect (R141). A move that uses higher values takes the lower ones from the next segment boundary, or
keeps its own where it could not rest any more (R152); a change of the soft limits that are enforced guards a velocity move at
once (R150). -/
def State.setLimits (a : Fin 12) (m : Limits) (seq : DWord) (s : State) : State :=
  let was := s.axes[a].lim
  let s := s.modAxis a fun x => { x with lim := m }
  let x := s.axes[a]
  let above := x.move.v > m.v || x.move.a > m.a || x.move.j > m.j
  let soft := was.softEn != m.softEn || was.softMin != m.softMin || was.softMax != m.softMax
  if x.st = .moving && x.move.kind = .position && above then
    match x.lowered s.ticks (min x.move.v m.v) (min x.move.a m.a) (min x.move.j m.j) with
    | some y => (s.modAxis a fun _ => y).finishOk seq 0
    | none => ((s.axisFlag a 8).axisFlag a 2).finish seq 0x0300 0x0303 0
  else if x.runsAtVel && above then
    match x.velLimited s.ticks with
    | some y => (s.modAxis a fun _ => y).finishOk seq 0
    | none =>
      let s := s.when soft fun s => s.modAxis a fun x => x.velGuarded s.ticks x.move.vel x.move.a x.move.j
      ((s.axisFlag a 8).axisFlag a 2).finish seq 0x0300 0x0303 0
  else if x.st = .moving && x.move.kind = .velocity && soft && !x.positionLost then
    (s.modAxis a fun x => x.velGuarded s.ticks x.move.vel x.move.a x.move.j).finishOk seq 0
  else s.finishOk seq 0

def axisLimitsSpec : PacketSpec where
  code := 0x030A
  world := axisWorld
  len p := p.paramLen == 48
  fitted := axisFitted
  check s p _ :=
    match axisAt p 0 with
    | none => badParam 0x308
    | some a =>
      let l := p.params
      let m := Limits.parse l
      let x := s.axes[a]
      let on := m.softEn && !x.positionLost
      firstFail [(u8 l 1 > 1 || m.v < 1 || m.v > 512000000 || m.a = 0 || m.j = 0 || m.aStop < m.a || m.jStop < m.j
          || m.softMax ≤ m.softMin, badParam 0x308),
        (!zeroBytes l 2 6 || !zeroBytes l 28 4, badParam 0x308),
        (on && (!m.inside x.pos
            || (x.plan.isSome || x.gear.isSome) && !m.inside (x.restsUnder s.ticks m)), some ⟨0x0300, 0x304, 0⟩)]
  run p _ seq s :=
    match axisAt p 0 with
    | some a => s.setLimits a (Limits.parse p.params) seq
    | none => s

def execAxisLimits (p : Packet) (s : State) : Host.Outcome State Fault Refusal :=
  .next (s.act p.tick (State.packet axisLimitsSpec p))

/-! ### MOVE_TO and MOVE_VELOCITY (06 R148 to R152) -/

/-- V, A and J of a move, 0 meaning the limit. -/
def moveValues (m : Limits) (v a j : Nat) : Nat × Nat × Nat :=
  (if v = 0 then m.v else v, if a = 0 then m.a else a, if j = 0 then m.j else j)

/-- Checks common to both commands: state and governor (R104, R148; 07 R182). -/
def moveState (s : State) (a : Fin 12) : List (Bool × Option Reject) :=
  let x := s.axes[a]
  [((s.groupOfAxis a).isSome, badState 0x809),
    (!(x.st = .idle || x.st = .moving || x.st = .stopping || x.st = .fault), badState 0x30B)]

/-- The filtered level of `AXn_FLT_N` is low; without `flt_en` the pin is ignored (07 R180). -/
def Drive.fltIn (d : Drive) : Bool := d.fltLow && d.chop.flags.testBit 1

/-- The cause of a FAULT is still present (R155): the kept move would go in the given direction. -/
def State.causeStays (s : State) (x : Axis) (dir : Option Bool) : Bool :=
  (x.faultCause == 2 && x.drive.fltIn)
    || (x.faultCause == 3 && x.limActive && (match dir with
      | some d => x.cfg.limDir == d
      | none => false))
    || (x.faultCause == 4 && ((match x.kept with
      | some k => (match k.gear with
        | some g => s.encs[g.1].posInvalid
        | none => false)
      | none => false) || (match x.cfg.enc with
      | some e => s.encs[e].posInvalid
      | none => false)))

def moveToTarget (x : Axis) (l : List Byte) : Int :=
  if (u8 l 1).testBit 0 then (if x.move.kind = .position then x.move.target else x.pos) + i64 l 8 else i64 l 8

/-- Start of any motion: the running current, the counters (07 R175, Table 7.7). A bridge fault is taken at its filtered edge:
bridges that a motion drives while `AXn_FLT_N` is still low are driven (DESIGN CHOICE, log entry 121). -/
def Axis.begin (x : Axis) (t : Nat) : Axis :=
  let y := x.setCur t x.drive.lev.iRun
  let y := { y with steps.moves := y.steps.moves + 1, drive.load.top := 0, drive.load.run := 0, drive.load.nextCur := none
                    faultCause := 0 }
  if y.drive.en then y else y.energise t

/-- A new move takes the axis: earlier commands end under R149, the kept state goes (R154). A STOP or a disengagement that still
waits for rest ends with them: OK, 0x0301, with the distance it has kept (DESIGN CHOICE, log entry 146). -/
def State.takeAxis (a : Fin 12) (s : State) : State :=
  let s := (s.dropStart a).replaceMove a 0x0301
  let x := s.axes[a]
  let s := s.finishAll (x.waits.stops ++ x.waits.disengage.toList) 0 0x0301 (result32 x.remain)
  s.modAxis a fun x => { x with waits := { x.waits with stops := [], disengage := none, soft := false }, kept := none
                                remain := 0 }

/-- A MOVE_TO that names the target of the move in progress with a lower A or J (R152). -/
def Axis.lowers (x : Axis) (target : Int) (A J : Nat) : Bool :=
  x.st = .moving && x.move.kind = .position && x.move.target = target && (A < x.move.a || J < x.move.j)

def State.moveTo (a : Fin 12) (l : List Byte) (seq : DWord) (s : State) : State :=
  let x := s.axes[a]
  let target := moveToTarget x l
  let w := moveValues x.lim (u32 l 16) (u32 l 20) (u32 l 24)
  let lower := x.lowers target w.2.1 w.2.2
  let s := s.takeAxis a
  let s := s.begun seq
  if lower then
    match s.axes[a].lowered s.ticks w.1 w.2.1 w.2.2 with
    | some y => s.modAxis a fun _ => { y with waits.seq := some seq, overshoot := 0, steps.moves := y.steps.moves + 1 }
    | none => (s.axisFlag a 8).modAxis a fun y =>
        { y with waits.seq := some seq, waits.deferred := true, overshoot := 0, steps.moves := y.steps.moves + 1 }
  else
    let s := s.modAxis a fun y =>
      let y := (y.movePlan s.ticks target w.1 w.2.1 w.2.2).begin s.ticks;
      { y with st := .moving, waits.seq := some seq
               move := { kind := .position, target, vel := 0, v := w.1, a := w.2.1, j := w.2.2 } }
    (s.noteOvershoot a).restIfStill a

/-- Where a move to a target rests, and where it turns if it overshoots (R148, R151). One that only lowers A or J does not turn
(R152). -/
def Axis.moveReach (x : Axis) (t : Nat) (target : Int) (A J : Nat) : List Rat :=
  let k := (x.kin t).snapped
  let sp := x.stopAt t A J
  let ahead := decide (0 < k.v ∧ sp ≤ target) || decide (k.v < 0 ∧ (target : Rat) ≤ sp)
  if (k.v = 0 ∧ k.a = 0) ∨ ahead ∨ x.lowers target A J then [(target : Rat)] else [(target : Rat), sp]

def moveToSpec : PacketSpec where
  code := 0x0302
  world := axisWorld
  len p := p.paramLen == 32
  fitted := axisFitted
  check s p _ :=
    match axisAt p 0 with
    | none => badParam 0x308
    | some a =>
      let l := p.params
      let x := s.axes[a]
      let target := moveToTarget x l
      let w := moveValues x.lim (u32 l 16) (u32 l 20) (u32 l 24)
      firstFail (([(u8 l 1 > 1, badParam 0x308), (!zeroBytes l 2 6 || !zeroBytes l 28 4, badParam 0x308)] :
          List (Bool × Option Reject)) ++ moveState s a ++
        ([(x.positionLost, some ⟨0x0302, 0, 0⟩),
          (w.1 > x.lim.v || w.2.1 > x.lim.a || w.2.2 > x.lim.j || w.1 = 0 || w.2.1 = 0 || w.2.2 = 0, some ⟨0x0300, 0x305, 0⟩),
          (x.softOn && (x.moveReach s.ticks target w.2.1 w.2.2).any fun q => !x.lim.inside q, some ⟨0x0300, 0x304, 0⟩),
          (target ≠ x.pos && x.blocked (decide (x.pos < target)), some ⟨0x0300, 0x307, 0⟩)] : List (Bool × Option Reject)))
  run p _ seq s :=
    match axisAt p 0 with
    | some a => s.moveTo a p.params seq
    | none => s

def execMoveTo (p : Packet) (s : State) : Host.Outcome State Fault Refusal :=
  .next (s.act p.tick (State.packet moveToSpec p))

def State.moveVelocity (a : Fin 12) (l : List Byte) (seq : DWord) (s : State) : State :=
  let x := s.axes[a]
  let vel := i32 l 8
  let w := moveValues x.lim 0 (u32 l 12) (u32 l 16)
  let s := s.takeAxis a
  let s := s.begun seq
  let s := s.modAxis a fun y =>
    let y := (y.velGuarded s.ticks vel w.2.1 w.2.2).begin s.ticks;
    { y with st := .moving, waits.seq := some seq, overshoot := 0
             move := { kind := .velocity, target := 0, vel, v := vel.natAbs, a := w.2.1, j := w.2.2 } }
  s.restIfStill a

def moveVelocitySpec : PacketSpec where
  code := 0x0303
  world := axisWorld
  len p := p.paramLen == 32
  fitted := axisFitted
  check s p _ :=
    match axisAt p 0 with
    | none => badParam 0x308
    | some a =>
      let l := p.params
      let x := s.axes[a]
      let vel := i32 l 8
      let w := moveValues x.lim 0 (u32 l 12) (u32 l 16)
      let sp := x.stopAt s.ticks w.2.1 w.2.2
      let now := (x.kin s.ticks).v
      firstFail (([(!zeroBytes l 1 7 || !zeroBytes l 20 12, badParam 0x308)] : List (Bool × Option Reject)) ++ moveState s a ++
        ([(vel.natAbs > x.lim.v || w.2.1 > x.lim.a || w.2.2 > x.lim.j || w.2.1 = 0 || w.2.2 = 0, some ⟨0x0300, 0x305, 0⟩),
          (x.softOn && (((0 < vel || 0 < now) && decide ((x.lim.softMax : Rat) < sp))
              || ((vel < 0 || now < 0) && decide (sp < x.lim.softMin))), some ⟨0x0300, 0x304, 0⟩),
          (vel ≠ 0 && x.blocked (decide (0 < vel)), some ⟨0x0300, 0x307, 0⟩)] : List (Bool × Option Reject)))
  run p _ seq s :=
    match axisAt p 0 with
    | some a => s.moveVelocity a p.params seq
    | none => s

def execMoveVelocity (p : Packet) (s : State) : Host.Outcome State Fault Refusal :=
  .next (s.act p.tick (State.packet moveVelocitySpec p))

/-! ### STOP, RESUME (06 R153 to R155) -/

def stopSpec : PacketSpec where
  code := 0x0304
  world := axisWorld
  len p := p.paramLen == 8
  fitted := axisFitted
  check _ p _ :=
    match axisAt p 0 with
    | none => badParam 0x308
    | some _ => firstFail [(u8 p.params 1 > 1, badParam 0x308), (!zeroBytes p.params 2 6, badParam 0x308)]
  run p _ seq s :=
    match axisAt p 0 with
    | some a => (s.begun seq).stopAxis a (u8 p.params 1 == 1) (some seq)
    | none => s

def execStop (p : Packet) (s : State) : Host.Outcome State Fault Refusal :=
  .next (s.act p.tick (State.packet stopSpec p))

/-- Engagement to a master encoder (R157): r rises from 0 over sync_counts, or is the full ratio at once. -/
def State.engage (a : Fin 12) (e : Fin 8) (ratio : Int) (sync : Nat) (seq : Option DWord) (s : State) : State :=
  let m := s.encs[e]
  let s := s.modAxis a fun x =>
    let g : Gear := { src := e, sync, r1 := if sync = 0 then ratio else 0, r2 := ratio, x0 := m.pos, len := sync
                      blending := false, up := true, x := m.pos, p := x.pos, ahead := x.pos, stamp := s.ticks, tEst := 0xFFFFFFFF, next := none
                      waiting := if sync = 0 then [] else seq.toList }
    let x := x.begin s.ticks;
    { x with st := .geared, gear := some g, plan := none
             move := { kind := .geared, target := 0, vel := 0, v := x.lim.v, a := x.lim.a, j := x.lim.j } }
  (s.when (sync = 0) fun s => s.finishAll seq.toList 0 0 0).sysRoutes

/-- The kept move goes on from standstill (R155), within the limits in force (R143). -/
def State.resumeKept (a : Fin 12) (seq : Option DWord) (s : State) : State :=
  let x := s.axes[a]
  match x.kept with
  | none => s
  | some k =>
    let s := s.modAxis a fun x => { x with kept := none, remain := 0, st := .idle, faultCause := 0 }
    let m := k.move.within x.lim
    match k.move.kind with
    | .position =>
      let s := s.modAxis a fun y =>
        let y := (y.movePlan s.ticks m.target m.v m.a m.j).begin s.ticks;
        { y with st := .moving, waits.seq := seq, move := m }
      s.restIfStill a
    | .velocity =>
      let s := s.modAxis a fun y =>
        let y := (y.velGuarded s.ticks m.vel m.a m.j).begin s.ticks;
        { y with st := .moving, waits.seq := seq, move := m }
      s.restIfStill a
    | .geared =>
      match k.gear with
      | some g => s.engage a g.1 g.2.1 g.2.2 seq
      | none => s.finishAll seq.toList 0 0 0
    | _ =>
      let s := s.modAxis a fun y => (y.begin s.ticks)
      ((s.modAxis a fun y => { y with move := Move.none }).finishAll seq.toList 0 0 0).sbAdvanceAll

/-- A restart after a bridge fault first energises the bridges and waits en_settle (07 R180). -/
def State.withSettle (a : Fin 12) (what : AfterSettle) (f : State → State) (s : State) : State :=
  let x := s.axes[a]
  if x.drive.en then f s
  else s.modAxis a fun x =>
    { x with drive.en := true, waits.settle := some (s.ticks + x.drive.lev.enSettle * 1500, what) }

/-- The direction in which the kept move would go: a geared one as its master last moved (DEDUCED, log entry 122). -/
def State.keptDir (s : State) (x : Axis) : Option Bool :=
  match x.kept with
  | some k => match k.move.kind with
    | .position => if x.pos = k.move.target then none else some (decide (x.pos < k.move.target))
    | .velocity => some (decide (0 < k.move.vel))
    | .geared => k.gear.map fun g => decide (0 < g.2.1) != s.encs[g.1].backward
    | _ => some true
  | none => none

def resumeSpec : PacketSpec where
  code := 0x0305
  world := axisWorld
  len p := p.paramLen == 8
  fitted := axisFitted
  check s p _ :=
    match axisAt p 0 with
    | none => badParam 0x308
    | some a =>
      let x := s.axes[a]
      let dir := s.keptDir x
      firstFail [(u8 p.params 1 ≠ 0, badParam 0x308), (!zeroBytes p.params 2 6, badParam 0x308),
        (!(x.st = .idle || x.st = .fault), badState 0x30B),
        (x.kept.isNone, badState 0x30A),
        ((match x.kept with
          | some k => decide (k.move.kind = .position)
          | none => false) && x.positionLost, some ⟨0x0302, 0, 0⟩),
        (s.causeStays x dir, badState 0x30B), (dir.any x.blocked, some ⟨0x0300, 0x307, 0⟩)]
  run p _ seq s :=
    match axisAt p 0 with
    | some a =>
      let s := ((s.dropStart a).begun seq).modAxis a fun x => { x with waits.seq := some seq }
      s.withSettle a .resume fun s =>
        (s.modAxis a fun x => { x with waits.seq := none }).resumeKept a (some seq)
    | none => s

def execResume (p : Packet) (s : State) : Host.Outcome State Fault Refusal :=
  .next (s.act p.tick (State.packet resumeSpec p))

/-! ### HOME (06 R160, R161) -/

/-- Step 2 of Table 6.10, or the stop of method 3. -/
def State.startHome (a : Fin 12) (s : State) : State :=
  let x := s.axes[a]
  match x.home with
  | none => s
  | some h =>
    if h.method = 3 then
      let s := s.modAxis a fun x => { x.homeStop s.ticks 1 with st := .homing }
      if s.axes[a].plan.isNone then s.homeRest a else s
    else if x.homeSwitch h then
      let s := s.modAxis a fun x => { x.homeStop s.ticks 3 with st := .homing }
      if s.axes[a].plan.isNone then s.homeRest a else s
    else s.modAxis a fun x => x.homeRun s.ticks 2 h.vFast h.positive

/-- Step 1 of Table 6.10: the axis is in HOMING. -/
def State.beginHome (a : Fin 12) (l : List Byte) (seq : DWord) (s : State) : State :=
  let gov := (s.groupOfAxis a).isSome
  let s := (s.takeAxis a).begun seq
  s.modAxis a fun x =>
    { x with
      st := .homing
      move := { kind := .homing, target := 0, vel := 0, v := u32 l 8, a := x.lim.a, j := x.lim.j }
      home := some { seq, step := 1, method := u8 l 1, positive := u8 l 2 == 1, vFast := u32 l 8, vSlow := u32 l 12
                     backoff := u32 l 16, search := u32 l 20, homePos := i64 l 24, origin := x.pos, released := false
                     governed := gov, ending := none } }

/-- The motion of a homing begins. -/
def State.runHome (a : Fin 12) (s : State) : State := (s.modAxis a fun x => x.begin s.ticks).startHome a

def homeSpec : PacketSpec where
  code := 0x0306
  world := axisWorld
  len p := p.paramLen == 32
  fitted := axisFitted
  check s p _ :=
    match axisAt p 0 with
    | none => badParam 0x308
    | some a =>
      let l := p.params
      let x := s.axes[a]
      let gov := (s.groupOfAxis a).isSome
      firstFail [(u8 l 1 > 3 || u8 l 2 > 1 || u32 l 8 > x.lim.v || u32 l 12 > u32 l 8, badParam 0x308),
        (!zeroBytes l 3 5, badParam 0x308),
        (gov && !x.positionLost, badState 0x809),
        (!(x.st = .idle || x.st = .fault || (gov && (x.st = .moving || x.st = .stopping))), badState 0x30B),
        ((u8 l 1 = 1 || u8 l 1 = 3) && x.cfg.enc.isNone, badParam 0x308),
        (u8 l 1 = 3 && x.cfg.ratio = 0, badParam 0x308),
        (!(u8 l 1 = 3 && x.plan.isNone) && (x.lim.a = 0 || x.lim.j = 0), some ⟨0x0300, 0x305, 0⟩),
        (x.faultCause = 2 && x.drive.fltIn, badState 0x30B),
        (u8 l 1 < 2 && !x.homeActive && x.blocked (u8 l 2 = 1), some ⟨0x0300, 0x307, 0⟩)]
  run p _ seq s :=
    match axisAt p 0 with
    | some a =>
      (s.beginHome a p.params seq).withSettle a .home (State.runHome a)
    | none => s

def execHome (p : Packet) (s : State) : Host.Outcome State Fault Refusal :=
  .next (s.act p.tick (State.packet homeSpec p))

/-! ### GEAR_SET, GEAR_RATIO_AT (06 R156 to R158) -/

def gearSetSpec : PacketSpec where
  code := 0x0307
  world s p secure := axisWorld s p secure && (match u8 p.params 1, encAt (u8 p.params 2) with
    | 0, some e => s.secureBlock (.enc e) == secure
    | _, _ => true)
  len p := p.paramLen == 16
  fitted s p := axisFitted s p && (match u8 p.params 1, encAt (u8 p.params 2) with
    | 0, some e => s.fittedBlock (.enc e)
    | _, _ => true)
  check s p _ :=
    match axisAt p 0 with
    | none => badParam 0x308
    | some a =>
      let l := p.params
      let x := s.axes[a]
      let engage := u8 l 1 = 0
      firstFail ([(u8 l 1 > 1 || (!engage && u8 l 2 ≠ 0) || u8 l 2 > 7
          || u32 l 4 ≥ 2 ^ 31 || (engage && u64 l 8 = 0), badParam 0x308),
        (!zeroBytes l 3 1, badParam 0x308), ((s.groupOfAxis a).isSome, badState 0x809),
        ((engage && x.st ≠ .idle) || (!engage && x.st ≠ .geared), badState 0x30B),
        (engage && (match encAt (u8 l 2) with
          | some e => s.encs[e].posInvalid
          | none => false), badState 0x30E)])
  run p _ seq s :=
    match axisAt p 0 with
    | none => s
    | some a =>
      let l := p.params
      let s := ((s.dropStart a).modAxis a fun x => { x with kept := none, remain := 0 }).begun seq
      if u8 l 1 = 0 then
        match encAt (u8 l 2) with
        | some e => s.engage a e (i64 l 8) (u32 l 4) (some seq)
        | none => s
      else
        let g := (s.axes[a].gear.map fun g => g.waiting ++ (match g.next with
          | some n => [n.seq]
          | none => [])).getD []
        let s := s.finishAll g 0 0x0301 0
        let s := s.modAxis a fun x =>
          { x.stopPlan s.ticks x.lim.a x.lim.j with st := .stopping, gear := none, waits.disengage := some seq }
        (s.restIfStill a).sysRoutes

def execGearSet (p : Packet) (s : State) : Host.Outcome State Fault Refusal :=
  .next (s.act p.tick (State.packet gearSetSpec p))

/-- GEAR_RATIO_AT. One that a later one replaces, and one that still waits when the axis is disengaged, is answered OK, 0x0301
(DESIGN CHOICE, log entry 147). -/
def gearRatioAtSpec : PacketSpec where
  code := 0x0308
  world := axisWorld
  len p := p.paramLen == 24
  fitted := axisFitted
  check s p _ :=
    match axisAt p 0 with
    | none => badParam 0x308
    | some a =>
      let l := p.params
      let x := s.axes[a]
      let passed := match x.gear with
        | some g => if u8 l 1 = 0 then decide (i64 l 8 < g.x) else decide (g.x < i64 l 8)
        | none => false
      firstFail [(u8 l 1 > 1 || u32 l 4 ≥ 2 ^ 31, badParam 0x308), (!zeroBytes l 2 2, badParam 0x308),
        ((s.groupOfAxis a).isSome, badState 0x809), (x.st ≠ .geared, badState 0x30B), (passed, badState 0x30C)]
  run p _ seq s :=
    match axisAt p 0 with
    | none => s
    | some a =>
      let l := p.params
      let old := match s.axes[a].gear with
        | some g => (g.next.map fun n => n.seq).toList
        | none => []
      let s := (s.finishAll old 0 0x0301 0).begun seq
      s.modAxis a fun x =>
        { x with gear := x.gear.map fun g =>
            { g with next := some { up := u8 l 1 = 0, pos := i64 l 8, ratio := i64 l 16, blend := u32 l 4, seq } } }

def execGearRatioAt (p : Packet) (s : State) : Host.Outcome State Fault Refusal :=
  .next (s.act p.tick (State.packet gearRatioAtSpec p))

/-! ### HOLD_PARK (07 R182, Table 7.4) -/

def holdParkSpec : PacketSpec where
  code := 0x0309
  world := axisWorld
  len p := p.paramLen == 16
  fitted := axisFitted
  check s p _ :=
    match axisAt p 0 with
    | none => badParam 0x314
    | some a =>
      let l := p.params
      let x := s.axes[a]
      let wake := u8 l 1 = 1
      firstFail [(u8 l 1 > 1 || u8 l 2 > 1 || u16 l 4 < 1 || u16 l 4 > 1000, badParam 0x314),
        (!zeroBytes l 3 1 || !zeroBytes l 6 10, badParam 0x314),
        ((s.groupOfAxis a).isSome, badState 0x809),
        ((!wake && x.st ≠ .idle) || (wake && x.st ≠ .parked) || x.waits.park.isSome || x.waits.settle.isSome,
          badState 0x30B)]
  run p _ seq s :=
    match axisAt p 0 with
    | none => s
    | some a =>
      let l := p.params
      let ramp := u16 l 4 * 1500000
      let s := s.begun seq
      s.modAxis a fun x =>
        let k : Parking := { seq, waking := u8 l 1 = 1, ramp, powerOff := u8 l 2 = 1 }
        if k.waking then
          if x.drive.parked.powerOff then
            { x with drive.en := true, waits.park := some k
                     waits.settle := some (s.ticks + x.drive.lev.enSettle * 1500, .wake) }
          else { x.rampCur s.ticks ramp x.drive.lev.iPark x.drive.lev.iHold with waits.park := some k }
        else { x.rampCur s.ticks ramp (x.drive.cur.now s.ticks) x.drive.lev.iPark with waits.park := some k }

def execHoldPark (p : Packet) (s : State) : Host.Outcome State Fault Refusal :=
  .next (s.act p.tick (State.packet holdParkSpec p))

end Sys2Proof.Machine
end

