-- ==== Sys2Proof/Machine/AxisEvents.lean ====
section
/-! DEFINITION. What happens to axes and encoders by itself: steps, geared counts, index, standstill (06), the chopper,
current delay, parking, bridge faults (07), and the STOP tasks (12 R297). -/

namespace Sys2Proof.Machine

/-! ### Task inputs (12 R299) -/

/-- The block takes the pending activation of a task input once its arbiter has resolved. -/
def State.takeAct (s : State) (num inst : Nat) : Option (Activation × State) :=
  match s.evf.acts.find? fun x => x.task == { num, inst } && decide (x.tick ≤ s.ticks) with
  | none => none
  | some x => some (x, { s with evf.acts := s.evf.acts.erase x })

/-! ### Steps (06 R146, R147; 07 R167 to R177) -/

/-- A load sample is asked for at a zero index (07 R176); one that has not returned is skipped. -/
def Axis.loadStep (x : Axis) (t : Nat) : Axis :=
  let v := ratAbs (x.kin t).v / 256
  let ok := x.drive.res < 8 && decide ((x.drive.ld.vMin : Rat) ≤ v) && x.drive.ld.adapt % 4 ≠ 0
  let skipped := x.drive.load.wait.isSome
  let i := x.index
  let wait := if !ok then none
    else if i = 128 || i = 640 then some (t, Phase.a, v)
    else if i = 384 || i = 896 then some (t, Phase.b, v) else none
  { x with drive.load := { x.drive.load with valid := ok, wait, asked := false }
           drive.skipCnt := if skipped then satInc x.drive.skipCnt else x.drive.skipCnt }

/-- The current that a step event brings into force: i_run when it had fallen or is falling, an adapted value that waited
(R175, R177). The phases follow it with the step itself. -/
def Axis.curStep (x : Axis) (t : Nat) : Axis :=
  let n := x.drive.cur.now t
  let cur := if n < x.drive.lev.iRun || x.drive.cur.dur ≠ 0 then Current.at x.drive.lev.iRun else x.drive.cur
  match x.drive.load.nextCur with
  | some c => { x with drive.cur := Current.at c, drive.load.nextCur := none }
  | none => { x with drive.cur := cur }

/-- One step of the sequencer at a tick. -/
def Axis.emit (x : Axis) (t : Nat) (pos : Int) : Axis :=
  let x := x.sync t
  let a := x.thr .a t
  let b := x.thr .b t
  let y := ((x.stepped t pos).curStep t).loadStep t;
  (y.phaseStep t .a a).phaseStep t .b b

/-- A velocity has been reached (06 R149): it is held, and is the one asked for. -/
def Plan.reached (pl : Plan) (t : Nat) (vel : Int) : Bool :=
  let x := pl.at t
  (x.2 == 4 || (pl.dest.isNone && decide (pl.endTick ≤ t))) && ratRound x.1.v == vel

/-- What a step can end: a search travel, a backoff, a ramp to a velocity, the motion. From the step at which it begins to brake
for a soft limit a velocity move is in STOPPING (06 Table 6.11). -/
def State.afterStep (a : Fin 12) (s : State) : State :=
  let x := s.axes[a]
  match x.home with
  | some h =>
    if h.ending.isNone && (h.step = 2 || h.step = 5 || (h.step = 4 && !h.released)) && (x.pos - h.origin).natAbs ≥ h.search
    then s.homeAbort a 0x0300 0x030D
    else if h.step = 4 && h.released && (x.pos - h.origin).natAbs ≥ h.backoff then
      s.modAxis a fun x => x.homeRun s.ticks 5 h.vSlow h.positive
    else if x.nextStep.isNone && x.plan.isSome then s.axisRest a else s
  | none =>
    match x.plan with
    | none => s
    | some pl =>
      let moving := x.move.kind = .velocity && x.move.vel ≠ 0 && x.st = .moving
      let s := s.when (moving && pl.reached s.ticks x.move.vel) fun s =>
        (s.modAxis a fun x => { x with waits.seq := none }).finishAll x.waits.seq.toList 0 0 0
      let s := s.when (moving && x.waits.soft && 5 ≤ (pl.at s.ticks).2) fun s => s.modAxis a fun x => { x with st := .stopping }
      if x.nextStep.isNone && pl.dest.isSome then s.axisRest a else s

def State.stepEvent (a : Fin 12) (s : State) : State :=
  let x := s.axes[a]
  if !(x.st = .moving || x.st = .stopping || x.st = .homing || x.st = .geared) || x.waits.settle.isSome then s
  else
    match x.nextStep with
    | none => match x.plan with
      | some pl => if pl.dest.isSome && decide (pl.endTick ≤ s.ticks) then s.axisRest a else s
      | none => s
    | some (due, pos) =>
      if s.ticks < due then s
      else
        let late := due < s.ticks
        let bound := x.st = .geared && due = x.steps.last + 750 && x.drive.res = 8
        let s := s.modAxis a fun x =>
          let y := x.emit s.ticks pos;
          { y with steps.starve := if late then sat16 (y.steps.starve + 1) else y.steps.starve }
        let s := s.when late fun s => s.axisFlag a 4
        let s := s.when bound fun s => s.axisFlag a 5
        let s := s.fire (.ax a) 0
        let s := s.followCheck a
        if s.axes[a].st = .fault then s else (s.afterStep a).sbAdvanceAll

def execStepEvent (t : Nat) (a : Fin 12) (s : State) : Host.Outcome State Fault Refusal :=
  .next (s.act t (State.stepEvent a))

/-! ### Gearing (06 R156 to R159) -/

/-- A ratio change takes effect where the master reaches its position moving in its direction, or leaves it so (R158). -/
def Gear.change (g : Gear) (up : Bool) : Gear :=
  match g.next with
  | some k =>
    if k.pos = g.x ∧ k.up = up then
      { g with r1 := (g.ratioAt g.x * 2 ^ 32).floor, r2 := k.ratio, x0 := g.x, len := k.blend, blending := true, up, next := none
               waiting := g.waiting ++ [k.seq] }
    else g
  | none => g

/-- Counts from one master position to another, one at a time. -/
def Gear.follow : Nat → Int → Gear → Gear
  | 0, _, g => g
  | n + 1, x, g =>
    if g.x = x then g
    else
      let up := decide (g.x < x)
      let g := g.change up
      let g := { g with p := g.stepFrom g.p g.x up, x := if up then g.x + 1 else g.x - 1 }
      Gear.follow n x (g.change up)

/-- A sync or blend travel that has ended; what the ratio is at each position stays (R156). -/
def Gear.settled (g : Gear) : Gear := { g with waiting := [] }

/-- Master velocity times the ratio, in pu/s. -/
def Gear.speed (g : Gear) : Rat :=
  if g.tEst = 0 ∨ g.tEst ≥ 0xFFFFFFFF then 0 else ratAbs (g.ahead - g.p) * ticksPerSecond * 256 / g.tEst

def State.gearEdge (a : Fin 12) (e : CountEdge) (s : State) : State :=
  let x := s.axes[a]
  match x.gear with
  | none => s
  | some g =>
    if x.st ≠ .geared then s
    else
      let h := Gear.follow (e.pos - g.x).natAbs e.pos g
      let h := { h with ahead := h.stepFrom h.p h.x e.up, stamp := e.tick, tEst := e.interval }
      let done := decide ((h.len : Int) ≤ h.travel h.x)
      let h' := if done then h.settled else h
      let s := s.modAxis a fun x => { x with gear := some h' }
      let s := s.when done fun s => s.finishAll h.waiting 0 0 0
      let was := decide ((x.lim.v : Rat) < g.speed)
      s.when (!was && decide ((x.lim.v : Rat) < h.speed)) fun s => (s.axisFlag a 5).fire (.ax a) 4

def execGearCount (t : Nat) (a : Fin 12) (s : State) : Host.Outcome State Fault Refusal :=
  .next (s.act t fun s =>
    match s.takeAct (14 * 64 + 2) a.val with
    | none => s
    | some (x, s) => s.each x.edges fun e s => s.gearEdge a e)

/-! ### STOP tasks (12 R297) -/

def State.stopTask (num : Nat) (quick : Bool) (a : Fin 12) (s : State) : State :=
  match s.takeAct num a.val with
  | none => s
  | some (_, s) => s.stopAxis a quick none

def execStopRamp (t : Nat) (a : Fin 12) (s : State) : Host.Outcome State Fault Refusal :=
  .next (s.act t (State.stopTask (14 * 64) false a))
def execStopQuick (t : Nat) (a : Fin 12) (s : State) : Host.Outcome State Fault Refusal :=
  .next (s.act t (State.stopTask (14 * 64 + 1) true a))

/-! ### Encoder index and standstill (06 R137, R139) -/

/-- Homing by index: the position at the index becomes home_pos (Table 6.10 step 5, method 1). -/
def State.homeIndex (e : Fin 8) (s : State) : State :=
  s.each (List.finRange 12) fun a s =>
    let x := s.axes[a]
    match x.home with
    | none => s
    | some h =>
      if x.cfg.enc = some e && h.method = 1 && h.step = 5 && h.released && h.ending.isNone then
        let s := s.modAxis a fun x => (x.redefine (h.homePos - x.pos)).homeStop s.ticks 6
        if s.axes[a].plan.isNone then s.homeRest a else s
      else s

/-- ENCODER_INDEX. With `idx_en` clear no index edge is accepted: it loads no preset and ends no homing (DESIGN CHOICE, log
entry 144). -/
def State.encoderIndex (e : Fin 8) (a b : Bool) (s : State) : State :=
  let x := s.encs[e]
  if !s.fittedBlock (.enc e) || !x.idxEn || (x.idxGate && !(a && b)) then s
  else
    let pos := if x.idxMode then x.preset else x.pos
    let s := s.modEnc e fun x =>
      { x with idxPos := x.pos, pos, idxMode := false, idxCnt := x.idxCnt + 1, evt := setBit x.evt 2
               log := if x.idxMode then (s.ticks, pos) :: x.log else x.log }
    let s := (s.fire (.enc e) 1).homeIndex e
    if x.idxMode then
      s.each (List.finRange 12) fun a s =>
        if s.axes[a].cfg.enc = some e then s.modAxis a fun y => s.alignEncoder y else s
    else s

def execEncoderIndex (t : Nat) (e : Fin 8) (a b : Bool) (s : State) : Host.Outcome State Fault Refusal :=
  .next (s.act t (State.encoderIndex e a b))

/-- No edge for 200 us, 300,000 ticks (R137): the STANDSTILL generator, the resolution of the axes that follow it (07 R169), and
what waits for it in 05. -/
def State.encoderStandstill (e : Fin 8) (s : State) : State :=
  let x := s.encs[e]
  let due := match x.lastEdge with
    | some t => t + 300000 ≤ s.ticks
    | none => false
  if !due || x.still then s
  else
    let s := (s.modEnc e fun x => { x with still := true }).fire (.enc e) 3
    let s := s.each (List.finRange 12) fun a s => s.modAxis a fun x =>
      if x.st = .geared && x.gear.any fun g => g.src == e then { x with drive.res := 0 } else x
    let s := s.each allGroups fun g s => s.gapStopCheck g
    s.sbAdvanceAll

def execEncoderStandstill (t : Nat) (e : Fin 8) (s : State) : Host.Outcome State Fault Refusal :=
  .next (s.act t (State.encoderStandstill e))

/-! ### Switches (06 R150, R161) -/

/-- A homing switch has changed: Table 6.10. The edge lies 10 us of travel at v_slow before its acceptance (R161). -/
def State.homeEdge (a : Fin 12) (active : Bool) (s : State) : State :=
  let x := s.axes[a]
  match x.home with
  | none => s
  | some h =>
    if h.ending.isSome then s
    else if h.step = 2 && active then
      let s := s.modAxis a fun x => x.homeStop s.ticks 3
      if s.axes[a].plan.isNone then s.homeRest a else s
    else if h.step = 4 && !active && !h.released then
      s.modAxis a fun x => { x with home := x.home.map fun h => { h with released := true, origin := x.pos } }
    else if h.step = 5 && active then
      if h.method = 1 then s.modAxis a fun x => { x with home := x.home.map fun h => { h with released := true } }
      else
        let lag := ratRound ((h.vSlow : Rat) / 100000)
        let edge := if h.positive then x.pos - lag else x.pos + lag
        let s := s.modAxis a fun x => (x.redefine (h.homePos - edge)).homeStop s.ticks 6
        if s.axes[a].plan.isNone then s.homeRest a else s
    else s

def State.homeSwitchEdge (a : Fin 12) (active : Bool) (s : State) : State :=
  if !s.fittedBlock (.ax a) then s
  else match s.axes[a].home with
    | some h =>
      if h.method = 2 then (s.modAxis a fun x => { x with limActive := active }).homeEdge a active
      else (s.modAxis a fun x => { x with homeActive := active }).homeEdge a active
    | none => s.modAxis a fun x => { x with homeActive := active }

def execHomeSwitchEdge (t : Nat) (a : Fin 12) (active : Bool) (s : State) : Host.Outcome State Fault Refusal :=
  .next (s.act t (State.homeSwitchEdge a active))

/-- The limit switch becomes active during motion that it guards: quick stop, then FAULT with `lim_hit`. -/
def State.limitHit (a : Fin 12) (s : State) : State :=
  let x := s.axes[a]
  let seqs := x.waiting
  let s := (s.modAxis a Axis.keep).axisFlag a 3
  let s := s.modAxis a fun x =>
    { x.stopPlan s.ticks x.lim.aStop x.lim.jStop with
      st := .stopping, gear := none, faultCause := 3, waits := { AxisWaits.none with stops := x.waits.stops } }
  let s := (s.finishAll (seqs.filter fun q => !x.waits.stops.contains q) 0x0300 0x0307 (result32 x.left)).axisFlag a 2
  ((s.fire (.ax a) 5).restIfStill a).sysRoutes

def State.limitSwitch (a : Fin 12) (active : Bool) (s : State) : State :=
  if !s.fittedBlock (.ax a) then s
  else
    let s := s.modAxis a fun x => { x with limActive := active }
    let x := s.axes[a]
    match x.home with
    | some h =>
      if h.method = 2 then s.homeEdge a active
      else if active && h.method ≠ 3 && h.ending.isNone then s.homeAbort a 0x0300 0x030D else s
    | none =>
      let v := (x.kin s.ticks).v
      let guarded := if x.cfg.limDir then decide (0 < v) else decide (v < 0)
      if active && guarded && (x.st = .moving || x.st = .geared || (x.st = .stopping && x.faultCause = 0))
      then s.limitHit a else s

def execLimitSwitch (t : Nat) (a : Fin 12) (active : Bool) (s : State) : Host.Outcome State Fault Refusal :=
  .next (s.act t (State.limitSwitch a active))

/-! ### Bridge fault (07 R180) -/

/-- A filtered edge of `AXn_FLT_N`; while `flt_en` is clear only its level is kept. A stall of the same tick and this fault are
one fault with one number, and the criterion of the stall is set with it. Of two rows with the tick of one step event this one
goes first, so that the replies are the bridge fault's (log entry 145). -/
def State.bridgeFault (a : Fin 12) (low : Bool) (s : State) : State :=
  let x := s.axes[a]
  if !s.fittedBlock (.ax a) then s
  else
    let s := s.modAxis a fun x => { x with drive.fltLow := low }
    if !low || !x.drive.chop.flags.testBit 1 || x.st = .disabled || (x.st = .parked && !x.drive.en) || x.waits.settle.isSome then s
    else
      let homing := x.st = .homing
      let byFollow := s.followStall x && x.st ≠ .fault
      let joined := (x.drive.stalled.filter fun f => f.1 = s.ticks).map Prod.snd
      let s := (s.haltAxis a).modAxis a fun x =>
        { x.bridgesOff with st := .fault, positionLost := true, faultCause := 2, drive.faultTick := some s.ticks }
      let no := joined.getD s.ldg.faultNext
      let s := s.when joined.isNone State.takeFault
      let s := s.when byFollow fun s => s.drvFlag a 0
      let s := ((s.drvFlag a 2).drvFlag a 6).fire (.ax a) 3
      let s := s.endWaiting a 0x0302 0x0311 no
      let s := s.when homing fun s => s.axisFlag a 9
      let s := s.modAxis a fun x => { x with move := Move.none }
      ((s.deviceEvent (.ax a) 0x0302 0x0311 0 no 0 []).axisStandstill a false).sysRoutes

def execBridgeFault (t : Nat) (a : Fin 12) (low : Bool) (s : State) : Host.Outcome State Fault Refusal :=
  .next (s.act t (State.bridgeFault a low))

def State.enSettleDone (a : Fin 12) (s : State) : State :=
  let x := s.axes[a]
  match x.waits.settle with
  | none => s
  | some (due, what) =>
    if s.ticks < due then s
    else
      let s := s.modAxis a fun x => { x with waits.settle := none }
      match what with
      | .resume =>
        let s := s.modAxis a fun x => { ((x.setCur s.ticks x.drive.lev.iRun).energise s.ticks) with waits.seq := none }
        s.resumeKept a x.waits.seq
      | .home => (s.modAxis a fun x => (x.setCur s.ticks x.drive.lev.iRun).energise s.ticks).runHome a
      | .wake =>
        let ramp := match x.waits.park with
          | some k => k.ramp
          | none => 0
        s.modAxis a fun x => (x.rampCur s.ticks ramp 0 x.drive.lev.iHold).energise s.ticks

def execEnSettleDone (t : Nat) (a : Fin 12) (s : State) : Host.Outcome State Fault Refusal :=
  .next (s.act t (State.enSettleDone a))

/-! ### Parking (07 Table 7.4) -/

def Axis.rampDone (x : Axis) (t : Nat) : Bool := decide (x.drive.cur.start + x.drive.cur.dur ≤ t)

def State.linkedCount (s : State) (x : Axis) : Int :=
  match x.cfg.enc with
  | some e => s.encs[e].pos
  | none => 0

def State.parkRampDone (a : Fin 12) (s : State) : State :=
  let x := s.axes[a]
  match x.waits.park with
  | none => s
  | some k =>
    if k.waking || !x.rampDone s.ticks then s
    else
      let s := s.modAxis a fun x =>
        let x := { x with st := .parked, waits.park := none
                          drive.parked := { powerOff := k.powerOff, idx := x.index, valid := true, pos := x.pos
                                            enc := s.linkedCount x } };
        if k.powerOff then x.bridgesOff else x
      s.finishOk k.seq 0

def execParkRampDone (t : Nat) (a : Fin 12) (s : State) : Host.Outcome State Fault Refusal :=
  .next (s.act t (State.parkRampDone a))

def State.wakeRampDone (a : Fin 12) (s : State) : State :=
  let x := s.axes[a]
  match x.waits.park with
  | none => s
  | some k =>
    if !k.waking || x.waits.settle.isSome || !x.rampDone s.ticks then s
    else
      let d := (s.linkedCount x - x.drive.parked.enc).natAbs
      let moved := x.cfg.enc.isSome && x.cfg.ratio ≠ 0 && d * 256 * 2 ^ 32 > 128 * x.cfg.ratio
      let s := s.modAxis a fun x =>
        { x with st := .idle, waits.park := none, drive.parked.powerOff := false, positionLost := x.positionLost || moved }
      if moved then (s.drvFlag a 5).finish k.seq 0x0302 0x0315 0 else s.finishOk k.seq 0

def execWakeRampDone (t : Nat) (a : Fin 12) (s : State) : Host.Outcome State Fault Refusal :=
  .next (s.act t (State.wakeRampDone a))

/-- R175: after hold_delay_ms with no step the current falls to i_hold over 16 ms, 24,000,000 ticks. -/
def State.holdCurrentDelay (a : Fin 12) (s : State) : State :=
  let x := s.axes[a]
  let l := x.drive.lev
  if l.holdDelay = 0 || s.ticks < x.steps.last + l.holdDelay * 1500000 || x.st = .disabled || x.st = .parked
      || x.waits.park.isSome || x.drive.cur.hi ≤ l.iHold then s
  else s.modAxis a fun x => x.rampCur s.ticks 24000000 (x.drive.cur.now s.ticks) l.iHold

def execHoldCurrentDelay (t : Nat) (a : Fin 12) (s : State) : Host.Outcome State Fault Refusal :=
  .next (s.act t (State.holdCurrentDelay a))

/-! ### Chopper (07 R172 to R174) -/

def State.chopBlankEnd (a : Fin 12) (ph : Phase) (trip : Bool) (s : State) : State :=
  let s := s.modAxis a fun x => x.phaseSync s.ticks ph
  let x := s.axes[a]
  let c := x.chop ph
  if c.st ≠ .on || c.blanked || s.ticks < c.since + x.drive.chop.tBlank then s
  else s.modAxis a fun x =>
    let x := x.setChop ph { x.chop ph with blanked := true };
    if trip then (x.setChop ph { x.chop ph with onMaxRun := 0 }).phaseOff s.ticks ph else x

def execChopBlankEnd (t : Nat) (a : Fin 12) (ph : Phase) (trip : Bool) (s : State) : Host.Outcome State Fault Refusal :=
  .next (s.act t (State.chopBlankEnd a ph trip))

def State.chopTrip (a : Fin 12) (ph : Phase) (s : State) : State :=
  let s := s.modAxis a fun x => x.phaseSync s.ticks ph
  let c := s.axes[a].chop ph
  if c.st ≠ .on || !c.blanked then s
  else s.modAxis a fun x => (x.setChop ph { x.chop ph with onMaxRun := 0 }).phaseOff s.ticks ph

def execChopTrip (t : Nat) (a : Fin 12) (ph : Phase) (s : State) : Host.Outcome State Fault Refusal :=
  .next (s.act t (State.chopTrip a ph))

def State.chopOffEnd (a : Fin 12) (ph : Phase) (s : State) : State :=
  let x := s.axes[a]
  let c := x.chop ph
  if c.st ≠ .off || s.ticks < c.since + x.drive.chop.tOff then s
  else s.modAxis a fun x => x.phaseOn s.ticks ph

def execChopOffEnd (t : Nat) (a : Fin 12) (ph : Phase) (s : State) : Host.Outcome State Fault Refusal :=
  .next (s.act t (State.chopOffEnd a ph))

/-- R174: an ON period of t_on_max ends as a trip; 64 in a row with a threshold of at least 128 show an open coil. -/
def State.chopOnMax (a : Fin 12) (ph : Phase) (s : State) : State :=
  let s := s.modAxis a fun x => x.phaseSync s.ticks ph
  let x := s.axes[a]
  let c := x.chop ph
  if c.st ≠ .on || s.ticks < c.since + x.drive.chop.tOnMax then s
  else
    let run := if (x.thr ph s.ticks).1 ≥ 128 then c.onMaxRun + 1 else 0
    let s := s.modAxis a fun x =>
      (x.setChop ph { x.chop ph with onMax := sat16 (c.onMax + 1), onMaxRun := run }).phaseOff s.ticks ph
    s.when (run = 64) fun s =>
      (s.drvFlag a (match ph with
        | .a => 3
        | .b => 4)).event (.ax a) 0x0301 0x0316

def execChopOnMax (t : Nat) (a : Fin 12) (ph : Phase) (s : State) : Host.Outcome State Fault Refusal :=
  .next (s.act t (State.chopOnMax a ph))

end Sys2Proof.Machine
end

