-- ==== Sys2Proof/Machine/Access.lean ====
section
/-! DEFINITION. Which registers a function reaches (15 R353, 16 R367; 00 R5). -/

namespace Sys2Proof.Machine

/-- The world of a function. -/
def pfSecure : PF → Bool
  | .pf0 => false
  | .pf1 => true

/-- A function reaches the registers of a block: PF1 all of them, PF0 those of the open world. -/
def State.reaches (s : State) (pf : PF) (b : BlockId) : Bool := pfSecure pf || !s.secureBlock b

/-- An access that is withheld from PF0. -/
def State.deny (s : State) : State := { s with sec.denyCnt := satInc s.sec.denyCnt }.setEvt .sec 1

/-- A register access with an effect on a block: withheld, without effect on a unit that is not fitted, or made. -/
def State.accessTo (pf : PF) (b : BlockId) (f : State → State) (s : State) : State :=
  if !s.reaches pf b then s.deny else if !s.fittedBlock b then s else f s

end Sys2Proof.Machine
end

