-- ==== Sys2Proof/Machine/LinkOps.lean ====
section
/-! DEFINITION. What the device sends on the transport link (16 R376 to R385). -/

namespace Sys2Proof.Machine

/-- Frames that have not begun, answers apart: an answer goes ahead of them (R378). -/
def Tlnk.waiting (u : Tlnk) (now : Nat) : List (Nat × Bool) := (u.unsent now).filter fun e => now < e.1 && !e.2

/-- When an answer decided at `now` begins: its decision takes 200 ns, 300 ticks, and it waits for a frame in progress and for
earlier answers (R378). -/
def Tlnk.answerStart (u : Tlnk) (now : Nat) : Nat :=
  ((u.unsent now).filter fun e => e.1 ≤ now || e.2).foldl (fun m e => max m (e.1 + 780)) (now + 300)

/-- Waiting frames move behind what ends at a tick, one after the other. -/
def delayFrames : Nat → List (Nat × Bool) → List (Nat × Bool)
  | _, [] => []
  | free, e :: l => (max free e.1, e.2) :: delayFrames (max free e.1 + 780) l

/-- An answer goes ahead of every other waiting frame (R378). -/
def State.sendAnswer (typ seq : BitVec 8) (payload : List Byte) (s : State) : State :=
  if !s.formsFrames then s
  else
    let now := s.ticks
    let start := s.tl.answerStart now
    let after := delayFrames (start + 780) (s.tl.waiting now)
    let before := s.tl.sent.length - after.length
    let done := (s.tl.unsent now).filter fun e => e.1 ≤ now || e.2
    { s with
      tl.txPlan := done ++ [(start, true)] ++ after
      tl.txFreeAt := after.foldl (fun m e => max m (e.1 + 780)) (start + 780)
      tl.lastSent := after.foldl (fun m e => max m (e.1 + 720)) (start + 720)
      tl.sent := s.sentOr (s.tl.sent.take before ++ [{ typ, seq, payload := padTo 6 payload }] ++ s.tl.sent.drop before) }

/-- REJECT for a side that closes with bit 2 of its status set (R384): sent at once, or held while the link is lost. -/
def State.sendReject (doc : BitVec 32) (mask reason : Nat) (s : State) : State :=
  if !s.sys.fit.tlink then s
  else
    let seq := s.tl.txSeq
    let payload := leBytes 4 doc.toNat ++ leBytes 1 mask ++ leBytes 1 reason
    let f : RejectFrame := { seq, doc, mask := BitVec.ofNat 8 mask, reason := BitVec.ofNat 8 reason
                             sends := if s.tl.lost then 0 else 1, nextTick := s.ticks + 150000 }
    let s := if s.tl.lost then { s with tl.txSeq := s.tl.txSeq + 1 } else s.sendOwn 0x85 payload
    { s with tl.rejects := s.tl.rejects ++ [f] }

end Sys2Proof.Machine
end

