-- ==== Sys2Proof/Machine/Pipeline.lean ====
section
/-! DEFINITION. From samples to corrected captures: digital demultiplexing (02 R27), video conversion (03 R53, R54), the
correction arithmetic, gap learning and refresh (04 R74 to R86), and the splice signatures (05 R121). -/

namespace Sys2Proof.Machine

/-! ### Samples of a line -/

/-- The data words of a line on each lane (02 R29): they follow the first word slot in which every lane carries `sol_word`
right after two `idle_word` words, and every lane has one for each of the line's samples. -/
def PortCfg.payload (c : PortCfg) (lanes : List (List Nat)) : Option (List (List Nat)) :=
  let used := (List.range c.lanes).map fun k => (lanes.getD k []).map fun w => w % 2 ^ c.sampleBits
  let n := c.samples / max c.lanes 1
  let starts (k : Nat) : Bool := used.all fun l =>
    l[k]? == some c.idleWord && l[k + 1]? == some c.idleWord && l[k + 2]? == some c.solWord
  match (List.range (used.headD []).length).find? starts with
  | none => none
  | some k => if used.all fun l => k + 3 + n ≤ l.length then some (used.map fun l => (l.drop (k + 3)).take n) else none

/-- Digital samples by slot from the data words of each lane (02 R27). -/
def PortCfg.demux (c : PortCfg) (lanes : List (List Nat)) : List (List Nat) :=
  let word (lane k : Nat) : Nat := (lanes.getD lane []).getD k 0
  let seg := c.width / max c.lanes 1
  c.slots.map fun q => (List.range c.width).map fun p =>
    if c.dataOrder = 2 then word (p / max seg 1) (q * seg + p % max seg 1)
    else
      let n := if c.dataOrder = 0 then q * c.width + p else p * c.colourCount + q;
      word (n % max c.lanes 1) (n / max c.lanes 1)

/-- q is at most the PGA's gain 8^(g/511) times a, exactly: both sides to the 511th power (03 R53). -/
def pgaGe (g : Nat) (a q : Rat) : Bool :=
  let x := a.num.natAbs * q.den
  let y := q.num.natAbs * a.den
  if 0 ≤ a then q ≤ 0 || y ^ 511 ≤ 8 ^ g * x ^ 511 else q < 0 && 8 ^ g * x ^ 511 ≤ y ^ 511

/-- The converter input vd = 0.75 x 8^(g/511) x Vin + f x 0.250 V / 512 of R53 is at least v. -/
def vdAtLeast (g : Nat) (f : Int) (vin v : Rat) : Bool := pgaGe g (mkRat 3 4 * vin) (v - mkRat f 2048)

/-- And at most v. -/
def vdAtMost (g : Nat) (f : Int) (vin v : Rat) : Bool := pgaGe g (-(mkRat 3 4 * vin)) (mkRat f 2048 - v)

/-- The code round(vd / 2.0 V x 65,535), held to 0 to 65,535 (03 R53): the greatest n from whose lower edge on, n - 1/2
codes, vd lies; its bits are found from the highest down. -/
def videoCode (g : Nat) (f : Int) (vin : Rat) : Nat :=
  (List.range 16).foldl (fun (n k : Nat) =>
    let m : Nat := n + 2 ^ (15 - k)
    if vdAtLeast g f vin (mkRat (2 * (m : Int) - 1) 65535) then m else n) 0

/-- The flags of R54: vd above 2.004 V, vd below -0.004 V. -/
def videoOver (g : Nat) (f : Int) (vin : Rat) : Bool := !vdAtMost g f vin (mkRat 2004 1000)
def videoUnder (g : Nat) (f : Int) (vin : Rat) : Bool := !vdAtLeast g f vin (mkRat (-4) 1000)

/-- Mean of a list of voltages; 0 where there are none. -/
def ratMean (l : List Rat) : Rat := if l.isEmpty then 0 else l.foldl (· + ·) 0 / l.length

/-- Vin of pixel p of a lane (03 Table 3.2). -/
def LaneCfg.vin (e : LaneCfg) (v : LaneVolts) (p : Nat) : Rat :=
  let x := match e.mode with
    | 1 => v.data.getD p 0 - ratMean v.lead
    | 2 => v.reset.getD p 0 - v.data.getD p 0
    | _ => v.data.getD p 0
  if e.invert then -x else x

/-- The slice that converts pixel p of a line: position p mod 8 of the active set (03 R61). -/
def VideoLane.sliceFor (l : VideoLane) (p : Nat) : Option (Fin 9) := l.order[p % 8]?

/-- One lane converts a line: its codes, with the over-range and under-range counts. A failed lane gives zeros (R69). -/
def VideoLane.convert (l : VideoLane) (e : LaneCfg) (width : Nat) (v : LaneVolts) : List Nat × Nat × Nat :=
  if l.fail then (List.replicate width 0, 0, 0)
  else
    let taken := (List.range width).filter fun p => (l.sliceFor p).isSome;
    ((List.range width).map fun p => match l.sliceFor p with
        | some _ => videoCode l.pga l.offset (e.vin v p)
        | none => 0,
     (taken.filter fun p => videoOver l.pga l.offset (e.vin v p)).length,
     (taken.filter fun p => videoUnder l.pga l.offset (e.vin v p)).length)

/-- What a line's readout does to the lane's registers. -/
def VideoLane.counted (l : VideoLane) (r : List Nat × Nat × Nat) : VideoLane :=
  { l with ovr := satAdd l.ovr r.2.1, und := satAdd l.und r.2.2
           range := packWord [(r.1.foldl min 65535, 0), (r.1.foldl max 0, 16)] }

/-- The new coefficients of a slice come into use. -/
def Slice.settled (x : Slice) : Slice := { x with coeff := x.newCoeff.getD x.coeff, newCoeff := none }

/-- At a line boundary the slices of a lane that is calibrated in place take their new coefficients (03 R67). -/
def VideoLane.settleCoeffs (l : VideoLane) : VideoLane :=
  if l.noSpare then { l with slices := l.slices.map Slice.settled } else l

/-- The samples of a line in the input buffer, with the port's lane counters moved on. -/
def Port.receive (p : Port) (data : LineData) : List (List Nat) × Bool × Bool × Port :=
  if p.cfg.digital then
    let y := match data with
      | .digital lanes => p.cfg.demux ((p.cfg.payload lanes).getD [])
      | _ => p.cfg.demux []
    (y, y.any fun l => l.any fun v => v == 2 ^ p.cfg.sampleBits - 1, false, p)
  else
    let volts (k : Fin 4) : LaneVolts := match data with
      | .analogue l => l.getD k.val ⟨[], [], []⟩
      | _ => ⟨[], [], []⟩
    let res (k : Fin 4) := p.vid.lanes[k].convert p.cfg.block.lanes[k] p.cfg.width (volts k)
    let used := (List.finRange 4).filter fun k => k.val < p.cfg.colourCount
    (used.map fun k => (res k).1, used.any fun k => 0 < (res k).2.1, used.any fun k => p.vid.lanes[k].noSpare,
     { p with vid.lanes := Vector.ofFn fun k : Fin 4 =>
        if k.val < p.cfg.colourCount then p.vid.lanes[k].counted (res k) else p.vid.lanes[k] })

/-! ### Correction (04 R77, R80) -/

/-- s16: a sample left-aligned to 16 bits. -/
def PortCfg.s16 (c : PortCfg) (s : Nat) : Nat := if c.digital then s * 2 ^ (16 - c.sampleBits) else s

/-- A table entry of the shading store; an empty store reads the default. -/
def storeAt (l : List (List Nat)) (c p d : Nat) : Nat := ((l.getD c []).getD p d)

def Shading.d (h : Shading) (c p : Nat) : Nat := storeAt h.dark c p 0
def Shading.g (h : Shading) (c p : Nat) : Nat := storeAt h.gain c p 0x4000

/-- One corrected value with the two clamps it met: below zero, above 65,535. -/
def correct (s16 dark gain : Nat) (off : Int) (drift : Nat) : Nat × Bool × Bool :=
  let x : Int := (s16 : Int) - dark - off
  let y := (x.toNat * gain * drift + 2 ^ 27) / 2 ^ 28
  (min y 65535, decide (x < 0), decide (65535 < y))

/-- Every corrected value of a line under given drift values. -/
def Port.correctAll (p : Port) (off : List Int) (drift : List Nat) (y : List (List Nat)) : List (List (Nat × Bool × Bool)) :=
  p.cfg.slots.map fun c => (List.range p.cfg.width).map fun k =>
    correct (p.cfg.s16 (storeAt y c k 0)) (p.shade.d c k) (p.shade.g c k) (off.getD c 0) (drift.getD c 0x4000)

def countAll (f : Nat × Bool × Bool → Bool) (l : List (List (Nat × Bool × Bool))) : Nat :=
  l.foldl (fun n r => n + (r.filter f).length) 0

/-! ### Gap learning (04 R82 to R84) -/

/-- Pixels of a window; a gain window of 0 is the whole width. -/
def RefreshBlock.gainWin (b : RefreshBlock) (width : Nat) : List Nat :=
  if b.gainCount = 0 then List.range width else (List.range b.gainCount).map fun k => b.gainFirst + k
def RefreshBlock.darkWin (b : RefreshBlock) : List Nat := (List.range b.darkCount).map fun k => b.darkFirst + k

def sumInt (l : List Int) : Int := l.foldl (· + ·) 0

/-- Nearest integer to a rational, ties upward. -/
def nearestUp (x : Rat) : Int := (x + mkRat 1 2).floor

/-- (Bref - D) x Grec of a pixel. -/
def Shading.target (h : Shading) (c p : Nat) : Int :=
  ((storeAt h.bref c p 0 : Int) - h.d c p) * storeAt h.grec c p 0x4000

/-- The learnt offset of each colour after a line (R83). -/
def Port.learnOff (p : Port) (b : RefreshBlock) (y : List (List Nat)) : List Int :=
  let h := p.shade
  if b.darkCount = 0 || b.darkBound = 0 then h.offLearn
  else (List.range 4).map fun c =>
    let o := h.offLearn.getD c 0
    if c < p.cfg.colourCount then
      let md : Rat := mkRat (sumInt (b.darkWin.map fun k => (p.cfg.s16 (storeAt y c k 0) : Int) - h.d c k)) b.darkCount
      clampInt (-(b.darkBound : Int)) b.darkBound (nearestUp ((o : Rat) + (md - o) / 2 ^ b.driftWeight))
    else o

/-- R82: the line's mean under the learnt drift lies within the window about the mean of (Bref - D) x Grec, in every
colour. -/
def Port.gapLineOk (p : Port) (b : RefreshBlock) (y : List (List Nat)) : Bool :=
  let h := p.shade
  p.cfg.slots.all fun c =>
    let win := b.gainWin p.cfg.width
    let mine := sumInt (win.map fun k =>
      ((correct (p.cfg.s16 (storeAt y c k 0)) (h.d c k) (h.g c k) (h.offLearn.getD c 0) (h.gainLearn.getD c 0x4000)).1 : Int))
    let want := sumInt (win.map fun k => h.target c k)
    ((mine * 16384 - want).natAbs : Int) * 4096 ≤ want * b.validLimit

/-- The learnt gain of each colour after a valid gap line (R83). `open_` stands for a quotient by zero, of which the spec
states no value (log entry 28). -/
def Port.learnGain (p : Port) (b : RefreshBlock) (open_ : Int) (y : List (List Nat)) : List Nat :=
  let h := p.shade
  if b.gainBound = 0 then h.gainLearn
  else (List.range 4).map fun c =>
    let g := h.gainLearn.getD c 0x4000
    if c < p.cfg.colourCount then
      let win := b.gainWin p.cfg.width
      let num := sumInt (win.map fun k => h.target c k)
      let den := sumInt (win.map fun k =>
        ((p.cfg.s16 (storeAt y c k 0) : Int) - h.d c k - h.offLearn.getD c 0) * h.g c k)
      let new : Int := if den = 0 then open_ else
        nearestUp ((g : Rat) + ((num : Rat) / den * 16384 - g) / 2 ^ b.driftWeight);
      (clampInt (16384 - 4 * b.gainBound) (16384 + 4 * b.gainBound) new).toNat
    else g

/-- The refreshed gain of one pixel, and whether it was clamped (R84). An upper bound beyond the 16 bits of a gain is not limited
to them (DESIGN CHOICE, log entry 161). -/
def Shading.refreshed (h : Shading) (b : RefreshBlock) (c p acc : Nat) : Nat × Bool :=
  let gain := h.g c p
  let rec0 := storeAt h.grec c p 0x4000
  let span : Int := (storeAt h.bref c p 0 : Int) - h.d c p
  if span ≤ 0 then (gain, true)
  else
    let e : Int := max 1 ((acc / 2 ^ b.passShift : Nat) - h.d c p - h.offLearn.getD c 0)
    let gt : Rat := (span * rec0 * 16384 : Int) / (e * (h.gainLearn.getD c 0x4000) : Int)
    let g := nearestUp ((gain : Rat) + (gt - gain) / 2 ^ b.refreshWeight)
    let lo : Int := (rec0 * (4096 - b.refreshBound) + 4095 : Nat) / 4096
    let hi : Int := (rec0 * (4096 + b.refreshBound) : Nat) / 4096
    ((clampInt lo hi g).toNat, g < lo || hi < g)

/-- A valid gap line joins the pass; a complete pass gives the new gains (R84). -/
def Port.accumulate (p : Port) (b : RefreshBlock) (y : List (List Nat)) : Port :=
  let h := p.shade
  if !b.enable || h.newGain.isSome then p
  else
    let acc := p.cfg.slots.map fun c => (List.range p.cfg.width).map fun k =>
      storeAt h.acc c k 0 + p.cfg.s16 (storeAt y c k 0)
    if h.accLines + 1 < 2 ^ b.passShift then { p with shade.acc := acc, shade.accLines := h.accLines + 1 }
    else
      let r := p.cfg.slots.map fun c => (List.range p.cfg.width).map fun k => h.refreshed b c k (storeAt acc c k 0)
      { p with shade.acc := [], shade.accLines := 0, shade.newGain := some (r.map fun l => l.map Prod.fst), shade.segNext := 0
               shade.newClamped := r.foldl (fun n l => n + (l.filter fun x => x.2).length) 0 }

/-- What a line teaches (R82, R83, R84): offsets from every line, gains and the pass from valid gap lines. -/
def Port.learn (p : Port) (gap ovr excluded : Bool) (open_ : Int) (y : List (List Nat)) : Port :=
  match p.shade.block with
  | none => p
  | some b =>
    let p := { p with shade.offLearn := p.learnOff b y }
    if !gap then p
    else if ovr || excluded || !p.gapLineOk b y then { p with cnt.gapRej := satInc p.cnt.gapRej }
    else
      let p := { p with shade.gainLearn := p.learnGain b open_ y };
      p.accumulate b y

/-! ### Signatures (05 R121) -/

/-- Band values of one slot: means in 1/16 code, truncated. -/
def bandValues (width : Nat) (y : List Nat) : List Nat :=
  let nb := min 64 width
  (List.range nb).map fun b =>
    let lo := b * width / nb
    let hi := (b + 1) * width / nb
    16 * (((y.drop lo).take (hi - lo)).foldl (· + ·) 0) / max (hi - lo) 1

def Port.signature (p : Port) (y : List (List Nat)) : List (List Nat) := y.map (bandValues p.cfg.width)

/-! ### From the input buffer to the alignment stage -/

/-- Samples in the input buffer (01 R13). -/
def Port.inbufUsed (p : Port) : Nat := p.inbuf.foldl (fun n l => n + l.samples.foldl (fun m s => m + s.length) 0) 0

/-- Room for a whole line (01 R14). -/
def Port.hasRoom (p : Port) : Bool := p.inbufUsed + p.cfg.samples ≤ 262144

/-- A grid line is a capture of a side: from its first line up to its last and the trailing lines of R16. -/
def Port.wants (p : Port) (d : Side) (k : Nat) : Bool :=
  d.first ≤ k && match d.last with
    | some l => k ≤ l + p.dMaxOf d.align
    | none => true

/-- The side that takes a capture. -/
def Port.takerOf (p : Port) (k : Nat) : Option Side := p.sides.find? fun d => p.wants d k

/-- A document line: between the first and the last line of a side. -/
def Port.docLine (p : Port) (k : Nat) : Option Side :=
  p.sides.find? fun d => d.first ≤ k && match d.last with
    | some l => k ≤ l
    | none => true

/-- A gap line of the gap learning: taken while no side is open (04 R82). -/
def Port.gapLine (p : Port) (k : Nat) : Bool := (p.takerOf k).isNone

/-- The alignment stage holds the pipeline: sixteen staged lines beyond the delay store (04 R88), or a side that waits to
open for the end of a load of the shading store (04 R79). -/
def Port.stalled (p : Port) : Bool := p.caps.length ≥ 17 + p.dMaxOf p.align || p.sides.any fun d => d.due

/-! ### The delay store (04 R88) -/

/-- Lines of a slot that the store holds. -/
def Port.holdOf (p : Port) (a : Align) (c : Nat) : Nat := p.dMaxOf a - a.delays.getD c 0

/-- Bytes that a port's delay store holds for the slots before one. -/
def Port.delayBytesBefore (p : Port) (a : Align) (c : Nat) : Nat :=
  (List.range (min c p.cfg.colourCount)).foldl (fun m k => m + p.holdOf a k * p.cfg.width * 2) 0

/-- Bytes that a port's delay store holds under an alignment. -/
def Port.delayBytes (p : Port) (a : Align) : Nat := p.delayBytesBefore a p.cfg.colourCount

/-- Where the store keeps slot c of a capture: a ring of its lines, slot after slot (DESIGN CHOICE, log entry 117). -/
def State.delayAddr (s : State) (n : Fin 8) (c k : Nat) : Option Nat :=
  let p := s.ports[n]
  let h := p.holdOf p.align c
  match s.cel.delays[n] with
  | none => none
  | some d =>
    if q : d.region < 64 then
      if h = 0 then none
      else some (s.cel.regions[d.region].base * 2 ^ 30 + d.first * 2 ^ 21 + p.delayBytesBefore p.align c + k % h * p.cfg.width * 2)
    else none

/-- A capture reaches the store: of each held slot, the line that leaves the store now is read from it, and the new one takes
its place. -/
def State.delayTurn (n : Fin 8) (k : Nat) (y : List (List Nat)) (s : State) : State :=
  s.each s.ports[n].cfg.slots fun c s =>
    match s.delayAddr n c k with
    | none => s
    | some a =>
      let p := s.ports[n]
      let old := s.cellarNow a (2 * p.cfg.width)
      let line := (List.range p.cfg.width).map fun i => u16 old (2 * i)
      (s.modPort n fun p =>
        { p with caps := p.caps.map fun x =>
            if x.k + p.holdOf p.align c = k && !x.lost then { x with y := x.y.set c line } else x }).post .cellar a
          ((y.getD c []).flatMap (leBytes 2))

/-- One line is corrected and goes to its use: a splice signature, the alignment stage, or nothing after it has taught. -/
def State.correctLine (n : Fin 8) (l : RawLine) (s : State) : State :=
  let p := s.ports[n]
  let k := l.run.k
  let drift := match p.takerOf k with
    | some d => (d.driftOff, d.driftGain)
    | none => (p.shade.driftOff, p.shade.driftGain)
  let r := p.correctAll drift.1 drift.2 l.samples
  let y := r.map fun q => q.map Prod.fst
  let clips := countAll (fun v => v.2.2) r
  let cap : Capture :=
    { k, start := l.run.start, encPos := l.run.encPos, late := l.run.late, beyond := l.run.beyond
      lateField := l.run.lateField, overrange := l.overrange, retired := l.retired, lost := false, y }
  let overlap := s.isOverlap n k
  let past := s.pastK n k
  let kept := !overlap && !past
  let held := kept && (p.takerOf k).isSome
  let gap := p.gapLine k && !overlap
  let sig := p.signature y
  let s := s.when kept fun s => s.delayTurn n k y
  let s := s.modPort n fun p =>
    let p := p.learn gap l.overrange l.run.excluded (Config.freeInt s.free) l.samples;
    { p with cnt.clip := satAdd p.cnt.clip clips, cnt.neg := satAdd p.cnt.neg (countAll (fun v => v.2.1) r)
             signatures := if overlap then p.signatures else (⟨k, sig⟩ :: p.signatures).take 32
             recent := ((k, l.run.start) :: p.recent).take 64
             cnt.demand := (s.ticks, p.cfg.samples) :: p.cnt.demand.filter fun x => s.ticks < x.1 + 1500000
             caps := if held then p.caps ++ [cap] else p.caps
             sides := p.sides.map fun d =>
               if !overlap && !past && p.wants d k then { d with clipped := d.clipped + clips } else d }
  let s := s.drawn
  if overlap then
    match s.groupOfPort n with
    | some g => s.modSeam g n fun m => { m with retaken := m.retaken ++ [(k, sig)] }
    | none => s
  else s

/-- Lines leave the input buffer in order while the alignment stage takes them (04 R74). -/
def State.drainLines (n : Fin 8) : Nat → State → State
  | 0, s => s
  | fuel + 1, s =>
    match s.ports[n].inbuf with
    | [] => s
    | l :: rest =>
      if s.ports[n].stalled then s
      else State.drainLines n fuel ((s.modPort n fun p => { p with inbuf := rest }).correctLine n l)

/-- The pipeline runs as far as it can; captures that no side needs are gone. -/
def State.drainPort (n : Fin 8) (s : State) : State :=
  let s := s.modPort n fun p => { p with caps := p.caps.filter fun c => (p.takerOf c.k).isSome }
  s.drainLines n s.ports[n].inbuf.length

/-! ### A failed lane (03 R69) -/

/-- Some lane in use has failed. -/
def Port.laneFailed (p : Port) : Bool :=
  !p.cfg.digital && (List.finRange 4).any fun k => p.laneOn k && p.vid.lanes[k].fail

/-- With a failed lane the port goes to IDLE once no side is left. -/
def State.laneIdle (n : Fin 8) (s : State) : State :=
  let p := s.ports[n]
  if p.laneFailed && p.sides.isEmpty && p.line.isNone && (p.st = .scan || p.st = .hold) then
    (s.modPort n fun p => { p with st := .idle, waiting := [], grid.sched := [], inbuf := [], caps := [] }).sysRoutes
  else s

end Sys2Proof.Machine
end

