-- ==== Sys2Proof/Machine/Output.lean ====
section
/-! DEFINITION. Image output: formatting, records and the port's store, line release, the closing of a side, the SPLICE
record (04 R93 to R102, 05 R123, 11 R271, R276, 15 R361). -/

namespace Sys2Proof.Machine

/-! ### Formatting (04 R94, R95) -/

/-- A corrected value reduced to the output width. -/
def reduce (bits y : Nat) : Nat :=
  if bits = 16 then y else min ((y + 2 ^ (15 - bits)) / 2 ^ (16 - bits)) (2 ^ bits - 1)

/-- Samples of a line in the order of its layout. -/
def OutFmt.samples (f : OutFmt) (width : Nat) (y : List (List Nat)) : List Nat :=
  if f.interleaved then (List.range width).flatMap fun p => f.slots.map fun c => (y.getD c []).getD p 0
  else f.slots.flatMap fun c => (List.range width).map fun p => (y.getD c []).getD p 0

/-- Samples packed without gaps, least significant bit first, as one number. -/
def packBits (bits : Nat) : List Nat → Nat
  | [] => 0
  | v :: l => v + 2 ^ bits * packBits bits l

/-- The bytes of one line. -/
def OutFmt.line (f : OutFmt) (width : Nat) (y : List (List Nat)) : List Byte :=
  let v := (f.samples width y).map (reduce f.bits)
  if f.packed then leBytes (f.lineBytes width) (packBits f.bits v)
  else if f.bits = 8 then v.flatMap (leBytes 1) else v.flatMap (leBytes 2)

/-! ### Capture identifier and header (04 R96, R102) -/

/-- The capture identifier of Table 4.16. -/
def captureId (estate : Nat) (batch doc : BitVec 32) (port splices : Nat) : List Byte :=
  leBytes 16 (estate * 2 ^ 110 + batch.toNat * 2 ^ 78 + doc.toNat * 2 ^ 46 + port * 2 ^ 42 + (splices % 1024) * 2 ^ 32)

/-- A record: the header of Table 4.5, then its body. -/
def recordBytes (typ port : Nat) (inDigest : Bool) (cid : List Byte) (recSeq : Nat) (body : List Byte) : List Byte :=
  leBytes 2 typ ++ leBytes 1 port ++ leBytes 1 (b2n inDigest) ++ leBytes 4 (32 + body.length) ++ cid ++ leBytes 8 recSeq ++ body

/-! ### The store (11 R276) -/

/-- The IMAGE region of a port, in effect: base and size in bytes. -/
def State.imageRegion (s : State) (n : Fin 8) : Option (Nat × Nat) :=
  match (List.finRange 64).find? fun r => s.cel.regions[r].purpose = .image && s.cel.regions[r].port = n.val
      && s.cel.regions[r].inEffect with
  | some r => some (s.cel.regions[r].base * 2 ^ 30, s.cel.regions[r].size * 2 ^ 30)
  | none => none

/-- A port's image quota in bytes (11 R271). -/
def State.quota (s : State) (n : Fin 8) : Nat := ((s.imageRegion n).map Prod.snd).getD 0

/-- Bytes at an offset of a circular buffer reach the Cellar, in two parts where they wrap. -/
def State.storeBytes (base size off : Nat) (b : List Byte) (s : State) : State :=
  let k := size - off
  if b.length ≤ k then s.post .cellar (base + off) b
  else (s.post .cellar (base + off) (b.take k)).post .cellar base (b.drop k)

/-- Whether a record may enter the store now: room for its slots, and above STOP only SPLICE, DOC_CLOSE, PROVENANCE and
BATCH_SEAL (04 R96, 05 R111). -/
def State.recordFits (s : State) (n : Fin 8) (r : ImageRec) : Bool :=
  s.ports[n].fill + 64 * r.slots ≤ s.quota n && (4 ≤ r.typ || !s.aboveStop n)

/-- DOC_END commands reply once no other side has to close for them and no other DOC_CLOSE of theirs waits for room
(13 R318). -/
def State.docEnds (l : List DWord) (s : State) : State :=
  s.each l fun q s =>
    if (List.finRange 8).any fun m => (s.ports[m].sides.any fun x => x.endCmd.contains q)
        || s.ports[m].held.any fun r => r.ends.contains q then s
    else s.finishOk q 0

/-- Move held records into the store, oldest first, while they fit. -/
def State.flushRecords (n : Fin 8) : Nat → State → State
  | 0, s => s
  | k + 1, s =>
    match s.ports[n].held with
    | [] => s
    | r :: rest =>
      match s.imageRegion n with
      | none => s
      | some (base, size) =>
        if !s.recordFits n r then s
        else
          let off := s.ports[n].writeOff % max size 1
          let s := s.storeBytes base size off (padTo (64 * r.slots) r.bytes)
          let s := s.modPort n fun p =>
            { p with held := rest, store := p.store ++ [{ r with addr := base + off }]
                     writeOff := (off + 64 * r.slots) % max size 1 }
          State.flushRecords n k (s.docEnds r.ends)

/-- Records of a port, in its store or before it, that name a ring. -/
def Port.recordsFor (p : Port) (ring : Nat) : Nat := ((p.store ++ p.held).filter fun r => r.ring = ring).length

/-- Next record_seq of a ring; of a ring that does not exist, the number of records kept for it (15 R362). -/
def State.nextRecSeq (s : State) (n : Fin 8) (ring : Nat) : Nat :=
  match s.ring? ring with
  | some r => r.recSeq
  | none => s.ports[n].recordsFor ring

/-- A record is formed for a port's ring and goes to its store. -/
def State.writeRecord (n : Fin 8) (typ ring : Nat) (inDigest : Bool) (cid body : List Byte) (keep : Bool) (s : State) :
    State :=
  let q := s.nextRecSeq n ring
  let b := recordBytes typ n.val inDigest cid q body
  let r : ImageRec := { typ, ring, recSeq := BitVec.ofNat 64 q, bytes := b, addr := 0, delivered := false
                        slotsLeft := (b.length + 63) / 64, keep }
  let s := s.modRing ring fun x => { x with recSeq := x.recSeq + 1 }
  let s := s.modPort n fun p => { p with held := p.held ++ [r] }
  s.flushRecords n s.ports[n].held.length

/-- The record bytes as they will be formed now. -/
def State.recordNow (s : State) (n : Fin 8) (typ ring : Nat) (inDigest : Bool) (cid body : List Byte) : List Byte :=
  recordBytes typ n.val inDigest cid (s.nextRecSeq n ring) body

/-- A record of an open side: written and hashed (04 R99). -/
def State.sideRecord (n : Fin 8) (d : Side) (typ : Nat) (body : List Byte) (s : State) : State :=
  let cid := captureId s.sec.estate d.batch d.doc n.val d.splices
  let b := s.recordNow n typ d.fmt.ring true cid body
  let s := s.writeRecord n typ d.fmt.ring true cid body (s.sys.batchState = .aborting)
  s.modPort n fun p => p.modSide d.doc fun d =>
    { d with hashed := d.hashed ++ b, spliceBytes := if typ = 4 then d.spliceBytes ++ b else d.spliceBytes }

def State.sideOf (s : State) (n : Fin 8) (doc : BitVec 32) : Option Side := s.ports[n].sides.find? fun d => d.doc = doc

/-- Slots of four 8-bit, 16-bit and 32-bit fields. -/
def four8 (l : List Nat) : List Byte := (List.range 4).flatMap fun c => leBytes 1 (l.getD c 0)

/-- Grid position in the form of `line0_pos`: low 32 bits of the integer part above the fraction (Table 4.7). -/
def posWord (x : Int) : Nat := (x % 2 ^ 64).toNat

/-- DOC_OPEN (Table 4.7), when the first line of a side is triggered. -/
def State.docOpenRecord (n : Fin 8) (d : Side) (s : State) : State :=
  let p := s.ports[n]
  let c := p.cfg
  let f := d.fmt
  let spare := (List.finRange 4).foldl (fun m k => if p.vid.lanes[k].noSpare then m + 2 ^ k.val else m) 0
  s.sideRecord n d 1
    (leBytes 8 d.openTime ++ leInt 8 d.lead ++ leBytes 8 p.grid.pitch ++ leBytes 8 (posWord (p.grid.pos d.first))
      ++ leBytes 4 c.width ++ four8 c.colours ++ leBytes 1 c.sampleBits ++ leBytes 1 f.bits ++ leBytes 1 (b2n f.interleaved)
      ++ leBytes 1 (b2n f.packed) ++ leBytes 1 f.slotMask ++ leBytes 1 (b2n c.digital) ++ leBytes 2 f.linesPerStrip
      ++ four8 d.align.delays ++ four8 d.align.phases ++ ((List.range 4).flatMap fun k => leBytes 4 (d.videoGen.getD k 0).toNat)
      ++ leBytes 4 d.shadeGen.toNat ++ leBytes 4 d.align.gen.toNat ++ leBytes 4 d.timeGen.toNat ++ leBytes 4 d.planGen.toNat
      ++ ((List.range 4).flatMap fun k => leInt 2 (d.driftOff.getD k 0))
      ++ ((List.range 4).flatMap fun k => leBytes 2 (d.driftGain.getD k 0))
      ++ leBytes 4 p.shade.epoch.toNat ++ leBytes 4 (b2n d.stale + 2 * b2n d.refreshed + 4 * spare) ++ leBytes 8 d.wallTime
      ++ leBytes 8 0)

/-- The open STRIP and its LINETAGS are written (R97). -/
def State.closeStrip (n : Fin 8) (doc : BitVec 32) (s : State) : State :=
  match s.sideOf n doc with
  | none => s
  | some d =>
    if d.strip.isEmpty then s
    else
      let f := d.fmt
      let width := s.ports[n].cfg.width
      let head := leBytes 4 d.stripFirst ++ leBytes 2 d.strip.length
      let s := s.sideRecord n d 2
        (head ++ leBytes 1 f.bits ++ leBytes 1 (b2n f.interleaved) ++ leBytes 1 (b2n f.packed) ++ leBytes 1 f.slotMask
          ++ leBytes 2 0 ++ leBytes 4 (f.lineBytes width) ++ d.strip.flatMap Prod.fst)
      let s := s.sideRecord n d 3 (head ++ leBytes 2 0 ++ d.strip.flatMap Prod.snd)
      s.modPort n fun p =>
        { p.modSide doc fun d => { d with strip := [], stripFirst := d.released, strips := d.strips + 1 } with
          cnt.strips := satInc p.cnt.strips }

/-! ### Sides (02 R46, 04 R97 to R99) -/

def PaceRecord.fresh : PaceRecord :=
  { vMin := none, vMax := 0, slowed := 0, capped := 0, seams := 0, fails := 0, overruns := 0, standstills := 0
    holdNs := 0, fillMax := 0, ceiling := 0, flags := 0 }

/-- The pace record of Table 5.7, 48 bytes. -/
def PaceRecord.bytes (r : PaceRecord) : List Byte :=
  leBytes 4 (r.vMin.getD 0) ++ leBytes 4 r.vMax ++ leBytes 4 r.slowed ++ leBytes 4 r.capped ++ leBytes 2 r.seams
    ++ leBytes 2 r.fails ++ leBytes 2 r.overruns ++ leBytes 2 r.standstills ++ leBytes 8 r.holdNs ++ leBytes 4 r.fillMax
    ++ leBytes 4 r.ceiling ++ leBytes 4 r.flags ++ leBytes 4 0

/-- The two substitutions of R15 leave the side. -/
def Side.native (d : Side) : Bool := !d.laneFail && !d.badStore

/-- DOC_CLOSE `status` (Table 4.12). -/
def Side.status (d : Side) : Nat :=
  b2n d.lineLoss + 2 * b2n d.tooLong + 4 * b2n d.reject + 8 * b2n d.laneFail + 16 * b2n d.badStore

/-- Bytes 32 to 255 of the PROVENANCE record of a side (15 Table 15.7), with its header to be formed at signing. -/
def State.provBody (s : State) (d : Side) (closeTime : Nat) (hashed : List Byte) : List Byte :=
  hashBytes (Config.sha384 hashed) ++ leBytes 8 hashed.length ++ leBytes 4 (d.released - d.missed) ++ leBytes 2 d.splices
    ++ leBytes 2 d.status ++ leBytes 8 d.openTime ++ leBytes 8 closeTime ++ leBytes 8 d.wallTime
    ++ ((List.range 4).flatMap fun k => leBytes 4 (d.videoGen.getD k 0).toNat)
    ++ leBytes 4 d.shadeGen.toNat ++ leBytes 4 d.align.gen.toNat ++ leBytes 4 d.timeGen.toNat ++ leBytes 4 d.planGen.toNat
    ++ (if d.spliceBytes.isEmpty then List.replicate 48 0 else hashBytes (Config.sha384 d.spliceBytes))
    ++ d.pace.bytes ++ leBytes 4 (b2n d.native + 2 * b2n d.takeover + 4 * b2n s.rope.paired) ++ leBytes 1 (b2n d.sealOnly)
    ++ leBytes 3 0

/-- The DOC_CLOSE with a capture identifier waits for room. -/
def Port.holdsClose (p : Port) (cid : List Byte) : Bool := p.held.any fun r => r.typ = 5 && (r.bytes.drop 8).take 16 == cid

/-- DOC_END commands that waited for a side reply, once its DOC_CLOSE is written (13 R318). -/
def State.sideGone (n : Fin 8) (cid : List Byte) (d : Side) (s : State) : State :=
  if s.ports[n].holdsClose cid then
    s.modPort n fun p => { p with held := p.held.map fun r =>
      if r.typ = 5 && (r.bytes.drop 8).take 16 == cid then { r with ends := d.endCmd } else r }
  else s.docEnds d.endCmd

/-- A side that closes within steps 2 to 6 of a switchback has waited for them (05 R129). -/
def State.sideHeld (n : Fin 8) (doc : BitVec 32) (s : State) : State :=
  match s.seamOf n with
  | some (_, b, m) =>
    if m.doc = doc then s.modPort n fun p => p.modSide doc fun d => { d with pace.holdNs := d.pace.holdNs + b.heldNs s.ns } else s
  | none => s

/-- A side closes: its last strip, its DOC_CLOSE, its digest final and handed on for PROVENANCE (R99, 15 R361); a side
marked for rejection is reported (16 R384). Commands that wait for the DOC_CLOSE reply. `close_time` of a side that has released
no line is the time at which it closes, and `trail_edge` of one closed with no trailing edge latched is 0 (DESIGN CHOICE, log
entry 163). -/
def State.closeSide (n : Fin 8) (doc : BitVec 32) (s : State) : State :=
  let s := (s.closeStrip n doc).sideHeld n doc
  match s.sideOf n doc with
  | none => s
  | some d =>
    let closeNs := if d.missed < d.released then d.lastOut else s.ns
    let s := s.sideRecord n d 5
      (leBytes 8 closeNs ++ leBytes 4 (d.released - d.missed) ++ leBytes 4 d.strips
        ++ leInt 8 (if d.tooLong then 0 else d.trail.getD 0) ++ leBytes 4 d.lateLines ++ leBytes 4 d.overLines
        ++ leBytes 2 d.splices ++ leBytes 2 d.status ++ leBytes 4 d.overrangeLines ++ leBytes 4 (min d.clipped (2 ^ 32 - 1))
        ++ leBytes 4 0 ++ leBytes 8 d.hashed.length ++ leBytes 8 0)
    let hashed := ((s.sideOf n doc).map fun d => d.hashed).getD []
    let dm := s.ports[n].dMaxOf d.align
    let cid := captureId s.sec.estate d.batch d.doc n.val d.splices
    let job : ProvJob := { body := cid ++ s.provBody d closeNs hashed
                           ring := d.fmt.ring, sealOnly := d.sealOnly, batch := d.batch, tick := s.ticks
                           keep := s.sys.batchState = .aborting }
    let s := s.modPort n fun p =>
      { p with sides := p.sides.filter fun x => x.doc ≠ doc, provs := p.provs ++ [job]
               lastFree := max p.lastFree (d.last.getD 0 + dm + 1), cnt.docs := satInc p.cnt.docs
               figures := { p.figures with sides := p.figures.sides + 1, rejected := p.figures.rejected + b2n d.reject
                                           lines := p.figures.lines + (d.released - d.missed) } }
    let s := s.backlogCheck.fire (.port n) 3
    let s := s.when d.reject fun s => s.sendReject d.doc (2 ^ n.val) d.rejectReason
    (s.sideGone n cid d).sendGate

/-! ### Releasing lines (04 R87, R97, R98) -/

def Port.capture (p : Port) (k : Nat) : Option Capture := p.caps.find? fun c => c.k = k

/-- The captures that contribute to an output line: those of grid lines k + Dc for every used slot. -/
def Port.contributors (p : Port) (d : Side) (k : Nat) : List (Option Capture) :=
  (List.range p.cfg.colourCount).map fun c => p.capture (k + d.align.delays.getD c 0)

/-- Grid line of the next output line of a side. -/
def Side.next (d : Side) : Nat := d.first + d.released

/-- A side's next line is complete: every contributing capture is corrected, and its number is not past the last line. -/
def Port.lineReady (p : Port) (d : Side) : Bool :=
  d.opened && (match d.last with
    | some l => d.next ≤ l
    | none => true)
    && (p.contributors d d.next).all fun c => c.isSome

/-- Line tag (Table 4.10, 4.11). -/
def Port.tag (d : Side) (own : Capture) (all : List Capture) : List Byte :=
  let late := all.foldl (fun m c => max m c.lateField) 0
  let flags := b2n (all.any fun c => c.late) + 2 * b2n (all.any fun c => c.overrange) + 8 * b2n d.stale
    + 16 * b2n d.refreshed + 32 * b2n (all.any fun c => c.retired)
  leBytes 4 d.released ++ leBytes 4 (own.encPos % 2 ^ 32).toNat
    ++ leBytes 4 (min ((own.start * 2 / 3 - d.openTime) / 4) (2 ^ 32 - 1)) ++ leBytes 2 flags ++ leBytes 2 late

/-- Where the read of a side's line failed: the 64-byte line of the first value that differs from what was stored, else the
first line of a held slot (log entry 150). -/
def State.delayFailAddr (n : Fin 8) (d : Side) (asRead : List (List Nat)) (s : State) : Nat :=
  let p := s.ports[n]
  let dm := p.dMaxOf d.align
  let held := (List.range 4).filter fun c => d.align.delays.getD c 0 < dm
  let at_ (c x : Nat) : Nat := ((s.delayAddr n c (d.next + d.align.delays.getD c 0)).getD 0 + 2 * x) / 64 * 64
  let differs (c : Nat) : Option Nat :=
    let own := (((p.capture (d.next + d.align.delays.getD c 0)).map fun k => k.y.getD c []).getD [])
    (List.range p.cfg.width).find? fun x => (asRead.getD c own).getD x 0 ≠ own.getD x 0
  match held.findSome? fun c => (differs c).map fun x => at_ c x with
  | some a => a
  | none => (held.head?.map fun c => at_ c 0).getD 0

/-- A failed read of a port's delay store (11 R266). -/
def State.delayReadFailed (n : Fin 8) (addr : Nat) (s : State) : State :=
  let no := s.ldg.faultNext
  (s.takeFault.cellarFail (BitVec.ofNat 64 addr)).deviceEvent (.port n) 0x0500 0x0610 0 no (BitVec.ofNat 64 addr) []

/-- A value of a held slot as an uncorrectable read returned it, of a slot that bypasses the store as captured. -/
def asReadSlot (d : Side) (dm c : Nat) (own : List Nat) (asRead : Option (List (List Nat))) : List Nat :=
  match asRead with
  | some y => if d.align.delays.getD c 0 < dm then y.getD c own else own
  | none => own

/-- A line with a lost capture cannot be put out (02 R45): its number passes, and the open STRIP ends before it
(log entry 29). -/
def State.missLine (n : Fin 8) (d : Side) (s : State) : State :=
  (s.closeStrip n d.doc).modPort n fun p =>
    { p.modSide d.doc fun d => { d with released := d.released + 1, missed := d.missed + 1, stripFirst := d.released + 1 } with
      caps := p.caps.filter fun c => d.next < c.k }

/-- One line is released: formatted, tagged and added to the open STRIP, which closes when it is full. While a switchback
is in progress a full STRIP closes with the next line, so that the tag of L can still take SPLICE_AFTER. -/
def State.releaseLine (n : Fin 8) (d : Side) (asRead : Option (List (List Nat))) (s : State) : State :=
  let p := s.ports[n]
  let all := (p.contributors d d.next).filterMap id
  match p.capture d.next with
  | none => s
  | some own =>
    if all.any fun c => c.lost then s.missLine n d else
    let dm := p.dMaxOf d.align
    let y := (List.range 4).map fun c => asReadSlot d dm c ((((p.capture (d.next + d.align.delays.getD c 0)).map fun k =>
      k.y.getD c []).getD [])) asRead
    let bad := asRead.isSome && 0 < dm
    let failed := s.delayFailAddr n d (asRead.getD [])
    let s := s.when (d.strip.length ≥ d.fmt.linesPerStrip) fun s => s.closeStrip n d.doc
    let line := d.fmt.line p.cfg.width y
    let tag := Port.tag d own all
    let s := s.modPort n fun p =>
      let p := p.modSide d.doc fun d =>
        let d := { d with
          strip := d.strip ++ [(line, tag)], released := d.released + 1, lastOut := s.ns
          lateLines := d.lateLines + b2n (all.any fun c => c.late), overLines := d.overLines + b2n (all.any fun c => c.beyond)
          overrangeLines := d.overrangeLines + b2n (all.any fun c => c.overrange), badStore := d.badStore || bad };
        if bad then d.rejected 5 else d
      { p with caps := p.caps.filter fun c => d.next < c.k }
    let s := s.when bad fun s => s.delayReadFailed n failed
    let full := match s.sideOf n d.doc with
      | some d => d.strip.length ≥ d.fmt.linesPerStrip
      | none => false
    s.when (full && (s.seamOf n).isNone) fun s => s.closeStrip n d.doc

/-- The side closes once its last line is released. -/
def State.closeIfDone (n : Fin 8) (doc : BitVec 32) (s : State) : State :=
  match s.sideOf n doc with
  | none => s
  | some d =>
    match d.last with
    | some l => if d.opened && l < d.next then s.closeSide n doc else s
    | none => s

/-- OUTPUT_LINE_RELEASE: the next complete line of the oldest side, while the store takes what the formatter writes
(R87, R96; 05 R111). -/
def State.outputLine (n : Fin 8) (asRead : Option LineData) (s : State) : State :=
  let p := s.ports[n]
  match p.sides with
  | [] => s
  | d :: _ =>
    if !p.held.isEmpty then s.flushRecords n p.held.length
    else if s.aboveStop n || !p.lineReady d || s.heldForVerdict n (d.next + p.dMaxOf d.align) then s
    else
      let y := match asRead with
        | some (.slots y) => some y
        | _ => none
      (((s.releaseLine n d y).closeIfDone n d.doc).drainPort n).laneIdle n

def execOutputLineRelease (t : Nat) (n : Fin 8) (asRead : Option LineData) (s : State) :
    Host.Outcome State Fault Refusal :=
  .next (s.act t (State.outputLine n asRead))

/-- Every complete line up to a number is released. -/
def State.releaseUpTo (n : Fin 8) (doc : BitVec 32) : Nat → State → State
  | 0, s => s
  | k + 1, s =>
    match s.sideOf n doc with
    | none => s
    | some d => if s.ports[n].lineReady d then State.releaseUpTo n doc k (s.releaseLine n d none) else s

/-- A side closes at the present line (JAM, BATCH_ABORT, RESET_BLOCK, SAFE, an encoder fault, a close at a seam): lines
whose captures are complete go out, the rest is discarded (log entry 27). -/
def State.closeNow (n : Fin 8) (doc : BitVec 32) (f : Side → Side) (s : State) : State :=
  let s := s.modPort n fun p => p.modSide doc f
  match s.sideOf n doc with
  | none => s
  | some d =>
    if d.opened then
      let s := State.releaseUpTo n doc s.ports[n].caps.length s
      let s := s.modPort n fun p => p.modSide doc fun d => { d with last := some (d.next - 1) }
      s.closeSide n doc
    else (s.modPort n fun p => { p with sides := p.sides.filter fun d => d.doc ≠ doc }).docEnds d.endCmd

/-- Every side of a port closes at once. -/
def State.closeAll (n : Fin 8) (f : Side → Side) (s : State) : State :=
  s.each (s.ports[n].sides.map fun d => d.doc) fun doc s => s.closeNow n doc f

/-! ### SPLICE (05 R123) -/

/-- The SPLICE record of Table 5.5; the splice count of the side rises as it is written. -/
def State.spliceRecord (n : Fin 8) (doc : BitVec 32) (b : Switchback) (m : Seam) (resumeNs result : Nat) (best : Int)
    (errs : List Nat) (texture nb : Nat) (s : State) : State :=
  let s := s.modPort n fun p => p.modSide doc fun d => { d with splices := d.splices + 1, pace.seams := d.pace.seams + 1 }
  match s.sideOf n doc with
  | none => s
  | some d =>
    let k := m.k.getD 0
    let l := max (-1) (k - s.ports[n].dMaxOf d.align)
    s.sideRecord n d 4
      (leBytes 8 m.stopTime.toNat ++ leBytes 8 resumeNs ++ leInt 4 l ++ leInt 4 k ++ leInt 8 m.stopPos ++ leInt 8 b.pBack
        ++ leBytes 8 (posWord (s.ports[n].grid.x0 + (d.lineOf (k + 1)) * s.ports[n].grid.pitch)) ++ leBytes 1 b.cause
        ++ leBytes 1 result ++ leBytes 1 b.attempts ++ leBytes 1 b.policy.overlap ++ leBytes 1 nb ++ leInt 1 best
        ++ leBytes 2 b.policy.limit ++ (errs.flatMap fun e => leBytes 2 (min e 0xFFFF)) ++ leBytes 2 (min texture 0xFFFF)
        ++ leBytes 4 (min ((b.forwardNs - b.stopNs) / 1000) (2 ^ 32 - 1)) ++ leBytes 8 0)

/-- SPLICE_AFTER in the last tag of tags laid end to end (04 Table 4.10, 4.11). -/
def tagsSplice (b : List Byte) : List Byte := if b.length < 16 then b else b.set (b.length - 4) (b.getD (b.length - 4) 0 ||| 4#8)

/-- SPLICE_AFTER in the tag of the last line of an open STRIP. -/
def setSpliceAfter (l : List (List Byte × List Byte)) : List (List Byte × List Byte) :=
  match l.getLast? with
  | none => l
  | some x => l.dropLast ++ [(x.1, tagsSplice x.2)]

/-- SPLICE_AFTER in a LINETAGS record that is complete already and has not been delivered: before the store, or in it
(log entry 88). Its digest follows. -/
def State.spliceStored (n : Fin 8) (d : Side) (s : State) : State :=
  let cid := captureId s.sec.estate d.batch d.doc n.val d.splices
  let mine (r : ImageRec) : Bool :=
    r.typ = 3 && !r.delivered && (r.bytes.drop 8).take 16 == cid && r.bytes.isSuffixOf d.hashed
      && u32 r.bytes 32 + u16 r.bytes 36 = d.released
  let fix (r : ImageRec) : ImageRec := if mine r then { r with bytes := tagsSplice r.bytes } else r
  match (s.ports[n].store ++ s.ports[n].held).find? mine, s.imageRegion n with
  | some r, some (base, size) =>
    let s := s.when (s.ports[n].store.any mine) fun s =>
      let off := (r.addr - base + r.bytes.length - 4) % max size 1;
      s.storeBytes base size off [(tagsSplice r.bytes).getD (r.bytes.length - 4) 0]
    s.modPort n fun p =>
      { p.modSide d.doc fun d => { d with hashed := tagsSplice d.hashed } with
        store := p.store.map fix, held := p.held.map fix }
  | _, _ => s

/-- The pipeline of a side has drained up to a seam after capture `k` (step 3): the STRIP closes at L with SPLICE_AFTER in
its tag. -/
def State.drainSeam (n : Fin 8) (doc : BitVec 32) (k : Int) (s : State) : State :=
  match s.sideOf n doc with
  | none => s
  | some d =>
    let atL := decide ((d.released : Int) = k - s.ports[n].dMaxOf d.align + 1)
    let s := s.when (atL && d.strip.isEmpty) fun s => s.spliceStored n d
    let s := s.modPort n fun p => p.modSide doc fun d =>
      { d with strip := if atL then setSpliceAfter d.strip else d.strip
               seams := if d.seams.contains d.released then d.seams else d.seams ++ [d.released] }
    s.closeStrip n doc

/-- The pipeline of a port has drained up to a seam: its lines up to L are released. -/
def State.seamDrained (s : State) (m : Seam) : Bool :=
  let p := s.ports[m.port]
  match s.sideOf m.port m.doc with
  | none => true
  | some d => p.inbuf.isEmpty && p.held.isEmpty && decide (m.k.getD 0 - p.dMaxOf d.align < (d.released : Int))

/-- Step 4 begins: every strip has closed at its L. -/
def State.sbDrained (g : Fin 4) (s : State) : State :=
  match s.pace.groups[g].sb with
  | none => s
  | some b =>
    (s.each b.seams fun m s => s.drainSeam m.port m.doc (m.k.getD 0)).modSb g fun b => { b with step := 4 }

/-- SWITCHBACK_DRAINED (step 3): output lines up to L are out, and the switchback waits at step 4 for its release. -/
def State.switchbackDrained (g : Fin 4) (s : State) : State :=
  match s.pace.groups[g].sb with
  | none => s
  | some b => if b.step = 3 && b.seams.all fun m => s.seamDrained m then (s.sbDrained g).sbAdvance g else s

def execSwitchbackDrained (t : Nat) (g : Fin 4) (s : State) : Host.Outcome State Fault Refusal :=
  .next (s.act t (State.switchbackDrained g))

/-! ### PROVENANCE (15 R361, R362) -/

/-- The capture key's identifier: first 8 bytes of the SHA-384 of its point (15 Table 15.3). -/
def State.keyId (s : State) : BitVec 64 := first8 (Config.sha384 (beBytes 97 (Config.capturePub s.sec.capEpoch).toNat))

/-- The DOC_CLOSE of a side has not reached the store: what is signed is only what the Cellar holds (01 R19). -/
def Port.closeHeld (p : Port) (j : ProvJob) : Bool := p.holdsClose (j.body.take 16)

/-- PROVENANCE_SIGN: the oldest closed side of the port gets its record once its DOC_CLOSE is in the Cellar. A side of an
EACH port is signed by the capture key; under SEAL the signature field is all ones. -/
def State.provenance (n : Fin 8) (s : State) : State :=
  match s.ports[n].provs with
  | [] => s
  | j :: rest =>
    if !s.signs || s.cel.selfRefresh || s.ports[n].closeHeld j then s
    else
      let cid := j.body.take 16
      let tail := leBytes 4 s.sec.capEpoch.toNat ++ leBytes 4 0 ++ leBytes 8 (s.ldg.nextSeq - 1).toNat ++ beBytes 8 s.keyId.toNat
        ++ leBytes 8 0
      let body := j.body.drop 16 ++ tail
      let signed := s.recordNow n 6 j.ring false cid (body ++ List.replicate 96 0)
      let sig := if j.sealOnly then List.replicate 96 0xFF#8
        else beBytes 96 (Config.ecdsa s.keyId (Config.sha384 (signed.take 288))).toNat
      let whole := s.recordNow n 6 j.ring false cid (body ++ sig)
      let s := s.modPort n fun p =>
        { p with provs := rest
                 figures := { p.figures with
                   provs := p.figures.provs + 1
                   chain := Config.sha384 (hashBytes p.figures.chain ++ hashBytes (Config.sha384 whole)) } }
      let s := s.writeRecord n 6 j.ring false cid (body ++ sig) j.keep
      if j.sealOnly then s else s.signedOne.fire .sec 0

def execProvenanceSign (t : Nat) (n : Fin 8) (s : State) : Host.Outcome State Fault Refusal :=
  .next (s.act t (State.provenance n))

/-! ### Delivery (11 R277) -/

/-- The world of a channel's work (11 Table 11.8); channels 8 to 11 work for the world of the ring that they served last
(log entry 43). -/
def State.chanSecure (s : State) (ch : Nat) : Bool :=
  if h : ch < 8 then s.secureBlock (.port ⟨ch, h⟩)
  else if h : 8 ≤ ch ∧ ch < 12 then s.dma.served[ch - 8]
  else (12 ≤ ch && ch < 16) || 24 ≤ ch

/-- A fault that the retry settled (10 R258): counted as settled, one DEVICE entry with status OK. -/
def State.retrySettled (ch : Fin 32) (s : State) : State :=
  let c := s.dma.chans[ch]
  if !c.retried then s
  else
    let no := if c.retryFault = 0 then s.ldg.faultNext else c.retryFault
    let s := if c.retryFault = 0 then s.takeFault else s
    let s := (s.modChan ch fun c => { c with retried := false, retryFault := 0 }).setEvt .dma 4
    s.deviceEventIn (s.chanSecure ch.val) .dma 0 0 0 no c.failAddr (leBytes 1 ch.val)

/-- DMA_DELIVERY: the oldest record not yet delivered goes to the tail of its image ring when the ring has room for all of
its slots and a transfer can be made. -/
def State.deliver (n : Fin 8) (s : State) : State :=
  match s.ports[n].store.find? fun r => !r.delivered with
  | none => s
  | some r =>
    match s.ring? r.ring with
    | none => s
    | some q =>
      if !(decide (q.kind = .image)) || q.room < r.slots || q.waitDoorbell || !s.canHost q.secure || s.second
          || s.dma.chans[n.castLE (by decide : 8 ≤ 32)].stuck then s
      else
        let b := padTo (64 * r.slots) r.bytes
        let s := s.produceSlots r.ring ((List.range r.slots).map fun k => (b.drop (64 * k)).take 64) none
        let s := s.modPort n fun p => { p with store := p.store.map fun x =>
          if x.ring = r.ring ∧ x.recSeq = r.recSeq then { x with delivered := true } else x }
        let ch := n.castLE (by decide : 8 ≤ 32)
        (s.retrySettled ch).modChan ch fun c => { c with bytes := c.bytes + BitVec.ofNat 64 (64 * r.slots), wroteHost := true }

def execDmaDelivery (t : Nat) (n : Fin 8) (s : State) : Host.Outcome State Fault Refusal := .next (s.act t (State.deliver n))

/-- The host releases slots of an image ring: delivered records whose last slot is released leave the store, and their bytes
count towards the drain (R277, 05 R105). -/
def releaseSlots : Nat → List ImageRec → List ImageRec
  | _, [] => []
  | 0, l => l
  | k, r :: l =>
    if !r.delivered then r :: l
    else if r.slotsLeft ≤ k then releaseSlots (k - r.slotsLeft) l
    else { r with slotsLeft := r.slotsLeft - k } :: l

def State.imageReleased (n : Fin 8) (ring slots : Nat) (s : State) : State :=
  let p := s.ports[n]
  let mine := releaseSlots slots (p.store.filter fun r => r.ring = ring)
  let keep := p.store.filterMap fun r => if r.ring = ring then mine.find? fun x => x.recSeq = r.recSeq else some r
  let freed := p.fill - { p with store := keep }.fill
  let s := s.modPort n fun p => { p with store := keep, released := if freed = 0 then p.released else (s.ticks, freed) :: p.released }
  let s := s.modPace n fun q => { q with drained := q.drained + freed }
  s.flushRecords n s.ports[n].held.length

end Sys2Proof.Machine
end

