-- ==== Sys2Proof/Machine/DmaCmds.lean ====
section
/-! DEFINITION. DMA_COPY and DMA_FENCE, and what their channels do (11 R281 to R290). -/

namespace Sys2Proof.Machine

/-! ### Channels (11 Table 11.8) -/

/-- The Cellar granules that a range touches. -/
def granules (addr len : Nat) : List Nat :=
  if len = 0 then [] else (List.range ((addr + len - 1) / 2 ^ 30 - addr / 2 ^ 30 + 1)).map fun k => addr / 2 ^ 30 + k

/-- The region in effect that holds a granule. -/
def State.regionAt (s : State) (g : Nat) : Option Region :=
  ((List.finRange 64).map fun r => s.cel.regions[r]).find? fun r =>
    r.inEffect && decide (r.purpose ≠ .none) && decide (r.base ≤ g) && decide (g < r.base + r.size)

/-- A Cellar range lies in regions that a world's copy channels may use: GENERAL, and IMAGE for reading (R282). -/
def State.cellarOk (s : State) (secure write : Bool) (addr len : Nat) : Bool :=
  (granules addr len).all fun g => match s.regionAt g with
    | some r => (decide (r.purpose = .general) || (decide (r.purpose = .image) && !write)) && (secure || !r.secure)
    | none => false

def Descriptor.parse (l : List Byte) : Descriptor :=
  { src := u64 l 0, dst := u64 l 8, next := u64 l 16, length := u32 l 24, srcCellar := (u16 l 28).testBit 0
    dstCellar := (u16 l 28).testBit 1, fence := (u16 l 28).testBit 2, flagsRest := u16 l 28 / 8, reserved := u16 l 30 }

/-- What is wrong with a descriptor before any byte of it moves (R282). -/
def State.descriptorFault (s : State) (secure inlined : Bool) (d : Descriptor) : Option (BitVec 32) :=
  if d.flagsRest ≠ 0 || d.reserved ≠ 0 || (!inlined && d.next % 32 ≠ 0) || (!d.srcCellar && !d.dstCellar)
      || (d.srcCellar && d.dstCellar && decide (d.src < d.dst + d.length) && decide (d.dst < d.src + d.length)) then some 0x0613
  else if (d.srcCellar && !s.cellarOk secure false d.src d.length) || (d.dstCellar && !s.cellarOk secure true d.dst d.length) then
    some 0x0612
  else none

/-- Error, time-out, chain loop or late error of a channel: its registers, event bit and counter. -/
def State.chanError (ch : Fin 32) (bit : Nat) (status : BitVec 16) (detail : BitVec 32) (s : State) : State :=
  let s := s.modChan ch fun c => { c with err := status.setWidth 32 ||| (detail <<< 16) }
  { s with dma.errCnt := satInc s.dma.errCnt }.setEvt .dma bit

/-- The chain at the head of a channel's queue ends, and its command replies. -/
def State.chainEnd (ch : Fin 32) (status : BitVec 16) (detail result fault : BitVec 32) (s : State) : State :=
  match s.dma.chans[ch].queue with
  | [] => s
  | q :: rest =>
    (s.modChan ch fun c => { c with queue := rest, cur := none, phase := .idle, retried := false, retryFault := 0, remain := 0 }).finish
      q.seq status detail result fault

/-- A descriptor that has been fetched: checked, then in progress (R282). A bad one ends the chain, not the channel. -/
def State.beginDesc (ch : Fin 32) (q : Chain) (l : List Byte) (s : State) : State :=
  let d := Descriptor.parse l
  match s.descriptorFault q.secure q.inlined d with
  | some e => (((s.chanError ch 0 0x0500 e).fire .dma 0).chainEnd ch 0x0500 e s.dma.chans[ch].index 0)
  | none =>
    (s.modChan ch fun c => { c with cur := some d, remain := BitVec.ofNat 32 d.length, phase := .running, retried := false }).begun q.seq

/-- Fetch the descriptor at an address: from the Cellar, or the bytes that a host read returned (R282, R288). -/
def State.fetchDesc (ch : Fin 32) (q : Chain) (addr : Nat) (host : List Byte) (s : State) : State :=
  if q.chainCellar then
    if s.cellarOk q.secure false addr 32 then s.beginDesc ch q (s.cellarNow addr 32)
    else ((s.chanError ch 0 0x0500 0x0612).fire .dma 0).chainEnd ch 0x0500 0x0612 s.dma.chans[ch].index 0
  else s.beginDesc ch q (padTo 32 host)

/-- DMA_CHAIN_START: an idle channel starts its next queued chain. -/
def State.chainStart (ch : Fin 32) (desc : List Byte) (s : State) : State :=
  let c := s.dma.chans[ch]
  match c.queue with
  | [] => s
  | q :: _ =>
    if c.stuck || c.cur.isSome || s.cel.selfRefresh || !(q.inlined || q.chainCellar || s.canHost q.secure) then s
    else
      let s := (s.retrySettled ch).modChan ch fun c => { c with index := 0, hopLimit := q.hopLimit, chainHost := false }
      if q.inlined then s.beginDesc ch q q.desc else s.fetchDesc ch q q.addr desc

def execDmaChainStart (t : Nat) (ch : Fin 32) (desc : List Byte) (s : State) : Host.Outcome State Fault Refusal :=
  .next (s.act t (State.chainStart ch desc))

/-- A descriptor is complete: the chain ends, reaches its hop limit, or goes on (R284, R288). -/
def State.descDone (ch : Fin 32) (q : Chain) (d : Descriptor) (nextDesc : List Byte) (s : State) : State :=
  let s := s.modChan ch fun c => { c with done := true, remain := 0, cur := none, phase := .running }
  let n := s.dma.chans[ch].index.toNat
  if q.inlined || d.next = 0 then s.chainEnd ch 0 0 (BitVec.ofNat 32 (n + 1)) 0
  else if n + 1 ≥ q.hopLimit then
    let s := (s.chanError ch 2 0x0502 0x0616).modChan ch fun c => { c with halted := true }
    s.chainEnd ch 0x0502 0x0616 (BitVec.ofNat 32 n) 0
  else (s.modChan ch fun c => { c with index := BitVec.ofNat 32 (n + 1) }).fetchDesc ch q d.next nextDesc

/-- DESCRIPTOR_COMPLETE: the last write of the descriptor leaves the engine; it writes exactly its bytes (R283). With FENCE
and host writes of the chain open, a flush read follows (R285). `ecc` is what its Cellar accesses met (R266); a failed one is
DMA_ERROR_RESPONSE. -/
def State.descComplete (ch : Fin 32) (data nextDesc : List Byte) (ecc : EccResult) (s : State) : State :=
  let c := s.dma.chans[ch]
  match c.queue, c.cur with
  | q :: _, some d =>
    let near := d.srcCellar && d.dstCellar && (q.inlined || q.chainCellar || d.next = 0)
    if c.stuck || c.phase ≠ .running || s.cel.selfRefresh || !(near || s.canHost q.secure)
        || (!d.srcCellar && data.length ≠ d.length) then s
    else
      let bytes := if d.srcCellar then Mem.read s.cel.mem d.src d.length else data
      let s := (s.retrySettled ch).when (d.srcCellar || d.dstCellar) fun s => s.eccCount ecc
      let s := if s.second && !d.dstCellar then s else s.post (if d.dstCellar then .cellar else hostSpace q.secure) d.dst bytes
      let host := !d.dstCellar && d.length ≠ 0
      let open_ := c.chainHost || host
      let s := s.modChan ch fun c => { c with bytes := c.bytes + BitVec.ofNat 64 d.length, wroteHost := c.wroteHost || host
                                              chainHost := open_, remain := 0 }
      if d.fence && open_ then s.modChan ch fun c => { c with phase := .fencing } else s.descDone ch q d nextDesc
  | _, _ => s

def execDescriptorComplete (t : Nat) (ch : Fin 32) (data : ReadBytes) (nextDesc : List Byte) (s : State) :
    Host.Outcome State Fault Refusal := .next (s.act t (State.descComplete ch data.bytes nextDesc data.ecc))

/-! ### Fences (11 R285, R290) -/

/-- A flush read of a channel lets the tails of its rings cover the slots that awaited it, and their interrupts follow
(R274). -/
def State.tailsFlushed (ch : Fin 32) (s : State) : State :=
  let l := s.rings.filter fun r => decide (r.channel = ch) && decide (r.ahead ≠ 0)
  s.each l fun r s => (s.modRing r.id fun r => { r with ahead := 0 }).ringInterrupt r.id

/-- The writes of a channel have been answered: fences and ring tails that waited for it go on. -/
def State.chanFlushed (ch : Fin 32) (s : State) : State :=
  let s := (s.modChan ch fun c => { c with wroteHost := false, chainHost := false }).tailsFlushed ch
  let clear (f : FenceWait) : FenceWait := { f with channels := f.channels &&& ~~~ (1#32 <<< ch.val) }
  let l := s.dma.fences.map clear
  let s := { s with dma.fences := l.filter fun f => f.channels != 0 }
  s.finishAll ((l.filter fun f => f.channels == 0).map fun f => f.seq) 0 0 0

/-- FENCE_READ_DONE: the flush read of a channel completes; none does while its function can make no transfer (16 R370). -/
def State.fenceRead (ch : Fin 32) (nextDesc : List Byte) (s : State) : State :=
  let c := s.dma.chans[ch]
  if !s.canHost (s.chanSecure ch.val) then s
  else
  let s := s.chanFlushed ch
  match c.phase, c.queue, c.cur with
  | .fencing, q :: _, some d => if c.stuck then s else s.descDone ch q d nextDesc
  | _, _, _ => s

def execFenceReadDone (t : Nat) (ch : Fin 32) (nextDesc : List Byte) (s : State) : Host.Outcome State Fault Refusal :=
  .next (s.act t (State.fenceRead ch nextDesc))

/-! ### Errors and time-outs (11 R286, R287) -/

/-- A channel has work in progress that an error response can meet: of a copy channel a descriptor in progress, or the fetch of
the first one of its next chain. -/
def Channel.working (c : Channel) (ch : Nat) : Bool := !c.stuck && (ch < 16 || c.cur.isSome || !c.queue.isEmpty)

/-- The address of a failed access as DMA_CHc_ADDR shows it: bit 63 marks a host address (Table 11.13). -/
def hostAddress (host : Bool) (a : DWord) : DWord := if host then a ||| (1 <<< 63) else a

/-- The channel halts on an access that failed: address and index latched, event record and DEVICE entry under one fault
number, and the reply of the chain in progress. The chain keeps its place for a RESUME. -/
def State.chanHalt (ch : Fin 32) (status : BitVec 16) (detail fault : BitVec 32) (addr : DWord) (host : Bool) (s : State) :
    State :=
  let c := s.dma.chans[ch]
  let s := s.modChan ch fun c =>
    { c with halted := true, failAddr := hostAddress host addr, retried := false, retryFault := 0 }
  let s := s.deviceEventIn (s.chanSecure ch.val) .dma status detail 0 fault addr (leBytes 1 ch.val)
  match c.queue with
  | q :: _ => if 16 ≤ ch.val then s.finish q.seq status detail c.index fault else s
  | [] => s

/-- DMA_ERROR_RESPONSE: the descriptor is retried once from its start at L1; the second failure ends the chain (R287). A
failed Cellar access has already failed at L0 (R266), whose entry is written once for a fault (10 R258). A descriptor whose
fetch fails is retried as one. -/
def State.dmaError (ch : Fin 32) (kind : DmaErr) (addr : DWord) (s : State) : State :=
  let c := s.dma.chans[ch]
  if !c.working ch.val then s
  else
    let detail : BitVec 32 := if kind = .cellar then 0x0610 else 0x0611
    let s := s.when (kind = .cellar) fun s => s.cellarFail addr
    let need := kind = .cellar || c.retried
    let no := if c.retryFault ≠ 0 then c.retryFault else if need then s.ldg.faultNext else 0
    let s := s.when (need && c.retryFault = 0) State.takeFault
    let s := s.when (kind = .cellar && c.retryFault = 0) fun s =>
      s.deviceEventIn (s.chanSecure ch.val) .dma 0x0500 detail 0 no addr (leBytes 1 ch.val)
    let host := decide (kind ≠ .cellar)
    if !c.retried then
      let s := { s with dma.retryCnt := satInc s.dma.retryCnt }
      s.modChan ch fun c => { c with
        retried := true, retryFault := no, failAddr := hostAddress host addr
        index := if c.cur.isSome || ch.val < 16 then c.index else 0, phase := if c.cur.isSome then .running else c.phase
        remain := (c.cur.map fun d => BitVec.ofNat 32 d.length).getD 0 }
    else (((s.chanError ch 0 0x0500 detail).fire .dma 0).chanHalt ch 0x0500 detail no addr host)

def execDmaErrorResponse (t : Nat) (ch : Fin 32) (kind : DmaErr) (addr : BitVec 64) (s : State) :
    Host.Outcome State Fault Refusal := .next (s.act t (State.dmaError ch kind addr))

/-- DMA_TIMEOUT: never retried (R287). -/
def State.dmaTimeout (ch : Fin 32) (host : Bool) (addr : DWord) (s : State) : State :=
  let c := s.dma.chans[ch]
  if !c.working ch.val then s
  else
    let detail : BitVec 32 := if host then 0x0615 else 0x0614
    let no := if c.retryFault ≠ 0 then c.retryFault else s.ldg.faultNext
    let s := s.when (c.retryFault = 0) State.takeFault
    ((s.chanError ch 1 0x0501 detail).fire .dma 2).chanHalt ch 0x0501 detail no addr host

def execDmaTimeout (t : Nat) (ch : Fin 32) (host : Bool) (addr : BitVec 64) (s : State) : Host.Outcome State Fault Refusal :=
  .next (s.act t (State.dmaTimeout ch host addr))

/-- DMA_ERROR_LATE: an error after a completion that has been signalled; the completion stands, the channel halts (R286); one
that finds it halted is reported as well. The address counts as the host's where the channel has written host memory. -/
def State.dmaLate (ch : Fin 32) (index : BitVec 32) (addr : DWord) (s : State) : State :=
  let c := s.dma.chans[ch]
  if !(ch.val < 16 || c.done) then s
  else
    let no := s.ldg.faultNext
    let s := (s.takeFault.chanError ch 3 0x0503 0x0617).fire .dma 1
    let s := s.modChan ch fun c => { c with halted := true, failAddr := hostAddress (ch.val < 16 || c.wroteHost) addr, index := if c.cur.isSome then c.index else index }
    s.deviceEventIn (s.chanSecure ch.val) .dma 0x0503 0x0617 0 no addr (leBytes 4 index.toNat)

def execDmaErrorLate (t : Nat) (ch : Fin 32) (index : BitVec 32) (addr : BitVec 64) (s : State) :
    Host.Outcome State Fault Refusal := .next (s.act t (State.dmaLate ch index addr))

/-! ### DMA_COPY (11 Table 11.9, R282) -/

def copyChan (l : List Byte) : Fin 32 := Fin.ofNat 32 (u8 l 0)

def dmaCopySpec : PacketSpec where
  code := 0x0603
  world := eitherWorld
  len p := p.paramLen == 48
  fitted := alwaysFitted
  check s p secure :=
    let l := p.params
    let ch := u8 l 0
    let inlined := (u8 l 1).testBit 1
    let c := s.dma.chans[copyChan l]
    firstFail [(ch < 16 || ch > 31 || s.chanSecure ch != secure, badParam 0x60A),
      (u8 l 1 > 3 || !zeroBytes l 2 2 || u32 l 4 > 65536 || u64 l 8 % 32 ≠ 0 || (inlined && u64 l 8 ≠ 0)
        || (!inlined && !zeroBytes l 16 32) || (inlined && !zeroBytes l 46 2), badParam 4),
      (c.halted, badState 0x60B), (c.queue.length ≥ 8, noResource 0x60C)]
  run p secure seq s :=
    let l := p.params
    let q : Chain := { seq, secure, chainCellar := (u8 l 1).testBit 0, inlined := (u8 l 1).testBit 1
                       hopLimit := if u32 l 4 = 0 then 4096 else u32 l 4, addr := u64 l 8, desc := (l.drop 16).take 32 }
    s.modChan (copyChan l) fun c => { c with queue := c.queue ++ [q] }

def execDmaCopy (p : Packet) (s : State) : Host.Outcome State Fault Refusal := .next (s.act p.tick (State.packet dmaCopySpec p))

/-! ### DMA_FENCE (11 R290) -/

def maskChans (m : Nat) : List (Fin 32) := (List.finRange 32).filter fun c => m.testBit c.val

/-- The first record of a list, in delivery order from a slot on, that holds a slot of a ring: its own first slot. -/
def recordStart (size slot : Nat) : Nat → List ImageRec → Option (Nat × ImageRec)
  | _, [] => none
  | at_, r :: rest =>
    if (slot + size - at_) % size < r.slotsLeft then some (at_, r) else recordStart size slot ((at_ + r.slotsLeft) % size) rest

/-- Delivery on a ring goes back to the record that holds a host address, if a record that has been delivered does: it and every
later one are to be delivered again from its first slot (R290). -/
def State.redeliver (n : Fin 8) (r : Ring) (addr : Nat) (s : State) : State :=
  let sent := s.ports[n].store.filter fun x => x.ring = r.id && x.delivered && decide (x.slotsLeft ≠ 0)
  if addr < r.base.toNat || r.base.toNat + 64 * r.size ≤ addr then s
  else
    match recordStart r.size ((addr - r.base.toNat) / 64) r.head sent with
    | none => s
    | some (at_, x) =>
      let s := s.modRing r.id fun r => { r with tail := at_, ahead := 0 }
      s.modPort n fun p => { p with store := p.store.map fun y =>
        if y.ring = r.id ∧ x.recSeq.toNat ≤ y.recSeq.toNat then { y with delivered := false, slotsLeft := y.slots } else y }

/-- A halted channel restarts, the failed descriptor from its start; a delivery channel with the record that held the failed
write. -/
def State.resumeChan (ch : Fin 32) (s : State) : State :=
  let addr := s.dma.chans[ch].failAddr.toNat % 2 ^ 63
  let s := s.modChan ch fun c => { c with
    halted := false, retried := false, retryFault := 0, phase := if c.cur.isSome then .running else .idle
    remain := (c.cur.map fun d => BitVec.ofNat 32 d.length).getD 0 }
  if h : ch.val < 8 then
    s.each (s.rings.filter fun r => r.kind = .image && r.port == ch.val) fun r s => s.redeliver ⟨ch.val, h⟩ r addr
  else s

/-- REWIND: the port's rings take their tail back to the head, and every record still in the store is to be delivered; a
channel that waited for it after a takeover goes on (14 R345). -/
def State.rewind (n : Fin 8) (s : State) : State :=
  let s := s.modChan (n.castLE (by decide : 8 ≤ 32)) fun c => { c with stopped := false }
  let back (r : Ring) : Ring := if r.kind = .image ∧ r.port = n.val then { r with tail := r.head, ahead := 0 } else r
  let again (r : ImageRec) : ImageRec := { r with delivered := false, slotsLeft := r.slots }
  State.modPort n (fun p => { p with store := p.store.map again }) { s with rings := s.rings.map back }

def dmaFenceSpec : PacketSpec where
  code := 0x0604
  world := eitherWorld
  len p := p.paramLen == 8
  fitted := alwaysFitted
  check s p secure :=
    let l := p.params
    let cs := maskChans (u32 l 0)
    firstFail [(cs.any fun c => (8 ≤ c.val && c.val < 16) || s.chanSecure c.val != secure, badParam 0x60A),
      (!zeroBytes l 5 3, badParam 4),
      (u8 l 4 > 2 || (u8 l 4 = 2 && cs.any fun c => c.val ≥ 8), badParam 0x618),
      (u8 l 4 = 1 && cs.any fun c => !s.dma.chans[c].halted, badState 0x60D)]
  run p _ seq s :=
    let l := p.params
    let cs := maskChans (u32 l 0)
    match u8 l 4 with
    | 0 =>
      let open_ := cs.filter fun c => s.dma.chans[c].wroteHost
      if open_.isEmpty then s.finishOk seq 0
      else { s with dma.fences := s.dma.fences ++
              [{ seq, channels := open_.foldl (fun m c => m ||| (1#32 <<< c.val)) 0 }] }
    | 1 => (s.each cs State.resumeChan).finishOk seq 0
    | _ => (s.each (maskPorts (u32 l 0)) State.rewind).finishOk seq 0

def execDmaFence (p : Packet) (s : State) : Host.Outcome State Fault Refusal :=
  .next (s.act p.tick (State.packet dmaFenceSpec p))

end Sys2Proof.Machine
end

