-- ==== Sys2Proof/Machine/LedgerCmds.lean ====
section
/-! DEFINITION. The Ledger commands and the Ledger window (10 R253 to R256, R262). -/

namespace Sys2Proof.Machine

/-! ### Checkpoints (10 R253, R255) -/

/-- Checkpoints that waited for room are written, oldest first, as far as room has returned; a LEDGER_CHECKPOINT that waited
for its own completes (R252). -/
def State.resumeCkpts (s : State) : State :=
  let l := s.ldg.ckptWaiting
  s.each l fun r s =>
    let n := s.ldg.nextNo
    let s := State.checkpoint r { s with ldg.ckptWaiting := s.ldg.ckptWaiting.erase r }
    if s.ldg.nextNo = n || r ≠ 3 then s
    else match s.cmd.flights.find? fun f => f.opcode = 0x0B02 && !f.finished with
      | some f => s.finishOk f.seq (lowHalf s.ldg.ckptSeq)
      | none => s

/-- CHECKPOINT_SIGNED: the oldest checkpoint that is being signed gets its signature, and its record is held; the most
recent 256 are. -/
def State.checkpointSigned (s : State) : State :=
  match s.ldg.signing with
  | [] => s
  | c :: rest =>
    if !s.signs then s
    else
      let s := s.signedOne
      let c := { c with signature := some (Config.ecdsa s.keyId (Config.sha384 c.head)) }
      let l := s.ldg.ckpts ++ [c]
      { s with ldg.signing := rest, ldg.ckpts := l.drop (l.length - 256) }

def execCheckpointSigned (t : Nat) (s : State) : Host.Outcome State Fault Refusal := .next (s.act t State.checkpointSigned)

/-- LEDGER_PERIODIC_CHECKPOINT: 65,536 entries since the last checkpoint, and none that waits for room. -/
def State.periodicCheckpoint (s : State) : State :=
  if 65536 ≤ s.ldg.sinceCkpt && s.ldg.ckptWaiting.isEmpty then s.checkpoint 4 else s

def execLedgerPeriodicCheckpoint (t : Nat) (s : State) : Host.Outcome State Fault Refusal :=
  .next (s.act t State.periodicCheckpoint)

def ledgerCheckpointSpec : PacketSpec where
  code := 0x0B02
  world := eitherWorld
  len p := p.paramLen == 8
  fitted := alwaysFitted
  check s p _ := firstFail [(!zeroBytes p.params 0 8, badParam 0xB01), (!s.ldg.signing.isEmpty, busy 0xB03)]
  run _ _ seq s :=
    let n := s.ldg.nextNo
    let s := (s.beginSession seq).checkpoint 3
    if s.ldg.nextNo = n && !s.second then s else s.finishOk seq (lowHalf s.ldg.ckptSeq)

def execLedgerCheckpoint (p : Packet) (s : State) : Host.Outcome State Fault Refusal :=
  .next (s.act p.tick (State.packet ledgerCheckpointSpec p))

/-! ### LEDGER_READ (10 R254, 13 R322) -/

/-- Entries held from a sequence on, each with what the read of its line gives: one in the overflow region may be unreadable
(R254; 11 R266; 13 R322), which a free value decides (log entry 78). -/
def State.heldFrom (s : State) (start : Nat) : List (LedgerEntry × Bool) :=
  (s.ldg.entries.mapIdx fun k e => (e, decide (s.ldg.spilled ≤ k) || (Config.free8 (s.free + k)).getLsbD 0)).filter fun x =>
    start ≤ x.1.seq.toNat

/-- Up to a number of entries that can be read, and those in between that cannot. -/
def takeReadable : List (LedgerEntry × Bool) → Nat → List LedgerEntry × List LedgerEntry
  | [], _ => ([], [])
  | _, 0 => ([], [])
  | (e, true) :: rest, n + 1 => let r := takeReadable rest n; (e :: r.1, r.2)
  | (e, false) :: rest, n + 1 => let r := takeReadable rest (n + 1); (r.1, e :: r.2)

/-- Address in the Cellar of an entry of the overflow region. -/
def State.overflowAddr (s : State) (e : LedgerEntry) : Nat :=
  let base := match s.ldg.region with
    | some r => if h : r < 64 then s.cel.regions[r].base * 2 ^ 30 else 0
    | none => 0
  base + 64 * ((e.seq.toNat % 2 ^ 40) % max 1 s.ldg.capOvf)

/-- A line of the overflow region cannot be read: marked in LDG_STAT while the Cellar is in self-refresh (13 R322), reported as
lost otherwise (11 R266). -/
def State.entryLost (e : LedgerEntry) (s : State) : State :=
  if s.cel.selfRefresh then { s with ldg.unreadable := true }
  else
    let a := BitVec.ofNat 64 (s.overflowAddr e)
    let no := s.ldg.faultNext
    (State.cellarFail a s.takeFault).deviceEvent .ldg 0x0500 0x0610 0 no a []

def ledgerReadSpec : PacketSpec where
  code := 0x0B01
  world := eitherWorld
  len p := p.paramLen == 24
  fitted := alwaysFitted
  check _ p _ := firstFail [(u32 p.params 8 < 1 || u32 p.params 8 > 65536 || u8 p.params 12 > 1 || !zeroBytes p.params 13 3,
    badParam 0xB01)]
  run p _ seq s :=
    let l := p.params
    let start := u64 l 0
    let n := u32 l 8
    let put (count : Nat) (b : List Byte) (s : State) : State :=
      s.finish seq 0 0 (BitVec.ofNat 32 count) (buffers := if u64 l 16 = 0 then [] else [(u64 l 16, b)])
    if u8 l 12 = 1 then
      let c := (s.ldg.ckpts.filter fun c => start ≤ c.seq.toNat).take n
      put c.length (c.flatMap Checkpoint.bytes) s
    else
      let r := takeReadable (s.heldFrom start) n
      let s := { s with free := s.free + s.ldg.spilled }
      put r.1.length (r.1.flatMap LedgerEntry.bytes) (s.each r.2 State.entryLost)

def execLedgerRead (p : Packet) (s : State) : Host.Outcome State Fault Refusal :=
  .next (s.act p.tick (State.packet ledgerReadSpec p))

/-! ### LEDGER_TRIM (10 R256) -/

/-- Entries up to a sequence go; room returns to the reserves first (R252). -/
def Ledger.trimmed (l : Ledger) (upto : Nat) : Ledger :=
  let keep := l.entries.filter fun e => upto < e.seq.toNat
  let n := l.entries.length - keep.length
  { l with entries := keep, spilled := l.spilled - n, deviceDrawn := l.deviceDrawn - n
           ledgerDrawn := l.ledgerDrawn - (n - l.deviceDrawn) }

def ledgerTrimSpec : PacketSpec where
  code := 0x0B03
  world := blockWorld .ldg
  len p := p.paramLen == 8
  fitted := alwaysFitted
  check s p _ :=
    let upto := u64 p.params 0
    firstFail [(!(s.ldg.ckpts.any fun c => upto < c.seq.toNat) || s.ldg.sessionSeq.toNat ≤ upto, badParam 0xB02)]
  run p secure seq s :=
    let n := s.ldg.entries.length
    let s := { s with ldg := s.ldg.trimmed (u64 p.params 0) }
    let gone := BitVec.ofNat 32 (n - s.ldg.entries.length)
    let s := if s.second then s else s.drawLedger.appendEntry { LedgerEntry.blank .trim with
      tag := p.tag, opcode := 0x0B03, ring := BitVec.ofNat 16 p.ring, secure, digest := packetDigest p 0x0B03, result := gone }
    ((s.setEvt .ldg 3).finishOk seq gone).resumeCkpts

def execLedgerTrim (p : Packet) (s : State) : Host.Outcome State Fault Refusal :=
  .next (s.act p.tick (State.packet ledgerTrimSpec p))

/-! ### The window (10 R262) -/

/-- The window is loaded with the entry that the pair names. One that the overflow region cannot give back leaves it empty:
marked as unreadable while the Cellar is in self-refresh (13 R322), reported as lost otherwise (11 R266). -/
def State.loadWindow (hi : Word) (readable : Bool) (s : State) : State :=
  let seq := hi.toNat * 2 ^ 32 + s.ldg.winSeqLo.toNat
  let s := { s with ldg.winSeqHi := hi }
  match s.ldg.entries.findIdx? fun e => e.seq.toNat == seq with
  | none => { s with ldg.win := none }
  | some k =>
    match s.ldg.entries[k]? with
    | none => { s with ldg.win := none }
    | some e =>
      if k ≥ s.ldg.spilled || readable then { s with ldg.win := some e }
      else State.entryLost e { s with ldg.win := none }

def execLdgWinSeqHi (t : Nat) (pf : PF) (value : BitVec 32) (readable : Bool) (s : State) :
    Host.Outcome State Fault Refusal := .next (s.act t (State.accessTo pf .ldg (State.loadWindow value readable)))

end Sys2Proof.Machine
end

