-- ==== Sys2Proof/Machine/CellarCmds.lean ====
section
/-! DEFINITION. The Cellar: initialisation, regions, scrub, the BAR4 window (11 R263 to R272). -/

namespace Sys2Proof.Machine

/-! ### Population (11 R264, R265) -/

/-- A DIMM slot as training left it; in use only if the chosen set holds it. -/
def Dimm.ofInput (x : DimmInput) : Dimm :=
  { gib := x.gib, x8 := x.x8, ranks := x.ranks, present := x.present, trained := x.present && x.trained, inUse := false }

/-- Slots of a channel set with a number of DIMMs per channel: all of the channels' slots for two, or one choice of slot in
each channel for one. -/
def slotSets (chans : Nat) (two : Bool) : List (List Nat) :=
  if two then [List.range (2 * chans)]
  else (List.range (2 ^ chans)).map fun m => (List.range chans).map fun c => 2 * c + b2n (m.testBit c)

/-- The DIMMs of a set have trained and are alike in capacity and organisation. -/
def setFits (l : List Dimm) (set : List Nat) : Bool :=
  let at_ (k : Nat) : Dimm := l.getD k Dimm.absent
  match set with
  | [] => false
  | k :: _ => set.all fun j => (at_ j).trained && 16 ≤ (at_ j).gib && (at_ j).gib ≤ 256 && (at_ j).gib = (at_ k).gib
      && (at_ j).x8 = (at_ k).x8 && (at_ j).ranks = (at_ k).ranks

def setGib (l : List Dimm) (set : List Nat) : Nat := set.foldl (fun n k => n + (l.getD k Dimm.absent).gib) 0

/-- Whether a set comes before another of the same capacity: more channels, then the lower-numbered slots (R264). -/
def setBefore (a b : Nat × List Nat) : Bool :=
  b.1 < a.1 || (a.1 == b.1 && decide (a.2.foldl (fun m k => m + 2 ^ (8 - k)) 0 > b.2.foldl (fun m k => m + 2 ^ (8 - k)) 0))

/-- The set that the device takes, with its number of channels. -/
def chosenSet (l : List Dimm) : Option (Nat × List Nat) :=
  let all := ([1, 2, 4].flatMap fun c => ((slotSets c true) ++ (slotSets c false)).map fun x => (c, x)).filter fun x => setFits l x.2
  all.foldl (fun best x => match best with
    | none => some x
    | some b =>
      if setGib l b.2 < setGib l x.2 || (setGib l b.2 == setGib l x.2 && setBefore x b) then some x else some b) none

/-- Training: the capacity in use, what is left out, region 63 (R264, R265, R268). -/
def Cellar.train (u : Cellar) (dimms : List DimmInput) : Cellar :=
  let l := (List.range 8).map fun k => match dimms[k]? with
    | some x => Dimm.ofInput x
    | none => Dimm.absent
  let pick := chosenSet l
  let set := (pick.map Prod.snd).getD []
  let chans := (pick.map Prod.fst).getD 0
  let cap := setGib l set
  let failed := l.any fun d => d.present && !d.trained
  let mismatch := l.zipIdx.any fun x => x.1.trained && !set.contains x.2
  let mark (k : Nat) : Dimm := let d := l.getD k Dimm.absent; { d with inUse := set.contains k }
  { u with
    dimms := Vector.ofFn fun k => mark k.val
    channels := BitVec.ofNat 4 (2 ^ chans - 1), trained := true, popMismatch := mismatch, capGib := cap, initialised := 0
    granSecure := 0, granOpen := 0, scrubDone := 0, selfRefresh := false
    evt := if failed then setBit u.evt 5 else u.evt
    regions := if h : 0 < cap then (Vector.replicate 64 Region.undefined).set 63
        { purpose := .system, secure := true, port := 0, base := cap - 1, size := 1, inEffect := false }
      else Vector.replicate 64 Region.undefined }

/-! ### Initialisation (11 R268) -/

/-- Granules initialised. -/
def Cellar.initCount (u : Cellar) : Nat := ((List.range u.capGib).filter fun g => u.initialised.getLsbD g).length

def Region.granules (r : Region) : List Nat := (List.range r.size).map fun k => r.base + k

/-- The granule that initialisation serves next: that of region 63, those of waiting regions, then from the lowest. -/
def Cellar.nextGranule (u : Cellar) : Option Nat :=
  let todo (g : Nat) : Bool := decide (g < u.capGib) && !u.initialised.getLsbD g
  (((if 0 < u.capGib then [u.capGib - 1] else []) ++ (u.waiting.flatMap fun w => w.new.granules)).find? todo).or
    ((List.range u.capGib).find? todo)

/-- INIT_DONE: the next granule is zeroed; after the last of them init_done is set. -/
def State.initGranule (s : State) : State :=
  if !s.cel.trained || s.cel.selfRefresh then s
  else
    match s.cel.nextGranule with
    | none => s
    | some g =>
      let s := s.zeroCellar (g * 2 ^ 30) (2 ^ 30)
      let top := g + 1 = s.cel.capGib
      let s := { s with
        cel.initialised := s.cel.initialised ||| (1#2048 <<< g), cel.scrubRunning := true
        cel.granSecure := if top then s.cel.granSecure ||| (1#2048 <<< g) else s.cel.granSecure
        cel.regions := if top then s.cel.regions.set 63 { s.cel.regions[63] with inEffect := true } else s.cel.regions }
      if s.cel.nextGranule.isNone then (s.setEvt .cel 2).fire .cel 1 else s

def execInitDone (t : Nat) (s : State) : Host.Outcome State Fault Refusal := .next (s.act t State.initGranule)

/-! ### REGION_SET (11 R269 to R271) -/

/-- Codes 0 to 4 of Table 11.1. -/
def Purpose.ofCode : Nat → Option Purpose
  | 0 => some .none | 1 => some .general | 2 => some .image | 3 => some .delay | 4 => some .ledger | _ => Option.none

def Purpose.code : Purpose → Nat
  | .none => 0 | .general => 1 | .image => 2 | .delay => 3 | .ledger => 4 | .system => 5

def regionNo (l : List Byte) : Fin 64 := Fin.ofNat 64 (u8 l 0)

def Region.parse (l : List Byte) : Region :=
  { purpose := (Purpose.ofCode (u8 l 1)).getD .none, secure := u8 l 2 == 1, port := u8 l 3, base := u32 l 4, size := u32 l 8
    inEffect := false }

/-- Two regions share a granule. -/
def Region.meets (a b : Region) : Bool :=
  decide (a.purpose ≠ .none) && decide (b.purpose ≠ .none) && decide (a.base < b.base + b.size) && decide (b.base < a.base + a.size)

/-- Regions beside one, defined or waiting. -/
def State.otherRegions (s : State) (r : Fin 64) : List Region :=
  ((List.finRange 64).filterMap fun k => if k = r then none else some s.cel.regions[k])
    ++ s.cel.waiting.filterMap fun w => if w.region = r.val then none else some w.new

/-- A Cellar range touches a region. -/
def Region.touches (x : Region) (addr len : Nat) : Bool :=
  x.base * 2 ^ 30 < addr + max len 1 && addr < (x.base + x.size) * 2 ^ 30

def Descriptor.names (x : Region) (d : Descriptor) : Bool :=
  (d.srcCellar && x.touches d.src d.length) || (d.dstCellar && x.touches d.dst d.length)

/-- A region is named by the descriptors of a Cellar chain from an address on, up to a number of them. -/
def State.chainWalk (s : State) (x : Region) : Nat → Nat → Bool
  | 0, _ => false
  | k + 1, addr =>
    if addr = 0 then false
    else
      let d := Descriptor.parse (Mem.read s.cel.mem addr 32)
      x.touches addr 32 || Descriptor.names x d || State.chainWalk s x k d.next

/-- A chain in progress names a region: its descriptor in progress, and of a chain in the Cellar where the chain lies and every
descriptor that is still to come. What a chain in host memory names later is not known. -/
def State.chainNames (s : State) (x : Region) : Bool :=
  (List.finRange 32).any fun c =>
    match s.dma.chans[c].queue, s.dma.chans[c].cur with
    | q :: _, some d => Descriptor.names x d || (q.chainCellar && !q.inlined
        && (x.touches q.addr 32 || s.chainWalk x (q.hopLimit - s.dma.chans[c].index.toNat) d.next))
    | _, _ => false

/-- A region is in use (R269). -/
def State.regionInUse (s : State) (r : Fin 64) : Bool :=
  let x := s.cel.regions[r]
  match x.purpose with
  | .image => if h : x.port < 8 then
      let p := s.ports[x.port]
      !(p.st = .off || p.st = .idle) || !p.store.isEmpty
    else false
  | .delay => (List.finRange 8).any fun n => match s.cel.delays[n] with
    | some d => d.region == r.val
    | none => false
  | .ledger => s.ldg.region == some r.val && decide (0 < s.ldg.spilled)
  | .general => s.chainNames x
  | .none | .system => false

/-- A limit of Table 11.1 is broken. -/
def State.purposeBroken (s : State) (r : Fin 64) (x : Region) : Bool :=
  let others := s.otherRegions r
  match x.purpose with
  | .image => (others.any fun y => decide (y.purpose = .image) && y.port == x.port)
      || (if h : x.port < 8 then s.secureBlock (.port ⟨x.port, h⟩) != x.secure else true)
  | .ledger => (others.any fun y => decide (y.purpose = .ledger)) || !x.secure || x.size ≠ 1
  | _ => false

/-- A region that was the Ledger's overflow region is one no more. -/
def State.leaveLedger (r : Fin 64) (s : State) : State :=
  if s.ldg.region = some r.val then { s with ldg.region := none, ldg.capOvf := 0 } else s

def regionSetSpec : PacketSpec where
  code := 0x0605
  world := eitherWorld
  len p := p.paramLen == 16
  fitted s p := u8 p.params 1 ≠ 2 || (if h : u8 p.params 3 < 8 then s.fittedBlock (.port ⟨u8 p.params 3, h⟩) else true)
  check s p secure :=
    let l := p.params
    let r := regionNo l
    let old := s.cel.regions[r]
    let x := Region.parse l
    let named := u8 l 0 < 63
    let told := u8 l 0 < 64
    let same := decide ({ old with inEffect := false } = x)
    firstFail [(!secure && (u8 l 2 = 1 || (told && decide (old.purpose ≠ .none) && old.secure)), worldDenied 9),
      (!named || s.cel.capGib = 0 || u8 l 1 > 4 || u8 l 2 > 1 || u8 l 3 > (if u8 l 1 = 2 then 7 else 0) || !zeroBytes l 12 4
        || (if u8 l 1 = 0 then x.size ≠ 0 else decide (x.size < 1) || decide (s.cel.capGib < x.base + x.size)), badParam 0x601),
      ((s.otherRegions r).any fun y => y.meets x, badParam 0x602), (s.purposeBroken r x, badParam 0x604),
      (s.regionInUse r && !same, badState 0x603)]
  run p _ seq s :=
    let r := regionNo p.params
    let x := Region.parse p.params
    if x.purpose = .none then
      State.finishOk seq 0 (State.leaveLedger r { s with cel.regions := s.cel.regions.set r Region.undefined })
    else { s with cel.waiting := s.cel.waiting ++ [{ region := r.val, new := x, seq }] }

def execRegionSet (p : Packet) (s : State) : Host.Outcome State Fault Refusal := .next (s.act p.tick (State.packet regionSetSpec p))

/-- The granules whose contents belong to the other world, which are zeroed before a region takes effect (R270). -/
def Cellar.foreign (u : Cellar) (x : Region) : List Nat :=
  x.granules.filter fun g => if x.secure then u.granOpen.getLsbD g else u.granSecure.getLsbD g

/-- The granules of a region take its world. -/
def Cellar.owned (u : Cellar) (x : Region) : Cellar :=
  x.granules.foldl (fun u g =>
    let bit := 1#2048 <<< g
    if x.secure then { u with granSecure := u.granSecure ||| bit, granOpen := u.granOpen &&& ~~~ bit }
    else { u with granOpen := u.granOpen ||| bit, granSecure := u.granSecure &&& ~~~ bit }) u

/-- REGION_EFFECT: a region that waits takes effect, its granules initialised, and zeroed where they change world. -/
def State.regionEffect (r : Fin 64) (s : State) : State :=
  match s.cel.waiting.find? fun w => w.region == r.val with
  | none => s
  | some w =>
    if s.cel.selfRefresh || !(w.new.granules.all fun g => s.cel.initialised.getLsbD g) then s
    else
      let s := s.each (s.cel.foreign w.new) fun g s => s.zeroCellar (g * 2 ^ 30) (2 ^ 30)
      let x : Region := { w.new with inEffect := true }
      let s := { s with cel := { s.cel.owned x with regions := s.cel.regions.set r x, waiting := s.cel.waiting.erase w } }
      let s := s.leaveLedger r
      let s := if x.purpose = .ledger then (State.spill { s with ldg.region := some r.val, ldg.capOvf := x.size * 2 ^ 24 }).resumeCkpts else s
      let s := if h : x.purpose = .image ∧ x.port < 8 then
          let n : Fin 8 := ⟨x.port, h.2⟩
          let s := s.modPort n fun p => { p with writeOff := if p.store.isEmpty then 0 else p.writeOff }
          s.flushRecords n s.ports[n].held.length
        else s
      s.finishOk w.seq 0

def execRegionEffect (t : Nat) (r : Fin 64) (s : State) : Host.Outcome State Fault Refusal := .next (s.act t (State.regionEffect r))

/-- A deadline before the region takes effect (R270). -/
def State.regionExpire (w : RegionRequest) (s : State) : State :=
  State.finish w.seq 0x0104 0x605 0 { s with cel.waiting := s.cel.waiting.erase w }

/-! ### Patrol scrub (11 R267) -/

/-- Every initialised granule has been read in the present pass. -/
def Cellar.passDone (u : Cellar) : Bool :=
  (List.range u.capGib).all fun g => !u.initialised.getLsbD g || u.scrubDone.getLsbD g

/-- A granule counts as read when its last line has been. -/
def State.scrubbed (addr : Nat) (s : State) : State :=
  let g := addr / 2 ^ 30
  let s := { s with cel.scrubPos := g }
  if addr % 2 ^ 30 / 64 + 1 ≠ 2 ^ 24 then s
  else
    let s := { s with cel.scrubDone := s.cel.scrubDone ||| (1#2048 <<< g) }
    if s.cel.passDone then State.setEvt .cel 3 { s with cel.scrubDone := 0, cel.scrubPass := s.cel.scrubPass + 1 } else s

/-- One line read by the scrub: a corrected one is written back, an uncorrectable one is latched and journalled, its data
left as it is. -/
def State.scrub (addr : Nat) (res : EccResult) (s : State) : State :=
  if !s.cel.scrubRunning || s.cel.selfRefresh || !s.cel.initialised.getLsbD (addr / 2 ^ 30) then s
  else
    let s := s.scrubbed addr
    match res with
    | .clean | .corrected | .replayed => s.eccCount res
    | .failed =>
      let a := BitVec.ofNat 64 (addr / 64 * 64)
      let no := s.ldg.faultNext
      (s.takeFault.cellarFail a).deviceEvent .cel 0x0500 0x0610 0 no a []

/-- PATROL_SCRUB: there is nothing to read at or above the capacity in use. -/
def execPatrolScrub (t addr : Nat) (res : EccResult) (s : State) : Host.Outcome State Fault Refusal :=
  if s.cel.capGib * 2 ^ 30 ≤ addr then .fault .noSuchAddress else .next (s.act t (State.scrub addr res))

/-! ### The BAR4 window (11 R272) -/

/-- The device address of an offset in a function's window. -/
def State.windowAddr (s : State) (pf : PF) (off : Nat) : Nat :=
  (match pf with
    | .pf0 => s.cel.winBase0
    | .pf1 => s.cel.winBase1) * 2 ^ 30 + off

/-- The access lies in regions that the function reaches: PF0 open GENERAL or IMAGE, PF1 any but region 63. -/
def State.windowOk (s : State) (pf : PF) (addr len : Nat) : Bool :=
  !s.cel.selfRefresh && (granules addr (max len 1)).all fun g => match s.regionAt g with
    | some r => decide (r.purpose ≠ .system) &&
        (pfSecure pf || (!r.secure && (decide (r.purpose = .general) || decide (r.purpose = .image))))
    | none => false

def State.writable (s : State) (addr len : Nat) : Bool :=
  (granules addr (max len 1)).all fun g => match s.regionAt g with
    | some r => decide (r.purpose ≠ .image)
    | none => false

/-- What a read returned, as the function's last read shows it: its first eight bytes. -/
def State.returned (pf : PF) (x : DWord) (s : State) : State := s.modPf (pfSecure pf) fun f => { f with lastRead := x }

def State.windowAccess (pf : PF) (off : Nat) (acc : WinAccess) (s : State) : State :=
  let addr := s.windowAddr pf off
  match acc with
  | .read len =>
    if s.windowOk pf addr len then s.returned pf (BitVec.ofNat 64 (u64 (Mem.read s.cel.mem addr (min len 8)) 0))
    else (s.returned pf (-1)).setEvt .cel 4
  | .write data =>
    if !s.windowOk pf addr data.length then s.setEvt .cel 4
    else if s.writable addr data.length then s.post .cellar addr data else s

def execCellarWindowAccess (t : Nat) (pf : PF) (off : Nat) (acc : WinAccess) (s : State) : Host.Outcome State Fault Refusal :=
  .next (s.act t (State.windowAccess pf off acc))

end Sys2Proof.Machine
end

