-- ==== Sys2Proof/Machine/PortLines.lean ====
section
/-! DEFINITION. The line trigger engine and the pattern generator (02 R37 to R41), document edges (02 R46, R47), the splice
check (05 R121 to R125), table switches (02 R35). -/

namespace Sys2Proof.Machine

/-! ### Scheduling (02 R37) -/

/-- Trigger instant of a grid line at a count edge: t + (x - n) x t_est to the nearest tick. -/
def gridInstant (x : Int) (n : Int) (tick tEst : Nat) : Int :=
  tick + ((x - n * 2 ^ 32) * tEst + 2 ^ 39) / 2 ^ 40

/-- The schedule of one grid line after an edge. -/
def Grid.schedule (g : Grid) (n : Int) (tick tEst k : Nat) (l : List (Nat × Nat)) : List (Nat × Nat) :=
  let x := g.pos k
  let cand := gridInstant x n tick tEst
  let least : Int := tick + 8
  match l.find? fun e => e.1 = k with
  | none => l ++ [(k, (max cand least).toNat)]
  | some _ =>
    if x < (n + 1) * 2 ^ 32 && least ≤ cand then l.map fun e => if e.1 = k then (k, cand.toNat) else e else l

/-- Untriggered grid lines below a count. -/
def Grid.dueLines (g : Grid) (n : Int) : List Nat :=
  let span : Int := n * 2 ^ 32 - g.pos g.next
  let pitch : Int := g.pitch
  if g.pitch = 0 || span ≤ 0 then [] else
    (List.range ((span + pitch - 1) / pitch).toNat).map fun i => g.next + i

/-- The engine takes a count edge (R37): backward motion cancels every scheduled trigger. -/
def Port.takeEdge (p : Port) (e : CountEdge) : Port :=
  let n := if p.cfg.down then -e.pos else e.pos
  let forward := e.up != p.cfg.down
  let g := { p.grid with tEst := e.interval, lastEnc := n }
  if !forward then { p with grid := { g with sched := [] } }
  else { p with grid := { g with
    sched := (g.dueLines (n + 2)).foldl (fun l k => g.schedule n e.tick e.interval k l) g.sched } }

/-- ENC_COUNT (12 R297): a port in SCAN takes its encoder's edges. -/
def State.encCount (n : Fin 8) (s : State) : State :=
  match s.takeAct (13 * 64 + 2) n.val with
  | none => s
  | some (x, s) => if s.ports[n].st = .scan && !s.encs[s.ports[n].cfg.encoder].posInvalid then
      s.modPort n fun p => x.edges.foldl Port.takeEdge p else s

def execEncCount (t : Nat) (n : Fin 8) (s : State) : Host.Outcome State Fault Refusal := .next (s.act t (State.encCount n))

/-! ### Line loss (02 R40, 05 R117, R118) -/

/-- A line of an open side is lost or later than Tline: capture `i` is the last good one. A stoppable transport switches
back to it; the side of any other is reported for rejection. -/
def State.loseLine (n : Fin 8) (doc : BitVec 32) (i : Int) (s : State) : State :=
  let s := s.modPort n fun p => p.modSide doc fun d => { d with lineLoss := true }
  let s := (s.portFlag n 1).fire (.port n) 5
  let reject (s : State) : State := s.modPort n fun p => p.modSide doc fun d => d.rejected 1
  match s.groupOfPort n with
  | none => reject s
  | some g =>
    match s.paceCfg g with
    | some c =>
      if c.stoppable && !s.pace.groups[g].wait then
        let s := s.switchback g 2 none
        let s := s.modSeam g n fun m => { m with k := some (m.k.getD i) }
        match s.seamOf n with
        | some (_, _, m) => s.modPace n fun q => { q with seamK := m.k.getD i }
        | none => s
      else reject s
    | none => reject s

/-- The open side of a document line. A trailing capture of R16 that is late beyond Tline is no line of a side (DESIGN
CHOICE, log entry 109). -/
def Port.lineSide (p : Port) (k : Nat) : Option Side := (p.docLine k).bind fun d => if d.opened || d.due then some d else none

/-- The open side that a capture serves, a trailing capture of R16 among them. -/
def Port.captureSide (p : Port) (k : Nat) : Option Side := (p.takerOf k).bind fun d => if d.opened || d.due then some d else none

/-! ### Starting a line (02 R38 to R40) -/

/-- Predicted Tline in ticks at an estimate of ticks per count. -/
def Port.tlineTicks (p : Port) (tEst : Nat) : Nat := (p.tlineFixed tEst + 2 ^ 39) / 2 ^ 40

/-- Lateness of a line in ticks; one whose instant was not kept counts as 0xFFFF units of 4 ns. -/
def lateTicks (start : Nat) (instant : Option Nat) : Nat :=
  match instant with
  | some i => start - i
  | none => 6 * 0xFFFF

/-- Lateness beyond Tline / 4 (R40): the flag, the count and the waymark. A port of a pace group asks its governor for the
cap of 05 R107. -/
def State.overrunNow (n : Fin 8) (s : State) : State :=
  let s := ((s.modPort n fun p => { p with cnt.overrun := satInc p.cnt.overrun }).portFlag n 0).fire (.port n) 4
  s.when ((s.groupOfPort n).isSome && !s.second) fun s => s.modPace n fun q => { q with ovrAsked := true }

/-- The open side of a lost line has lost it: the capture before is the last good one. -/
def State.lostFor (n : Fin 8) (k : Nat) (d : Option Side) (s : State) : State :=
  match d with
  | some d => s.loseLine n d.doc ((k : Int) - d.first - 1)
  | none => s

/-- A line boundary of a port with no side open, here or since the join on the lead (14 R334). -/
def State.passLine (n : Fin 8) (s : State) : State :=
  if (s.ports[n].sides.any fun d => d.opened) || s.rope.openAtJoin.getLsbD n then s
  else { s with rope.toPass := s.rope.toPass &&& ~~~ (1#8 <<< n.val) }

/-- A line starts now. Overlap lines take no lateness (05 R118). A line that starts out of lock is lost, which is handled as
lateness beyond Tline (R45). -/
def State.startLine (n : Fin 8) (w : WaitLine) (s : State) : State :=
  let p := s.ports[n]
  let overlap := s.isOverlap n w.k
  let lateBy := if overlap then 0 else lateTicks s.ticks w.instant
  let late := decide (0 < lateBy)
  let lost := p.cfg.digital && !p.lvds.locked
  let beyond := lost || decide (w.tline < 4 * lateBy)
  let field := min (lateBy / 6) 0xFFFF
  let edges := s.lineEdges n w.tEst
  let r : LineRun :=
    { k := w.k, instant := w.instant, start := s.ticks, tline := w.tline, lateField := field, late, beyond
      encPos := s.encs[p.cfg.encoder].pos, edgeEnd := edgesEnd edges, edges, lost, excluded := false }
  let g := s.groupOfPort n
  let limit := match g with
    | some g => s.pace.groups[g].limit
    | none => 0
  let s := s.modPort n fun p =>
    { p with
      line := some r
      pxRuns := (p.pxRuns.filter fun x => s.ticks < x.stop) ++ p.cfg.pxRun s.ticks
      cnt.late := if late then satInc p.cnt.late else p.cnt.late
      cnt.lateMax := max p.cnt.lateMax field
      sides := p.sides.map fun d =>
        if d.opened && p.wants d w.k && !overlap then
          { d with pace.slowed := d.pace.slowed + b2n (limit == 4)
                   pace.capped := d.pace.capped + b2n (limit == 1 || limit == 2 || limit == 3) }
        else d }
  let s := (s.when beyond fun s => s.overrunNow n).passLine n
  if lost then s.lostFor n w.k (s.ports[n].captureSide w.k)
  else s.when (w.tline < lateBy) fun s => s.lostFor n w.k (s.ports[n].lineSide w.k)

/-- The pattern generator may start a line: none in progress, and room for the whole line (01 R14). -/
def Port.canStart (p : Port) : Bool := p.line.isNone && p.hasRoom

/-- LATE_LINE_START (R39): the oldest waiting line starts once it can. -/
def State.lateStart (n : Fin 8) (s : State) : State :=
  let s := s.drainPort n
  let p := s.ports[n]
  match p.waiting with
  | [] => s
  | w :: rest =>
    if p.st = .scan && p.canStart then (s.modPort n fun p => { p with waiting := rest }).startLine n w else s

def execLateLineStart (t : Nat) (n : Fin 8) (s : State) : Host.Outcome State Fault Refusal :=
  .next (s.act t (State.lateStart n))

/-! ### The splice check (05 R121 to R125) -/

/-- Means of a list of whole numbers, to the nearest; none of an empty list. -/
def meanNearest (l : List Nat) : Option Nat :=
  if l.isEmpty then none else some ((2 * l.foldl (· + ·) 0 + l.length) / (2 * l.length))

/-- Differences of two signatures over every slot and band. -/
def sigDiff (a b : List (List Nat)) : List Nat :=
  (a.zip b).flatMap fun x => (x.1.zip x.2).map fun v => max v.1 v.2 - min v.1 v.2

/-- err(s) of R121: overlap captures against the stored signatures `s` captures on, at or before K. -/
def spliceErr (stored : List Signature) (retaken : List (Nat × List (List Nat))) (k : Int) (sh : Int) : Option Nat :=
  meanNearest (retaken.flatMap fun r =>
    if (r.1 : Int) + sh ≤ k then
      match stored.find? fun g => (g.k : Int) = (r.1 : Int) + sh with
      | some g => sigDiff r.2 g.sums
      | none => []
    else [])

/-- texture of R121. -/
def spliceTexture (stored : List Signature) (retaken : List (Nat × List (List Nat))) : Nat :=
  (meanNearest (retaken.flatMap fun r => match stored.find? fun g => g.k = r.1 with
    | some g => g.sums.flatMap fun b => (b.zip b.tail).map fun v => max v.1 v.2 - min v.1 v.2
    | none => [])).getD 0

/-- What the check of a seam found. -/
structure SpliceCheck where
  result : Nat                    -- 0 PASS, 1 FAIL, 2 UNCHECKED
  errs : List Nat                 -- err(-2) to err(+2), 0xFFFF where not computed
  best : Int
  texture : Nat
  deriving DecidableEq, Repr

/-- The shift with the lowest error; 0 on a tie that includes 0, else the lowest shift (log entry 30). -/
def bestShift (e : List (Int × Nat)) : Int :=
  let low := e.foldl (fun m x => min m x.2) 0xFFFFFFFF
  if e.any fun x => x.1 = 0 && x.2 = low then 0 else ((e.find? fun x => x.2 = low).map Prod.fst).getD 0

def Port.spliceCheck (p : Port) (d : Side) (m : Seam) (limit : Nat) : SpliceCheck :=
  let k := d.lineOf (m.k.getD 0)
  let known := (m.retaken.filter fun r => p.signatures.any fun g => g.k = r.1).length
  if known < 4 then { result := 2, errs := List.replicate 5 0xFFFF, best := 0, texture := spliceTexture p.signatures m.retaken }
  else
    let errs : List (Int × Option Nat) := [-2, -1, 0, 1, 2].map fun sh => (sh, spliceErr p.signatures m.retaken k sh)
    let got := errs.filterMap fun e => e.2.map fun v => (e.1, v)
    let e0 := ((got.find? fun e => e.1 = 0).map Prod.snd).getD 0
    { result := if e0 ≤ limit && got.all fun e => e0 ≤ e.2 then 0 else 1
      errs := errs.map fun e => min (e.2.getD 0xFFFF) 0xFFFF, best := bestShift got, texture := spliceTexture p.signatures m.retaken }

/-- The overlap capture K of a seam has been taken again, and capture K + 1 has been triggered. -/
def State.seamReady (s : State) (m : Seam) : Bool :=
  match s.sideOf m.port m.doc with
  | none => true
  | some d =>
    let k := d.lineOf (m.k.getD 0)
    (m.retaken.any fun r => (r.1 : Int) = k) && m.resume.isSome

/-- The verdict of one seam is final: its SPLICE record, and on a failure or a closing seam what R124 and R125 say. -/
def State.commitSeam (g : Fin 4) (b : Switchback) (m : Seam) (c : SpliceCheck) (s : State) : State :=
  match s.sideOf m.port m.doc with
  | none => s
  | some d =>
    let n := m.port
    let k := d.lineOf (m.k.getD 0)
    let resume := (m.resume.getD s.ticks) * 2 / 3
    let s := s.spliceRecord n m.doc b m resume c.result c.best c.errs c.texture (min 64 s.ports[n].cfg.width)
    let s := s.when (c.result = 1) fun s =>
      let s := s.event (.port n) 0x0901 0
      let s := (s.setEvt .pace (8 + g.val)).fire .pace (8 + g.val)
      let s := s.modGroup g fun x => { x with failCnt := satInc x.failCnt }
      s.modPort n fun p => p.modSide m.doc fun d => { d.rejected 3 with pace.fails := d.pace.fails + 1 }
    if m.closing || (c.result = 1 && b.policy.closeOnFail) then
      let s := s.modPort n fun p => { p with caps := p.caps.filter fun x => (x.k : Int) ≤ k }
      s.closeNow n m.doc fun d => if m.closing then { d.rejected 3 with lineLoss := true } else d
    else s

/-- What the checks of a switchback's seams find. -/
def State.seamChecks (s : State) (b : Switchback) : List (Seam × SpliceCheck) :=
  b.seams.map fun m => match s.sideOf m.port m.doc with
    | some d => (m, s.ports[m.port].spliceCheck d m b.policy.limit)
    | none => (m, { result := 0, errs := [], best := 0, texture := 0 })

/-- The verdict takes effect (R124): a failure with retries left goes back to step 1 with the same K; otherwise the seams end
the switchback. -/
def State.applyVerdict (g : Fin 4) (b : Switchback) (checks : List (Seam × SpliceCheck)) (s : State) : State :=
  let s := s.each checks fun c s => s.modPace c.1.port fun q =>
    { q with spliceErr := min (c.2.errs.getD 2 0xFFFF) 0xFFFF, texture := min c.2.texture 0xFFFF }
  let s := s.endHold g
  if (checks.any fun c => c.2.result = 1) && b.attempts ≤ b.policy.retries then
    (s.modSb g fun b => { b with attempts := b.attempts + 1, seams := b.seams.map fun m => { m with retaken := [] } }).sbAgain g
  else
    let s := s.each checks fun c s => s.commitSeam g b c.1 c.2
    (s.modGroup g fun x => { x with sb := none }).sendGate

/-- The verdict (R122): every seam of the switchback has its overlap captures. A second waits for its lead's verdict
(14 R338). -/
def State.spliceVerdict (g : Fin 4) (s : State) : State :=
  match s.pace.groups[g].sb with
  | none => s
  | some b => if b.step = 6 && !s.second && b.seams.all fun m => s.seamReady m then s.applyVerdict g b (s.seamChecks b) else s

/-- The verdict of a port's group, if one is due. -/
def State.verdictOf (n : Fin 8) (s : State) : State :=
  match s.groupOfPort n with
  | some g => s.spliceVerdict g
  | none => s

/-! ### Triggering (02 R38; 04 R83, R85, R86) -/

/-- A drift value in force is at its bound. -/
def Port.driftAtBound (p : Port) (off : List Int) (gain : List Nat) : Bool :=
  match p.shade.block with
  | none => false
  | some b => p.cfg.slots.any fun c =>
    (b.darkBound ≠ 0 && (off.getD c 0).natAbs = b.darkBound)
      || (b.gainBound ≠ 0 && (gain.getD c 0x4000 = 16384 + 4 * b.gainBound || gain.getD c 0x4000 = 16384 - 4 * b.gainBound))

/-- R86 for a side opened now. -/
def Port.staleNow (p : Port) : Bool :=
  match p.shade.block with
  | none => false
  | some b => b.stalePixels < p.shade.clamped.toNat || p.driftAtBound p.shade.offLearn p.shade.gainLearn
      || (b.enable && b.staleSides ≤ p.shade.sidesSince)

/-- A side opens as its first line is triggered at an instant: the learnt drift comes into force for it, and DOC_OPEN is
written, with the generation that the shading store holds now. -/
def State.openSideNow (n : Fin 8) (doc : BitVec 32) (instant : Nat) (s : State) : State :=
  let s := s.modPort n fun p =>
    let stale := p.staleNow
    let p := { p with shade.driftOff := p.shade.offLearn, shade.driftGain := p.shade.gainLearn
                      shade.sidesSince := p.shade.sidesSince + 1 };
    p.modSide doc fun d =>
      { d with opened := true, due := false, openTime := instant * 2 / 3, openTick := instant
               wallTime := s.wallAt (instant * 2 / 3), planGen := BitVec.ofNat 32 (s.trigGen planIndex)
               shadeGen := p.shade.gen, driftOff := p.shade.driftOff, driftGain := p.shade.driftGain, stale
               refreshed := p.shade.segWritten
               pace := { PaceRecord.fresh with
                 ceiling := p.ceil, fillMax := p.fill / 2 ^ 20
                 flags := match s.groupOfPort n with
                   | some g => match s.paceCfg g with
                     | some c => b2n (!c.stoppable) + 4 * b2n s.pace.groups[g].floorBreach
                         + 8 * b2n s.pace.groups[g].marginLow
                     | none => 0
                   | none => 0 } }
  match s.sideOf n doc with
  | none => s
  | some d => (s.docOpenRecord n d).fire (.port n) 2

/-- The first line of a side is triggered. While the shading store is being loaded no side opens: it is due at the end of
the load (04 R79). -/
def State.openSide (n : Fin 8) (doc : BitVec 32) (instant : Nat) (s : State) : State :=
  if s.ports[n].shade.loading then s.modPort n fun p => p.modSide doc fun d => { d with due := true, openTick := instant }
  else s.openSideNow n doc instant

/-- The sides that a load has kept from opening open. -/
def State.openDue (n : Fin 8) (s : State) : State :=
  s.each (s.ports[n].sides.filter fun d => d.due) fun d s => s.openSideNow n d.doc d.openTick

/-- A side that reaches `max_lines` with its trailing edge still to come closes at that line (R47). -/
def State.longSide (n : Fin 8) (k : Nat) (s : State) : State :=
  let p := s.ports[n]
  match p.sides.find? fun d => (d.opened || d.due) && d.last.isNone && k + 1 = d.first + p.cfg.maxLines with
  | none => s
  | some d =>
    (s.modPort n fun p => p.modSide d.doc fun d => { d.rejected 2 with tooLong := true, last := some k }).portFlag n 5

/-- LINE_TRIGGER: the next grid line is triggered at its instant, and started when it can be. The first line of a grid has no
line before it: its Tline in R40 is the predicted period (DESIGN CHOICE, log entry 108). -/
def State.triggerLine (n : Fin 8) (s : State) : State :=
  let p := s.ports[n]
  let k := p.grid.next
  match p.grid.sched.find? fun e => e.1 = k && decide (e.2 ≤ s.ticks) with
  | none => s
  | some (_, instant) =>
    if p.st ≠ .scan then s
    else
      let tline := match p.lastInstant with
        | some i => instant - i
        | none => p.tlineTicks p.grid.tEst
      let s := s.modPort n fun p =>
        { p with grid.next := k + 1, grid.sched := p.grid.sched.filter fun e => e.1 ≠ k, lastInstant := some instant
                 lampFrom := some instant }
      let s := match s.ports[n].sides.find? fun d => !d.opened && d.first = k with
        | some d => s.openSide n d.doc instant
        | none => s
      let s := ((s.noteResume n k instant).longSide n k).fire (.port n) 0
      let p := s.ports[n]
      let w : WaitLine := { k, instant := if p.waiting.length < 16 then some instant else none, tline, tEst := p.grid.tEst }
      let s := if p.waiting.isEmpty && p.canStart then s.startLine n w
        else s.modPort n fun p => { p with waiting := p.waiting ++ [w] }
      s.verdictOf n

def execLineTrigger (t : Nat) (n : Fin 8) (s : State) : Host.Outcome State Fault Refusal :=
  .next (s.act t (State.triggerLine n))

/-! ### Document edges (02 R46, R47) -/

/-- Encoder position at a latched instant. -/
def Encoder.posAt (e : Encoder) (tick : Nat) : Int :=
  match e.log.find? fun l => l.1 ≤ tick with
  | some l => l.2
  | none => e.pos

/-- An edge that does not fit the document sequence. -/
def State.edgeError (n : Fin 8) (s : State) : State :=
  ((s.modPort n fun p => { p with cnt.edgeErr := satInc p.cnt.edgeErr }).portFlag n 4).fire (.port n) 8

/-- First untriggered grid line at or after a position. -/
def Grid.atOrAfter (g : Grid) (x : Int) : Nat :=
  if g.pitch = 0 then g.next else max g.next ((x - g.x0 + g.pitch - 1) / g.pitch).toNat

/-- Last grid line at or before a position. -/
def Grid.atOrBefore (g : Grid) (x : Int) : Nat := if g.pitch = 0 then 0 else ((x - g.x0) / g.pitch).toNat

/-- A position in the direction-corrected count, in 2^-32 counts. -/
def Port.corrected (p : Port) (x : Int) : Int := (if p.cfg.down then -x else x) * 2 ^ 32

/-- The port's group ignores document edges (05 R120). -/
def State.edgesIgnored (s : State) (n : Fin 8) : Bool :=
  match s.groupOfPort n with
  | some g => s.pace.groups[g].ignoreEdges
  | none => false

/-- A new side latched at a leading edge: its number, its first line, and what is fixed for it (R46, R47; 04 R93; 15 R363).
With a load of the shading store waiting, the load has begun (04 R79). With a lane failed the side holds a zero colour and is
reported (01 R15, 03 R69). -/
def State.latchSide (n : Fin 8) (doc : BitVec 32) (e : Int) (first : Nat) (shortBy : Bool) (s : State) : State :=
  let p := s.ports[n]
  let fmt := p.fmtPending.getD p.fmt
  let d : Side :=
    { doc, batch := s.sys.batch, lead := e, first, last := none, trail := none, opened := false, due := false, openTime := 0
      openTick := 0, wallTime := 0, fmt, align := p.align, sealOnly := s.sec.signPolicy.getLsbD n.val
      videoGen := (List.finRange 4).map fun k =>
        if p.cfg.digital || p.cfg.colourCount ≤ k.val then 0 else p.vid.lanes[k].gen
      shadeGen := p.shade.gen, timeGen := p.timeGen, planGen := 0, driftOff := [0, 0, 0, 0]
      driftGain := [0x4000, 0x4000, 0x4000, 0x4000], stale := false, refreshed := false, released := 0, lastOut := 0, missed := 0
      strip := [], stripFirst := 0, strips := 0, lateLines := 0, overLines := 0, overrangeLines := 0, clipped := 0
      splices := 0, lineLoss := false, tooLong := false, reject := false, rejectReason := 0, laneFail := p.laneFailed
      badStore := false, hashed := [], spliceBytes := [], takeover := false, pace := PaceRecord.fresh, seams := []
      endCmd := [] }
  let s := s.modPort n fun p =>
    { p with fmt, fmtPending := none, sides := p.sides ++ [d], shade.loading := p.shade.loading || (p.shade.loadPending && p.noSide) }
  let s := s.when p.laneFailed fun s =>
    ((s.modPort n fun p => p.modSide doc fun d => { d.rejected 4 with lineLoss := true }).portFlag n 1).fire (.port n) 5
  s.when shortBy fun s =>
    ((s.modPort n fun p => p.modSide doc fun d => { d.rejected 1 with lineLoss := true }).portFlag n 1).fire (.port n) 5

/-- A leading edge latched at a position. The DOC_BEGIN is used before the slot queue (log entry 31). -/
def State.leadEdge (n : Fin 8) (e : Int) (s : State) : State :=
  let p := s.ports[n]
  let doc := match p.waits.docBegin with
    | some d => some d
    | none => p.waits.slots.head?
  match doc with
  | none => s.edgeError n
  | some doc =>
    if (p.sides.any fun d => d.last.isNone) || s.quota n = 0 || !s.batchRuns then s.edgeError n
    else
      let s := s.modPort n fun p =>
        if p.waits.docBegin.isSome then { p with waits.docBegin := none } else { p with waits.slots := p.waits.slots.tail }
      let want := p.grid.atOrAfter (p.corrected e + p.cfg.edgeOfs - p.cfg.leadLines * p.cfg.pitch)
      let free := p.sides.foldl (fun m d => max m (d.last.getD 0 + p.dMaxOf d.align + 1)) p.lastFree
      s.latchSide n doc e (max want free) (decide (want < free))

/-- The port takes document edges: it scans, or holds for its group. In every other state an edge does not fit the sequence,
and a slot stays queued (DESIGN CHOICE, log entry 115). -/
def Port.takesEdges (p : Port) : Bool := p.st = .scan || p.st = .hold

/-- What is open on the lead since before the join ends with the next document edge of its port (14 R334). -/
def State.uncover (n : Fin 8) (s : State) : State :=
  { s with rope.openAtJoin := s.rope.openAtJoin &&& ~~~ (1#8 <<< n.val) }

/-- DOC_LEAD (12 R297): the edge is latched at the task's instant. -/
def State.docLead (n : Fin 8) (s : State) : State :=
  match s.takeAct (13 * 64) n.val with
  | none => s
  | some (x, s) =>
    let s := s.uncover n
    if s.edgesIgnored n || !s.fittedBlock (.port n) then s
    else if !s.ports[n].takesEdges then s.edgeError n
    else s.leadEdge n (s.encs[s.ports[n].cfg.encoder].posAt x.latch)

def execDocLead (t : Nat) (n : Fin 8) (s : State) : Host.Outcome State Fault Refusal := .next (s.act t (State.docLead n))

/-- A trailing edge latched at a position fixes the last line of the side that awaits it. Where that line would lie before the
side's first line or before lines triggered already, it is the last of these (DESIGN CHOICE, log entry 111). -/
def State.trailEdge (n : Fin 8) (f : Int) (s : State) : State :=
  let p := s.ports[n]
  match p.sides.find? fun d => d.last.isNone with
  | none => s.edgeError n
  | some d =>
    let want := p.grid.atOrBefore (p.corrected f + p.cfg.edgeOfs + p.cfg.trailLines * p.cfg.pitch)
    let done := if d.opened then p.grid.next - 1 else 0
    let last := max (max want d.first) done
    let longest := d.first + p.cfg.maxLines - 1
    let s := s.modPort n fun p => p.modSide d.doc fun d =>
      { d with trail := some f, last := if longest < last then none else some last }
    s.closeIfDone n d.doc

/-- DOC_TRAIL (12 R297). -/
def State.docTrail (n : Fin 8) (s : State) : State :=
  match s.takeAct (13 * 64 + 1) n.val with
  | none => s
  | some (x, s) =>
    let s := s.uncover n
    if s.edgesIgnored n || !s.fittedBlock (.port n) then s
    else if !s.ports[n].takesEdges then s.edgeError n
    else s.trailEdge n (s.encs[s.ports[n].cfg.encoder].posAt x.latch)

def execDocTrail (t : Nat) (n : Fin 8) (s : State) : Host.Outcome State Fault Refusal := .next (s.act t (State.docTrail n))

/-! ### Table switches (02 R35) -/

/-- TABLE_SWITCH: a switch that waits takes effect between two lines, in a document gap where it asks for one. -/
def State.tableSwitch (n : Fin 8) (s : State) : State :=
  let p := s.ports[n]
  let due (t : EdgeTable) : Bool := t.pending = 1 || (t.pending = 2 && p.noSide)
  if p.line.isSome || p.st = .off then s
  else if due p.tabA then s.modPort n fun p => p.activate false
  else if due p.tabB then s.modPort n fun p => p.activate true
  else s

def execTableSwitch (t : Nat) (n : Fin 8) (s : State) : Host.Outcome State Fault Refusal :=
  .next (s.act t (State.tableSwitch n))

/-! ### Disarming (02 R49) -/

/-- The port leaves SCAN for IDLE; the lines that wait and what the pipeline holds of gap lines are gone. A PORT_RECONFIG that waits
at step 2 goes on waiting (DESIGN CHOICE, log entry 159). -/
def State.disarmNow (n : Fin 8) (s : State) : State :=
  let s := s.modPort n fun p =>
    { p with st := .idle, waiting := [], grid.sched := [], inbuf := [], caps := [], signatures := [] }
  s.sysRoutes

/-- DISARM_EFFECT: at a line boundary with no side open. A port that has left SCAN for IDLE or OFF meanwhile has nothing left
to stop. -/
def State.disarmEffect (n : Fin 8) (s : State) : State :=
  let p := s.ports[n]
  let stops := decide (p.st = .scan) && p.line.isNone && p.noSide
  if !p.waits.disarm.isEmpty && (stops || p.st = .idle || p.st = .off) then
    ((s.when stops fun s => s.disarmNow n).modPort n fun p => { p with waits.disarm := [] }).finishAll p.waits.disarm 0 0 0
  else s

end Sys2Proof.Machine
end

