-- ==== Sys2Proof/Machine/Madc.lean ====
section
/-! DEFINITION. The measurement converter (08): conversion arithmetic, sequences, the result queue, the reference buffer,
and the commands and events of these. -/

namespace Sys2Proof.Machine

def State.modSeq (q : Fin 16) (f : MadcSeq → MadcSeq) (s : State) : State :=
  { s with madc.seqs := s.madc.seqs.set q (f s.madc.seqs[q]) }

def State.modCore (k : Fin 2) (f : MadcCore → MadcCore) (s : State) : State :=
  { s with madc.cores := s.madc.cores.set k (f s.madc.cores[k]) }

/-! ### Conversion (R187, R188, R192) -/

/-- Full scale of an input in uV; none for a die temperature site (Table 8.1). -/
def madcFullScale (i : Nat) : Option Nat :=
  if i < 32 then some 500000
  else if i < 40 then some 2500000
  else if i < 48 then some 5000000
  else if i < 56 then none
  else if i = 60 || i = 62 then some 5000000
  else some 2500000

/-- The code that an input stands for before calibration, of a voltage in uV or a temperature in degrees Celsius, unrounded:
Vin / FS x 65,535, or 25,600 + 128 Tj. -/
def madcScale (i : Nat) (v : Rat) : Rat :=
  match madcFullScale i with
  | some fs => v * 65535 / fs
  | none => 25600 + 128 * v

def madcInputCode (i : Nat) (v : Rat) : Int := ratNearest (madcScale i v)

/-- A raw sample corrected: the code, over, under. -/
def madcCode (z : Int) (sp : Nat) (r : Int) : Nat × Bool × Bool :=
  let y := ((r - z) * sp + 2 ^ 33) / 2 ^ 34
  ((clampInt 0 65535 y).toNat, decide (65666 < y), decide (y < -131))

/-- Zero and span of a core's entry: none for a raw one. -/
def MadcCore.zs (c : MadcCore) (raw : Bool) : Int × Nat := if raw then (0, 2 ^ 30) else (c.z, c.s)

/-- An entry's code and flags from its samples. -/
def entryValue (zs : Int × Nat) (shift : Nat) (samples : List Int) : Nat × Bool × Bool :=
  let y := samples.map (madcCode zs.1 zs.2)
  let sum := y.foldl (fun n v => n + v.1) 0
  let v := if shift = 0 then sum else (sum + 2 ^ (shift - 1)) / 2 ^ shift
  (min v 65535, y.any fun v => v.2.1, y.any fun v => v.2.2)

/-- A result word (Table 8.2). -/
def resultWord (tag code seq : Nat) (over_ under stale unsettled : Bool) : Word :=
  packWord [(code, 0), (seq, 16), (b2n unsettled, 20), (b2n stale, 21), (b2n under, 22), (b2n over_, 23), (tag, 24)]

/-- The unit behind an input is fitted (Table 8.1, 00 R5). -/
def State.inputFitted (s : State) (i : Nat) : Bool :=
  if i < 24 then s.sys.fit.axes.getLsbD (i / 2)
  else if i < 32 then s.sys.fit.ports.getLsbD (i - 24)
  else if i < 40 then s.sys.fit.ain.getLsbD (i - 32)
  else if i < 48 then s.sys.fit.ports.getLsbD (i - 40)
  else true

/-! ### Reference buffer (R189) -/

/-- The reference, as it is now, is not settled for a sample that begins at a tick. -/
def Madc.refUnsettled (m : Madc) (tick : Nat) : Bool := !m.refOn || tick < m.refTick + 7500000

def State.refUnsettled (s : State) (tick : Nat) : Bool := s.madc.refUnsettled tick

/-- Tick at which the first of the samples left begins. -/
def MadcRun.first (r : MadcRun) (e : MadcEntry) : Nat := r.start + 75 * e.settle

/-- A sample of the entry that is not judged yet and begins before a tick begins while the reference is not settled. -/
def Madc.sampleUnsettled (m : Madc) (r : MadcRun) (e : MadcEntry) (before : Nat) : Bool :=
  (List.range (e.count - r.done)).any fun j =>
    let b := r.first e + 750 * j
    decide (r.judged ≤ b) && decide (b < before) && m.refUnsettled b

/-- The entry that a run converts. -/
def Madc.entryOf (m : Madc) (r : MadcRun) : Option MadcEntry := m.seqs[r.seq].entries[r.entry]?

/-! ### Urgent conversions (R193, R194) -/

/-- The oldest of the pending requests: the first of those that became due first. -/
def oldestUrgent : List Urgent → Option Urgent
  | [] => none
  | u :: l => match oldestUrgent l with
    | some v => if v.due < u.due then some v else some u
    | none => some u

/-- Tick from which a core may take a request that is due: at once while it converts no sample (an entry that settles is no
conversion in progress), else at the end of the sample in progress or of its urgent conversion. Never while it is held. -/
def Madc.coreTakes (m : Madc) (k : Fin 2) (due : Nat) : Option Nat :=
  let c := m.cores[k]
  if c.held.isSome then none
  else
    match c.urg with
    | some x => some (max due (x.at_ + 900))
    | none =>
      let t := max due c.freeAt
      match c.run with
      | none => some t
      | some r =>
        let t := max t r.start
        match m.entryOf r with
        | none => some t
        | some e =>
          if t ≤ r.first e then some t
          else some (max t (min (r.first e + 750 * ((t - r.first e + 749) / 750)) (r.first e + 750 * (e.count - r.done))))

/-- The core that serves a request, and from which tick: the one that may take it first, core 0 of two (log entry 94). -/
def Madc.server (m : Madc) (due : Nat) : Option (Fin 2 × Nat) :=
  match m.coreTakes 0 due, m.coreTakes 1 due with
  | some x, some y => some (if y < x then (1, y) else (0, x))
  | some x, none => some (0, x)
  | none, some y => some (1, y)
  | none, none => none

/-- A run whose core is taken at a tick: the samples converted so far are kept, and the entry settles again after the urgent
conversion (R194). -/
def Madc.interrupted (m : Madc) (b : Nat) (r : MadcRun) : MadcRun :=
  match m.entryOf r with
  | none => r
  | some e =>
    { r with done := r.done + min (e.count - r.done) ((b - r.first e) / 750), start := b + 900, judged := max r.judged (b + 900)
             unsettled := r.unsettled || m.sampleUnsettled r e b }

/-- A core takes a request. The time of the interruption does not count toward the period of a PERIODIC sequence. -/
def Madc.take (m : Madc) (u : Urgent) (k : Fin 2) (b : Nat) : Madc :=
  let c := m.cores[k]
  let late (q : Fin 16) : MadcSeq :=
    if (c.run.any fun r => r.seq == q) && m.seqs[q].mode == 2 then { m.seqs[q] with nextTick := m.seqs[q].nextTick + 900 }
    else m.seqs[q]
  { m with urgent := m.urgent.erase u, seqs := Vector.ofFn late
           cores := m.cores.set k { c with urg := some { req := u, at_ := b, unsettled := none }, run := c.run.map (m.interrupted b) } }

/-- The oldest pending request is taken, if a core was free to take it by now. -/
def Madc.takeOldest (m : Madc) (now : Nat) : Madc :=
  match oldestUrgent m.urgent with
  | none => m
  | some u =>
    match m.server u.due with
    | some (k, b) => if b ≤ now && m.cores[k].urg.isNone then m.take u k b else m
    | none => m

/-- Pending requests pass to the cores that were free to take them, two at a time at most. -/
def State.urgentTake (s : State) : State := { s with madc := (s.madc.takeOldest s.ticks).takeOldest s.ticks }

/-- Every sample begun by now is judged by the reference as it is, before the reference changes. -/
def State.refJudge (s : State) : State :=
  let s := s.urgentTake
  let m := s.madc
  let run (r : MadcRun) : MadcRun := match m.entryOf r with
    | some e => { r with unsettled := r.unsettled || m.sampleUnsettled r e s.ticks, judged := max r.judged s.ticks }
    | none => r
  let conv (x : UrgentConv) : UrgentConv :=
    if x.unsettled.isNone && decide (x.at_ + 150 < s.ticks) then { x with unsettled := some (m.refUnsettled (x.at_ + 150)) } else x
  { s with madc.cores := m.cores.map fun c => { c with run := c.run.map run, urg := c.urg.map conv } }

/-- The buffer goes off. -/
def State.refOff (s : State) : State := { s.refJudge with madc.refOn := false, madc.refSettled := false }

/-! ### The result queue (R196, R198) -/

/-- The measurement ring takes 64-byte slots: a slot per eight entries, the last one padded with empty entries (tag 0xFF,
the rest open). -/
def slotOf (open_ : DWord) (l : List DWord) : List Byte :=
  let fill : DWord := (open_ &&& ~~~ 0xFF000000#64) ||| 0xFF000000#64
  (l ++ List.replicate (8 - l.length) fill).flatMap fun x => leBytes 8 x.toNat

/-- One slot leaves the queue for its ring, if the ring can take it. -/
def State.madcSlot (partSlot : Bool) (s : State) : State :=
  let q := s.madc.q
  match s.ring? q.ring with
  | none => s
  | some r =>
    if q.ring = 0 || q.entries.isEmpty || (!partSlot && q.entries.length < 8) || r.room = 0 || r.waitDoorbell
        || !s.canHost r.secure || s.dma.chans[10].stuck || s.second then s
    else
      let s := s.produceSlots q.ring [slotOf (Config.free64 s.free) (q.entries.take 8)] none
      let left := q.entries.drop 8
      { s.drawn with madc.q.entries := left, madc.q.times := q.times.drop 8 }

/-- Full slots leave while the ring takes them. -/
def State.madcDrain : Nat → State → State
  | 0, s => s
  | k + 1, s => if s.madc.q.entries.length < 8 then s else State.madcDrain k (s.madcSlot false)

/-- A result enters the queue. -/
def State.enqueue (entry core : Nat) (result : Word) (s : State) : State :=
  let q := s.madc.q
  if q.entries.length ≥ 2048 then
    { s with madc.q.ovf := satInc q.ovf, madc.q.gap := true, madc.evt := setBit s.madc.evt 1 }
  else
    let x : Nat := result.toNat + entry * 2 ^ 32 + core * 2 ^ 37 + b2n q.gap * 2 ^ 38 + (s.ns / 256 % 2 ^ 24) * 2 ^ 40
    let n := q.entries.length + 1
    let s := { s with madc.q.entries := q.entries ++ [BitVec.ofNat 64 x], madc.q.gap := false, madc.q.top := max q.top n
                      madc.q.times := q.times ++ [s.ticks] }
    let s := s.when (n ≥ q.thresh) fun s => s.setEvt .madc 0
    let s := s.when (n = q.thresh) fun s => s.fire .madc 17
    s.madcDrain (n / 8)

/-- MADC_SLOT_FLUSH: 100 us after its first entry a slot that is not full is written. -/
def State.slotFlush (s : State) : State :=
  match s.madc.q.times.head? with
  | some t => if t + 150000 ≤ s.ticks then (s.madcDrain (s.madc.q.entries.length / 8)).madcSlot true else s
  | none => s

def execMadcSlotFlush (t : Nat) (s : State) : Host.Outcome State Fault Refusal := .next (s.act t State.slotFlush)

/-! ### Runs (R190, R191, R194, R199, R200) -/

/-- A record that waits for its entry boundary comes into force. -/
def MadcCore.boundary (c : MadcCore) : MadcCore :=
  match c.next with
  | some (g, z, sp) => { c with gen := g, z, s := sp, next := none, noRecord := decide (g = 0) }
  | none => c

/-- The sequence of the lowest number that waits for a core. -/
def State.seqWaiting (s : State) (k : Fin 2) : Option (Fin 16) :=
  (List.finRange 16).find? fun q => s.madc.seqs[q].pend && s.madc.seqs[q].core == k.val

/-- The first entry of a run, or the next, begins at a tick, or when the core ends its urgent conversion. -/
def MadcCore.begin (c : MadcCore) (q : Fin 16) (entry now : Nat) : MadcCore :=
  let t := match c.urg with
    | some x => max now (x.at_ + 900)
    | none => now
  { c.boundary with run := some { seq := q, entry, start := t, done := 0, judged := t, unsettled := false } }

/-- A free core starts the sequence that waits for it. -/
def State.coreStart (k : Fin 2) (s : State) : State :=
  if s.madc.cores[k].run.isSome then s
  else
    match s.seqWaiting k with
    | none => s.modCore k MadcCore.boundary
    | some q =>
      (s.modSeq q fun x => { x with pend := false }).modCore k fun c => c.begin q 0 s.ticks

def State.seqRunning (s : State) (q : Fin 16) : Bool :=
  (List.finRange 2).any fun k => match s.madc.cores[k].run with
    | some r => r.seq == q
    | none => false

/-- One trigger of a sequence (R191). Triggers within one tick of each other count as one. A trigger that finds the sequence
waiting for its core, triggered but not running, is neither latched nor missed (log entry 125). -/
def State.seqTrigger (q : Fin 16) (s : State) : State :=
  let x := s.madc.seqs[q]
  let same := match x.lastTrig with
    | some t => s.ticks ≤ t + 1
    | none => false
  if !x.armed || same then s
  else
    let s := s.modSeq q fun x => { x with lastTrig := some s.ticks }
    if x.pend then
      s.when (s.seqRunning q) fun s => (s.modSeq q fun x => { x with missed := sat16 (x.missed + 1) }).setEvt .madc 3
    else (s.modSeq q fun x => { x with pend := true }).coreStart (Fin.ofNat 2 x.core)

/-- A sequence takes no more triggers. -/
def MadcSeq.disarmed (x : MadcSeq) : MadcSeq := { x with armed := false, pend := false }

/-- Commands that wait for the end of a sequence's run reply once none of theirs runs. -/
def State.seqStops (q : Fin 16) (s : State) : State :=
  let l := s.madc.seqs[q].stops
  let s := s.modSeq q fun x => { x with stops := [] }
  s.each l fun c s =>
    if (List.finRange 16).any fun p => s.madc.seqs[p].stops.contains c then s else s.finishOk c 0

/-- The run of a core has ended: counters, the generator, the next run. A CONTINUOUS sequence triggers itself, after a trigger
that was pending has started the next run. -/
def State.runEnd (k : Fin 2) (q : Fin 16) (s : State) : State :=
  let s := s.modCore k fun c => { c with run := none }
  let s := s.modSeq q fun x => { x with runs := x.runs + 1 }
  let s := { s with madc.seqDone := setBit s.madc.seqDone q.val }.fire .madc q.val
  let s := (s.seqStops q).coreStart k
  s.when (s.madc.seqs[q].mode = 1) fun s => s.seqTrigger q

/-- The result of an entry under its core's record, or its last word marked stale where the core is held (R199). -/
def MadcCore.result (c : MadcCore) (e : MadcEntry) (q : Nat) (last : Word) (unsettled : Bool) (samples : List Int) :
    Word × Bool :=
  if c.held.isSome then
    (if last = 0 then resultWord e.input 0 q false false true false else last ||| 0x00200000#32, last.getLsbD 23)
  else
    let v := entryValue (c.zs e.raw) e.shift (samples.take e.count)
    (resultWord e.input v.1 q v.2.1 v.2.2 false unsettled, v.2.1)

/-- A result of input 59 is a measurement of `VDD_CORE`, 2.5 V full scale, and may be the lowest since the plan (13 R324; log
entry 85). A stale word is none. -/
def State.vddRead (input : Nat) (w : Word) (s : State) : State :=
  let mv := w.toNat % 65536 * 2500 / 65535
  s.when (input = 59 && !w.getLsbD 21) fun s =>
    { s with wea.vddLow := if s.wea.vddLow = 0 then mv else min s.wea.vddLow mv }

/-- MADC_CONVERSION_DONE: the entry in progress has its last sample. -/
def State.conversionDone (k : Fin 2) (samples : List Int) (s : State) : State :=
  let s := s.urgentTake
  match s.madc.cores[k].run with
  | none => s
  | some r =>
    let x := s.madc.seqs[r.seq]
    match x.entries[r.entry]? with
    | none => s.runEnd k r.seq
    | some e =>
      if (r.done < e.count && s.ticks < r.first e + 750 * (e.count - r.done)) || samples.length < e.count then s
      else
        let w := s.madc.cores[k].result e r.seq.val (x.last.getD r.entry 0) (r.unsettled || s.madc.sampleUnsettled r e s.ticks) samples
        let s := s.modSeq r.seq fun x => { x with last := x.last.set r.entry w.1 }
        let s := (s.when w.2 fun s => s.fire .madc 16).vddRead e.input w.1
        let s := s.when x.queue fun s => s.enqueue r.entry k.val w.1
        if r.entry + 1 < x.entries.length then
          s.modCore k fun c => c.begin r.seq (r.entry + 1) s.ticks
        else s.runEnd k r.seq

def execMadcConversionDone (t : Nat) (core : Fin 2) (samples : List Int) (s : State) : Host.Outcome State Fault Refusal :=
  .next (s.act t (State.conversionDone core samples))

/-! ### Trigger sources (R191) -/

/-- MADC_TRIG_PIN: a stable edge of TRIG_A to TRIG_D. It fires its generator and triggers the sequences that select it. -/
def State.trigPin (pin : Fin 4) (rising : Bool) (s : State) : State :=
  let s := s.fire .madc ((if rising then 18 else 22) + pin.val)
  if s.sys.mode = .dormant then s
  else
    s.urgentTake.each (List.finRange 16) fun q s =>
      let x := s.madc.seqs[q]
      let sel := bitsOf x.edges (2 * pin.val + 1) (2 * pin.val)
      s.when (x.pins.testBit pin.val && (sel = 2 || (sel = 0) == rising)) fun s => s.seqTrigger q

def execMadcTrigPin (t : Nat) (pin : Fin 4) (rising : Bool) (s : State) : Host.Outcome State Fault Refusal :=
  .next (s.act t (State.trigPin pin rising))

/-- SEQ_TRIG: the waymark task of a sequence. -/
def State.seqTask (q : Fin 16) (s : State) : State :=
  match s.takeAct (5 * 64 + q.val) 0 with
  | none => s
  | some (_, s) => s.when s.madc.seqs[q].wm fun s => s.urgentTake.seqTrigger q

def execSeqTrig (t : Nat) (q : Fin 16) (s : State) : Host.Outcome State Fault Refusal := .next (s.act t (State.seqTask q))

/-- MADC_PERIOD_TRIGGER: a period of a PERIODIC sequence ends. -/
def State.periodTrigger (q : Fin 16) (s : State) : State :=
  let s := s.urgentTake
  let x := s.madc.seqs[q]
  if x.armed && x.mode = 2 && x.nextTick ≤ s.ticks then
    (s.modSeq q fun x => { x with nextTick := x.nextTick + x.period }).seqTrigger q
  else s

def execMadcPeriodTrigger (t : Nat) (q : Fin 16) (s : State) : Host.Outcome State Fault Refusal :=
  .next (s.act t (State.periodTrigger q))

/-- REF_SETTLED: 5 ms after the buffer went on. -/
def State.refSettled (s : State) : State :=
  if s.madc.refOn && s.madc.refTick + 7500000 ≤ s.ticks then { s with madc.refSettled := true } else s

def execRefSettled (t : Nat) (s : State) : Host.Outcome State Fault Refusal := .next (s.act t State.refSettled)

/-! ### Urgent requests (R193) -/

/-- A request; one of the same requester that is still pending is replaced, and returns nothing (log entry 34). -/
def State.askUrgent (u : Urgent) (s : State) : State :=
  let s := s.urgentTake
  let old := s.madc.urgent.filter fun x => x.who = u.who
  let s := { s with madc.urgent := s.madc.urgent.filter (fun x => x.who ≠ u.who) ++ [u] }
  if old.isEmpty then s
  else
    let s := { s with madc.urgDrop := satInc s.madc.urgDrop, madc.evt := setBit s.madc.evt 4 }
    s.each (old.filterMap fun x => x.seq) fun q s =>
      (s.finish q (Config.free16 s.free) (Config.free32 s.free) (Config.free32 (s.free + 1))).drawn.drawn

/-- LOAD_SAMPLE_REQUEST (07 R176): `zc_window` ticks after the step event. -/
def State.loadRequest (a : Fin 12) (s : State) : State :=
  let x := s.axes[a]
  match x.drive.load.wait with
  | none => s
  | some (t0, ph, _) =>
    if x.drive.load.asked || s.ticks < t0 + x.drive.ld.zc then s
    else
      (s.modAxis a fun x => { x with drive.load.asked := true }).askUrgent
        { who := .axis a, input := 2 * a.val + (if ph = .a then 0 else 1), raw := false, due := s.ticks, seq := none }

def execLoadSampleRequest (t : Nat) (a : Fin 12) (s : State) : Host.Outcome State Fault Refusal :=
  .next (s.act t (State.loadRequest a))

/-- A bridge fault was taken at this tick, and a stall found after it belongs to the same fault (07 R180). -/
def State.lateCriterion (s : State) (x : Axis) : Bool := x.faultCause == 2 && x.drive.faultTick == some s.ticks

/-- A load sample has returned (07 R176 to R178). -/
def State.loadResult (a : Fin 12) (c : Nat) (s : State) : State :=
  let x := s.axes[a]
  match x.drive.load.wait with
  | none => s
  | some (_, _, vfs) =>
    if !x.drive.load.asked then s
    else
      let d := x.drive
      let lam : Nat := if vfs = 0 || d.ld.ke = 0 then 255 else min 255 ((256 * c * 1000 : Nat) / ((d.ld.ke : Rat) * vfs)).floor.toNat
      let cur := d.cur.now s.ticks
      let adapt := d.ld.adapt.testBit 0
      let stallEn := d.ld.adapt.testBit 1
      let next := if lam > d.ld.target + d.ld.band then min d.lev.iMax (cur + d.ld.up)
        else if lam + d.ld.band < d.ld.target then max d.lev.iRun (cur - d.ld.down) else cur
      let run := if lam ≥ d.ld.stall then d.load.run + 1 else 0
      let s := s.modAxis a fun x =>
        { x with drive.load := { x.drive.load with
            lambda := lam, top := max x.drive.load.top lam, samples := (x.drive.load.samples + 1) % 2 ^ 16, run, wait := none
            asked := false, nextCur := if adapt then some next else none } }
      let due := stallEn && decide (d.ld.count ≤ run)
      if due && x.st = .fault then s.when (s.lateCriterion x) fun s => s.drvFlag a 1
      else s.when due fun s => s.stall a true

/-! ### Commands (R201 to R204) -/

def MadcEntry.parse (l : List Byte) (o : Nat) : MadcEntry :=
  { input := u8 l o, raw := u8 l (o + 1) = 1, count := u16 l (o + 2), shift := u8 l (o + 4), settle := u8 l (o + 5) }

def madcEntries (p : Packet) : List MadcEntry :=
  (List.range (u8 p.params 3)).map fun k => MadcEntry.parse p.params (16 + 8 * k)

/-- Ranges of Tables 8.4 and 8.5. -/
def madcSequenceOk (l : List Byte) (es : List MadcEntry) : Bool :=
  u8 l 0 < 16 && u8 l 1 < 2 && u8 l 2 < 3 && 1 ≤ u8 l 3 && u8 l 3 ≤ 32 && u8 l 4 < 16
    && ((List.range 4).all fun k => bitsOf (u8 l 5) (2 * k + 1) (2 * k) != 3) && u8 l 6 < 4
    && (if u8 l 2 = 2 then 1500 ≤ u32 l 8 else u32 l 8 = 0)
    && es.all fun e => e.input < 64 && 1 ≤ e.count && e.count ≤ 256 && e.shift ≤ 8

def State.setSequence (p : Packet) (seq : DWord) (s : State) : State :=
  let l := p.params
  let s := s.modSeq (Fin.ofNat 16 (u8 l 0)) fun x =>
    { x with core := u8 l 1, mode := u8 l 2, entries := madcEntries p, pins := u8 l 4, edges := u8 l 5
             wm := (u8 l 6).testBit 0, queue := (u8 l 6).testBit 1, period := u32 l 8
             last := List.replicate (u8 l 3) 0 }
  s.finishOk seq 0

/-- MADC_SEQUENCE (R201). A run that a disarmed sequence still makes goes on under the new block (log entry 126). -/
def madcSequenceSpec : PacketSpec where
  code := 0x0401
  world := blockWorld .madc
  len p := p.paramLen.toNat == 16 + 8 * u8 p.params 3
  fitted s p := (madcEntries p).all fun e => s.inputFitted e.input
  check s p _ :=
    let q : Fin 16 := Fin.ofNat 16 (u8 p.params 0)
    let es := List.range (u8 p.params 3)
    firstFail [(!zeroBytes p.params 7 1 || !zeroBytes p.params 12 4 || es.any fun k => !zeroBytes p.params (16 + 8 * k + 6) 2, badParam 0x401),
      (!madcSequenceOk p.params (madcEntries p) || es.any fun k => u8 p.params (16 + 8 * k + 1) > 1, badParam 0x401),
      (s.madc.seqs[q].armed, badState 0x404)]
  run p _ seq s := s.setSequence p seq

def execMadcSequence (p : Packet) (s : State) : Host.Outcome State Fault Refusal :=
  .next (s.act p.tick (State.packet madcSequenceSpec p))

def maskSeqs (m : Nat) : List (Fin 16) := (List.finRange 16).filter fun q => m.testBit q.val

/-- An abort of a sequence: it disarms, and its entry in progress gives no result. -/
def State.seqAbort (q : Fin 16) (s : State) : State :=
  let s := s.urgentTake
  let s := s.modSeq q MadcSeq.disarmed
  let drop (c : MadcCore) : MadcCore := { c with run := c.run.bind fun r => if r.seq = q then none else some r }
  let s := { s with madc.cores := s.madc.cores.map drop }
  ((s.seqStops q).coreStart 0).coreStart 1

def State.madcAction (p : Packet) (seq : DWord) (s : State) : State :=
  let l := p.params
  let qs := maskSeqs (u16 l 0)
  match u8 l 2 with
  | 0 =>
    (s.each qs fun q s => s.modSeq q fun x => { x with armed := true, lastTrig := none, nextTick := s.ticks + x.period }).finishOk seq 0
  | 1 => (s.urgentTake.each qs State.seqTrigger).finishOk seq 0
  | 2 =>
    let s := s.each qs fun q s => s.modSeq q MadcSeq.disarmed
    let running := qs.filter fun q => s.seqRunning q
    if running.isEmpty then s.finishOk seq 0
    else s.each running fun q s => s.modSeq q fun x => { x with stops := x.stops ++ [seq] }
  | 3 => (s.each qs State.seqAbort).finishOk seq 0
  | _ =>
    State.finishOk seq 0 { s with madc.q.ring := u16 l 4, madc.q.thresh := u16 l 6 }

/-- MADC_START (R202). Arming a sequence that has never been set is refused as a field out of range (log entry 35). -/
def madcStartSpec : PacketSpec where
  code := 0x0402
  world := blockWorld .madc
  len p := p.paramLen == 8
  fitted := alwaysFitted
  check s p _ :=
    let l := p.params
    let qs := maskSeqs (u16 l 0)
    let act := u8 l 2
    let ringOk := u16 l 4 = 0 || (24 ≤ u16 l 4 && match s.ring? (u16 l 4) with
      | some r => decide (r.kind = .measurement) && r.secure == s.secureBlock .madc
      | none => false)
    firstFail [(!zeroBytes l 3 1, badParam 0x401),
      (act > 4 || (act = 4 && (u16 l 0 != 0 || u16 l 6 < 1 || u16 l 6 > 2048 || u16 l 4 > 8191))
        || (act = 0 && qs.any fun q => s.madc.seqs[q].entries.isEmpty), badParam 0x401),
      (act = 1 && qs.any fun q => !s.madc.seqs[q].armed, badState 0x402),
      (act = 4 && (!s.madc.q.entries.isEmpty || (List.finRange 16).any fun q => s.madc.seqs[q].armed), badState 0x403),
      (act = 4 && !ringOk, badParam 0x405)]
  run p _ seq s := s.madcAction p seq

def execMadcStart (p : Packet) (s : State) : Host.Outcome State Fault Refusal :=
  .next (s.act p.tick (State.packet madcStartSpec p))

/-- MADC_URGENT (R203): the reply follows the result. -/
def madcUrgentSpec : PacketSpec where
  code := 0x0403
  world := blockWorld .madc
  len p := p.paramLen == 8
  fitted s p := s.inputFitted (u8 p.params 0)
  check _ p _ :=
    firstFail [(!zeroBytes p.params 2 6, badParam 0x401), (u8 p.params 0 > 63 || u8 p.params 1 > 1, badParam 0x401)]
  run p _ seq s :=
    s.askUrgent { who := .software, input := u8 p.params 0, raw := u8 p.params 1 = 1, due := s.ticks, seq := some seq }

def execMadcUrgent (p : Packet) (s : State) : Host.Outcome State Fault Refusal :=
  .next (s.act p.tick (State.packet madcUrgentSpec p))

/-- Microseconds until `ref_settled`, rounded up; 0 once it is set, and while the buffer is off. -/
def State.refRemaining (s : State) : Nat :=
  if !s.madc.refOn || s.madc.refSettled then 0 else (s.madc.refTick + 7500000 - s.ticks + 1499) / 1500

def State.setReference (on mout : Bool) (s : State) : State :=
  let s := if on && !s.madc.refOn then { s.refJudge with madc.refOn := true, madc.refTick := s.ticks, madc.refSettled := false }
    else if !on && s.madc.refOn then s.refOff else s
  { s with madc.refMout := mout }

/-- REFBUF_ENABLE (R204). -/
def refbufEnableSpec : PacketSpec where
  code := 0x0404
  world := blockWorld .madc
  len p := p.paramLen == 8
  fitted := alwaysFitted
  check _ p _ :=
    firstFail [(!zeroBytes p.params 2 6, badParam 0x401), (u8 p.params 0 > 1 || u8 p.params 1 > 1, badParam 0x401)]
  run p _ seq s :=
    let s := s.setReference (u8 p.params 0 = 1) (u8 p.params 1 = 1)
    s.finishOk seq (word s.refRemaining)

def execRefbufEnable (p : Packet) (s : State) : Host.Outcome State Fault Refusal :=
  .next (s.act p.tick (State.packet refbufEnableSpec p))

/-- Every sequence is disarmed: at a seal, RESET_BLOCK, DORMANT, SAFE (R202). Runs in progress end without a result where
`drop` says so. -/
def State.madcDisarmAll (drop : Bool) (s : State) : State :=
  s.each (List.finRange 16) fun q s => if drop then s.seqAbort q else
    let s := s.modSeq q MadcSeq.disarmed
    if s.seqRunning q then s else s.seqStops q

end Sys2Proof.Machine
end

