-- ==== Sys2Proof/Machine/TrigStore.lean ====
section
/-! DEFINITION. Trig records in the flash (09 R206 to R211, R223 to R228): their bytes, the order of the stores, and what a
record does when it comes into force. -/

namespace Sys2Proof.Machine

/-! ### Bytes of a record (Tables 9.8, 9.9; 13 Table 13.10) -/

/-- Class code, instance and sub-instance of a record index (Table 9.1, R207). -/
def trigClass (i : Nat) : Nat × Nat × Nat :=
  if i < 32 then (1, i / 4, i % 4) else if i < 40 then (2, i - 32, 0) else if i < 48 then (3, i - 40, 0)
  else if i < 50 then (4, i - 48, 0) else if i < 62 then (5, i - 50, 0) else if i = 62 then (6, 0, 0) else (7, 0, 0)

def PlanBody.bytes (b : PlanBody) : List Byte :=
  leBytes 8 b.planTime ++ leBytes 8 b.planWall ++ leBytes 4 b.margin ++ leBytes 4 (b2n b.marginLow)
    ++ ((List.range 8).flatMap fun k => leBytes 4 (b.ceilings.getD k 0))
    ++ ((List.range 7).flatMap fun k => leBytes 4 (b.curve.getD k 0))
    ++ ((List.range 32).flatMap fun k => leBytes 2 (b.slices.getD k 0))
    ++ ((List.range 64).flatMap fun k => leBytes 4 (b.monitors.getD k 0)) ++ leBytes 4 b.planMv ++ leBytes 8 0

/-- Arrays of a SHADE record: one of width values of 2 bytes per used slot. -/
def shadeArrays (n width : Nat) (l : List (List Nat)) : List Byte :=
  (List.range n).flatMap fun c => (List.range width).flatMap fun p => leBytes 2 ((l.getD c []).getD p 0)

def TrigBody.bytes (h : TrigHead) : TrigBody → List Byte
  | .video x => leBytes 2 x.pga ++ leInt 2 x.offset ++ leBytes 2 x.dark ++ leBytes 2 x.white ++ leBytes 2 x.refl ++ leBytes 6 0
  | .shade x =>
    let n := (h.colours.filter fun c => c ≠ 0xFF).length
    padTo 32 x.blockBytes ++ leBytes 4 h.width ++ ((List.range 4).flatMap fun k => leBytes 1 (h.colours.getD k 0xFF))
      ++ leBytes 24 0 ++ shadeArrays n h.width x.dark ++ shadeArrays n h.width x.gain ++ shadeArrays n h.width x.bref
  | .align x =>
    ((List.range 4).flatMap fun k => leBytes 1 (x.delays.getD k 0)) ++ ((List.range 4).flatMap fun k => leBytes 1 (x.phases.getD k 0))
      ++ leBytes 1 x.refSlot ++ leBytes 7 0
  | .madc x => leInt 4 x.z ++ leBytes 4 x.s ++ leInt 4 x.r0 ++ leBytes 4 x.zeroUv ++ leBytes 4 x.refUv ++ leBytes 12 0
  | .drive a b => leBytes 4 a.ua ++ leInt 2 a.ofs ++ leBytes 2 0 ++ leBytes 4 b.ua ++ leInt 2 b.ofs ++ leBytes 2 0
  | .time t => (List.range 40).flatMap fun k => (List.range 16).flatMap fun j => leBytes 2 ((t.getD k []).getD j 0)
  | .weather x => x.bytes

/-- Header bytes 8 to 63. -/
def TrigRecord.mid (i : Nat) (r : TrigRecord) : List Byte :=
  let h := r.head
  let c := trigClass i
  let coloured := c.1 = 1 || c.1 = 2 || c.1 = 3
  leBytes 4 0x31475254 ++ leBytes 1 c.1 ++ leBytes 1 c.2.1 ++ leBytes 1 c.2.2 ++ leBytes 1 1 ++ leBytes 4 h.gen
    ++ leBytes 4 h.count ++ leBytes 8 h.calTime ++ leBytes 8 h.wallTime ++ leInt 4 h.resid
    ++ leBytes 4 (TrigBody.bytes h r.body).length ++ leBytes 4 h.sourceGen ++ leBytes 4 h.flags
    ++ (if coloured then (List.range 4).flatMap fun k => leBytes 1 (h.colours.getD k 0xFF) else leBytes 4 0xFFFFFFFF)
    ++ leBytes 4 (if c.1 = 2 then h.width else 0)

/-- Bytes 64 to 159: the signature, all ones when unsigned. -/
def TrigHead.sigBytes (h : TrigHead) : List Byte :=
  match h.signature with
  | some x => beBytes 96 x.toNat
  | none => List.replicate 96 0xFF

/-- Bytes 0 to 63 of a slot. -/
def TrigRecord.header (i : Nat) (r : TrigRecord) : List Byte :=
  let crc := crc32c (r.mid i ++ r.head.sigBytes ++ TrigBody.bytes r.head r.body)
  leBytes 4 crc.toNat ++ leBytes 4 (~~~ crc).toNat ++ r.mid i

/-- A record as its slot holds it (Table 9.8). -/
def TrigRecord.bytes (i : Nat) (r : TrigRecord) : List Byte :=
  r.header i ++ r.head.sigBytes ++ TrigBody.bytes r.head r.body

/-- The device identity key's identifier (15 Table 15.3). -/
def dikId : BitVec 64 := first8 (Config.sha384 (beBytes 97 Config.dikPub.toNat))

/-- A record as it is written now: signed while TRIG belongs to the secure world (R224). -/
def State.seal (s : State) (i : Nat) (r : TrigRecord) : TrigRecord :=
  let secure := s.secureBlock .trig
  let h := { r.head with flags := r.head.flags + (if secure then 3 else 0), signature := none }
  let r := { r with head := h }
  if secure then
    { r with head.signature := some (Config.ecdsa dikId (Config.sha384 (r.mid i ++ TrigBody.bytes h r.body))) }
  else r

/-- A slot's bytes make a valid record of an index (R226): `check_n` complements `check`, the CRC matches, magic, class,
instance and sub agree with the place, and a signed slot carries the signature of the device identity key (log entry 133). -/
def slotHolds (i : Nat) (l : List Byte) : Bool :=
  let c := trigClass i
  let body := (l.drop 8).take 56 ++ l.drop 160
  u32 l 0 + u32 l 4 == 2 ^ 32 - 1 && (crc32c (l.drop 8)).toNat == u32 l 0 && u32 l 8 == 0x31475254
    && u8 l 12 == c.1 && u8 l 13 == c.2.1 && u8 l 14 == c.2.2
    && (!(u32 l 52).testBit 0 || (l.drop 64).take 96 == beBytes 96 (Config.ecdsa dikId (Config.sha384 body)).toNat)

/-- A slot as start-up finds it. -/
def SlotState.tested (i : Nat) (x : SlotState TrigRecord) : SlotState TrigRecord :=
  match x with
  | .valid r => if slotHolds i (r.bytes i) then .valid r else .invalid
  | y => y

/-! ### What a record does in force (R210) -/

/-- A changed SHADE record waits for its load: one that matches the port is loaded, and one that does not leaves no record in
force (04 R79, R80). -/
def State.shadeChanged (n : Fin 8) (s : State) : State :=
  s.when s.ports[n].configured fun s => s.modPort n fun p => { p with shade.loadPending := true }

/-- The ALIGN record of a port matches its colour set. -/
def State.alignMatches (s : State) (n : Fin 8) : Option (TrigHead × AlignBody) :=
  match s.alignOf n with
  | some (h, b) => if h.colours = s.ports[n].cfg.colours then some (h, b) else none
  | none => none

def Align.ofRecord (h : TrigHead) (b : AlignBody) : Align :=
  { fromRecord := true, delays := b.delays, phases := b.phases, gen := BitVec.ofNat 32 h.gen }

/-- The port follows its ALIGN record: the alignment in force was taken from the record (04 R91). An ALIGN_SET with `source` 0
that still waits reads the record when it takes effect. -/
def Port.followsAlign (p : Port) : Bool := p.align.fromRecord

/-- A changed ALIGN record of a port that follows it waits for its boundary as a new ALIGN_SET would, after the ALIGN_SETs that
wait already (04 R91). -/
def State.alignChanged (n : Fin 8) (s : State) : State :=
  match s.alignMatches n with
  | some (h, b) =>
    s.when s.ports[n].followsAlign fun s =>
      s.modPort n fun p => { p with alignPending := p.alignPending ++ [{ align := Align.ofRecord h b, seq := none }] }
  | none => s

/-- The record that a MADC core follows comes into force at its entry boundary (08 R188, R200). -/
def State.madcChanged (k : Fin 2) (s : State) : State :=
  let v : BitVec 32 × Int × Nat := match s.madcOf k with
    | some (h, b) => (BitVec.ofNat 32 h.gen, b.z, b.s)
    | none => (0, 0, 2 ^ 30)
  s.modCore k fun c => let c := { c with next := some v }; if c.run.isSome then c else c.boundary

/-- The comparator offsets of an axis follow its DRIVE record from the next ON period (R210). -/
def State.driveChanged (a : Fin 12) (s : State) : State :=
  let v : Int × Int := match s.driveOf a with
    | some (_, x, y) => (x.ofs, y.ofs)
    | none => (0, 0)
  s.modAxis a fun x => { x with drive.chopA.ofsRec := v.1, drive.chopB.ofsRec := v.2 }

/-- A later plan has lowered a ceiling of a port: its group sets `margin_low`, with a MARGIN event record (05 R128). -/
def State.ceilingLowered (n : Fin 8) (s : State) : State :=
  match s.groupOfPort n with
  | none => s
  | some g => ((s.modGroup g fun x => { x with marginLow := true }).setEvt .pace (12 + g.val)).event .pace 0x0800 0x0807

def State.fittedPorts (s : State) : List (Fin 8) := (List.finRange 8).filter fun n => s.fittedBlock (.port n)

/-- The ceilings of the plan in force pass to the fitted ports and to the pace groups (13 R324; 05 R128). -/
def State.planChanged (s : State) : State :=
  match s.planOf with
  | none => s
  | some (_, b) =>
    let s := { s with wea.marginLow := b.marginLow }
    s.each s.fittedPorts fun n s =>
      let old := s.ports[n].ceil
      let new := b.ceilings.getD n.val 0
      (s.modPort n fun p => { p with cnt.pipeCeil := word new }).when (new < old) fun s => s.ceilingLowered n

/-- The unit that the record of a class and instance belongs to is fitted (00 R5); MADC cores and the device itself are. -/
def State.trigUnit (s : State) (cls inst : Nat) : Bool :=
  if cls = 1 ∨ cls = 2 ∨ cls = 3 then s.fittedBlock (.port (Fin.ofNat 8 inst))
  else if cls = 5 then s.fittedBlock (.ax (Fin.ofNat 12 inst))
  else true

/-- What follows when the record of an index changes. A unit that is not fitted is held in reset, and its registers stay as
they are (00 R5). -/
def State.recordChanged (i : Fin 64) (s : State) : State :=
  let (cls, inst, sub) := trigClass i.val
  let n : Fin 8 := Fin.ofNat 8 inst
  if !s.trigUnit cls inst then s
  else match cls with
  | 1 => (s.modPort n fun p => { p with vid.lanes := Vector.ofFn fun k : Fin 4 =>
      if k.val = sub then { p.vid.lanes[k] with changed := true } else p.vid.lanes[k] }).setCalNeeded n
  | 2 => (s.shadeChanged n).setCalNeeded n
  | 3 => s.alignChanged n
  | 4 => s.madcChanged (Fin.ofNat 2 inst)
  | 5 => s.driveChanged (Fin.ofNat 12 inst)
  | 6 => s.each s.fittedPorts fun n s => s.modPort n fun p => { p with timePending := true }
  | _ => s.planChanged

/-! ### Choosing the record in force at start-up (R226) -/

def SlotState.isBad {α : Type} : SlotState α → Bool
  | .invalid => true
  | _ => false

def SlotState.genOf (x : SlotState TrigRecord) : Nat := ((x.get?).map fun r => r.head.gen).getD 0

/-- The valid slot of the higher generation is in force. -/
def TrigCell.chosen (c : TrigCell) : Option Bool :=
  match c.a.get?, c.b.get? with
  | some x, some y => some (decide (x.head.gen < y.head.gen))
  | some _, none => some false
  | none, some _ => some true
  | none, none => none

/-- Start-up of one index: its slots are tested; an invalid one is reported and sets REVERTED. -/
def State.startCell (i : Fin 64) (s : State) : State :=
  let c := { s.trig.cells[i] with a := s.trig.cells[i].a.tested i.val, b := s.trig.cells[i].b.tested i.val }
  let bad := c.a.isBad || c.b.isBad
  let s := s.modCell i fun _ => { c with force := c.chosen, rev := bad, cand := none, top := max c.a.genOf c.b.genOf }
  let report (slot : Nat) (s : State) : State :=
    (s.setEvt .trig 4).deviceEvent .trig 0x0202 0x0522 (word (i.val + 256 * slot)) 0 0 []
  ((s.when c.a.isBad (report 0)).when c.b.isBad (report 1)).recordChanged i

/-! ### Stores (R209, R211, R225) -/

/-- The slot that does not hold the generation in force. -/
def TrigCell.target (c : TrigCell) : Bool :=
  match c.force with
  | some b => !b
  | none => false

def TrigCell.setSlot (c : TrigCell) (b : Bool) (x : SlotState TrigRecord) : TrigCell :=
  if b then { c with b := x } else { c with a := x }

/-- The body that a commit writes: of a DRIVE candidate only the named phases. -/
def commitBody (phases : Nat) (old : Option TrigRecord) (b : TrigBody) : TrigBody :=
  match b with
  | .drive x y =>
    let z : DrivePhase × DrivePhase := match old with
      | some ⟨_, .drive u v⟩ => (u, v)
      | _ => (⟨0, 0⟩, ⟨0, 0⟩);
    .drive (if phases.testBit 0 then x else z.1) (if phases.testBit 1 then y else z.2)
  | b => b

/-- The record that a store writes: from the candidate, or from the other slot for a revert. -/
def State.storeRecord (s : State) (j : StoreJob) (i : Fin 64) : Option TrigRecord :=
  let c := s.trig.cells[i]
  if j.revert then
    c.other.map fun r => { r with head := { r.head with gen := c.top + 1, sourceGen := r.head.gen, flags := 4 } }
  else
    c.cand.map fun d =>
      { head := { gen := c.top + 1, count := ((c.current.map fun r => r.head.count).getD 0) + 1, calTime := d.calTime
                  wallTime := d.wallTime, resid := d.resid, sourceGen := 0, flags := 0, colours := d.colours, width := d.width
                  signature := none }
        body := commitBody (if d.phases = 0 then 3 else d.phases &&& j.phases) c.current d.body }

/-- The store of a record that the device writes by itself, as the index stands now: slot, generation, count. -/
def State.deviceItem (s : State) (i : Fin 64) (r : TrigRecord) : NvmItem :=
  let c := s.trig.cells[i]
  let h := { r.head with gen := c.top + 1, count := ((c.current.map fun r => r.head.count).getD 0) + 1, flags := 8 }
  .trig i c.target (s.seal i.val { r with head := h })

/-- A record that the device writes by itself (R220; 13 R324). -/
def State.deviceRecord (i : Fin 64) (resid : Int) (body : TrigBody) (s : State) : State :=
  let r : TrigRecord :=
    { head := { gen := 0, count := 0, calTime := s.ns, wallTime := s.wall, resid, sourceGen := 0, flags := 8
                colours := [0xFF, 0xFF, 0xFF, 0xFF], width := 0, signature := none }
      body }
  State.when (s.secureBlock .trig) State.signedOne
    { s with trig.stores := s.trig.stores ++ [{ item := s.deviceItem i r, job := none, step := 2 }] }

/-- A device-written record whose turn comes takes its slot, generation and count then: an earlier store of the same index may
have changed them. -/
def State.renewHead (s : State) : State :=
  match s.trig.stores with
  | { item := .trig i _ r, job := none, step := 2, taken := _ } :: rest =>
    { s with trig.stores := { item := s.deviceItem i r, job := none, step := 2 } :: rest }
  | _ => s

/-! ### The boot record (13 R312, R317; 14 R335) -/

/-- `TWIN_SIDE`: true for side B. -/
def State.sideB (s : State) : Bool := s.sys.straps.getLsbD 0

/-- The side of the device that accepts a command: a mirrored one is the lead's, on the other side of the Rope. -/
def State.acceptSide (s : State) : Bool := if s.second then !s.sideB else s.sideB

/-- The next epoch or batch number: one more, or on a device whose Rope bit is set the least greater number of a side. -/
def State.nextNumber (s : State) (side : Bool) (last : Nat) : Nat :=
  if s.sys.fit.rope && (last + 1) % 2 ≠ b2n side then last + 2 else last + 1

/-- The valid boot record of the higher generation. -/
def Trig.bootRecord (u : Trig) : Option (Fin 2 × BootRecord) :=
  match u.boot[0].get?, u.boot[1].get? with
  | some x, some y => some (if x.generation < y.generation then (1, y) else (0, x))
  | some x, none => some (0, x)
  | none, some y => some (1, y)
  | none, none => none

/-- A new boot record joins the stores; it goes to the slot that is not in force. -/
def State.storeBoot (epoch : BitVec 24) (lastBatch : BitVec 32) (job : Option DWord) (s : State) : State :=
  let (k, gen) : Fin 2 × Nat := match s.trig.bootRecord with
    | some (k, r) => (1 - k, r.generation + 1)
    | none => (0, 1)
  let r : BootRecord := { epoch, lastBatch, generation := gen }
  { s with trig.stores := s.trig.stores ++ [{ item := .boot k r, job, step := 2 }] }

/-- A calibration that waited for the seal is still to end (09 Table 9.6). -/
def State.openHeld (s : State) : Bool := s.trig.runs.any (fun r => r.waited) || s.trig.jobs.any fun j => j.waited

/-- A BATCH_OPEN that may go on stores the boot record with its batch number. -/
def State.openNext (s : State) : State :=
  match s.sys.batchWait with
  | none => s
  | some q =>
    if s.sys.batchState ≠ .none || s.openHeld || s.trig.stores.any (fun x => x.job = some q) then s
    else s.storeBoot s.ldg.epoch (BitVec.ofNat 32 (s.nextNumber s.acceptSide s.sys.bootLast.toNat)) (some q)

/-- Bit of the result word that a stored index stands for (R209). -/
def subBit (i phases : Nat) : Nat :=
  let c := trigClass i
  if c.1 = 1 then 2 ^ c.2.2 else if c.1 = 5 then phases else 1

/-- A job has stored all it names, or has failed: it replies, and a converter core that its calibration held is free (R218). -/
def State.jobEnd (j : StoreJob) (status : BitVec 16) (detail : BitVec 32) (i : Nat) (s : State) : State :=
  let free (c : MadcCore) : MadcCore := if c.held = some j.seq then { c with held := none } else c
  let s := { s with trig.jobs := s.trig.jobs.filter (fun x => x.seq ≠ j.seq), madc.cores := s.madc.cores.map free }
  let s := match j.gap with
    | some n => (s.setEvt .trig 5).event (.port n) status detail (seq := j.seq)
    | none => s
  State.openNext (match j.cal with
  | some (op, resid) => (s.calLast op i status detail resid).finish j.seq status detail (if status = 0 then satInt32 resid else word j.written)
  | none => s.finish j.seq status detail (word j.written))

/-- The job that stores next: the next index of the oldest commit or revert. An index whose source is gone is passed; a job
that has none left ends, refused as one with nothing pending where it has written nothing (log entry 127). -/
def State.nextStore : Nat → State → State
  | 0, s => s
  | k + 1, s =>
    if !s.trig.stores.isEmpty then s
    else
      match s.trig.jobs with
      | [] => s
      | j :: rest =>
        let ends (i : Nat) : State := if j.written = 0 then s.jobEnd j 0x0103 0x51B i else s.jobEnd j 0 0 i
        match j.left with
        | [] => State.nextStore k (ends 0)
        | i :: more =>
          match s.storeRecord j i with
          | some r =>
            State.when (s.secureBlock .trig) State.signedOne
              { s with trig.stores := [{ item := .trig i s.trig.cells[i].target (s.seal i.val r), job := some j.seq, step := 2
                                         taken := s.trig.cells[i].cand }] }
          | none =>
            State.nextStore k (if more.isEmpty then ends i.val else { s with trig.jobs := { j with left := more } :: rest })

def State.startStores (s : State) : State := s.nextStore 64

/-- What a commit leaves of a candidate: phases of a DRIVE candidate that it did not name. -/
def leftover (phases : Nat) (d : Candidate) : Option Candidate :=
  match d.body with
  | .drive _ _ => let left := d.phases &&& (3 - phases % 4); if left = 0 then none else some { d with phases := left }
  | _ => none

/-- A firmware slot of a target. -/
def State.modSlot (secure : Bool) (k : Fin 2) (f : FwSlot → FwSlot) (s : State) : State :=
  if secure then { s with sec.sec := s.sec.sec.set k (f s.sec.sec[k]) } else { s with sec.ctl := s.sec.ctl.set k (f s.sec.ctl[k]) }

/-- The store in progress has ended well: the record is in force. -/
def State.storeDone (x : NvmStore) (s : State) : State :=
  match x.item with
  | .boot k r => { s with trig.boot := s.trig.boot.set k (.valid r) }
  | .image t k i =>
    let s := s.modSlot t k fun _ => i
    s.each x.job.toList fun q s => s.finishOk q i.version
  | .trig i b r =>
    let s := s.modCell i fun c =>
      { c.setSlot b (.valid r) with force := some b, rev := false, top := max c.top r.head.gen }
    let s := s.recordChanged i
    match x.job with
    | none => s.when (i = timeIndex) fun s => s.calLast 0 timeIndex.val 0 0 r.head.resid
    | some q =>
      match s.trig.jobs.find? fun j => j.seq = q with
      | none => s
      | some j =>
        let s := s.when (!j.revert) fun s => s.modCell i fun c =>
          if c.cand = x.taken then { c with cand := c.cand.bind (leftover j.phases) } else c
        let j' := { j with written := j.written ||| subBit i.val j.phases, left := j.left.tail }
        if j'.left.isEmpty then s.jobEnd j' 0 0 i.val
        else { s with trig.jobs := s.trig.jobs.map fun x => if x.seq = q then j' else x }

/-- The store in progress has failed (R225). After a failed program step the slot's first 8 bytes still read all ones, which is
empty; after a failed erase or check it is neither empty nor valid (log entry 128). -/
def State.storeFailed (x : NvmStore) (detail : BitVec 32) (s : State) : State :=
  let s := { s with trig.nvmErr := satInc s.trig.nvmErr }
  let s := (s.setEvt .trig 3).fire .trig 1
  match x.item with
  | .boot k _ => { s with trig.boot := s.trig.boot.set k .invalid }
  | .image _ _ _ => s.each x.job.toList fun q s => s.finish q 0x0202 0xA14 0
  | .trig i b _ =>
    let s := s.modCell i fun c => c.setSlot b (if x.step = 3 then .empty else .invalid)
    match x.job with
    | none => s.when (i = timeIndex) fun s => s.calLast 0 timeIndex.val 0x0202 detail 0
    | some q =>
      match s.trig.jobs.find? fun j => j.seq = q with
      | none => s
      | some j => s.jobEnd j 0x0202 detail i.val

/-- What the flash slot holds while a store is in progress: of a Trig record, empty until `check` is programmed (R226). -/
def State.storeSlot (x : NvmStore) (empty : Bool) (s : State) : State :=
  match x.item with
  | .boot k _ => { s with trig.boot := s.trig.boot.set k (if empty then .empty else .invalid) }
  | .image t k _ => s.modSlot t k fun _ => FwSlot.delivered false
  | .trig i b _ => s.modCell i fun c => c.setSlot b .empty

/-- The three outcomes of a step of Table 9.10: on, done, or failed with a detail. -/
inductive StoreStep where
  | on (empty : Bool)
  | done
  | failed (detail : BitVec 32)
  deriving DecidableEq, Repr

/-- The store in progress takes a step; the caller is told of a store that ends. -/
def State.storeStep (at_ : Nat) (o : StoreStep) (s : State) : State × Option (NvmStore × Bool) :=
  match s.trig.stores with
  | [] => (s, none)
  | x :: rest =>
    if x.step ≠ at_ then (s, none)
    else
      match o with
      | .on empty => ({ s with trig.stores := { x with step := at_ + 1 } :: rest }.storeSlot x empty, none)
      | .done => (({ s with trig.stores := rest }.storeDone x).renewHead, some (x, true))
      | .failed d => (({ s with trig.stores := rest }.storeFailed x d).renewHead, some (x, false))

end Sys2Proof.Machine
end

