-- ==== Sys2Proof/Machine/TrigCal.lean ====
section
/-! DEFINITION. Calibrations (09 R212 to R222): preconditions, phases, computation, candidates. -/

namespace Sys2Proof.Machine

/-! ### Means -/

/-- Sum of a row. -/
def sumNat (l : List Nat) : Nat := l.foldl (· + ·) 0

/-- Mean of one slot over width and lines. -/
def slotMean (sums : List (List Nat)) (c width lines : Nat) : Rat :=
  if width = 0 || lines = 0 then 0 else mkRat (sumNat (sums.getD c [])) (width * lines)

/-- Mean of a list of integers; 0 of none. -/
def intMean (l : List Int) : Rat := if l.isEmpty then 0 else mkRat (sumInt l) l.length

/-- Variance about the mean. -/
def variance (l : List Int) : Rat :=
  let m := intMean l
  if l.isEmpty then 0 else (l.foldl (fun (a : Rat) (x : Int) => a + ((x : Rat) - m) * ((x : Rat) - m)) 0) / l.length

/-! ### Video codes (R215) -/

/-- 2^128 times the 511th root of 8, truncated: one step of the PGA. The computation of R215 is carried out to 2^-118
(log entry 19). -/
def pgaStep : Nat := 341669918736331232538593036692328532872

/-- 8^(g/511), to 2^-118; exact at both ends. -/
def pgaPower (g : Nat) : Rat :=
  if g = 511 then 8 else mkRat ((List.range g).foldl (fun x _ => x * pgaStep / 2 ^ 128) (2 ^ 128)) (2 ^ 128)

/-- The code g nearest to 511 log8 of a ratio, given its square: the first g whose upper half-step exceeds it; 512 where
even 511 does not. `p` is 8^((2g+1)/511) in 128 bits. -/
def nearestCode (sq : Rat) : Nat → Nat → Nat → Nat
  | 0, g, _ => g
  | fuel + 1, g, p =>
    if sq < mkRat p (2 ^ 128) then g else nearestCode sq fuel (g + 1) (p * pgaStep / 2 ^ 128 * pgaStep / 2 ^ 128)

/-- PGA code for a gain: none outside 0 to 511. -/
def gainCode (gain : Rat) : Option Nat :=
  let r := gain * 4 / 3
  if gain ≤ 0 || r * r * mkRat pgaStep (2 ^ 128) < 1 then none
  else
    let g := nearestCode (r * r) 512 0 pgaStep
    if g ≤ 511 then some g else none

/-- Codes of a slot from its means (R215): dark taken at `(gd, fd)`, lit at `(gw, fw)`. -/
def videoCodes (kd kw : Rat) (d w : Nat × Int) (dark white refl : Nat) : Option (Nat × Int) :=
  let gain0 (x : Nat × Int) : Rat := mkRat 3 4 * pgaPower x.1
  let vin (k : Rat) (x : Nat × Int) : Rat := (k * mkRat 2 65535 - mkRat x.2 2048) / gain0 x
  let vd := vin kd d
  let vw := vin kw w
  let tw : Rat := (dark : Rat) + mkRat refl 10000 * ((white : Rat) - dark)
  if vw = vd then none
  else
    match gainCode ((tw - dark) * mkRat 2 65535 / (vw - vd)) with
    | none => none
    | some g =>
      let f := ratNearest (((dark : Rat) * mkRat 2 65535 - mkRat 3 4 * pgaPower g * vd) * 2048)
      if f < -512 || 511 < f then none else some (g, f)

/-- Target code on the white target. -/
def whiteCode (dark white refl : Nat) : Rat := (dark : Rat) + mkRat refl 10000 * ((white : Rat) - dark)

def absRat (x : Rat) : Rat := if x < 0 then -x else x

/-! ### Runs -/

def State.modRun (seq : DWord) (f : CalRun → CalRun) (s : State) : State :=
  { s with trig.runs := s.trig.runs.map fun r => if r.seq = seq then f r else r }

def CalRun.port (r : CalRun) : Fin 8 := Fin.ofNat 8 r.num

/-- Slots that a port calibration measures: the mask, or every used slot. -/
def CalRun.slots (r : CalRun) (c : PortCfg) : List Nat :=
  let m := u8 r.params 1
  c.slots.filter fun k => m = 0 || m.testBit k

def CalRun.lines (r : CalRun) : Nat := 2 ^ u8 r.params 8

/-- Lowest record index of a run, for TRIG_LAST. -/
def CalRun.index (r : CalRun) (c : PortCfg) : Nat :=
  match r.op with
  | 1 => r.num * 4 + (r.slots c).headD 0
  | 2 => 32 + r.num
  | 3 => 40 + r.num
  | 4 | 5 => 48 + r.num
  | _ => 50 + r.num

/-- Grid lines passed meanwhile are not triggered: the grid goes on at the first line beyond the position. -/
def State.skipPassed (n : Fin 8) (s : State) : State :=
  let x := s.count n * 2 ^ 32
  s.modPort n fun p =>
    { p with grid.sched := [], grid.next := if p.grid.pitch = 0 then p.grid.next
        else max p.grid.next ((x - p.grid.x0) / p.grid.pitch + 1).toNat }

/-- Return of a port from CAL to IDLE or SCAN, with its readiness and the codes it converted under (step 6). -/
def State.leaveCal (r : CalRun) (s : State) : State :=
  let n := r.port
  let s := s.modPort n fun p =>
    { p with darkPhase := false
             vid.lanes := Vector.ofFn fun k : Fin 4 => match r.saved[k.val]? with
               | some (g, f) => { p.vid.lanes[k] with pga := g, offset := f }
               | none => p.vid.lanes[k] }
  if s.ports[n].st = .cal then
    let s := s.modPort n fun p => { p with st := if r.wasScan then .scan else .idle, waits.ready := true }
    ((s.when r.wasScan fun s => s.skipPassed n).laneIdle n).disarmEffect n
  else s.modPort n fun p => { p with waits.ready := true }

/-- A run's measurement is over: a port returns to its former state, a converter core is still held. -/
def State.leaveRun (r : CalRun) (s : State) : State :=
  let s := { s with trig.runs := s.trig.runs.filter fun x => x.seq ≠ r.seq }
  if r.op ≤ 3 then
    let s := s.leaveCal r
    { s with madc.urgent := s.madc.urgent.filter fun u => decide (u.who ≠ Requester.lamp r.port) }
  else s

/-- A run ends: its unit returns to its former state. -/
def State.dropRun (r : CalRun) (s : State) : State :=
  (s.leaveRun r).when (r.op = 4 || r.op = 5) fun s => s.modCore (Fin.ofNat 2 r.num) fun c => { c with held := none }

/-- A run ends without a store: with the residual on success, or with what R213 reports of rejected coefficients. -/
def State.calEnd (r : CalRun) (status : BitVec 16) (detail : BitVec 32) (resid : Int) (s : State) : State :=
  let idx := r.index s.ports[r.port].cfg
  let s := (s.dropRun r).calLast r.op idx status detail resid
  (s.finish r.seq status detail (if status = 0 || status = 0x0200 then satInt32 resid else 0)).openNext

/-- A run is abandoned with nothing kept (R214, Table 9.6): it ends, and TRIG_LAST names it as any calibration that ended. -/
def State.calAbandon (r : CalRun) (status : BitVec 16) (detail : BitVec 32) (s : State) (fault : BitVec 32 := 0) : State :=
  let idx := r.index s.ports[r.port].cfg
  (((s.dropRun r).calLast r.op idx status detail 0).finish r.seq status detail 0 (fault := fault)).openNext

/-- A SHADE candidate with a used slot that has no D or no G is not complete (R216). -/
def Candidate.complete (d : Candidate) : Bool :=
  match d.body with
  | .shade b => (List.range 4).all fun k => d.colours.getD k 0xFF == 0xFF
      || (!(b.dark.getD k []).isEmpty && !(b.gain.getD k []).isEmpty)
  | _ => true

/-- The indices of which the candidate is not complete. -/
def State.incomplete (s : State) (idx : List (Fin 64)) : Bool :=
  idx.any fun i => match s.trig.cells[i].cand with
    | some d => !d.complete
    | none => false

/-- Candidates formed: committed at once where the command asks for it (R208). A converter core stays held until the reply
(R218); a candidate that is not complete is refused as CAL_COMMIT refuses it, and stays (log entry 129). -/
def State.calFormed (r : CalRun) (idx : List (Fin 64)) (phases : Nat) (resid : Int) (s : State) : State :=
  let flags := if r.op ≤ 3 then u8 r.params 2 else if r.op = 9 then u8 r.params 2 else u8 r.params 1
  if flags.testBit 0 then
    if s.incomplete idx then s.calEnd r 0x0103 0x51B 0
    else
    let s := s.leaveRun r
    let job : StoreJob := { seq := r.seq, revert := false, written := 0, left := idx, phases, cal := some (r.op, resid)
                            gap := none, waited := r.waited }
    State.startStores { s with trig.jobs := s.trig.jobs ++ [job] }
  else s.calEnd r 0 0 resid

/-! ### Preconditions of a port calibration (R212) -/

/-- Detail 0x501: a side, a slot, a DOC_BEGIN or a document in the path; while the transport link is lost every port counts as
occupied (16 R382). -/
def State.docInWay (s : State) (n : Fin 8) : Bool :=
  let p := s.ports[n]
  !p.sides.isEmpty || !p.waits.slots.isEmpty || p.waits.docBegin.isSome || s.tl.path.getLsbD n.val || s.tl.lost

/-- Detail 0x502: a lamp sample outside the window of a calibration's parameters in a lit or dark phase. -/
def lampsBad (params : List Byte) (dark : Bool) (codes : List Nat) : Bool :=
  let lo := u16 params 10
  let hi := u16 params 12
  if dark then codes.any fun c => lo < 16 * c else codes.any fun c => c < lo || hi < c

def CalRun.lampBad (r : CalRun) (dark : Bool) (codes : List Nat) : Bool := lampsBad r.params dark codes

/-- A phase of a port calibration begins: lamps, lanes, the lamp check. -/
def State.beginPhase (r : CalRun) (s : State) : State :=
  let n := r.port
  match r.phases with
  | [] => s
  | ph :: _ =>
    let s := s.modRun r.seq fun r => { r with stage := .phase, start := s.ticks }
    let s := s.modPort n fun p =>
      { p with darkPhase := decide (ph = 0)
               vid.lanes := Vector.ofFn fun k : Fin 4 => match r.codes[k.val]? with
                 | some (g, f) => { p.vid.lanes[k] with pga := g, offset := f }
                 | none => p.vid.lanes[k] }
    s.askUrgent { who := .lamp n, input := 24 + n.val, raw := false, due := s.ticks + 1500000 * u16 r.params 14, seq := none }

/-- Step 1: the port enters CAL once it may: lanes ready, no line in progress. -/
def State.enterCal (r : CalRun) (s : State) : State :=
  let n := r.port
  let p := s.ports[n]
  if !p.cfg.digital && !p.vid.ready then
    (if p.laneFailed then s.calEnd r 0x0103 0x0518 0 else s.modRun r.seq fun r => { r with stage := .vidReady })
  else if p.line.isSome then
    (s.modRun r.seq fun r => { r with stage := .boundary }).modPort n fun p => { p with waits.ready := false }
  else
    let wasScan := p.st = .scan
    let saved := if r.op = 1 then (List.finRange 4).map fun k => (p.vid.lanes[k].pga, p.vid.lanes[k].offset) else []
    let r := { r with wasScan, saved }
    let s := s.modRun r.seq fun _ => r
    let s := s.modPort n fun p => { p with st := .cal, waits.ready := false, waiting := [], grid.sched := [] }
    if s.docInWay n then s.calEnd r 0x0201 0x0501 0 else s.beginPhase r

/-- A deadline has passed before step 6 (R214): the run is abandoned at the end of the line in progress. -/
def State.calStop (r : CalRun) (s : State) : State :=
  if r.stage ≠ .deferred && s.ports[r.port].line.isSome then s.modRun r.seq fun r => { r with expired := true }
  else s.calAbandon r 0x0104 0x51F

/-- A document has come into the path of a port that measures: the calibration ends (R212). -/
def State.pathChanged (s : State) : State :=
  s.each (List.finRange 8) fun n s =>
    match s.portRun n with
    | some r => s.when (decide (r.stage = .phase) && s.docInWay n) fun s => s.calEnd r 0x0201 0x0501 0
    | none => s

/-- A line of the port has ended: a run whose deadline has passed is abandoned, one that waited for a boundary or for the lanes
goes on. -/
def State.calResume (n : Fin 8) (s : State) : State :=
  match s.portRun n with
  | some r =>
    if r.expired then s.when s.ports[n].line.isNone fun s => s.calAbandon r 0x0104 0x51F
    else if r.stage = .boundary || r.stage = .vidReady then s.enterCal r
    else s
  | none => s

/-! ### What the measured data give -/

/-- Detail 0x503 or 0x504, if any, over slots with their dark mean, white mean and white means per pixel. -/
def levelCheck (l : List (Rat × Option (Rat × List Rat))) : Option (BitVec 32) :=
  let bad1 := l.any fun x => decide (mkRat 65535 4 < x.1) || match x.2 with
    | some (w, _) => decide (w - x.1 < mkRat 65535 20)
    | none => false
  let bad2 := l.any fun x => match x.2 with
    | some (w, px) => decide (px.length < 100 * (px.filter fun v => decide (w < 2 * absRat (v - w))).length)
    | none => false
  if bad1 then some 0x503 else if bad2 then some 0x504 else none

def pixelMeans (sums : List (List Nat)) (c lines : Nat) : List Rat :=
  (sums.getD c []).map fun (x : Nat) => mkRat (x : Int) lines

/-- Step 4 of CAL_VIDEO: levels, codes; then the verification. -/
def State.videoCompute (r : CalRun) (s : State) : State :=
  let n := r.port
  let c := s.ports[n].cfg
  let slots := r.slots c
  let m := r.lines
  let kd (k : Nat) : Rat := slotMean r.darkSum k c.width m
  let kw (k : Nat) : Rat := slotMean r.litSum k c.width m
  match levelCheck (c.slots.map fun k => (kd k, some (kw k, pixelMeans r.litSum k m))) with
  | some d => s.calEnd r 0x0201 d 0
  | none =>
    let refl := u16 r.params 16
    let dark := u16 r.params 18
    let white := u16 r.params 20
    let old (k : Nat) : Nat × Int := r.saved.getD k (0, 0)
    let lit (k : Nat) : Nat × Int := r.codes.getD k (old k)
    let new := (List.range 4).map fun k =>
      if slots.contains k then videoCodes (kd k) (kw k) (old k) (lit k) dark white refl else some (old k)
    if new.any Option.isNone then s.calEnd r 0x0200 0x0510 0x7FFFFFFF
    else
      let r := { r with codes := new.map fun x => x.getD (0, 0), phases := [3] }
      (s.modRun r.seq fun _ => r).beginPhase r

/-- Step 5: the residual of the new codes. -/
def State.videoVerify (r : CalRun) (sums dark : List (List Nat)) (s : State) : State :=
  let n := r.port
  let c := s.ports[n].cfg
  let slots := r.slots c
  let m := r.lines
  let refl := u16 r.params 16
  let kd := u16 r.params 18
  let kw := u16 r.params 20
  let res (k : Nat) : Int :=
    ratNearest (16 * max (absRat (slotMean sums k c.width m - whiteCode kd kw refl)) (absRat (slotMean dark k c.width m - kd)))
  let worst : Int := slots.foldl (fun x k => max x (res k)) 0
  if 4096 < worst then s.calEnd r 0x0200 0x0510 worst
  else
    let s := s.each slots fun k s =>
      let code := r.codes.getD k (0, 0)
      s.modCell (videoIndex n (Fin.ofNat 4 k)) fun cell =>
        { cell with cand := some { body := .video { pga := code.1, offset := code.2, dark := kd, white := kw, refl }
                                   resid := res k, phases := 0, calTime := s.ns, wallTime := s.wall, colours := c.colours
                                   width := 0 } }
    s.calFormed r (slots.map fun k => videoIndex n (Fin.ofNat 4 k)) 0 worst

/-- The arrays that a SHADE candidate builds on: the candidate's, else the record's in force that matches (R216). -/
def State.shadeBase (s : State) (n : Fin 8) : ShadeBody × Nat :=
  let c := s.ports[n].cfg
  match s.trig.cells[shadeIndex n].cand with
  | some ⟨.shade b, _, ph, _, _, _, _⟩ => (b, ph)
  | _ => match s.shadeOf n with
    | some (h, b) => if h.colours = c.colours && h.width = c.width then (b, 0) else (⟨[], [], [], []⟩, 0)
    | none => (⟨[], [], [], []⟩, 0)

/-- Replace the rows of the calibrated slots. -/
def mergeRows (n : Nat) (slots : List Nat) (old : List (List Nat)) (new : Nat → List Nat) : List (List Nat) :=
  (List.range n).map fun c => if slots.contains c then new c else old.getD c []

/-- A gain of R216: none where it is bad. -/
def shadeGain (target : Rat) (w : Rat) (d : Nat) : Option Nat :=
  if w ≤ d then none
  else
    let g := ratNearest (16384 * target / (w - d))
    if g ≤ 0xFFFF then some g.toNat else none

/-- Step 4 of CAL_SHADING: levels, arrays, limits, residual. -/
def State.shadeCompute (r : CalRun) (s : State) : State :=
  let n := r.port
  let c := s.ports[n].cfg
  let slots := r.slots c
  let m := r.lines
  let ph := u8 r.params 16
  let target : Rat := (u16 r.params 20 : Rat) * mkRat (u16 r.params 18) 10000
  let (base, held) := s.shadeBase n
  let round (x : Nat) : Nat := (2 * x + m) / (2 * m)
  let dark := if ph.testBit 0 then mergeRows c.colourCount slots base.dark fun k => (r.darkSum.getD k []).map round else base.dark
  let d (k p : Nat) : Nat := storeAt dark k p 0
  let dMean (k : Nat) : Rat := if c.width = 0 then 0 else mkRat (sumNat ((List.range c.width).map (d k))) c.width
  let level := c.slots.map fun k =>
    (if ph.testBit 0 then slotMean r.darkSum k c.width m else dMean k
      , if ph.testBit 1 then some (slotMean r.litSum k c.width m, pixelMeans r.litSum k m) else none)
  match levelCheck level with
  | some e => s.calEnd r 0x0201 e 0
  | none =>
    let w (k p : Nat) : Rat := mkRat (storeAt r.litSum k p 0) m
    let openGain (k p : Nat) : Nat := (Config.free16 (s.free + 65536 * k + p)).toNat
    let gain := if ph.testBit 1 then
      mergeRows c.colourCount slots base.gain fun k => (List.range c.width).map fun p =>
        (shadeGain target (w k p) (d k p)).getD (openGain k p)
      else base.gain
    let bref := if ph.testBit 2 then mergeRows c.colourCount slots base.bref fun k => (r.backSum.getD k []).map round else base.bref
    let badPixel (k p : Nat) : Bool :=
      (ph.testBit 0 && 32767 < d k p)
        || (ph.testBit 1 && match shadeGain target (w k p) (d k p) with
          | some g => g < 0x1000
          | none => true)
        || (ph.testBit 2 && storeAt bref k p 0 ≤ d k p)
    let tooBad := slots.any fun k => u16 r.params 22 < ((List.range c.width).filter (badPixel k)).length
    -- RMS of ((W - D) G / 16384 - T) / T over the width, in 0.001 %; the greatest slot counts (log entry 36)
    let rms (k : Nat) : Int :=
      let sq := (List.range c.width).foldl (fun (a : Rat) p =>
        let e := (w k p - d k p) * mkRat (storeAt gain k p 0) 16384 - target
        a + e * e) 0
      if target = 0 || c.width = 0 then 0 else ratNearest (ratSqrt (sq / c.width) / target * 100000)
    let resid : Int := if ph.testBit 1 then slots.foldl (fun x k => max x (rms k)) 0 else 0
    let s := { s with free := s.free + 262144 }
    if tooBad || 2000 < resid then s.calEnd r 0x0200 0x0511 (if ph.testBit 1 then resid else 0x7FFFFFFF)
    else
      let oldResid : Int := ((s.trig.cells[shadeIndex n].cand).map fun x => x.resid).getD 0
      let resid' := if ph.testBit 1 then resid else oldResid
      let s := s.modCell (shadeIndex n) fun cell =>
        { cell with cand := some { body := .shade { blockBytes := (r.params.drop 32).take 32, dark, gain, bref }, resid := resid'
                                   phases := held ||| ph, calTime := s.ns, wallTime := s.wall, colours := c.colours
                                   width := c.width } }
      s.calFormed r [shadeIndex n] 0 resid

/-- The edges of a slot (R217), from its band means capture by capture: the fractional indices at which it crosses half-way
between the target's light and dark levels, the greatest and the least mean, within `search_lines` captures (log entry 131). -/
def bandEdges (search : Nat) (means : List Rat) : List Rat :=
  let l := means.take search
  let first := l.headD 0
  let mid := (l.foldl max first + l.foldl min first) / 2
  ((l.zip (l.drop 1)).zipIdx).filterMap fun ((a, b), (i : Nat)) =>
    if (a < mid && mid ≤ b) || (mid < a && b ≤ mid) then some ((i : Rat) + (mid - a) / (b - a)) else none

/-- Step 4 of CAL_ALIGN (R217). -/
def State.alignCompute (r : CalRun) (bands : List (List Rat)) (s : State) : State :=
  let edges := bands.map (bandEdges (u16 r.params 18))
  let n := r.port
  let c := s.ports[n].cfg
  let slots := r.slots c
  let want := u8 r.params 17
  let ref := u8 r.params 16
  if c.slots.any fun k => (edges.getD k []).length < want then s.calEnd r 0x0201 0x0509 0
  else
    let e (k i : Nat) : Rat := (edges.getD k []).getD i 0
    let ofs (k : Nat) : Rat := ((List.range want).foldl (fun (a : Rat) i => a + (e k i - e ref i)) 0) / (max want 1 : Nat)
    let low := slots.foldl (fun x k => min x (ofs k)) (ofs (slots.headD 0))
    let rel (k : Nat) : Rat := ofs k - low
    let shutter (k : Nat) : Bool := c.pgShut.any fun x => x = k + 1
    let fit (k : Nat) : Int × Nat :=
      if shutter k then
        let f := (rel k).floor
        let ph := ratNearest ((rel k - f) * 256)
        if ph = 256 then (f + 1, 0) else (f, ph.toNat)
      else (ratNearest (rel k), 0)
    let resid := slots.foldl (fun (x : Int) k =>
      max x (ratNearest (256 * absRat (rel k - (fit k).1 - mkRat (fit k).2 256)))) 0
    let even := slots.all fun k => (List.range want).all fun i => decide (absRat (e k i - e ref i - ofs k) ≤ mkRat 16 256)
    if !even || slots.any fun k => (fit k).1 < 0 || 255 < (fit k).1 then s.calEnd r 0x0200 0x0512 resid
    else
      let old := (s.alignMatches n).map Prod.snd
      let keep (l : Option (List Nat)) (k : Nat) (x : Nat) : Nat := if slots.contains k then x else (l.getD []).getD k 0
      let body : AlignBody :=
        { delays := (List.range 4).map fun k => keep (old.map fun b => b.delays) k (fit k).1.toNat
          phases := (List.range 4).map fun k => keep (old.map fun b => b.phases) k (fit k).2, refSlot := ref }
      let s := s.modCell (alignIndex n) fun cell =>
        { cell with cand := some { body := .align body, resid, phases := 0, calTime := s.ns, wallTime := s.wall
                                   colours := c.colours, width := 0 } }
      s.calFormed r [alignIndex n] 0 resid

/-- CAL_PHASE_DONE of a port: the phase has its lines (Table 9.5). -/
def State.portPhase (n : Fin 8) (sums dark : List (List Nat)) (ovr : Bool) (lamps : List Nat) (bands : List (List Rat))
    (s : State) : State :=
  match s.portRun n with
  | none => s
  | some r =>
    let period := if u8 r.params 3 = 1 then u32 r.params 4 else 0
    match r.phases with
    | [] => s
    | ph :: more =>
      if r.stage ≠ .phase || r.expired || s.secPaused || s.ticks < r.start + 1500000 * u16 r.params 14 + r.lines * period then s
      else if s.docInWay n then s.calEnd r 0x0201 0x0501 0
      else if r.lampBad (ph = 0) lamps then s.calEnd r 0x0201 0x0502 0
      else
        match ph with
        | 0 =>
          let r := { r with darkSum := sums, phases := more }
          let s := s.modRun r.seq fun _ => r
          if more.isEmpty then s.shadeCompute r else s.beginPhase r
        | 1 =>
          if r.op = 1 then
            if ovr && !r.repeated then
              let r := { r with repeated := true, codes := r.saved.map fun x => (0, x.2) }
              (s.modRun r.seq fun _ => r).beginPhase r
            else
              let r := { r with litSum := sums }
              (s.modRun r.seq fun _ => r).videoCompute r
          else
            let r := { r with litSum := sums, phases := more }
            let s := s.modRun r.seq fun _ => r
            if more.isEmpty then s.shadeCompute r else s.beginPhase r
        | 2 =>
          let r := { r with backSum := sums, phases := more }
          (s.modRun r.seq fun _ => r).shadeCompute r
        | 3 => s.videoVerify r sums dark
        | _ => s.alignCompute r bands

/-! ### Converter cores (R218) -/

/-- Ideal count of a voltage in uV at CAL_ZERO or CAL_REF, in 1/16 code. -/
def idealCount (uv : Nat) : Rat := 16 * madcScale 56 uv

/-- Zero, span and residual of CAL_MADC_ZERO or CAL_MADC_FULL. -/
def State.madcPhase (k : Fin 2) (samples again : List Int) (half : Int) (s : State) : State :=
  match s.trig.runs.find? fun r => (r.op = 4 || r.op = 5) && r.num = k.val with
  | none => s
  | some r =>
    let count := 2 ^ u8 r.params 8
    let samples := samples.take count
    if samples.length < count || s.secPaused || s.ticks < r.start + 15000 + 750 * count then s
    else
      let c := s.madc.cores[k]
      let mean := intMean samples
      let e := idealCount (u32 r.params 4)
      let span : Rat := mkRat c.s (2 ^ 30)
      if !s.madc.refSettled then s.calEnd r 0x0201 0x0507 0
      else if e * mkRat 2 100 < absRat ((mean - c.z) * span - e) then s.calEnd r 0x0201 0x0505 0
      else if (2304 : Rat) < variance samples then s.calEnd r 0x0201 0x0506 0
      else
        let old : MadcBody := match s.trig.cells[madcIndex k].cand with
          | some ⟨.madc b, _, _, _, _, _, _⟩ => b
          | _ => ((s.madcOf k).map Prod.snd).getD { z := 0, s := 2 ^ 30, r0 := 0, zeroUv := 0, refUv := 0 }
        let res : Option (MadcBody × Int) :=
          if r.op = 4 then
            let z := ratNearest (mean - e / span)
            some ({ old with z, s := c.s, r0 := ratNearest mean, zeroUv := u32 r.params 4 }, ratNearest (absRat ((mean - z) * span - e)))
          else
            let e0 := idealCount old.zeroUv
            if mean = old.r0 then none
            else
              let sp := (e - e0) / (mean - old.r0)
              if sp ≤ 0 then none
              else
                let z := ratNearest (old.r0 - e0 / sp)
                let s30 := ratNearest (sp * 2 ^ 30)
                some ({ old with z, s := s30.toNat, refUv := u32 r.params 4 }
                  , ratNearest (absRat ((intMean again - z) * mkRat s30 (2 ^ 30) - e)))
        match res with
        | none => s.calEnd r 0x0200 0x0513 0x7FFFFFFF
        | some (b, resid) =>
          let mid := (madcCode b.z b.s half).1
          let ok := b.z.natAbs ≤ 4096 && decide (mkRat 98 100 ≤ mkRat b.s (2 ^ 30)) && decide (mkRat b.s (2 ^ 30) ≤ mkRat 102 100)
            && decide ((100 * ((mid : Int) - 32768)).natAbs ≤ 32768)
          if !ok then s.calEnd r 0x0200 0x0513 resid
          else
            let s := s.modCell (madcIndex k) fun cell =>
              { cell with cand := some { body := .madc b, resid, phases := 0, calTime := s.ns, wallTime := s.wall
                                         colours := [0xFF, 0xFF, 0xFF, 0xFF], width := 0 } }
            s.calFormed r [madcIndex k] 0 resid

/-! ### Drive (R219) -/

def State.drivePhase (a : Fin 12) (conv : List Nat) (ovr : Bool) (first again : Nat) (s : State) : State :=
  match s.trig.runs.find? fun r => r.op = 9 && r.num = a.val with
  | none => s
  | some r =>
    let ints : List Int := conv.map fun (x : Nat) => (x : Int)
    let c := intMean ints
    if conv.length < 256 || s.secPaused || s.ticks < r.start + 256 * 750 + 20 * 30000 then s
    else if (9 : Rat) < variance ints then s.calEnd r 0x0201 0x0506 0
    else if ovr || c < mkRat 65535 10 then s.calEnd r 0x0201 0x0508 0
    else
      let ke := ratNearest (c * mkRat 1023 65535)
      let ofs : Int := (first : Int) - ke
      let resid := ratNearest ((((again : Int) - ke : Int) : Rat) * 65535 / (1023 * c) * 10000)
      if 32 < ofs.natAbs then s.calEnd r 0x0200 0x0514 resid
      else
        let isB := u8 r.params 1 = 1
        let new : DrivePhase := { ua := (ratNearest ((u32 r.params 4 : Rat) * 65536 / c)).toNat, ofs }
        let base : DrivePhase × DrivePhase × Nat := match s.trig.cells[driveIndex a].cand with
          | some ⟨.drive x y, _, ph, _, _, _, _⟩ => (x, y, ph)
          | _ => match s.driveOf a with
            | some (_, x, y) => (x, y, 0)
            | none => (⟨0, 0⟩, ⟨0, 0⟩, 0)
        let ph := 1 <<< b2n isB
        let s := s.modCell (driveIndex a) fun cell =>
          { cell with cand := some { body := .drive (if isB then base.1 else new) (if isB then new else base.2.1), resid
                                     phases := base.2.2 ||| ph, calTime := s.ns, wallTime := s.wall
                                     colours := [0xFF, 0xFF, 0xFF, 0xFF], width := 0 } }
        s.calFormed r [driveIndex a] ph resid

/-- CAL_PHASE_DONE: a measurement of a calibration is complete. -/
def State.calPhase (m : CalMeasure) (s : State) : State :=
  match m with
  | .port n sums dark ovr lamps bands => s.portPhase n sums dark ovr lamps bands
  | .madc k samples again half => s.madcPhase k samples again half
  | .drive a conv ovr first again => s.drivePhase a conv ovr first again

def execCalPhaseDone (t : Nat) (meas : CalMeasure) (s : State) : Host.Outcome State Fault Refusal :=
  .next (s.act t (State.calPhase meas))

/-! ### Gap requests (Table 9.6, R222) -/

/-- A queued gap request ends: its event record, TRIG_LAST, its DONE entry. -/
def State.gapEnd (j : GapJob) (status : BitVec 16) (detail : BitVec 32) (resid : Int) (s : State) (fault : BitVec 32 := 0) :
    State :=
  let s := { s with trig.gaps := s.trig.gaps.filter fun x => x.seq ≠ j.seq }
  let s := (s.calLast j.op (32 + j.port.val) status detail resid).setEvt .trig 5
  let s := s.event (.port j.port) status detail (fault := fault) (seq := j.seq)
  s.finish j.seq status detail (if status = 0 || status = 0x0200 then satInt32 resid else 0) (fault := fault)

/-- R222: the gap requests of a port are abandoned. -/
def State.dropGaps (n : Fin 8) (s : State) : State :=
  s.each (s.trig.gaps.filter fun j => j.port = n) fun j s => s.gapEnd j 0x0103 0x0518 0

/-- The last gap line has joined and its lamp check is over: the candidate is formed if the levels pass (R212, R216, R221;
log entry 132). -/
def State.gapForm (j : GapJob) (s : State) : State :=
  let n := j.port
  let c := s.ports[n].cfg
  let total := 2 ^ u8 j.params 8
  let m := u8 j.params 1
  let slots := c.slots.filter fun k => m = 0 || m.testBit k
  let (base, held) := s.shadeBase n
  let bref := mergeRows c.colourCount slots base.bref fun k => (j.sums.getD k []).map fun x => (2 * x + total) / (2 * total)
  let bad := slots.any fun k =>
    u16 j.params 22 < ((List.range c.width).filter fun p => storeAt bref k p 0 ≤ storeAt base.dark k p 0).length
  let level := c.slots.map fun k =>
    (if c.width = 0 then 0 else mkRat (sumNat ((List.range c.width).map fun p => storeAt base.dark k p 0)) c.width, none)
  match levelCheck level with
  | some e => s.gapEnd j 0x0201 e 0
  | none =>
  if bad then s.gapEnd j 0x0200 0x0511 0x7FFFFFFF
  else
    let s := s.modCell (shadeIndex n) fun cell =>
      { cell with cand := some { body := .shade { base with blockBytes := (j.params.drop 32).take 32, bref }
                                 resid := ((cell.cand).map fun x => x.resid).getD 0, phases := held ||| 4, calTime := s.ns
                                 wallTime := s.wall, colours := c.colours, width := c.width } }
    if (u8 j.params 2).testBit 0 && s.incomplete [shadeIndex n] then s.gapEnd j 0x0103 0x51B 0
    else if (u8 j.params 2).testBit 0 then
      let s := { s with trig.gaps := s.trig.gaps.filter fun x => x.seq ≠ j.seq }
      let job : StoreJob := { seq := j.seq, revert := false, written := 0, left := [shadeIndex n], phases := 0
                              cal := some (j.op, 0), gap := some n, waited := false }
      State.startStores { s with trig.jobs := s.trig.jobs ++ [job] }
    else s.gapEnd j 0 0 0

/-- A lamp check of a port is asked for or converting. -/
def State.lampAsked (s : State) (n : Fin 8) : Bool :=
  s.madc.urgent.any (fun u => decide (u.who = .lamp n)) || s.madc.cores.any fun c => match c.urg with
    | some x => decide (x.req.who = .lamp n)
    | none => false

/-- Bref over gap lines: a line joins until the asked number is reached, and each asks a lamp check; the last check forms the
candidate (R212, R221; log entry 132). Nothing joins while the secure controller restarts (13 R321). -/
def State.gapBacking (n : Fin 8) (overrange excluded : Bool) (y : List (List Nat)) (s : State) : State :=
  match s.trig.gaps.find? fun j => j.port = n with
  | none => s
  | some j =>
    if overrange || excluded || s.secPaused then s
    else
      let ask (s : State) : State :=
        State.askUrgent { who := .lamp n, input := 24 + n.val, raw := false, due := s.ticks, seq := none } s
      if 2 ^ u8 j.params 8 ≤ j.lines then (if s.lampAsked n then s else ask s)
      else
        let c := s.ports[n].cfg
        let sums := c.slots.map fun k => (List.range c.width).map fun p => storeAt j.sums k p 0 + c.s16 (storeAt y k p 0)
        let j := { j with lines := j.lines + 1, sums }
        ask { s with trig.gaps := s.trig.gaps.map fun x => if x.seq = j.seq then j else x }

/-- URGENT_RESULT (08 R193 to R195): the urgent conversion of a core is complete, and its result returns to its requester. -/
def State.urgentResult (k : Fin 2) (samples : List Int) (s : State) : State :=
  let s := s.urgentTake
  let c := s.madc.cores[k]
  match c.urg with
  | none => s
  | some x =>
    if s.ticks < x.at_ + 900 then s
    else
      let u := x.req
      let zs := c.zs u.raw
      let v := madcCode zs.1 zs.2 (samples.headD 0)
      let unsettled := x.unsettled.getD (s.refUnsettled (x.at_ + 150))
      let w := resultWord (u.input + 0x40) v.1 0 v.2.1 v.2.2 false unsettled
      let s := { s with madc.urgLast := w, madc.urgCnt := s.madc.urgCnt + 1 }
      let s := s.modCore k fun c => { c with urg := none, freeAt := x.at_ + 900 }
      match u.who with
      | .axis a => if unsettled then s else s.loadResult a v.1
      | .lamp n =>
        match s.portRun n with
        | some r => if r.stage = .phase && r.lampBad (decide (r.phases.head? = some 0)) [v.1] then s.calEnd r 0x0201 0x0502 0 else s
        | none =>
          match s.trig.gaps.find? fun j => j.port = n with
          | some j =>
            if lampsBad j.params false [v.1] then s.gapEnd j 0x0201 0x0502 0
            else if 2 ^ u8 j.params 8 ≤ j.lines && !s.lampAsked n then s.gapForm j
            else s
          | none => s
      | .software => match u.seq with
        | some q => (s.vddRead u.input w).finishOk q w
        | none => s

def execUrgentResult (t : Nat) (core : Fin 2) (samples : List Int) (s : State) : Host.Outcome State Fault Refusal :=
  .next (s.act t (State.urgentResult core samples))

end Sys2Proof.Machine
end

