-- ==== Sys2Proof/Machine/TrigCmds.lean ====
section
/-! DEFINITION. The calibration commands (09 Tables 9.4, 9.6, 9.11; R208 to R222, R227). -/

namespace Sys2Proof.Machine

/-! ### Common checks -/

/-- Check 6 of the calibration opcodes (R227): a secure ring always; an open ring while TRIG and the unit are open. -/
def calWorld (unit : Packet → Option BlockId) (s : State) (p : Packet) (secure : Bool) : Bool :=
  secure || (!s.secureBlock .trig && match unit p with
    | some b => !s.secureBlock b
    | none => true)

def calPortUnit (p : Packet) : Option BlockId := (portAt p 0).map .port
def calAxisUnit (p : Packet) : Option BlockId := (axisAt p 0).map .ax
def calMadcUnit (_ : Packet) : Option BlockId := some .madc

/-- Check 12 of a port calibration: the port, and the video lanes of the slots that it names (00 R5). -/
def calPortFitted (video : Bool) (s : State) (p : Packet) : Bool :=
  match portAt p 0 with
  | none => false
  | some n => s.fittedBlock (.port n) && ((!video && s.ports[n].cfg.digital)
      || (List.finRange 4).all fun c => !(u8 p.params 1).testBit c.val || s.laneFitted n c)

/-- Head of a port calibration within its ranges (Table 9.4). -/
def calHeadOk (l : List Byte) (c : PortCfg) : Bool :=
  let m := u8 l 1
  m < 16 && ((List.range 4).all fun k => !m.testBit k || k < c.colourCount) && u8 l 2 < 2 && u8 l 3 < 2
    && (if u8 l 3 = 1 then 15000 ≤ u32 l 4 && u32 l 4 ≤ 150000000 else u32 l 4 = 0)
    && 4 ≤ u8 l 8 && u8 l 8 ≤ 12 && u16 l 10 ≤ u16 l 12 && u16 l 14 ≤ 5000

/-- A refresh block within its ranges and the width of the port (04 R81). An empty window whose first pixel lies beyond the width
is refused too (DESIGN CHOICE, log entry 160). -/
def refreshOk (b : List Byte) (width : Nat) : Bool :=
  let r := RefreshBlock.parse b
  u8 b 0 < 2 && r.passShift ≤ 6 && 1 ≤ r.refreshWeight && r.refreshWeight ≤ 8 && r.driftWeight ≤ 8 && 1 ≤ r.refreshBound
    && r.refreshBound ≤ 512 && r.gainBound ≤ 256 && r.darkBound ≤ 4095 && 64 ≤ r.validLimit && r.validLimit ≤ 1024
    && 1 ≤ r.staleSides && r.gainCount ≤ 65536 && r.darkFirst + r.darkCount ≤ width && r.gainFirst + r.gainCount ≤ width

/-- A port is capturing (R221). -/
def State.capturing (s : State) (n : Fin 8) : Bool :=
  (s.ports[n].st = .scan || s.ports[n].st = .hold) && s.sys.batchState ≠ .none

/-- CAL_SHADING that may queue for gaps (Table 9.6). -/
def gapRequest (op : Nat) (p : Packet) : Bool :=
  op == 2 && u8 p.params 16 == 4 && u8 p.params 3 == 0 && p.flags.getLsbD 0

/-- State checks of a port calibration (R221, Table 9.6). -/
def State.calPortState (s : State) (op : Nat) (n : Fin 8) (p : Packet) : Option Reject :=
  let q := s.ports[n]
  firstFail [(s.second, badState 0x518),
    ((s.portRun n).isSome || s.trig.gaps.any fun j => j.port = n, busy 0x519),
    (q.st = .off || q.st = .cal || q.st = .reconfig || (op == 1 && q.cfg.digital), badState 0x518),
    (s.capturing n && !gapRequest op p && p.flags.getLsbD 1, busy 0x51A)]

/-- An earlier phase that a CAL_SHADING of some slots needs is missing (R216). -/
def State.phaseMissing (s : State) (n : Fin 8) (ph mask : Nat) : Bool :=
  let (b, _) := s.shadeBase n
  let slots := s.ports[n].cfg.slots.filter fun k => mask = 0 || mask.testBit k
  let noD := !ph.testBit 0 && slots.any fun k => (b.dark.getD k []).isEmpty
  let noG := !ph.testBit 1 && slots.any fun k => (b.gain.getD k []).isEmpty
  (ph.testBit 1 && noD) || (ph.testBit 2 && (noD || noG))

/-- The phases of a port calibration, in their order. -/
def calPhases (op : Nat) (l : List Byte) : List Nat :=
  match op with
  | 1 => [0, 1]
  | 2 => (List.range 3).filter fun k => (u8 l 16).testBit k
  | _ => [4]

def CalRun.fresh (seq : DWord) (op num : Nat) (params : List Byte) (stage : CalStage) (phases : List Nat) (start : Nat) : CalRun :=
  { seq, op, num, params, stage, expired := false, wasScan := false, start, phases, repeated := false
    waited := decide (stage = .deferred), codes := [], saved := [], darkSum := []
    litSum := [], backSum := [], resid := 0 }

/-- An accepted port calibration: queued for gaps, deferred to the seal, or run at once (Table 9.6). -/
def State.portCal (op : Nat) (p : Packet) (seq : DWord) (s : State) : State :=
  match portAt p 0 with
  | none => s
  | some n =>
    if s.capturing n then
      if gapRequest op p then
        State.answerQueued seq
          { s with trig.gaps := s.trig.gaps ++ [{ port := n, op, seq, params := p.params, lines := 0, sums := [] }] }
      else { s with trig.runs := s.trig.runs ++ [CalRun.fresh seq op n.val p.params .deferred (calPhases op p.params) s.ticks] }
    else
      let r := CalRun.fresh seq op n.val p.params .boundary (calPhases op p.params) s.ticks
      State.enterCal r { s with trig.runs := s.trig.runs ++ [r] }

/-- DEFERRED_CAL_START: the calibrations that waited for the seal run (Table 9.6). -/
def State.deferredStart (s : State) : State :=
  if s.sys.batchState ≠ .none || s.secPaused then s
  else s.each (s.trig.runs.filter fun r => r.stage = .deferred) fun r s => s.enterCal r

def execDeferredCalStart (t : Nat) (s : State) : Host.Outcome State Fault Refusal := .next (s.act t State.deferredStart)

/-! ### CAL_VIDEO, CAL_SHADING, CAL_ALIGN -/

def calVideoSpec : PacketSpec where
  code := 0x0501
  world := calWorld calPortUnit
  len p := p.paramLen == 32
  fitted := calPortFitted true
  check s p _ :=
    match portAt p 0 with
    | none => badParam 0x51D
    | some n =>
      let l := p.params
      match firstFail [(!zeroBytes l 9 1 || !zeroBytes l 22 10, badParam 0x51D),
        (!calHeadOk l s.ports[n].cfg || u16 l 16 < 1000 || 10000 < u16 l 16 || u16 l 20 ≤ u16 l 18, badParam 0x51D)] with
      | some j => some j
      | none => s.calPortState 1 n p
  run p _ seq s := s.portCal 1 p seq

def execCalVideo (p : Packet) (s : State) : Host.Outcome State Fault Refusal :=
  .next (s.act p.tick (State.packet calVideoSpec p))

def calShadingSpec : PacketSpec where
  code := 0x0502
  world := calWorld calPortUnit
  len p := p.paramLen == 64
  fitted := calPortFitted false
  check s p _ :=
    match portAt p 0 with
    | none => badParam 0x51D
    | some n =>
      let l := p.params
      let c := s.ports[n].cfg
      match firstFail [(!zeroBytes l 9 1 || !zeroBytes l 17 1 || !zeroBytes l 24 8, badParam 0x51D),
        (!calHeadOk l c || u8 l 16 < 1 || 7 < u8 l 16
            || ((u8 l 16).testBit 1 && (u16 l 18 = 0 || 10000 < u16 l 18 || u16 l 20 = 0)), badParam 0x51D),
        (!refreshOk (l.drop 32) c.width, badParam 0x213)] with
      | some j => some j
      | none =>
        match s.calPortState 2 n p with
        | some j => some j
        | none => if s.phaseMissing n (u8 l 16) (u8 l 1) then badState 0x51B else none
  run p _ seq s := s.portCal 2 p seq

def execCalShading (p : Packet) (s : State) : Host.Outcome State Fault Refusal :=
  .next (s.act p.tick (State.packet calShadingSpec p))

def calAlignSpec : PacketSpec where
  code := 0x0503
  world := calWorld calPortUnit
  len p := p.paramLen == 32
  fitted := calPortFitted false
  check s p _ :=
    match portAt p 0 with
    | none => badParam 0x51D
    | some n =>
      let l := p.params
      let c := s.ports[n].cfg
      match firstFail [(!zeroBytes l 9 1 || !zeroBytes l 20 12, badParam 0x51D),
        (!calHeadOk l c || u8 l 3 != 0 || c.colourCount ≤ u8 l 16 || u8 l 17 < 2 || 16 < u8 l 17 || u16 l 18 < 64 || 4096 < u16 l 18,
          badParam 0x51D)] with
      | some j => some j
      | none => s.calPortState 3 n p
  run p _ seq s := s.portCal 3 p seq

def execCalAlign (p : Packet) (s : State) : Host.Outcome State Fault Refusal :=
  .next (s.act p.tick (State.packet calAlignSpec p))

/-! ### CAL_MADC_ZERO, CAL_MADC_FULL, CAL_DRIVE -/

def calMadcCheck (s : State) (l : List Byte) (lo hi : Nat) (full : Bool) : Option Reject :=
  let k : Fin 2 := Fin.ofNat 2 (u8 l 0)
  let r0 := match s.trig.cells[madcIndex k].cand with
    | some ⟨.madc _, _, _, _, _, _, _⟩ => true
    | _ => (s.madcOf k).isSome
  firstFail [(!zeroBytes l 2 2 || !zeroBytes l 9 7, badParam 0x51D),
    (u8 l 0 > 1 || u8 l 1 > 1 || u32 l 4 < lo || hi < u32 l 4 || u8 l 8 < 8 || 12 < u8 l 8, badParam 0x51D),
    (s.second, badState 0x518), ((List.finRange 2).any fun k => s.madc.cores[k].held.isSome, busy 0x519),
    (full && !r0, badState 0x51B)]

def State.madcCal (op : Nat) (p : Packet) (seq : DWord) (s : State) : State :=
  let k : Fin 2 := Fin.ofNat 2 (u8 p.params 0)
  let r := CalRun.fresh seq op k.val p.params .phase [] s.ticks
  State.modCore k (fun c => { c with held := some seq }) { s.urgentTake with trig.runs := s.trig.runs ++ [r] }

def calMadcZeroSpec : PacketSpec where
  code := 0x0504
  world := calWorld calMadcUnit
  len p := p.paramLen == 16
  fitted := alwaysFitted
  check s p _ := calMadcCheck s p.params 50000 250000 false
  run p _ seq s := s.madcCal 4 p seq

def execCalMadcZero (p : Packet) (s : State) : Host.Outcome State Fault Refusal :=
  .next (s.act p.tick (State.packet calMadcZeroSpec p))

def calMadcFullSpec : PacketSpec where
  code := 0x0505
  world := calWorld calMadcUnit
  len p := p.paramLen == 16
  fitted := alwaysFitted
  check s p _ := calMadcCheck s p.params 1000000 2450000 true
  run p _ seq s := s.madcCal 5 p seq

def execCalMadcFull (p : Packet) (s : State) : Host.Outcome State Fault Refusal :=
  .next (s.act p.tick (State.packet calMadcFullSpec p))

def calDriveSpec : PacketSpec where
  code := 0x0509
  world := calWorld calAxisUnit
  len p := p.paramLen == 16
  fitted := axisFitted
  check s p _ :=
    match axisAt p 0 with
    | none => badParam 0x51D
    | some a =>
      let l := p.params
      firstFail [(!zeroBytes l 3 1 || !zeroBytes l 8 8, badParam 0x51D),
        (u8 l 1 > 1 || u8 l 2 > 1 || u32 l 4 < 1000 || 4000000 < u32 l 4, badParam 0x51D), (s.second, badState 0x518),
        (s.trig.runs.any fun r => r.op = 9 && r.num = a.val, busy 0x519), (decide (s.axes[a].st ≠ .disabled), badState 0x518)]
  run p _ seq s :=
    { s with trig.runs := s.trig.runs ++ [CalRun.fresh seq 9 (u8 p.params 0) p.params .phase [] s.ticks] }

def execCalDrive (p : Packet) (s : State) : Host.Outcome State Fault Refusal :=
  .next (s.act p.tick (State.packet calDriveSpec p))

/-! ### CAL_COMMIT, CAL_QUERY, CAL_REVERT (Table 9.11) -/

/-- Record indices that class, instance and sub_mask name. -/
def calIndices (l : List Byte) : List (Fin 64) :=
  let n := u8 l 1
  let m := u8 l 2
  match u8 l 0 with
  | 1 => ((List.range 4).filter fun c => m = 0 || m.testBit c).map fun c => Fin.ofNat 64 (4 * n + c)
  | 2 => [Fin.ofNat 64 (32 + n)]
  | 3 => [Fin.ofNat 64 (40 + n)]
  | 4 => [Fin.ofNat 64 (48 + n)]
  | 5 => [Fin.ofNat 64 (50 + n)]
  | 6 => [timeIndex]
  | _ => [planIndex]

/-- Class, instance and sub_mask within their ranges. -/
def calNameOk (l : List Byte) : Bool :=
  let n := u8 l 1
  let m := u8 l 2
  match u8 l 0 with
  | 1 => n < 8 && m < 16
  | 2 => n < 8 && m == 0
  | 3 => n < 8 && m == 0
  | 4 => n < 2 && m == 0
  | 5 => n < 12 && m < 4
  | 6 => n == 0 && m == 0
  | 7 => n == 0 && m == 0
  | _ => false

/-- The unit that a record belongs to. -/
def calRecordUnit (p : Packet) : Option BlockId :=
  let n := u8 p.params 1
  match u8 p.params 0 with
  | 1 | 2 | 3 => if h : n < 8 then some (.port ⟨n, h⟩) else none
  | 4 => some .madc
  | 5 => if h : n < 12 then some (.ax ⟨n, h⟩) else none
  | _ => none

def calRecordFitted (s : State) (p : Packet) : Bool :=
  let lane := match portAt p 1 with
    | some n => u8 p.params 0 != 1 || (List.finRange 4).all fun c => !(u8 p.params 2).testBit c.val || s.laneFitted n c
    | none => true
  match calRecordUnit p with
  | some b => s.fittedBlock b && lane
  | none => !(u8 p.params 0 = 1 || u8 p.params 0 = 2 || u8 p.params 0 = 3 || u8 p.params 0 = 5)

/-- Phases of a DRIVE record that sub_mask names. -/
def calPhaseMask (l : List Byte) : Nat := if u8 l 2 = 0 then 3 else u8 l 2

/-- The candidate still matches the configuration of its unit (R209, R72, R48). -/
def State.candMatches (s : State) (i : Fin 64) (d : Candidate) : Bool :=
  let (cls, inst, sub) := trigClass i.val
  let c := s.ports[(Fin.ofNat 8 inst : Fin 8)].cfg
  match cls with
  | 1 => !c.digital && d.colours.getD sub 0xFF == c.colours.getD sub 0xFF && d.colours.getD sub 0xFF != 0xFF
  | 2 => d.colours == c.colours && d.width == c.width
  | 3 => d.colours == c.colours
  | _ => true

/-- Named indices that hold a candidate; of a DRIVE candidate, one of the named phases. -/
def State.pendingOf (s : State) (l : List Byte) : List (Fin 64) :=
  (calIndices l).filter fun i => match s.trig.cells[i].cand with
    | some d => d.phases = 0 || u8 l 0 ≠ 5 || (d.phases &&& calPhaseMask l) ≠ 0
    | none => false

def State.commitCal (p : Packet) (seq : DWord) (s : State) : State :=
  let idx := s.pendingOf p.params
  if (u8 p.params 3).testBit 0 then
    (s.each idx fun i s => s.modCell i fun c => { c with cand := none }).finishOk seq 0
  else
    let ph := match s.trig.cells[(idx.headD 0)].cand with
      | some d => calPhaseMask p.params &&& (if d.phases = 0 then 3 else d.phases)
      | none => calPhaseMask p.params
    let job : StoreJob := { seq, revert := false, written := 0, left := idx, phases := ph, cal := none, gap := none, waited := false }
    State.startStores { s with trig.jobs := s.trig.jobs ++ [job] }

def calCommitSpec : PacketSpec where
  code := 0x0506
  world := calWorld calRecordUnit
  len p := p.paramLen == 16
  fitted := calRecordFitted
  check s p _ :=
    let l := p.params
    let idx := s.pendingOf l
    let keep := !(u8 l 3).testBit 0
    firstFail [(!zeroBytes l 4 4, badParam 0x51D), (!calNameOk l || u8 l 3 > 1 || u64 l 8 != 0, badParam 0x51D),
      (s.second, badState 0x518),
      (idx.isEmpty || (keep && s.incomplete idx), badState 0x51B),
      (keep && idx.any fun i => match s.trig.cells[i].cand with
        | some d => !s.candMatches i d
        | none => false, badState 0x51C)]
  run p _ seq s := s.commitCal p seq

def execCalCommit (p : Packet) (s : State) : Host.Outcome State Fault Refusal :=
  .next (s.act p.tick (State.packet calCommitSpec p))

/-- The 192 bytes of a CAL_QUERY buffer. -/
def State.calBuffer (s : State) (i : Fin 64) : List Byte :=
  let c := s.trig.cells[i]
  let head (r : Option TrigRecord) : List Byte := match r with
    | some r => r.header i.val
    | none => List.replicate 64 0
  let cand := match c.cand with
    | some d => leBytes 4 (c.top + 1) ++ leInt 4 d.resid ++ leBytes 4 d.phases
    | none => leBytes 12 0
  head c.current ++ head c.other ++ cand ++ leBytes 4 (b2n c.rev) ++ leBytes 48 0

def calQuerySpec : PacketSpec where
  code := 0x0507
  world := eitherWorld
  len p := p.paramLen == 16
  fitted := calRecordFitted
  check s p _ :=
    let l := p.params
    firstFail [(!zeroBytes l 4 4, badParam 0x51D), (!calNameOk l || u8 l 3 != 0, badParam 0x51D), (s.second, badState 0x518)]
  run p _ seq s :=
    let i := (calIndices p.params).headD 0
    s.finish seq 0 0 (word (s.trigGen i)) (buffers := if u64 p.params 8 = 0 then [] else [(u64 p.params 8, s.calBuffer i)])

def execCalQuery (p : Packet) (s : State) : Host.Outcome State Fault Refusal :=
  .next (s.act p.tick (State.packet calQuerySpec p))

/-- The indices a revert writes: those named; with sub_mask 0, those of the class whose other slot is valid. -/
def State.revertOf (s : State) (l : List Byte) : List (Fin 64) :=
  (calIndices l).filter fun i => u8 l 2 ≠ 0 || (s.trig.cells[i].other).isSome

def calRevertSpec : PacketSpec where
  code := 0x0508
  world := calWorld calRecordUnit
  len p := p.paramLen == 16
  fitted := calRecordFitted
  check s p _ :=
    let l := p.params
    let idx := s.revertOf l
    firstFail [(!zeroBytes l 4 4, badParam 0x51D), (!calNameOk l || u8 l 3 != 0 || u64 l 8 != 0, badParam 0x51D),
      (u8 l 0 = 6 || u8 l 0 = 7, badParam 0x51E), (s.second, badState 0x518),
      (idx.isEmpty || idx.any fun i => (s.trig.cells[i].other).isNone, badState 0x51B)]
  run p _ seq s :=
    let job : StoreJob := { seq, revert := true, written := 0, left := s.revertOf p.params, phases := calPhaseMask p.params
                            cal := none, gap := none, waited := false }
    State.startStores { s with trig.jobs := s.trig.jobs ++ [job] }

def execCalRevert (p : Packet) (s : State) : Host.Outcome State Fault Refusal :=
  .next (s.act p.tick (State.packet calRevertSpec p))

end Sys2Proof.Machine
end

