-- ==== Sys2Proof/Machine/PortEnd.lean ====
section
/-! DEFINITION. The end of a line (02 R38, R45), arming, disarming and reconfiguring a port (02 R37, R48 to R50), and its
LVDS receiver (02 R42 to R45). -/

namespace Sys2Proof.Machine

/-! ### LINE_END (02 R38; 01 R13) -/

/-- The line in progress can have ended with what its sensor sent: its last edge has passed, and its last sample has been
taken. A line that is lost holds no samples. -/
def State.lineOver (s : State) (n : Fin 8) (r : LineRun) (data : LineData) : Bool :=
  let p := s.ports[n]
  let framed := match data with
    | .digital l => (p.cfg.payload l).isSome
    | _ => false
  r.start + r.edgeEnd ≤ s.ticks
    && (if p.cfg.digital then r.lost || framed else decide (r.start + p.lastSample ≤ s.ticks))

/-- A line read out: it enters the input buffer and the pipeline runs. -/
def State.takeLine (n : Fin 8) (r : LineRun) (gap : Bool) (data : LineData) (s : State) : State :=
  let (y, ovr, retired, p) := s.ports[n].receive data
  let l : RawLine := { run := r, samples := y, overrange := ovr, retired }
  let s := s.modPort n fun _ =>
    let q := { p with inbuf := p.inbuf ++ [l] };
    { q with cnt.inbufHwm := word (max p.cnt.inbufHwm.toNat q.inbufUsed)
             cnt.gapLines := if gap then satInc p.cnt.gapLines else p.cnt.gapLines }
  (s.drainPort n).when gap fun s => s.gapBacking n ovr r.excluded y

/-- A line lost while the receiver was out of lock is discarded before the pipeline (02 R45); its side is left with the
number of the line that is missing. -/
def State.dropLine (n : Fin 8) (r : LineRun) (overlap : Bool) (s : State) : State :=
  let c : Capture := { k := r.k, start := r.start, encPos := r.encPos, late := r.late, beyond := r.beyond
                       lateField := r.lateField, overrange := false, retired := false, lost := true, y := [] }
  s.modPort n fun p => if !overlap && (p.takerOf r.k).isSome then { p with caps := p.caps ++ [c] } else p

/-- A port that has failed to train stops in IDLE: a side that is open closes at its present line (log entry 37), and a
disarming has its effect. -/
def State.trainIdle (n : Fin 8) (s : State) : State :=
  let s := s.closeAll n fun d => { d.rejected 1 with lineLoss := true }
  let s := s.modPort n fun p =>
    { p with st := .idle, line := none, waiting := [], grid.sched := [], inbuf := [], caps := [], signatures := []
             lvds := p.lvds.cleared, keepLamp := false }
  (s.disarmEffect n).sysRoutes

def State.lineEnd (n : Fin 8) (data : LineData) (s : State) : State :=
  let p := s.ports[n]
  match p.line with
  | none => s
  | some r =>
    if !s.lineOver n r data then s
    else
      let overlap := s.isOverlap n r.k
      let gap := p.gapLine r.k && !overlap
      let r := { r with excluded := gap && p.shade.excludeNext }
      let s := s.modPort n fun p =>
        { p with line := none, cnt.busyTicks := sat32 (s.ticks - r.start), vid.lanes := p.vid.lanes.map VideoLane.settleCoeffs
                 pxEnd := if p.cfg.digital then p.pxEnd else r.start + p.cfg.clockEnd
                 shade.excludeNext := p.shade.excludeNext && (r.lost || !gap) }
      let s := if r.lost then s.dropLine n r overlap else s.takeLine n r gap data
      let s := ((s.fire (.port n) 1).calResume n).laneIdle n
      ((s.when p.lvds.stopping fun s => s.trainIdle n).sbAdvanceAll).verdictOf n

def execLineEnd (t : Nat) (n : Fin 8) (data : LineData) (s : State) : Host.Outcome State Fault Refusal :=
  .next (s.act t (State.lineEnd n data))

/-! ### Arming (02 R37, R42, R48) -/

/-- The line grid starts at the present position (R37). Grid line 0 lies at that position and is triggered like every other:
at the first forward edge, 8 ticks after it (DESIGN CHOICE, log entry 107). -/
def State.freshGrid (n : Fin 8) (s : State) : State :=
  let x := s.count n
  s.modPort n fun p =>
    { p with grid := { x0 := x * 2 ^ 32, pitch := p.cfg.pitch, next := 0, sched := [], tEst := s.encs[p.cfg.encoder].tEst
                       lastEnc := x }
             waiting := [], caps := [], signatures := [], recent := [], lastInstant := none, lastFree := 0 }

/-- The port enters SCAN, and the commands that waited for it are answered. -/
def State.armNow (n : Fin 8) (s : State) : State :=
  let q := s.ports[n].waits.arm
  let s := s.freshGrid n
  ((s.modPort n fun p => { p with st := .scan, waits.ready := true, waits.arm := [] }).sysRoutes).finishAll q 0 0 0

/-- Training begins (Table 2.8 step 1). -/
def State.trainStart (n : Fin 8) (s : State) : State :=
  s.modPort n fun p => { p with lvds := { p.lvds.cleared with training := some s.ticks, resyncFault := p.lvds.resyncFault } }

/-- What arming goes on with: training on a digital port, the lanes on an analogue one (R42, 03 R56). -/
def State.armBegin (n : Fin 8) (seq : DWord) (s : State) : State :=
  let p := s.ports[n]
  let wait (s : State) : State := s.modPort n fun p => { p with waits.arm := p.waits.arm ++ [seq] }
  if p.cfg.digital then (wait s).when p.lvds.training.isNone fun s => s.trainStart n
  else if p.laneFailed then s.finish seq 0x0103 0x020D 0
  else if !p.vid.ready then wait s
  else (s.armNow n).finishOk seq 0

/-- The port's image ring in force exists (11 R279). -/
def State.imageRingOk (s : State) (n : Fin 8) : Bool :=
  match s.ring? (s.ports[n].fmtPending.getD s.ports[n].fmt).ring with
  | some q => decide (q.kind = .image)
  | none => false

/-- What arming under a configuration needs (R48; 03 R69; 11 R279). -/
def State.armCheck (s : State) (n : Fin 8) (c : PortCfg) (table : Bool) : Option Reject :=
  firstFail [(!table || !s.recordsMatch n c, badState 0x20A), (s.ports[n].laneFailed, badState 0x20D),
    (!s.imageRingOk n, badState 0x215)]

/-- The length and the reserved bytes of PORT_ARM and PORT_DISARM. -/
def portByte (p : Packet) : Option Reject := firstFail [(!zeroBytes p.params 1 7, badParam 4)]

/-- PORT_ARM (02 R48). -/
def portArmSpec : PacketSpec where
  code := 0x0203
  world := portWorld
  len p := p.paramLen == 8
  fitted := portFitted
  check s p _ :=
    match portByte p, portAt p 0 with
    | some j, _ => some j
    | none, none => badParam 0x203
    | none, some n =>
      match firstFail [(s.ports[n].st ≠ .idle, badState 0)] with
      | some j => some j
      | none => s.armCheck n s.ports[n].cfg s.ports[n].active.isSome
  run p _ seq s := match portAt p 0 with
    | some n => s.armBegin n seq
    | none => s

def execPortArm (p : Packet) (s : State) : Host.Outcome State Fault Refusal :=
  .next (s.act p.tick (State.packet portArmSpec p))

/-! ### Disarming (02 R49, 09 R222) -/

def execDisarmEffect (t : Nat) (n : Fin 8) (s : State) : Host.Outcome State Fault Refusal :=
  .next (s.act t (State.disarmEffect n))

/-- PORT_DISARM: where no line runs and no side is open it takes effect at once; a port that does not scan has nothing to
stop. -/
def portDisarmSpec : PacketSpec where
  code := 0x0204
  world := portWorld
  len p := p.paramLen == 8
  fitted := portFitted
  check _ p _ := firstFail [(!zeroBytes p.params 1 7, badParam 4), ((portAt p 0).isNone, badParam 0x203)]
  run p _ seq s :=
    match portAt p 0 with
    | none => s
    | some n =>
      let s := s.dropGaps n
      match s.ports[n].st with
      | .off | .idle => s.finishOk seq 0
      | _ => (s.modPort n fun p => { p with waits.disarm := p.waits.disarm ++ [seq] }).disarmEffect n

def execPortDisarm (p : Packet) (s : State) : Host.Outcome State Fault Refusal :=
  .next (s.act p.tick (State.packet portDisarmSpec p))

/-! ### Reconfiguration (02 R50, Table 2.10) -/

/-- A command that waits to arm the port goes on under the port's present configuration; without what R48 asks for, it is
refused as a new one would be. -/
def State.armAgain (n : Fin 8) (seq : DWord) (s : State) : State :=
  if s.ports[n].st = .scan then s.finishOk seq 0
  else match s.armCheck n s.ports[n].cfg s.ports[n].active.isSome with
    | some j => s.finish seq j.status j.detail j.result
    | none => s.armBegin n seq

/-- A configuration taken outside SCAN: a training in progress ends, and the commands that wait to arm the port, with those
that the configuration itself adds, go on under it (DESIGN CHOICE, log entry 116). -/
def State.takeCfg (n : Fin 8) (c : PortCfg) (arms : List DWord) (f : State → State) (s : State) : State :=
  let q := s.ports[n].waits.arm ++ arms
  let s := s.modPort n fun p => { p with waits.arm := [], lvds.training := none }
  (f (s.applyPortCfg n c)).each q fun seq s => s.armAgain n seq

/-! ### PORT_CONFIG (02 R30) -/

def State.configPort (p : Packet) (seq : DWord) (s : State) : State :=
  match portAt p 0 with
  | none => s
  | some n =>
    let toIdle (s : State) : State := s.modPort n fun q => { q with st := .idle, waits.ready := true };
    (s.takeCfg n (PortCfg.parse p.params 0) [] toIdle).finishOk seq 0

/-- PORT_CONFIG (02 R30): accepted in OFF and IDLE, checked completely before any field takes effect. A port of a pace group may
be given another encoder than the group's, and stays in the group (DESIGN CHOICE, log entry 164). -/
def portConfigSpec : PacketSpec where
  code := 0x0201
  world s p secure := portWorld s p secure && s.encWorld p 0 secure
  len p := cfgLenOk p 0
  fitted s p := portFitted s p && s.encFitted p 0 && s.lanesFitted p.params 0
  check s p _ :=
    match portCfgCheck p.params 0, portAt p 0 with
    | some j, _ => some j
    | none, some n => firstFail [(!(s.ports[n].st = .off || s.ports[n].st = .idle), badState 0)]
    | none, none => badParam 0x203
  run p _ seq s := s.configPort p seq

def execPortConfig (p : Packet) (s : State) : Host.Outcome State Fault Refusal :=
  .next (s.act p.tick (State.packet portConfigSpec p))

/-- Check 6 and check 12 for PORT_RECONFIG, whose block names the port. -/
def reconfigWorld (s : State) (p : Packet) (secure : Bool) : Bool :=
  match portAt p 8 with
  | some n => s.secureBlock (.port n) == secure && s.encWorld p 8 secure
  | none => s.encWorld p 8 secure
def reconfigFitted (s : State) (p : Packet) : Bool :=
  match portAt p 8 with
  | some n => s.fittedBlock (.port n) && s.encFitted p 8 && s.lanesFitted p.params 8
  | none => false

/-- `table_select`: the other table; with neither active, the one that holds entries. -/
def Port.otherTable (p : Port) : Option Bool :=
  match p.active with
  | some b => some (!b)
  | none => if !p.tabA.edges.isEmpty then some false else if !p.tabB.edges.isEmpty then some true else none

def State.selectTable (n : Fin 8) (l : List Byte) (s : State) : State :=
  if u8 l 0 = 1 then
    match s.ports[n].otherTable with
    | some b => s.modPort n fun p => p.activate b
    | none => s
  else s

/-- The port after a reconfiguration in IDLE has an active table. -/
def State.tableAfter (s : State) (n : Fin 8) (l : List Byte) (c : PortCfg) : Bool :=
  let p := s.ports[n]
  p.cfg.pgMode == c.pgMode && (if u8 l 0 = 1 then p.otherTable else p.active).isSome

/-- R42: what calls for training anew. -/
def trainAgain (old c : PortCfg) : Bool :=
  c.digital && (!old.digital || old.lanes != c.lanes || old.laneRate != c.laneRate || old.sampleBits != c.sampleBits
    || old.dataOrder != c.dataOrder)

/-- R70: slice calibrations in progress begin again. -/
def Video.dropCals (v : Video) : Video :=
  { v with lanes := v.lanes.map fun l => { l with calSlice := none, steps := 0, retry := false } }

/-- RECONFIG_ENTER (step 3). -/
def State.reconfigEnter (n : Fin 8) (s : State) : State :=
  let p := s.ports[n]
  match p.waits.reconfig with
  | some (seq, l, 2) =>
    if decide (p.st = .scan) && p.line.isNone && p.noSide && p.waits.slots.isEmpty then
      s.modPort n fun p => { p with st := .reconfig, keepLamp := u8 l 1 = 1, waits.reconfig := some (seq, l, 3)
                                    waiting := [], grid.sched := [], caps := [] }
    else s
  | _ => s

/-- A PORT_RECONFIG in SCAN waits at step 2 of Table 2.10. -/
def State.reconfigStart (n : Fin 8) (seq : DWord) (l : List Byte) (s : State) : State :=
  (s.modPort n fun q => { q with waits.ready := false, waits.reconfig := some (seq, l, 2) }).reconfigEnter n

/-- The PORT_RECONFIG commands that waited for one to end: in SCAN the next begins, in IDLE each acts as PORT_CONFIG and
PORT_ARM, in another state it is refused (log entry 116). -/
def State.nextReconfig (n : Fin 8) : Nat → State → State
  | 0, s => s
  | k + 1, s =>
    match s.ports[n].waits.reconfig, s.ports[n].waits.later with
    | none, (seq, l) :: rest =>
      let s := s.modPort n fun p => { p with waits.later := rest }
      let s := if s.ports[n].st = .scan then s.reconfigStart n seq l
        else if s.ports[n].st = .idle then s.takeCfg n (PortCfg.parse l 8) [seq] (State.selectTable n l)
        else s.finish seq 0x0103 0 0
      State.nextReconfig n k s
    | _, _ => s

/-- The last step of Table 2.10: IDLE after a change of shape, else SCAN. -/
def State.reconfigDone (n : Fin 8) (seq : DWord) (toIdle keepGrid : Bool) (s : State) : State :=
  let s := s.modPort n fun p => { p with waits.reconfig := none, keepLamp := false }
  let s := if toIdle then
      let was := s.ports[n].calNeeded
      (s.modPort n fun p => { p with st := .idle, calNeeded := true, waits.ready := false }).when (!was) fun s => s.portFlag n 6
    else
      let s := if keepGrid then s.skipPassed n else s.freshGrid n
      s.modPort n fun p => { p with st := .scan, waits.ready := true }
  let s := ((s.portFlag n 7).sysRoutes).finishOk seq 0
  ((s.laneIdle n).disarmEffect n).nextReconfig n s.ports[n].waits.later.length

def execReconfigEnter (t : Nat) (n : Fin 8) (s : State) : Host.Outcome State Fault Refusal :=
  .next (s.act t (State.reconfigEnter n))

/-- RECONFIG_DRAINED (steps 4 to 7). -/
def State.reconfigDrained (n : Fin 8) (s : State) : State :=
  let s := s.drainPort n
  let p := s.ports[n]
  match p.waits.reconfig with
  | some (seq, l, 3) =>
    if decide (p.st = .reconfig) && p.inbuf.isEmpty then
      let c := PortCfg.parse l 8
      let shape := p.cfg.digital != c.digital || p.cfg.colours != c.colours || p.cfg.width != c.width
      let train := trainAgain p.cfg c
      let keepGrid := p.cfg.pitch == c.pitch
      let s := s.modPort n fun p => { p with vid := p.vid.dropCals }
      let s := (s.applyPortCfg n c).selectTable n l
      if train then
        (s.modPort n fun p => { p with waits.reconfig := some (seq, l, if shape then 6 else if keepGrid then 7 else 8) }).trainStart n
      else s.reconfigDone n seq shape keepGrid
    else s
  | _ => s

def execReconfigDrained (t : Nat) (n : Fin 8) (s : State) : Host.Outcome State Fault Refusal :=
  .next (s.act t (State.reconfigDrained n))

/-- PORT_RECONFIG: in IDLE as PORT_CONFIG followed by PORT_ARM, in SCAN under Table 2.10. -/
def portReconfigSpec : PacketSpec where
  code := 0x0205
  world := reconfigWorld
  len p := cfgLenOk p 8
  fitted := reconfigFitted
  check s p _ :=
    match portCfgCheck p.params 8, portAt p 8 with
    | some j, _ => some j
    | none, none => badParam 0x203
    | none, some n =>
      let c := PortCfg.parse p.params 8
      match firstFail [(u8 p.params 0 > 1 || u8 p.params 1 > 1, badParam 0x205), (!zeroBytes p.params 2 6, badParam 4),
        (!(s.ports[n].st = .idle || s.ports[n].st = .scan), badState 0)] with
      | some j => some j
      | none => if s.ports[n].st = .idle then s.armCheck n c (s.tableAfter n p.params c) else none
  run p _ seq s :=
    match portAt p 8 with
    | none => s
    | some n =>
      let s := s.dropGaps n
      if s.ports[n].st = .idle then s.takeCfg n (PortCfg.parse p.params 8) [seq] (State.selectTable n p.params)
      else if s.ports[n].waits.reconfig.isSome then
        s.modPort n fun q => { q with waits.later := q.waits.later ++ [(seq, p.params)] }
      else s.reconfigStart n seq p.params

def execPortReconfig (p : Packet) (s : State) : Host.Outcome State Fault Refusal :=
  .next (s.act p.tick (State.packet portReconfigSpec p))

/-! ### LVDS training (02 R42, R43) -/

/-- A training result within the bounds of Table 2.8. -/
def trainOk (r : TrainResult) (c : PortCfg) : Bool :=
  (r.taps.take c.lanes).all (· < 64) && (r.offsets.take c.lanes).all (fun x => x.natAbs ≤ 8)
    && decide (95 * c.laneRate ≤ 200 * r.ckKhz) && decide (200 * r.ckKhz ≤ 105 * c.laneRate)

/-- The receiver is locked; a fault that L2 handled by training is settled (10 R258). -/
def State.lvdsLocked (n : Fin 8) (r : TrainResult) (s : State) : State :=
  let no := s.ports[n].lvds.resyncFault
  let s := s.modPort n fun p =>
    { p with lvds := { p.lvds.cleared with
        locked := true, clock := true, taps := r.taps.take p.cfg.lanes, offsets := r.offsets.take p.cfg.lanes, ckKhz := r.ckKhz } }
  s.when (no != 0) fun s =>
    { s with ldg.faults := s.ldg.faults.filter fun f => f.1 != no }.device (s.secureBlock (.port n)) 0 0 0 no []

def State.trainDone (n : Fin 8) (r : TrainResult) (s : State) : State :=
  let p := s.ports[n]
  match p.lvds.training with
  | none => s
  | some start =>
    if !trainOk r p.cfg || start + 15000000 < s.ticks then s
    else
      let s := s.lvdsLocked n r
      match p.st, p.waits.reconfig with
      | .reconfig, some (seq, _, k) => s.reconfigDone n seq (decide (k = 6)) (decide (k = 7))
      | .idle, _ => s.when (!p.waits.arm.isEmpty) fun s => s.armNow n
      | _, _ => s

def execLvdsTrainDone (t : Nat) (n : Fin 8) (res : TrainResult) (s : State) : Host.Outcome State Fault Refusal :=
  .next (s.act t (State.trainDone n res))

/-- Training has failed, and the port stops in IDLE with `train_fail`: the commands that wait to arm or reconfigure it are
refused with the mask of the lanes (R43). In SCAN a line in progress runs to its end first (R35). -/
def State.trainStop (n : Fin 8) (lanes : BitVec 32) (s : State) : State :=
  let w := s.ports[n].waits
  let q := w.arm ++ (w.reconfig.map fun r => r.1).toList ++ w.later.map Prod.fst
  let s := s.modPort n fun p =>
    { p with waits.arm := [], waits.reconfig := none, waits.later := [], lvds := { p.lvds.cleared with stopping := p.line.isSome } }
  let s := (s.portFlag n 3).finishAll q 0x0103 0x0209 lanes
  s.when s.ports[n].line.isNone fun s => s.trainIdle n

/-- LVDS_TRAIN_TIMEOUT: a step of Table 2.8 has failed; the command is refused with the mask of the lanes. -/
def State.trainFailed (n : Fin 8) (lanes : BitVec 9) (s : State) : State :=
  match s.ports[n].lvds.training with
  | none => s
  | some _ =>
    let no := s.ports[n].lvds.resyncFault
    (s.trainStop n (lanes.setWidth 32)).when (no != 0) fun s =>
      { s with ldg.faults := s.ldg.faults.filter fun f => f.1 != no }.device (s.secureBlock (.port n)) 0x0103 0x0209
        (lanes.setWidth 32) no []

def execLvdsTrainTimeout (t : Nat) (n : Fin 8) (_step : Fin 8) (lanes : BitVec 9) (s : State) :
    Host.Outcome State Fault Refusal :=
  .next (s.act t (State.trainFailed n lanes))

/-! ### Loss of lock (02 R44, R45) -/

/-- A saturating count of 8 bits for a lane's sync errors. -/
def bumpLane (l : List Nat) (k : Nat) : List Nat :=
  (List.range 8).map fun i => if i = k then min (l.getD i 0 + 1) 255 else l.getD i 0

/-- LOCK_LOSS: a line in progress is lost, which is handled as lateness beyond Tline (R45): overrun, and line loss on an open
side that the capture serves. -/
def State.lockLoss (n : Fin 8) (cause : LockCause) (s : State) : State :=
  let p := s.ports[n]
  if !p.cfg.digital || !p.lvds.locked || p.st = .off then s
  else
    let s := s.modPort n fun p =>
      { p with lvds.locked := false, lvds.resync := some s.ticks
               lvds.clock := p.lvds.clock && decide (cause ≠ .clock)
               lvds.errs := match cause with
                 | .solWord k => bumpLane p.lvds.errs k.val
                 | _ => p.lvds.errs
               cnt.lockLoss := satInc p.cnt.lockLoss, line := p.line.map fun r => { r with lost := true, beyond := true } }
    let s := (s.portFlag n 2).fire (.port n) 6
    match p.line with
    | some r => (s.when (!r.beyond) fun s => s.overrunNow n).lostFor n r.k (p.captureSide r.k)
    | none => s

def execLockLoss (t : Nat) (n : Fin 8) (cause : LockCause) (s : State) : Host.Outcome State Fault Refusal :=
  .next (s.act t (State.lockLoss n cause))

/-- LVDS_RESYNC_DONE: L1 has settled the fault; its DEVICE entry carries OK (10 R258). -/
def State.resyncDone (n : Fin 8) (s : State) : State :=
  let p := s.ports[n]
  match p.lvds.resync with
  | none => s
  | some since =>
    if since + 75000 < s.ticks || p.lvds.training.isSome then s
    else
      let no := s.ldg.faultNext
      let s := (s.takeFault).modPort n fun p => { p with lvds.locked := true, lvds.clock := true, lvds.resync := none }
      s.device (s.secureBlock (.port n)) 0 0 0 no []

def execLvdsResyncDone (t : Nat) (n : Fin 8) (s : State) : Host.Outcome State Fault Refusal :=
  .next (s.act t (State.resyncDone n))

/-- LVDS_RESYNC_TIMEOUT: the fault passes to L2, which trains the port again or stops it (R45, 10 R257). The entry of L1
carries LINE_LOSS (log entry 38). -/
def State.resyncTimeout (n : Fin 8) (canTrain : Bool) (s : State) : State :=
  let p := s.ports[n]
  match p.lvds.resync with
  | none => s
  | some since =>
    if s.ticks < since + 75000 then s
    else
      let no := s.ldg.faultNext
      let s := (s.takeFault).device (s.secureBlock (.port n)) 0x0900 0 0 no []
      if canTrain then
        ({ s with ldg.faults := s.ldg.faults ++ [(no, 2)] }.modPort n fun p => { p with lvds.resyncFault := no }).trainStart n
      else (s.trainStop n 0).device (s.secureBlock (.port n)) 0x0103 0x0209 0 no []

def execLvdsResyncTimeout (t : Nat) (n : Fin 8) (canTrain : Bool) (s : State) : Host.Outcome State Fault Refusal :=
  .next (s.act t (State.resyncTimeout n canTrain))

end Sys2Proof.Machine
end

