-- ==== Sys2Proof/Machine/Rings.lean ====
section
/-! DEFINITION. Doorbells (10 R230), RING0 to RING3 in the ring table (11 R273), RING_CREATE and RING_DESTROY (11 R278 to
R280), the start of a wake (13 R316). -/

namespace Sys2Proof.Machine

/-! ### Waking (13 R316) -/

/-- A wake trigger in DORMANT starts the wake; the waking device sends its pulse in place of a heartbeat (14 R350). -/
def State.startWake (s : State) : State :=
  if s.sys.mode = .dormant && !s.sys.waking then
    let s := { s with sys.waking := true, sys.wakeTick := s.ticks }
    if s.rope.hbRunning then { s with rope.wakeSent := some s.ticks, rope.hbSent := s.ticks } else s
  else s

/-! ### Doorbells (10 R230) -/

/-- The value of a doorbell write: none where it is ignored without a mark, and whether its reserved half is zero. -/
def doorbellValue (half : DbHalf) (value : BitVec 64) : Option (Nat × Bool) :=
  match half with
  | .high => none
  | .low => some (value.toNat % 2 ^ 32, true)
  | .whole => some (value.toNat % 2 ^ 32, value.toNat < 2 ^ 32)

/-- A doorbell value is valid: below the ring size, and forward no further than the partner index allows; the first head
doorbell of a ring that waits under 14 R345 may take any value below the size. -/
def Ring.doorbellOk (r : Ring) (v : Nat) : Bool :=
  r.sizeLog2 != 0 && v < r.size
    && (match r.kind with
      | .command => decide ((v + r.size - r.tail) % r.size ≤ r.room)
      | _ => r.waitDoorbell || decide ((v + r.size - r.head) % r.size ≤ r.used - r.ahead))

/-- A valid doorbell of a command ring is its new tail; of any other ring its new head, which releases slots; of a
ring that waits under 14 R345 both head and tail. -/
def State.ringDoorbell (r : Ring) (v : Nat) (s : State) : State :=
  match r.kind with
  | .command => (s.modRing r.id fun r => { r with tail := v, waitDoorbell := false, irqRaised := false }).startWake
  | kind =>
    let n := if r.waitDoorbell then 0 else (v + r.size - r.head) % r.size
    let s := s.modRing r.id fun r => { r with head := v, tail := if r.waitDoorbell then v else r.tail
                                              ahead := if r.waitDoorbell then 0 else r.ahead, waitDoorbell := false, irqRaised := false }
    match kind with
    | .image => if h : r.port < 8 then s.imageReleased ⟨r.port, h⟩ r.id n else s
    | .measurement => s.madcDrain (s.madc.q.entries.length / 8)
    | _ => s

/-- DOORBELL: the checks of R230 in turn. -/
def State.doorbell (pf : PF) (ring : Nat) (half : DbHalf) (value : BitVec 64) (s : State) : State :=
  match doorbellValue half value with
  | none => s
  | some (v, whole) =>
    let bad := { s with cmd.badDoorbells := satInc s.cmd.badDoorbells }.setEvt .cmd 1
    match s.ring? ring with
    | none => bad
    | some r =>
      if r.secure && !pfSecure pf then s.setEvt .cmd 2
      else if !whole || !r.doorbellOk v then bad
      else s.ringDoorbell r v

def execDoorbell (t : Nat) (pf : PF) (ring : Nat) (half : DbHalf) (value : BitVec 64) (s : State) :
    Host.Outcome State Fault Refusal := .next (s.act t (State.doorbell pf ring half value))

/-! ### The ring table (11 Table 11.3, R273) -/

def RingType.code : RingType → Nat
  | .command => 0 | .reply => 1 | .image => 2 | .event => 3 | .measurement => 4 | .ledgerMirror => 5

def RingType.ofCode : Nat → Option RingType
  | 0 => some .command | 1 => some .reply | 2 => some .image | 3 => some .event | 4 => some .measurement
  | 5 => some .ledgerMirror | _ => none

/-- The 32 bytes of a ring table entry. -/
def Ring.entry (r : Ring) : List Byte :=
  leBytes 8 r.base.toNat ++ leBytes 1 r.sizeLog2 ++ leBytes 1 r.kind.code ++ leBytes 1 (b2n r.secure)
    ++ leBytes 1 (b2n r.irqEn + 2 * b2n r.fence) ++ leBytes 4 r.head ++ leBytes 4 r.shownTail ++ leBytes 2 r.msix ++ leBytes 10 0

/-- Smallest size of a ring of a type. -/
def RingType.minLog2 : RingType → Nat
  | .command => 7
  | _ => 4

/-- No command of the ring is in flight, and its head equals its tail (R273). -/
def State.ringQuiet (s : State) (r : Ring) : Bool :=
  r.head == r.tail && s.inFlight.all fun f => f.ring != r.id

/-- The entry as a 4-byte write would leave it; read-only words and bytes stay. -/
def Ring.written (r : Ring) (k : Nat) (v : Nat) : Ring :=
  match k with
  | 0 => { r with base := BitVec.ofNat 64 (r.base.toNat / 2 ^ 32 * 2 ^ 32 + v) }
  | 1 => { r with base := BitVec.ofNat 64 (v * 2 ^ 32 + r.base.toNat % 2 ^ 32) }
  | 2 => { r with sizeLog2 := v % 256, irqEn := v.testBit 24, fence := v.testBit 25 }
  | 5 => { r with msix := v % 2 ^ 16 }
  | _ => r

/-- The entry may stand: base aligned, size zero or within the range of its type. -/
def Ring.entryOk (r : Ring) : Bool :=
  r.base.toNat % 4096 == 0 && (r.sizeLog2 == 0 || (r.kind.minLog2 ≤ r.sizeLog2 && r.sizeLog2 ≤ 24))

/-- RINGT_WRITE: a write to the entry of RING0 to RING3, ignored unless the ring is quiet and the entry may stand. -/
def State.ringtWrite (pf : PF) (ring k : Nat) (value : BitVec 32) (s : State) : State :=
  match s.ring? ring with
  | none => s
  | some r =>
    let q := r.written k value.toNat
    if (r.secure && !pfSecure pf) || !s.ringQuiet r || !q.entryOk then s
    else
      let q := if q.base = r.base && q.sizeLog2 = r.sizeLog2 then q else { q with head := 0, tail := 0, pass := 1 }
      s.modRing ring fun _ => q

def execRingtWrite (t : Nat) (pf : PF) (ring : Fin 4) (word : Fin 8) (value : BitVec 32) (s : State) :
    Host.Outcome State Fault Refusal := .next (s.act t (State.ringtWrite pf ring.val word.val value))

/-! ### RING_CREATE (11 R278, R279) -/

/-- The port whose reserved event or image ring a number is. -/
def reservedPort (ring : Nat) : Option (Fin 8) :=
  if h : 6 ≤ ring ∧ ring ≤ 13 then some ⟨ring - 6, by omega⟩
  else if h : 16 ≤ ring ∧ ring ≤ 23 then some ⟨ring - 16, by omega⟩ else none

/-- The image port named, or the port of a reserved number. -/
def createPort (l : List Byte) : Option (Fin 8) :=
  if u8 l 2 = 2 then (if h : u8 l 5 < 8 then some ⟨u8 l 5, h⟩ else none) else reservedPort (u16 l 0)

/-- Every field of RING_CREATE is valid (R278). -/
def State.createOk (s : State) (l : List Byte) (secure : Bool) : Bool :=
  let id := u16 l 0
  let t := u8 l 2
  let bindOk := match s.ring? (u16 l 16) with
    | some q => decide (q.kind = .reply) && q.secure == secure
    | none => false
  4 ≤ id && id ≤ 8191 && t ≤ 5 && (if t = 0 then 7 else 4) ≤ u8 l 3 && u8 l 3 ≤ 24 && u8 l 4 < 4
    && (if t = 2 then u8 l 5 < 8 else u8 l 5 = 0) && u16 l 6 ≤ 1023 && u64 l 8 % 4096 == 0
    && (if t = 0 then bindOk else u16 l 16 = 0) && zeroBytes l 18 14
    && !(4 ≤ id && id ≤ 15 && t ≠ 3) && !(16 ≤ id && id ≤ 23 && (t ≠ 2 || u8 l 5 ≠ id - 16))
    && !(id = 4 && !secure) && !(id = 5 && secure)
    && (match createPort l with
      | some n => s.secureBlock (.port n) == secure
      | none => true)

def State.commandRings (s : State) : List Ring := s.rings.filter fun r => decide (r.kind = .command)

/-- Lowest k of CMD_BINDk that no command ring holds. -/
def State.freeBind (s : State) : Nat :=
  ((List.range 64).find? fun k => s.commandRings.all fun r => r.slot != k).getD 0

/-- Put a ring at its place by number. -/
def insertRing (r : Ring) : List Ring → List Ring
  | [] => [r]
  | q :: l => if r.id < q.id then r :: q :: l else q :: insertRing r l

def State.createRing (l : List Byte) (secure : Bool) (s : State) : State :=
  match RingType.ofCode (u8 l 2) with
  | none => s
  | some kind =>
    let id := u16 l 0
    let kept := match kind, createPort l with
      | .image, some n => s.ports[n].recordsFor id
      | _, _ => 0
    let r := { Ring.fresh id kind secure with
      base := BitVec.ofNat 64 (u64 l 8), sizeLog2 := u8 l 3, irqEn := (u8 l 4).testBit 0, fence := (u8 l 4).testBit 1
      msix := u16 l 6, bind := u16 l 16, slot := if kind = .command then s.freeBind else 0, port := u8 l 5, recSeq := kept }
    { s with rings := insertRing r s.rings }

def ringCreateSpec : PacketSpec where
  code := 0x0601
  world := eitherWorld
  len p := p.paramLen == 32
  fitted s p := match createPort p.params with
    | some n => s.fittedBlock (.port n)
    | none => true
  check s p secure :=
    let l := p.params
    firstFail [(!s.createOk l secure, badParam 0x606), ((s.ring? (u16 l 0)).isSome, badState 0x607),
      (u8 l 2 = 0 && s.commandRings.length ≥ 64, noResource 0x609)]
  run p secure seq s := (s.createRing p.params secure).finishOk seq 0

def execRingCreate (p : Packet) (s : State) : Host.Outcome State Fault Refusal :=
  .next (s.act p.tick (State.packet ringCreateSpec p))

/-! ### RING_DESTROY (11 R280) -/

/-- An image ring that a port uses or will use. -/
def Port.usesRing (p : Port) (id : Nat) : Bool :=
  (p.sides.any fun d => d.fmt.ring = id) || p.recordsFor id > 0
    || (match p.fmtPending with
      | some f => f.ring == id
      | none => false)
    || (p.fmt.ring == id && decide (p.st ≠ .off))
    || p.provs.any fun j => j.ring = id

/-- A ring is in use (R280). -/
def State.ringInUse (s : State) (r : Ring) : Bool :=
  match r.kind with
  | .command => s.inFlight.any fun f => f.ring = r.id
  | .reply => (s.rings.any fun q => decide (q.kind = .command) && q.bind = r.id) || (s.inFlight.any fun f => f.replyRing = r.id)
      || s.cmd.replies.any fun x => x.ring = r.id
  | .image => (List.finRange 8).any fun n => s.ports[n].usesRing r.id
      || (s.ports[n].fmt.ring == r.id && decide (s.sys.batchState ≠ .none) && (s.imageRegion n).isSome)
  | .measurement => s.madc.q.ring == r.id
  | _ => false

/-- The ring goes; records that waited for it are lost (11 R275). -/
def State.destroyRing (r : Ring) (s : State) : State :=
  let s := { s with rings := s.rings.filter (fun q => q.id != r.id)
                    ldg.mirrorWaiting := s.ldg.mirrorWaiting.filter fun x => x.1 != r.id }
  if r.events.isEmpty then s
  else { s with dma.evtLost := satAdd s.dma.evtLost r.events.length }.setEvt .dma 5

def ringDestroySpec : PacketSpec where
  code := 0x0602
  world := eitherWorld
  len p := p.paramLen == 8
  fitted := alwaysFitted
  check s p secure :=
    let id := u16 p.params 0
    if id < 4 || !zeroBytes p.params 2 6 then badParam 0x606
    else match s.ring? id with
      | none => badState 0x607
      | some r => firstFail [(r.secure != secure, worldDenied 9), (s.ringInUse r, badState 0x608)]
  run p _ seq s :=
    match s.ring? (u16 p.params 0) with
    | some r => (s.destroyRing r).finishOk seq 0
    | none => s

def execRingDestroy (p : Packet) (s : State) : Host.Outcome State Fault Refusal :=
  .next (s.act p.tick (State.packet ringDestroySpec p))

end Sys2Proof.Machine
end

