-- ==== Sys2Proof/Machine/Slices.lean ====
section
/-! DEFINITION. The slices of the video lanes: initial calibration, background calibration, swaps, retirement (03 R56, R57, R61
to R70, R73). -/

namespace Sys2Proof.Machine

def Port.modLane (c : Fin 4) (f : VideoLane → VideoLane) (p : Port) : Port :=
  { p with vid.lanes := p.vid.lanes.set c (f p.vid.lanes[c]) }

/-- VREF_SETTLED. -/
def State.vrefSettled (n : Fin 8) (s : State) : State :=
  if s.ports[n].vid.on then s.modPort n fun p => { p with vid.settled := true } else s

def execVrefSettled (t : Nat) (n : Fin 8) (s : State) : Host.Outcome State Fault Refusal := .next (s.act t (State.vrefSettled n))

/-- Good slices of a lane: those not retired. -/
def VideoLane.good (l : VideoLane) : List (Fin 9) := (List.finRange 9).filter fun k => !l.slices[k].retired

/-- What R66 says besides: an event record whatever the enables, and LANE_DEGRADED. The record's data name the lane, the
slice and the residuals (log entry 39). -/
def State.laneDegraded (n : Fin 8) (c : Fin 4) (slice : Nat) (res : SliceResult) (s : State) : State :=
  (s.event (.port n) 0 0 (data := leBytes 1 c.val ++ leBytes 1 slice ++ leInt 2 res.offset ++ leInt 2 res.gain
    ++ leInt 2 res.instant ++ leBytes 2 res.convTicks)).fire (.port n) 7

/-- A lane has fewer than eight good slices (R69): sides on the port go on with zeros for its colour and are reported;
what waits for the lanes ends. -/
def State.laneFails (n : Fin 8) (c : Fin 4) (s : State) : State :=
  let s := s.modPort n fun p => p.modLane c fun l => { l with fail := true, order := l.order.filter fun k => !l.slices[k].retired }
  let open_ := !s.ports[n].sides.isEmpty
  let s := s.modPort n fun p => { p with sides := p.sides.map fun d => { d.rejected 4 with laneFail := true, lineLoss := true } }
  let s := s.when open_ fun s => (s.portFlag n 1).fire (.port n) 5
  let q := s.ports[n].waits.arm
  let s := (s.modPort n fun p => { p with waits.arm := [] }).finishAll q 0x0103 0x020D 0
  let s := match s.portRun n with
    | some r => if r.stage = CalStage.vidReady then s.calEnd r 0x0103 0x0518 0 else s
    | none => s
  s.laneIdle n

/-- Limits of Table 3.4 for a measured slice, the conversion time of the plan it was measured under in 1/16 tick (R64), and the
duration of the calibration: 0.02 % is 20 units of 0.001 %, 200 ms are 300,000,000 ticks. -/
def sliceOk (r : SliceResult) (timing ticks : Nat) : Bool :=
  r.offset.natAbs ≤ 4 && r.gain.natAbs ≤ 20 && r.instant.natAbs ≤ 10 && r.convTicks ≤ 120 && timing ≤ 16 * 120
    && ticks ≤ 300000000

/-- The slice timing of the plan in force for a lane, in 1/16 tick (R62, 13 Table 13.10). -/
def State.sliceTiming (s : State) (n : Fin 8) (c : Fin 4) : Nat :=
  ((s.planOf).map fun p => p.2.slices.getD (4 * n.val + c.val) 0).getD 0

/-- `PORTn_VIDc_RESID`. -/
def residWord (slice : Nat) (r : SliceResult) : Word :=
  packWord [((r.offset % 256).toNat, 0), ((r.gain % 256).toNat, 8), ((r.instant % 256).toNat, 16), (slice, 24)]

/-- A slice has been measured. A calibration that fails its limits is completed all the same, so `CALCYC` counts it and `RESID`
shows it; the 2 s of R68 count from the last one that passed (DESIGN CHOICE, log entry 114). -/
def VideoLane.measured (l : VideoLane) (k : Fin 9) (r : SliceResult) : VideoLane :=
  { l with calCycles := l.calCycles + 1, resid := residWord k.val r }

/-- What the initial calibration finds of a slice: its first measurement and, used only if that breaks a limit, the one that
R65 repeats at once. A slice of which nothing was measured fails. -/
def initialResult (res : List (SliceResult × SliceResult)) (c : Fin 4) (k : Fin 9) : SliceResult × SliceResult :=
  let bad : SliceResult := { offset := 5, gain := 0, instant := 0, convTicks := 0, coeff := [] };
  res.getD (9 * c.val + k.val) (bad, bad)

/-- The measurement that decides, by the limits that hold at power-up (R57, Table 3.4), and whether the slice passes. R56
bounds the duration of the whole. -/
def initialOutcome (x : SliceResult × SliceResult) (timing : Nat) : SliceResult × Bool :=
  if sliceOk x.1 timing 0 then (x.1, true) else (x.2, sliceOk x.2 timing 0)

/-- A lane after the initial calibration of its nine slices in turn: retired slices take no part, the first eight good ones are
active. -/
def VideoLane.started (l : VideoLane) (now timing : Nat) (x : Fin 9 → SliceResult × SliceResult) : VideoLane :=
  let out (k : Fin 9) := initialOutcome (x k) timing
  let ok := (List.finRange 9).filter fun k => (out k).2
  let slice (k : Fin 9) : Slice :=
    { retired := !(out k).2, calTick := now, calDone := true, timing, coeff := (out k).1.coeff, newCoeff := none }
  let again := ((List.finRange 9).filter fun k => !sliceOk (x k).1 timing 0).length
  { l with slices := Vector.ofFn slice, order := ok.take 8, spare := ok[8]?, noSpare := ok.length == 8, fail := false, up := true
           calCycles := l.calCycles + BitVec.ofNat 32 (9 + again), resid := residWord 8 (out 8).1
           calSlice := none, retry := false, steps := 0, swapReady := false, overdue := false }

/-- A powered lane whose initial calibration is still to come. -/
def Port.laneDown (p : Port) (c : Fin 4) : Bool := p.laneOn c && !p.vid.lanes[c].up

/-- The outcome of a lane's initial calibration (R65, R66, R69). -/
def State.laneStarted (n : Fin 8) (res : List (SliceResult × SliceResult)) (c : Fin 4) (s : State) : State :=
  let timing := s.sliceTiming n c
  let out (k : Fin 9) := initialOutcome (initialResult res c k) timing
  let s := s.modPort n fun p => p.modLane c fun l => l.started s.ticks timing (initialResult res c)
  match (List.finRange 9).filter fun k => !(out k).2 with
  | [] => s
  | [k] => s.laneDegraded n c k.val (out k).1
  | _ => s.laneFails n c

/-- VID_READY: the initial calibration ends; entry 9c + k is slice k of lane c. -/
def State.vidReady (n : Fin 8) (res : List (SliceResult × SliceResult)) (s : State) : State :=
  let todo := (List.finRange 4).filter s.ports[n].laneDown
  if !s.ports[n].vid.settled || todo.isEmpty then s
  else
    let s := s.each todo (State.laneStarted n res)
    if s.ports[n].laneFailed then s
    else
      let s := s.modPort n fun p => { p with vid.ready := true }
      (s.when (!s.ports[n].waits.arm.isEmpty) fun s => s.armNow n).calResume n

def execVidReady (t : Nat) (n : Fin 8) (res : List (SliceResult × SliceResult)) (s : State) : Host.Outcome State Fault Refusal :=
  .next (s.act t (State.vidReady n res))

/-- SLICE_CAL_START: the spare is calibrated, under the slice timing of the plan in force (R62, R64). -/
def State.sliceStart (n : Fin 8) (c : Fin 4) (s : State) : State :=
  let p := s.ports[n]
  let l := p.vid.lanes[c]
  if p.laneOn c && l.up && !l.fail && l.calSlice.isNone && !l.swapReady && l.spare.isSome then
    s.modPort n fun p => p.modLane c fun l =>
      { l with calSlice := l.spare, calStart := s.ticks, calTiming := s.sliceTiming n c, retry := false }
  else s

def execSliceCalStart (t : Nat) (n : Fin 8) (c : Fin 4) (s : State) : Host.Outcome State Fault Refusal :=
  .next (s.act t (State.sliceStart n c))

def VideoLane.setSlice (l : VideoLane) (k : Fin 9) (x : Slice) : VideoLane := { l with slices := l.slices.set k x }

/-- `cal_overdue` of a lane: a good slice older than 2 s (R68). -/
def VideoLane.isOverdue (l : VideoLane) (now : Nat) : Bool := l.good.any fun k => l.slices[k].calTick + 3000000000 < now

/-- `cal_overdue` clears when every good slice is within 2 s again. -/
def VideoLane.recheck (l : VideoLane) (now : Nat) : VideoLane := { l with overdue := l.overdue && l.isOverdue now }

/-- A slice passes at a tick. Its new coefficients wait for the boundary at which they come into use (R63, R67). -/
def VideoLane.passed (l : VideoLane) (k : Fin 9) (now : Nat) (coeff : List Int) : VideoLane :=
  let l := l.setSlice k
    { retired := false, calTick := now, calDone := true, timing := l.calTiming, coeff := l.slices[k].coeff, newCoeff := some coeff };
  ({ l with calSlice := none, retry := false, steps := 0 } : VideoLane).recheck now

/-- A slice is retired (R65). -/
def VideoLane.retired (l : VideoLane) (k : Fin 9) (now : Nat) : VideoLane :=
  ({ l.setSlice k { l.slices[k] with retired := true } with calSlice := none, retry := false } : VideoLane).recheck now

/-- SLICE_CAL_DONE: the spare passes and waits for its swap, is calibrated once more, or is retired (R63, R65, R66). -/
def State.sliceDone (n : Fin 8) (c : Fin 4) (r : SliceResult) (s : State) : State :=
  let l := s.ports[n].vid.lanes[c]
  match l.calSlice, l.spare with
  | some k, some sp =>
    if k ≠ sp then s
    else
      let s := s.modPort n fun p => p.modLane c fun l => l.measured k r
      if sliceOk r l.calTiming (s.ticks - l.calStart) then
        s.modPort n fun p => p.modLane c fun l => { l.passed k s.ticks r.coeff with swapReady := true }
      else if !l.retry then
        s.modPort n fun p => p.modLane c fun l => { l with retry := true, calStart := s.ticks, calTiming := s.sliceTiming n c }
      else
        let s := s.modPort n fun p => p.modLane c fun l => { l.retired k s.ticks with spare := none, noSpare := true }
        s.laneDegraded n c k.val r
  | _, _ => s

def execSliceCalDone (t : Nat) (n : Fin 8) (c : Fin 4) (res : SliceResult) (s : State) : Host.Outcome State Fault Refusal :=
  .next (s.act t (State.sliceDone n c res))

/-- The active slice with the oldest calibration, the lowest position on a tie. -/
def VideoLane.oldest (l : VideoLane) : Option (Fin 9) :=
  let low := l.order.foldl (fun m k => min m l.slices[k].calTick) (l.order.foldl (fun m k => max m l.slices[k].calTick) 0)
  l.order.find? fun k => l.slices[k].calTick = low

/-- The lanes read out no line: none is in progress, and the flush periods of the last have passed (R63, Table 3.3 step 6). -/
def State.lanesIdle (s : State) (n : Fin 8) : Bool := s.ports[n].line.isNone && s.ports[n].pxEnd ≤ s.ticks

/-- SLICE_SWAP: at a line boundary, or at once with no line read out; the coefficients of the slice that takes the position come
into use (R63). -/
def State.sliceSwap (n : Fin 8) (c : Fin 4) (s : State) : State :=
  let l := s.ports[n].vid.lanes[c]
  if l.swapReady && s.lanesIdle n then
    match l.spare, l.oldest with
    | some sp, some old => s.modPort n fun p => p.modLane c fun l =>
        { l.setSlice sp l.slices[sp].settled with
          order := l.order.map fun k => if k = old then sp else k
          spare := some old, swapReady := false }
    | _, _ => s
  else s

def execSliceSwap (t : Nat) (n : Fin 8) (c : Fin 4) (s : State) : Host.Outcome State Fault Refusal :=
  .next (s.act t (State.sliceSwap n c))

/-- The lane may take a step: it has read out no line for the 2 us of the step, 3,000 ticks, and no other step ran in them; a
line in progress has not begun its readout (R67). -/
def State.stepFree (s : State) (n : Fin 8) (l : VideoLane) : Bool :=
  let p := s.ports[n]
  max p.pxEnd l.stepTick + 3000 ≤ s.ticks && match p.line with
    | none => true
    | some r => s.ticks ≤ r.start + p.cfg.block.rdStart

/-- SLICE_CAL_STEP: a lane without a spare measures its active slices in turn, 2,048 steps to a slice (R67). The duration that
Table 3.4 limits is that of the 2,048 steps; the lines between them are none of it. -/
def State.sliceStep (n : Fin 8) (c : Fin 4) (r : SliceResult) (s : State) : State :=
  let p := s.ports[n]
  let l := p.vid.lanes[c]
  if !l.noSpare || l.fail || !p.laneOn c || !s.stepFree n l then s
  else
    match (match l.calSlice with
      | some k => some k
      | none => l.oldest) with
    | none => s
    | some k =>
      let timing := if l.steps = 0 then s.sliceTiming n c else l.calTiming
      let s := s.modPort n fun p => p.modLane c fun l => { l with calSlice := some k, calTiming := timing, stepTick := s.ticks }
      if l.steps + 1 < 2048 then s.modPort n fun p => p.modLane c fun l => { l with steps := l.steps + 1 }
      else
        let s := s.modPort n fun p => p.modLane c fun l => { l.measured k r with steps := 0 }
        if sliceOk r timing (2048 * 3000) then
          s.modPort n fun p => p.modLane c fun l =>
            let l := l.passed k s.ticks r.coeff;
            if p.line.isNone then l.settleCoeffs else l
        else if !l.retry then s.modPort n fun p => p.modLane c fun l => { l with retry := true }
        else
          let s := s.modPort n fun p => p.modLane c fun l => l.retired k s.ticks
          s.laneFails n c

def execSliceCalStep (t : Nat) (n : Fin 8) (c : Fin 4) (res : SliceResult) (s : State) : Host.Outcome State Fault Refusal :=
  .next (s.act t (State.sliceStep n c res))

/-- CAL_OVERDUE (R68). -/
def State.calOverdue (n : Fin 8) (c : Fin 4) (s : State) : State :=
  let p := s.ports[n]
  if p.laneOn c && p.vid.lanes[c].up && p.vid.lanes[c].isOverdue s.ticks then
    s.modPort n fun p => p.modLane c fun l => { l with overdue := true }
  else s

def execCalOverdue (t : Nat) (n : Fin 8) (c : Fin 4) (s : State) : Host.Outcome State Fault Refusal :=
  .next (s.act t (State.calOverdue n c))

end Sys2Proof.Machine
end

