-- ==== Sys2Proof/Machine/VideoCmds.lean ====
section
/-! DEFINITION. Alignment and output format (04 R87 to R93, 11 R271), the port snapshot (02 R51), records that
take effect at a boundary (03 R55, 09 R210), the shading store (04 R79, R84), live capacity (04 R75). -/

namespace Sys2Proof.Machine

/-! ### The delay store (04 R88, 11 R271) -/

/-- Stores of other ports in a region. -/
def State.othersIn (s : State) (n : Fin 8) (r : Nat) : List DelayStore :=
  (List.finRange 8).filterMap fun m => if m = n then none else (s.cel.delays[m]).filter fun d => decide (d.region = r)

/-- The lowest place for a store in a region: at its start or behind another store. -/
def State.placeIn (s : State) (n : Fin 8) (r : Fin 64) (units : Nat) : Option DelayStore :=
  let others := s.othersIn n r.val
  let total := s.cel.regions[r].size * 512
  let fits (f : Nat) : Bool := f + units ≤ total && others.all fun d => f + units ≤ d.first || d.first + d.units ≤ f
  let starts := (0 :: others.map fun d => d.first + d.units).filter fits
  match starts with
  | [] => none
  | x :: l => some { region := r.val, first := l.foldl min x, units }

/-- A place for a port's delay store: none needed, or the first DELAY region of its world that has room. -/
def State.delayPlace (s : State) (n : Fin 8) (bytes : Nat) : Option (Option DelayStore) :=
  if bytes = 0 then some none
  else
    let l := (List.finRange 64).filterMap fun r =>
      if s.cel.regions[r].purpose = .delay && s.cel.regions[r].inEffect
          && s.cel.regions[r].secure == s.secureBlock (.port n) then s.placeIn n r ((bytes + 2097151) / 2097152)
      else none
    match l with
    | [] => none
    | x :: _ => some (some x)

/-! ### ALIGN_SET (04 R90, R91) -/

/-- The alignment that an ALIGN_SET asks for; none without a matching record. -/
def State.alignAsked (s : State) (n : Fin 8) (l : List Byte) : Option Align :=
  if u8 l 1 = 0 then (s.alignMatches n).map fun r => Align.ofRecord r.1 r.2
  else some { fromRecord := false, delays := (List.range 4).map fun c => u8 l (8 + c)
              phases := (List.range 4).map fun c => u8 l (12 + c), gen := 0 }

/-- R89: a phase needs an output of its slot's shutter. -/
def PortCfg.phasesOk (c : PortCfg) (a : Align) : Bool :=
  (List.range 4).all fun k => a.phases.getD k 0 = 0 || c.pgShut.contains (k + 1)

/-- An alignment takes effect, and the samples held are discarded; its command is answered. One taken from the record follows
the record as it is now, and a changed record takes effect while the port follows its record (R91). Without a matching record, with a phase that breaks R89 or without a store, the alignment in
force is kept (R88). -/
def State.alignTake (n : Fin 8) (q : AlignPending) (s : State) : State :=
  let want := if q.seq.isNone && !s.ports[n].followsAlign then none
    else if q.align.fromRecord then (s.alignMatches n).map fun r => Align.ofRecord r.1 r.2 else some q.align
  match want with
  | none => s.finishAll q.seq.toList 0x0103 0x020A 0
  | some a =>
    if !s.ports[n].cfg.phasesOk a then s.finishAll q.seq.toList 0x0101 0x020E 0
    else match s.delayPlace n (s.ports[n].delayBytes a) with
      | none => s.finishAll q.seq.toList 0x0106 0x0214 0
      | some d =>
        let s := s.modPort n fun p => { p with align := a, caps := [] }
        State.finishAll q.seq.toList 0 0 0 { s with cel.delays := s.cel.delays.set n d }

/-- The alignments that wait take effect, oldest first. -/
def State.alignNow (n : Fin 8) (s : State) : State :=
  (s.modPort n fun p => { p with alignPending := [] }).each s.ports[n].alignPending (State.alignTake n)

/-- ALIGN_EFFECT: at once in IDLE, at a line boundary with no side latched or open in SCAN (04 R78). -/
def State.alignEffect (n : Fin 8) (s : State) : State :=
  let p := s.ports[n]
  if p.noSide && (p.st = .idle || (p.st = .scan && p.line.isNone)) then s.alignNow n else s

def execAlignEffect (t : Nat) (n : Fin 8) (s : State) : Host.Outcome State Fault Refusal := .next (s.act t (State.alignEffect n))

/-- ALIGN_SET (R90). A `source` above 1 and reserved bytes that are not zero are refused with detail 0x20F (DESIGN CHOICE, log
entry 162). -/
def alignSetSpec : PacketSpec where
  code := 0x0206
  world := portWorld
  len p := p.paramLen == 16
  fitted := portFitted
  check s p _ :=
    match portAt p 0 with
    | none => badParam 0x20F
    | some n =>
      let l := p.params
      let q := s.ports[n]
      let stray := (List.range 4).any fun c =>
        (u8 l 1 = 0 || q.cfg.colourCount ≤ c) && (u8 l (8 + c) != 0 || u8 l (12 + c) != 0)
      match firstFail [(!zeroBytes l 2 6, badParam 0x20F), (u8 l 1 > 1 || stray, badParam 0x20F),
        (!(q.st = .idle || q.st = .scan), badState 0)] with
      | some j => some j
      | none =>
        match s.alignAsked n l with
        | none => badState 0x20A
        | some a => firstFail [(!q.cfg.phasesOk a, badParam 0x20E), ((s.delayPlace n (q.delayBytes a)).isNone, noResource 0x214)]
  run p _ seq s :=
    match portAt p 0 with
    | none => s
    | some n =>
      match s.alignAsked n p.params with
      | none => s
      | some a =>
        (s.modPort n fun q => { q with alignPending := q.alignPending ++ [{ align := a, seq := some seq }] }).alignEffect n

def execAlignSet (p : Packet) (s : State) : Host.Outcome State Fault Refusal := .next (s.act p.tick (State.packet alignSetSpec p))

/-! ### OUTPUT_FORMAT (04 R93) -/

def OutFmt.parse (n : Fin 8) (l : List Byte) : OutFmt :=
  { bits := u8 l 1, interleaved := u8 l 2 == 1, packed := u8 l 3 == 1, slotMask := u8 l 4, linesPerStrip := u16 l 6
    ring := if u16 l 8 = 0 then 16 + n.val else u16 l 8 }

/-- Slots of the largest STRIP record of a format. -/
def OutFmt.stripSlots (f : OutFmt) (width : Nat) : Nat := (48 + f.linesPerStrip * f.lineBytes width + 63) / 64

/-- The image ring that a format names can be used by a port. -/
def State.fmtRingOk (s : State) (n : Fin 8) (f : OutFmt) : Bool :=
  match s.ring? f.ring with
  | none => false
  | some q =>
    decide (q.kind = .image) && q.secure == s.secureBlock (.port n) && q.port == n.val
      && 2 * f.stripSlots s.ports[n].cfg.width ≤ q.size

def outputFormatSpec : PacketSpec where
  code := 0x0207
  world := portWorld
  len p := p.paramLen == 16
  fitted := portFitted
  check s p _ :=
    match portAt p 0 with
    | none => badParam 0x211
    | some n =>
      let l := p.params
      let q := s.ports[n]
      let f := OutFmt.parse n l
      firstFail [(!zeroBytes l 5 1 || !zeroBytes l 10 6, badParam 0x211),
        (!([8, 10, 12, 16].contains f.bits) || u8 l 2 > 1 || u8 l 3 > 1 || f.slotMask == 0
          || f.slotMask &&& q.cfg.slotMask != f.slotMask || f.linesPerStrip < 1 || f.linesPerStrip > 256
          || (u16 l 8 != 0 && (u16 l 8 < 24 || u16 l 8 > 8191)), badParam 0x211),
        (!(q.st = .idle || q.st = .scan || q.st = .hold), badState 0), (!s.fmtRingOk n f, badParam 0x212)]
  run p _ seq s :=
    match portAt p 0 with
    | none => s
    | some n => (s.modPort n fun q => { q with fmtPending := some (OutFmt.parse n p.params) }).finishOk seq 0

def execOutputFormat (p : Packet) (s : State) : Host.Outcome State Fault Refusal :=
  .next (s.act p.tick (State.packet outputFormatSpec p))

/-! ### PORTn_SNAP (02 R51) -/

def State.portSnap (n : Fin 8) (value : BitVec 32) (s : State) : State :=
  if !value.getLsbD 0 then s
  else
    let p := s.ports[n]
    let x := p.grid.pos p.grid.next
    let e := s.encs[p.cfg.encoder]
    s.modPort n fun p => { p with snap := { nextFrac := wordInt x, nextInt := wordInt (x / 2 ^ 32), enc := wordInt e.pos
                                            time := word s.ns, tEst := word e.tEst } }

def execPortnSnap (t : Nat) (pf : PF) (n : Fin 8) (value : BitVec 32) (s : State) : Host.Outcome State Fault Refusal :=
  .next (s.act t (State.accessTo pf (.port n) (State.portSnap n value)))

/-! ### Records that take effect at a boundary (03 R55, 09 R210) -/

/-- VIDEO_EFFECT: codes change together where no line runs and no side is latched or open; the next gap line is excluded. -/
def State.videoEffect (n : Fin 8) (s : State) : State :=
  let p := s.ports[n]
  if (List.finRange 4).any (fun c => p.vid.lanes[c].changed) && p.line.isNone && p.noSide && p.st ≠ .cal then
    (s.applyVideo n).modPort n fun p => { p with shade.excludeNext := true }
  else s

def execVideoEffect (t : Nat) (n : Fin 8) (s : State) : Host.Outcome State Fault Refusal := .next (s.act t (State.videoEffect n))

/-- TIME_EFFECT: the pattern table of the port and those of its lanes (09 Table 9.9). -/
def State.timeEffect (n : Fin 8) (s : State) : State :=
  let p := s.ports[n]
  if p.timePending && p.line.isNone && p.noSide then
    match s.timeOf with
    | none => s
    | some (h, tabs) => s.modPort n fun p =>
        { p with timePending := false, timeGen := BitVec.ofNat 32 h.gen
                 timeTables := (tabs.getD n.val []) :: (List.range 4).map fun c => tabs.getD (8 + 4 * n.val + c) [] }
  else s

def execTimeEffect (t : Nat) (n : Fin 8) (s : State) : Host.Outcome State Fault Refusal := .next (s.act t (State.timeEffect n))

/-! ### The shading store (04 R79, R84) -/

/-- The SHADE record of a port that matches its colour set and width. -/
def State.shadeMatch (s : State) (n : Fin 8) : Option (TrigHead × ShadeBody) :=
  if s.shadeMatches n s.ports[n].cfg.colours s.ports[n].cfg.width then s.shadeOf n else none

/-- SHADE_LOAD: the record's tables, its gains, no drift, a new count of passes; without a record that matches, the values of
R80. The sides that waited for the load open. -/
def State.shadeLoad (n : Fin 8) (s : State) : State :=
  let p := s.ports[n]
  if p.shade.loadPending && (p.noSide || p.shade.loading) then
    let store : Shading := match s.shadeMatch n with
      | none => p.shade.dropped false
      | some (h, b) => { Shading.none with
          gen := BitVec.ofNat 32 h.gen, dark := b.dark, gain := b.gain, grec := b.gain, bref := b.bref
          block := some (RefreshBlock.parse b.blockBytes), excludeNext := p.shade.excludeNext };
    ((s.modPort n fun p => { p with shade := store }).openDue n).drainPort n
  else s

def execShadeLoad (t : Nat) (n : Fin 8) (s : State) : Host.Outcome State Fault Refusal := .next (s.act t (State.shadeLoad n))

/-- Gains after a segment: entries [lo, hi) of the slots laid end to end come from the new gains. -/
def mergeSegment (width lo hi : Nat) (slots : List Nat) (old new : List (List Nat)) : List (List Nat) :=
  slots.map fun c => (List.range width).map fun p =>
    let i := c * width + p
    if lo ≤ i && i < hi then storeAt new c p 0x4000 else storeAt old c p 0x4000

/-- REFRESH_SEGMENT: 1,024 gains in slot order; the last segment completes the pass. -/
def State.refreshSegment (n : Fin 8) (s : State) : State :=
  let p := s.ports[n]
  match p.shade.newGain with
  | none => s
  | some g =>
    if !p.noSide then s
    else
      let lo := 1024 * p.shade.segNext
      let gain := mergeSegment p.cfg.width lo (lo + 1024) p.cfg.slots p.shade.gain g
      let s := s.modPort n fun p => { p with shade.gain := gain, shade.segNext := p.shade.segNext + 1, shade.segWritten := true }
      if lo + 1024 < p.cfg.samples then s
      else s.modPort n fun p =>
        { p with shade.newGain := none, shade.segNext := 0, shade.epoch := p.shade.epoch + 1
                 shade.clamped := word p.shade.newClamped, shade.sidesSince := 0 }

def execRefreshSegment (t : Nat) (n : Fin 8) (s : State) : Host.Outcome State Fault Refusal :=
  .next (s.act t (State.refreshSegment n))

/-! ### Live capacity (04 R75) -/

/-- PIPE_CAP_UPDATE: the mean of the loop rates of the last 100 us, times the port's factor. The loop of a port in OFF does
not cycle. -/
def State.pipeCap (n : Fin 8) (rate : Nat) (s : State) : State :=
  s.modPort n fun p =>
    let h := (s.ticks, if p.st = .off then 0 else rate) :: p.cnt.capHistory.filter fun x => s.ticks < x.1 + 150000
    let mean : Rat := mkRat ((h.foldl (fun m x => m + x.2) 0 : Nat) : Int) h.length;
    { p with cnt.capHistory := h, cnt.pipeCap := sat32 (mean * Config.pipeFactor n.val).floor.toNat }

def execPipeCapUpdate (t : Nat) (n : Fin 8) (rate : Nat) (s : State) : Host.Outcome State Fault Refusal :=
  .next (s.act t (State.pipeCap n rate))

end Sys2Proof.Machine
end

