-- ==== Sys2Proof/Machine/PaceCmds.lean ====
section
/-! DEFINITION. The pace governor: its update, PACE_CONFIG, PACE_QUERY, SEAM_POLICY (05 R103 to R132), and encoder edges
(06 R136 to R138). -/

namespace Sys2Proof.Machine

/-! ### Encoder edges (06 R137, R138) -/

/-- `ENCn_TPC`: the greater of t_est and the ticks since the last edge, 24.8. -/
def Encoder.tpc (x : Encoder) (now : Nat) : Nat :=
  max x.tEst (min (match x.lastEdge with
    | some t => (now - t) * 256
    | none => 0xFFFFFFFF) 0xFFFFFFFF)

/-- `ENCn_VEL`: counts/s with the sign of the direction; zero while `ENCn_TPC` is saturated, as at reset (Table 6.15). -/
def Encoder.vel (x : Encoder) (now : Nat) : Int :=
  let v := if x.tpc now = 0xFFFFFFFF then 0 else 384000000000 / max (x.tpc now) 1;
  if x.backward then -(v : Int) else v

/-- The estimate over the edges counted in the present direction, rounded down (log entry 40). -/
def Encoder.estimate (n : Nat) (stamps : List Nat) : Nat :=
  let k := min n (stamps.length - 1)
  if k = 0 then 0xFFFFFFFF else min (256 * (stamps.headD 0 - stamps.getD k 0) / k) 0xFFFFFFFF

/-- One count. -/
def Encoder.count (x : Encoder) (t : Nat) (up : Bool) : Encoder :=
  let pos := if up then x.pos + 1 else x.pos - 1
  let turned := x.lastEdge.isSome && x.backward == up
  let stamps := t :: (if turned then x.stamps.take 1 else x.stamps).take 16
  { x with pos, stamps, tEst := Encoder.estimate x.estEdges stamps, backward := !up, lastEdge := some t, still := false
           log := ((t, pos) :: x.log).take 64 }

/-- Every open side of a group closes at its seam or at the present line, and the group waits (Table 5.6; 16 R383). A
configuration that was accepted before still takes effect at the next update (R130), and does not end the WAIT. -/
def State.groupLost (g : Fin 4) (s : State) : State :=
  let seams := ((s.pace.groups[g].sb).map fun b => b.seams).getD []
  let s := s.endHold g
  let s := s.each seams fun m s =>
    match m.k, s.sideOf m.port m.doc with
    | some k, some d => s.modPort m.port fun p => { p with caps := p.caps.filter fun c => (c.k : Int) ≤ d.lineOf k }
    | _, _ => s
  let s := s.modGroup g fun x =>
    { x with nextOld := x.next.isSome, sb := none, gapStop := false, wait := true, ignoreEdges := false }
  let s := s.each (s.groupPorts g) fun n s =>
    (s.closeAll n fun d => { d.rejected 1 with lineLoss := true }).modPort n fun p =>
      { p with st := if p.st = .hold then .scan else p.st }
  s.sendGate

/-- An encoder fault (R138). -/
def State.encoderFault (e : Fin 8) (bit : Nat) (s : State) : State :=
  let s := (s.modEnc e fun x => { x with posInvalid := true, illegalCnt := satInc x.illegalCnt, evt := setBit x.evt bit }).fire (.enc e) 2
  let s := s.each (List.finRange 8) fun n s =>
    if s.ports[n].cfg.encoder = e then s.modPort n fun p => { p with grid.sched := [] } else s
  let s := s.encoderLost e
  match s.groupOfEnc e with
  | some g => ((s.groupLost g).stopGroup g).sendGate
  | none => s

/-- The master passes Pmax moving forward: document edges count again (05 R120). The highest position of a switchback is
followed while it stops, after a return to step 1 as well. -/
def State.followPmax (e : Fin 8) (s : State) : State :=
  match s.groupOfEnc e with
  | none => s
  | some g =>
    let down := (s.groupPorts g).any fun n => s.ports[n].cfg.down
    let pos := s.encs[e].pos
    let beyond (m : Int) : Bool := if down then pos < m else m < pos
    s.modGroup g fun x =>
      match x.sb with
      | some b => if b.step = 1 && beyond x.pmax then { x with pmax := pos, ignoreEdges := false }
                  else if 6 ≤ b.step && beyond x.pmax then { x with ignoreEdges := false } else x
      | none => if beyond x.pmax then { x with ignoreEdges := false } else x

/-- ENCODER_EDGE: the count, its stamp and estimate, then what follows it. -/
def State.encoderEdge (e : Fin 8) (up illegal : Bool) (s : State) : State :=
  let x := s.encs[e]
  if !s.fittedBlock (.enc e) then s
  else
    let t := s.ticks
    let fast := match x.lastEdge with
      | some l => t < l + 37
      | none => false
    let dir := up != x.invert
    let s := s.modEnc e fun x => x.count t dir
    let y := s.encs[e]
    let s := s.fireEdge (.enc e) 0 (some { pos := y.pos, up := dir, tick := t, interval := y.tEst })
    let s := s.when illegal fun s => s.encoderFault e 0
    let s := s.when fast fun s => s.encoderFault e 1
    let s := s.followPmax e
    s.each (List.finRange 12) fun a s => if s.axes[a].cfg.enc = some e then s.followCheck a else s

def execEncoderEdge (t : Nat) (e : Fin 8) (up illegal : Bool) (s : State) : Host.Outcome State Fault Refusal :=
  .next (s.act t (State.encoderEdge e up illegal))

/-! ### The control law (05 R105 to R108) -/

/-- The target of a group with what limits it: cap, target, `PACE_Gg_LIMIT` code and port. -/
structure PaceAim where
  cap : Rat
  target : Rat
  limit : Nat
  port : Nat
  deriving DecidableEq, Repr

/-- What one port contributes: its cap with the code of the input that sets it, and its drain law. -/
def State.portLimits (s : State) (c : PaceCfg) (n : Fin 8) : Rat × Nat × Rat :=
  let p := s.ports[n]
  let q := s.pace.ports[n]
  let spl : Rat := max p.cfg.samples 1
  let pitch : Rat := mkRat p.cfg.pitch (2 ^ 32)
  let live : Rat := mkRat 31 32 * (min p.cnt.pipeCap.toNat p.cnt.pipeCeil.toNat : Nat) * 1000000 / spl
  let m := s.minPeriod n
  let per : Rat := if m = 0 then live else 1500000000 / (m : Rat)
  let (lr, code) : Rat × Nat := if per < live then (per, 2) else (live, 1)
  let v := lr * pitch
  let (v, code) : Rat × Nat := if q.ovrUntil.isSome && (q.ovrCap : Rat) < v then ((q.ovrCap : Rat), 3) else (v, code)
  let w : Rat := (q.drain : Rat) - ((q.fill : Rat) - ((c.level n).2.1 : Nat)) / mkRat c.tauMs 1000
  let law := (if w < 0 then 0 else w) / (max p.bpl 1 : Nat) * pitch
  (v, code, law)

/-- The ports that the law reads: those in SCAN or HOLD. -/
def State.lawPorts (s : State) (c : PaceCfg) : List (Fin 8) :=
  c.ports.filter fun n => decide (s.ports[n].st = .scan) || decide (s.ports[n].st = .hold)

/-- `stop_request`: steps 1 to 5 of a switchback, a gap stop, WAIT, and while R104 asks for zero. -/
def State.stopAsked (s : State) (g : Fin 4) : Bool :=
  let x := s.pace.groups[g]
  x.wait || x.gapStop || !s.groupRuns || match x.sb with
    | some b => b.step ≤ 5
    | none => false

/-- The law of R106, with the floor that RESERVE asks of a transport that cannot stop (Table 5.2). -/
def State.aim (s : State) (g : Fin 4) (c : PaceCfg) : PaceAim :=
  let vm : Rat := c.vMax
  let (cap, ccode, cport, law, lport) := (s.lawPorts c).foldl
    (fun (a : Rat × Nat × Nat × Rat × Nat) n =>
      let (cap, cc, cp, law, lp) := a
      let (v, code, l) := s.portLimits c n
      let (cap, cc, cp) : Rat × Nat × Nat := if v < cap then (v, code, n.val) else (cap, cc, cp)
      let (law, lp) : Rat × Nat := if l < law then (l, n.val) else (law, lp)
      (cap, cc, cp, law, lp)) (vm, 0, 0, vm, 0)
  let breach := !c.stoppable && c.ports.any fun n => 3 ≤ s.pace.ports[n].level
  let law : Rat := if breach then 0 else law
  let floor : Rat := c.vFloor
  let wish := if law < floor then floor else law
  if s.stopAsked g then { cap, target := 0, limit := 6, port := 0 }
  else if cap ≤ wish then { cap, target := cap, limit := ccode, port := cport }
  else if law < floor then { cap, target := floor, limit := 5, port := lport }
  else { cap, target := law, limit := 4, port := lport }

/-! ### The update (05 R105 to R116) -/

/-- Step 5 of a switchback moves the master by itself. -/
def PaceGroup.movingBack (x : PaceGroup) : Bool :=
  match x.sb with
  | some b => b.step == 5
  | none => false

/-- The inputs of a port as an update samples them (R105). -/
def State.sampleInputs (c : PaceCfg) (n : Fin 8) (s : State) : State :=
  let fill := s.ports[n].fill
  s.modPace n fun q =>
    { q with fill, drain := s.drainOf n c.windowMs, level := levelOf fill (c.level n), fillMax := max q.fillMax fill }

/-- A sample with what the level brings. On a stoppable transport RESERVE stops the running group for as long as a port is at
it (R110, R116), but at step 5 (Table 5.6). A gap stop that is under way absorbs it: its standstill decides how it goes on. -/
def State.samplePort (g : Fin 4) (c : PaceCfg) (n : Fin 8) (s : State) : State :=
  let old := s.pace.ports[n].level
  let s := s.sampleInputs c n
  let lev := s.pace.ports[n].level
  let s := s.when (old < 4 && lev = 4) fun s => (s.setEvt .pace (24 + n.val)).fire .pace (16 + n.val)
  let s := s.when (!c.stoppable && old < 3 && 3 ≤ lev) fun s => s.setEvt .pace (20 + g.val)
  if c.stoppable && 3 ≤ lev && s.groupRuns && !s.pace.groups[g].wait && !s.pace.groups[g].movingBack then
    if s.pace.groups[g].gapStop then s
    else if s.pace.groups[g].sb.isSome || c.ports.any fun n => s.ports[n].docOpen then s.switchback g 1 none
    else (s.modGroup g fun x => { x with gapStop := true, gapCnt := satInc x.gapCnt }).stopGroup g
  else s

/-- Overrun caps asked for since the last update: 7/8 of the measured velocity (R107). -/
def State.overrunCap (c : PaceCfg) (n : Fin 8) (s : State) : State :=
  if s.pace.ports[n].ovrAsked then
    let v := (s.encs[c.enc].vel s.ticks).natAbs
    let s := s.modPace n fun q => { q with ovrAsked := false, ovrCap := 7 * v / 8, ovrUntil := some (s.ticks + 1500000 * c.holdMs) }
    s.modPort n fun p => { p with sides := p.sides.map fun d => if d.opened then { d with pace.overruns := d.pace.overruns + 1 } else d }
  else s

/-- The pace records of the open sides follow the set-point and the fill (R129). -/
def State.paceRecords (c : PaceCfg) (v : Nat) (stop breach low : Bool) (s : State) : State :=
  s.each c.ports fun n s =>
    let fill := s.pace.ports[n].fill / 2 ^ 20
    s.modPort n fun p => { p with sides := p.sides.map fun d =>
      if !d.opened then d
      else { d with pace := { d.pace with
        vMin := if stop then d.pace.vMin else some (match d.pace.vMin with
          | some m => min m v
          | none => v)
        vMax := max d.pace.vMax v, fillMax := max d.pace.fillMax fill
        flags := d.pace.flags ||| (4 * b2n breach) ||| (8 * b2n low) } } }

/-- The feeder follows the set-point while the gate is open (R113). -/
def State.driveGroup (g : Fin 4) (c : PaceCfg) (target : Rat) (s : State) : State :=
  if s.pace.groups[g].movingBack then s
  else
    let s := s.governAxis g c.master (toPu s.axes[c.master].cfg.ratio target)
    match c.feeder with
    | none => s
    | some f => s.governAxis g f (if s.gateClosed g then 0 else toPu s.axes[f].cfg.ratio target)

/-- The set-point: the velocity of the jerk-limited slew that the governor gives the master, in counts/s. It is never stepped
(R109). While the governor gives the master none, as at step 5 of a switchback and while an axis is not under its control,
it is 0. -/
def State.setPoint (s : State) (g : Fin 4) (c : PaceCfg) : Nat :=
  if s.pace.groups[g].movingBack || !s.governed c.master then 0
  else (fromPu s.axes[c.master].cfg.ratio (s.axes[c.master].kin s.ticks).v).floor.toNat

/-- The set-point counts as a stop, which the pace records leave out: a stop is asked for, a switchback is under way, or the
slew is still below the velocities that R108 allows outside a stop (DEDUCED, log entry 141). -/
def PaceGroup.stopping (x : PaceGroup) (c : PaceCfg) (asked : Bool) : Bool :=
  asked || x.sb.isSome || decide (x.vSet < min c.vFloor x.vCap)

/-- The gate of a group that cannot stop is held from HIGH until every port is below LOW; the plan's limit is taken (R113). -/
def State.holdGate (g : Fin 4) (c : PaceCfg) (s : State) : State :=
  s.modGroup g fun x =>
    { x with gateHeld := !c.stoppable && (x.gateHeld || c.ports.any fun n => 2 ≤ s.pace.ports[n].level) && !s.allBelowLow g
             gapStop := x.gapStop && !s.allBelowLow g, planV := s.planVOf c.ports }

/-- The cap lies below the floor. -/
def State.breaches (s : State) (g : Fin 4) (c : PaceCfg) (a : PaceAim) : Bool := decide (a.cap < c.vFloor) && !s.stopAsked g

/-- What a decision shows of itself: the cap, the port that limits, the breach, and the limit of each port. -/
def State.showAim (g : Fin 4) (c : PaceCfg) (a : PaceAim) (s : State) : State :=
  let s := s.modGroup g fun x =>
    { x with vCap := (max 0 a.cap.floor).toNat, limitPort := a.port, floorBreach := s.breaches g c a }
  s.each c.ports fun n s =>
    let (u, _, law) := s.portLimits c n
    s.modPace n fun q => { q with vLim := (min (min u law).floor.toNat 0xFFFFFFFF) }

/-- One group at an update. -/
def State.updateGroup (g : Fin 4) (dns : Nat) (s : State) : State :=
  match s.paceCfg g with
  | none => s
  | some c =>
    let s := s.each c.ports fun n s => (s.samplePort g c n).overrunCap c n
    let s := s.holdGate g c
    let a := s.aim g c
    let was := s.pace.groups[g]
    let slowed := a.limit = 4
    let breach := s.breaches g c a
    let v := s.setPoint g c
    let s := (s.showAim g c a).modGroup g fun x =>
      { x with vSet := v, limit := a.limit, slowed
               slowNs := x.slowNs + (if slowed then dns else 0) }
    let s := s.when (slowed && !was.slowed) fun s => (s.setEvt .pace g.val).fire .pace (4 + g.val)
    let s := s.when (breach && !was.floorBreach) fun s => (s.setEvt .pace (16 + g.val)).fire .pace (12 + g.val)
    let s := s.paceRecords c v (s.pace.groups[g].stopping c (s.stopAsked g)) breach s.pace.groups[g].marginLow
    ((s.driveGroup g c a.target).gapStopCheck g).sbAdvance g

/-- One group of a second at an update: it decides from its own inputs and the mirrored state and acts on none of it; the
set-point and the limit are those that the lead mirrors (14 R338). -/
def State.followGroup (g : Fin 4) (dns : Nat) (s : State) : State :=
  match s.paceCfg g with
  | none => s
  | some c =>
    let x := s.pace.groups[g]
    let s := (s.each c.ports fun n s => s.sampleInputs c n).holdGate g c
    let s := (s.showAim g c (s.aim g c)).modGroup g fun x => { x with slowed := x.limit == 4, slowNs := x.slowNs + (if x.limit = 4 then dns else 0) }
    s.paceRecords c x.vSet (x.stopping c (x.limit == 6)) x.floorBreach x.marginLow

/-- An overrun of a port that joins or leaves a group is not its governor's. -/
def PacePort.noOverrun (q : PacePort) : PacePort := { q with ovrAsked := false, ovrUntil := none, ovrCap := 0 }

/-- A configuration accepted takes effect (R130), of a group in a switchback or a gap stop once that is over (DESIGN CHOICE,
log entry 69). A feeder of a group that is disabled comes to rest. With the new master encoder in fault the group waits, and it goes
on waiting under a configuration that was accepted before the WAIT began. -/
def State.paceTake (g : Fin 4) (s : State) : State :=
  let x := s.pace.groups[g]
  match x.next with
  | none => s
  | some c =>
    if x.sb.isSome || x.gapStop then s
    else
      let was := s.groupPorts g
      let s := match x.cfg.bind PaceCfg.feeder, c with
        | some f, none => s.governAxis g f 0
        | _, _ => s
      let s := s.modGroup g fun x =>
        { x with cfg := c, next := none, ignoreEdges := false, marginLow := false
                 nextOld := false, wait := c.any fun c => x.wait && x.nextOld || s.encs[c.enc].posInvalid
                 planV := match c with
                   | some c => s.planVOf c.ports
                   | none => 0 }
      s.each ((List.finRange 8).filter fun n => was.contains n != (s.groupPorts g).contains n) fun n s =>
        s.modPace n PacePort.noOverrun

/-- `PACE_Gg_STATE` (Table 5.12). -/
def State.paceStateWord (s : State) (g : Fin 4) : Word :=
  let x := s.pace.groups[g]
  let st := match x.cfg with
    | none => 0
    | some _ =>
      if x.wait then 7 else if x.sb.isSome then 6 else if x.gapStop then 5
      else if !s.groupRuns then 1
      else if s.gateClosed g then 4 else if x.slowed then 3 else 2
  match x.sb with
  | some b => packWord [(st, 0), (b.step, 4), (b.cause, 8), (b.attempts, 12)]
  | none => packWord [(st, 0)]

/-- `PACE_Gg_VMEAS`: the velocity of the master encoder. -/
def State.paceMeas (s : State) (g : Fin 4) : Word :=
  match s.paceCfg g with
  | some c => wordInt (s.encs[c.enc].vel s.ticks)
  | none => 0

def State.paceLimitWord (s : State) (g : Fin 4) : Word := packWord [(s.pace.groups[g].limit, 0), (s.pace.groups[g].limitPort, 4)]

/-- `PACE_Pp_LEVEL`. -/
def State.paceLevelWord (s : State) (n : Fin 8) : Word :=
  packWord [(s.pace.ports[n].level, 0), (match s.groupOfPort n with
    | some g => g.val
    | none => 7, 8)]

/-- The figures of Table 5.10 as they stand at an update. -/
def State.paceBuffer (s : State) (g : Fin 4) : List Byte :=
  let x := s.pace.groups[g]
  leBytes 4 (s.paceStateWord g).toNat ++ leBytes 4 x.vSet ++ leBytes 4 x.vCap ++ leBytes 4 (s.paceMeas g).toNat
    ++ leBytes 4 (s.paceLimitWord g).toNat ++ leBytes 4 x.planV ++ leBytes 8 (s.pace.lastUpdate * 2 / 3) ++ leBytes 32 0
    ++ (List.finRange 8).flatMap fun n =>
      leBytes 4 (s.pace.ports[n].fill / 2 ^ 20) ++ leBytes 4 (s.pace.ports[n].drain / 1000) ++ leBytes 1 (s.paceLevelWord n).toNat
        ++ leBytes 3 0 ++ leInt 4 s.pace.ports[n].seamK

/-- GOVERNOR_UPDATE: every 10 us, 15,000 ticks: configurations take effect, each group is governed, and the figures of
PACE_QUERY are those of this update (R132). A second samples its inputs, acts on none and drives nothing; its configurations
take effect with the lead's pace state (14 R338). -/
def State.governorUpdate (s : State) : State :=
  if s.ticks < s.pace.lastUpdate + 15000 then s
  else
    let dns := (s.ticks - s.pace.lastUpdate) * 2 / 3
    let s := if s.second then s.each allGroups fun g s => s.followGroup g dns
      else (s.each allGroups State.paceTake).each allGroups fun g s => s.updateGroup g dns
    let s := State.sendGate { s with pace.updates := s.pace.updates + 1, pace.lastUpdate := s.ticks }
    s.each allGroups fun g s => s.modGroup g fun x => { x with shot := s.paceBuffer g }

def execGovernorUpdate (t : Nat) (s : State) : Host.Outcome State Fault Refusal := .next (s.act t State.governorUpdate)

/-- OVERRUN_HOLD_END (R107). -/
def State.overrunEnd (n : Fin 8) (s : State) : State :=
  match s.pace.ports[n].ovrUntil with
  | some u => if u ≤ s.ticks then s.modPace n fun q => { q with ovrUntil := none, ovrCap := 0 } else s
  | none => s

def execOverrunHoldEnd (t : Nat) (n : Fin 8) (s : State) : Host.Outcome State Fault Refusal :=
  .next (s.act t (State.overrunEnd n))

/-! ### PACE_CONFIG (05 R103, R109 to R112, R128, R130) -/

def axisNo (n : Nat) : Option (Fin 12) := if h : n < 12 then some ⟨n, h⟩ else none
def groupAt (l : List Byte) : Option (Fin 4) := if h : u8 l 0 < 4 then some ⟨u8 l 0, h⟩ else none

/-- A configuration block with every reference in range. -/
def PaceCfg.parse (l : List Byte) : Option PaceCfg :=
  match axisNo (u8 l 2), encAt (u8 l 3) with
  | some m, some e =>
    some { stoppable := u8 l 1 == 0, master := m, enc := e, feeder := axisNo (u8 l 4), mask := u8 l 5, vMax := u32 l 8
           vFloor := u32 l 12, accel := u32 l 16, jerk := u32 l 20, tauMs := u16 l 24, windowMs := u16 l 26
           holdMs := u16 l 28, feedStop := u32 l 32
           levels := (List.range 8).map fun p =>
             (u32 l (40 + 16 * p), u32 l (44 + 16 * p), u32 l (48 + 16 * p), u32 l (52 + 16 * p)) }
  | _, _ => none

/-- The configuration that a group has or will have at the next update. -/
def PaceGroup.coming (x : PaceGroup) : Option PaceCfg := x.next.getD x.cfg

/-- A port, axis or encoder belongs to one group at most (R103). -/
def State.paceTaken (s : State) (g : Fin 4) (c : PaceCfg) : Bool × Bool :=
  let others := (allGroups.filter (· ≠ g)).filterMap fun h => s.pace.groups[h].coming
  (others.any fun o => o.enc == c.enc || o.mask &&& c.mask != 0,
   others.any fun o =>
     let mine := c.master :: c.feeder.toList
     (o.master :: o.feeder.toList).any fun a => mine.contains a)

/-- An axis that other motion drives: it moves, and not under this group's governor. -/
def State.drivenElsewhere (s : State) (g : Fin 4) (a : Fin 12) : Bool :=
  let x := s.axes[a]
  decide (s.groupOfAxis a ≠ some g) && (x.plan.isSome || decide (x.st = .geared) || decide (x.st = .homing))

/-- Rest of a level requirement: the difference in MiB that would pass, rounded up. -/
def mibUp (b : Nat) : BitVec 32 := BitVec.ofNat 32 ((b + 1048575) / 1048576)

/-- Lines that a stop or the documents in flight need (R112), times bpl. -/
def State.roomNeeded (s : State) (c : PaceCfg) (n : Fin 8) : Nat :=
  let p := s.ports[n]
  let pitch : Rat := mkRat (max p.cfg.pitch 1) (2 ^ 32)
  if c.stoppable then ((c.dStop / pitch).ceil.toNat + 17) * p.bpl
  else (p.cfg.maxLines + ((c.feedStop : Rat) / pitch).ceil.toNat + p.dMaxOf p.align + 17) * p.bpl

/-- Checks of the water levels of one port: order, quota, and the room of R112. -/
def State.levelCheck (s : State) (c : PaceCfg) (n : Fin 8) : Option Reject :=
  let l := c.level n
  let need := s.roomNeeded c n
  let gap := if c.stoppable then l.2.2.2 - l.2.2.1 else l.2.2.1 - l.2.1
  let twin := s.rope.paired && s.quota n < l.2.2.2 + (s.ports[n].cfg.maxLines + s.ports[n].dMaxOf s.ports[n].align + 17) * s.ports[n].bpl
  firstFail [(!(l.1 < l.2.1 && l.2.1 < l.2.2.1 && l.2.2.1 < l.2.2.2 && l.2.2.2 + 1048576 ≤ s.quota n), badParam 0x802),
    (decide (gap < need), some ⟨0x0101, if c.stoppable then 0x803 else 0x804, mibUp need⟩), (twin, badParam 0x908)]

/-- Ranges of Table 5.8 and R109, against the master axis. -/
def State.paceRange (s : State) (c : PaceCfg) : Bool :=
  let x := s.axes[c.master]
  1 ≤ c.vMax && c.vMax ≤ 40000000 && 1 ≤ c.vFloor && c.vFloor ≤ c.vMax && 1 ≤ c.accel && 1 ≤ c.jerk
    && decide (toPu x.cfg.ratio c.accel ≤ x.lim.a) && decide (toPu x.cfg.ratio c.jerk ≤ 256 * (x.lim.j : Rat))
    && 1 ≤ c.tauMs && c.tauMs ≤ 60000 && 1 ≤ c.windowMs && c.windowMs ≤ 15000 && 1 ≤ c.holdMs && c.holdMs ≤ 1000
    && decide (4000 * c.tSlew ≤ c.tauMs) && 4 * c.windowMs ≤ c.tauMs && (!c.stoppable || c.feedStop == 0) && x.cfg.ratio != 0

/-- `v_max` needs no more than the plan allows (R128). -/
def State.paceMargin (s : State) (c : PaceCfg) : Bool :=
  c.ports.all fun n =>
    let p := s.ports[n]
    32 * c.vMax * p.cfg.samples * 2 ^ 32 ≤ 31 * p.ceil * 1000000 * p.cfg.pitch

def levelsZero (l : List Byte) (mask : Nat) : Bool :=
  (List.range 8).all fun p => mask.testBit p || zeroBytes l (40 + 16 * p) 16

def State.paceEnableCheck (s : State) (g : Fin 4) (l : List Byte) : Option Reject :=
  match PaceCfg.parse l with
  | none => badParam 0x801
  | some c =>
    let taken := s.paceTaken g c
    let refs := (u8 l 4 != 0xFF && c.feeder.isNone) || c.mask == 0 || c.feeder == some c.master
      || c.ports.any (fun n => !s.ports[n].configured || s.ports[n].cfg.encoder != c.enc) || taken.1
    match firstFail [(refs, badParam 0x801), (u8 l 1 > 1 || !s.paceRange c || !levelsZero l c.mask, badParam 0x805)] with
    | some j => some j
    | none =>
      match c.ports.filterMap fun n => s.levelCheck c n with
      | j :: _ => some j
      | [] => firstFail [(!s.paceMargin c, some ⟨0x0800, 0x807, BitVec.ofNat 32 (s.planVOf c.ports)⟩),
          (taken.2 || s.drivenElsewhere g c.master || c.feeder.any (fun f => s.drivenElsewhere g f), badState 0x809),
          (s.encs[c.enc].posInvalid, badState 0x80A)]

/-- The axes, encoder and ports that a PACE_CONFIG names; none where it disables the group. -/
def paceNamed (l : List Byte) : List BlockId :=
  if u8 l 1 = 3 then []
  else (axisNo (u8 l 2)).toList.map .ax ++ (encAt (u8 l 3)).toList.map .enc ++ (axisNo (u8 l 4)).toList.map .ax
    ++ (maskPorts (u8 l 5)).map .port

/-- Checks 6 and 12 for the blocks that a PACE_CONFIG names. -/
def paceWorld (s : State) (p : Packet) (secure : Bool) : Bool :=
  s.secureBlock .pace == secure && (paceNamed p.params).all fun b => s.secureBlock b == secure
def paceFitted (s : State) (p : Packet) : Bool := (paceNamed p.params).all s.fittedBlock

/-- PACE_CONFIG: a configuration accepted waits for the next update of the governor, which puts it into effect (R130). -/
def paceConfigSpec : PacketSpec where
  code := 0x0801
  world := paceWorld
  len p := p.paramLen == 168
  fitted := paceFitted
  check s p _ :=
    let l := p.params
    match groupAt l with
    | none => badParam 0x801
    | some g =>
      let x := s.pace.groups[g]
      let off := u8 l 1 = 3
      match firstFail [(!zeroBytes l 6 2 || !zeroBytes l 30 2 || !zeroBytes l 36 4, badParam 0x805),
        (off && !zeroBytes l 2 166, badParam 0x805)] with
      | some j => some j
      | none =>
        match (if off then none else s.paceEnableCheck g l) with
        | some j => some j
        | none => firstFail [(!(s.sys.mode = .ready || s.sys.mode = .run), badState 0x0D),
            (!x.wait && (x.sb.isSome || x.gapStop || (off && !s.masterAtRest g)), badState 0x806)]
  run p _ seq s :=
    match groupAt p.params with
    | none => s
    | some g =>
      let c := if u8 p.params 1 = 3 then none else PaceCfg.parse p.params
      (s.modGroup g fun x => { x with next := some c, nextOld := false }).finishOk seq 0

def execPaceConfig (p : Packet) (s : State) : Host.Outcome State Fault Refusal :=
  .next (s.act p.tick (State.packet paceConfigSpec p))

/-! ### SEAM_POLICY (05 R131) -/

def seamPolicySpec : PacketSpec where
  code := 0x0803
  world := blockWorld .pace
  len p := p.paramLen == 16
  fitted := alwaysFitted
  check s p _ :=
    let l := p.params
    match groupAt l with
    | none => badParam 0x808
    | some g => firstFail [(!zeroBytes l 12 4, badParam 0x808),
        (u8 l 1 < 4 || u8 l 1 > 16 || u8 l 2 > 3 || u8 l 3 > 1 || u16 l 4 < 1 || u16 l 6 < 1 || u16 l 6 > 1023 || u32 l 8 < 16
          || u32 l 8 > 65535, badParam 0x808), (s.pace.groups[g].sb.isSome, badState 0x806)]
  run p _ seq s :=
    match groupAt p.params with
    | none => s
    | some g =>
      let l := p.params
      let pol : SeamPolicy := { overlap := u8 l 1, retries := u8 l 2, closeOnFail := u8 l 3 == 1, limit := u16 l 4
                                maxSplices := u16 l 6, backExtra := u32 l 8 }
      (s.modGroup g fun x => { x with policy := pol }).finishOk seq 0

def execSeamPolicy (p : Packet) (s : State) : Host.Outcome State Fault Refusal :=
  .next (s.act p.tick (State.packet seamPolicySpec p))

/-! ### PACE_QUERY (05 R132) -/

/-- PACE_QUERY: the buffer holds the figures of the last update, the result word the state as it is. -/
def paceQuerySpec : PacketSpec where
  code := 0x0802
  world := blockWorld .pace
  len p := p.paramLen == 16
  fitted := alwaysFitted
  check _ p _ := firstFail [((groupAt p.params).isNone, badParam 0x801), (!zeroBytes p.params 1 7, badParam 0x801)]
  run p _ seq s :=
    match groupAt p.params with
    | none => s
    | some g =>
      let a := u64 p.params 8
      s.finish seq 0 0 ((s.paceStateWord g) &&& 0xFFFF#32) (buffers := if a = 0 then [] else [(a, s.pace.groups[g].shot)])

def execPaceQuery (p : Packet) (s : State) : Host.Outcome State Fault Refusal :=
  .next (s.act p.tick (State.packet paceQuerySpec p))

end Sys2Proof.Machine
end

