-- ==== Sys2Proof/Machine/LinkCmds.lean ====
section
/-! DEFINITION. The transport link's receiver and responder (16 R376 to R386). -/

namespace Sys2Proof.Machine

/-! ### Receiving (R376, R385) -/

/-- A valid frame arrives; without a fitted link or symbol lock nothing is received. -/
def State.rxFrame (f : State → State) (s : State) : State :=
  if !s.sys.fit.tlink || !s.tl.symLock then s
  else f { s with tl.lastValid := s.ticks, tl.validCnt := min 16 (s.tl.validCnt + 1) }

/-- TL_BAD_FRAME: discarded and counted. -/
def State.badFrame (s : State) : State :=
  if !s.sys.fit.tlink || !s.tl.symLock then s
  else { s with tl.crcErrCnt := satInc s.tl.crcErrCnt }.setEvt .tlnk 2

def execTlBadFrame (t : Nat) (s : State) : Host.Outcome State Fault Refusal := .next (s.act t State.badFrame)

/-- TL_SYMBOL_LOCK and TL_SYMBOL_LOCK_LOSS. -/
def State.symbolLock (on : Bool) (s : State) : State := if s.sys.fit.tlink then { s with tl.symLock := on } else s

def execTlSymbolLock (t : Nat) (s : State) : Host.Outcome State Fault Refusal := .next (s.act t (State.symbolLock true))

def execTlSymbolLockLoss (t : Nat) (s : State) : Host.Outcome State Fault Refusal := .next (s.act t (State.symbolLock false))

/-- HELLO of the controller. -/
def execHello (t : Nat) (_seq : BitVec 8) (s : State) : Host.Outcome State Fault Refusal := .next (s.act t (State.rxFrame id))

/-! ### ARRIVE (R378, R379; 01 R12) -/

/-- Ports of a mask. -/
def maskPorts8 (m : BitVec 8) : List (Fin 8) := (List.finRange 8).filter fun n => m.getLsbD n.val

/-- A port passes check 7 of Table 16.7. -/
def State.portReady (s : State) (n : Fin 8) : Bool :=
  let p := s.ports[n]
  decide (p.st = .scan) && p.waits.ready && p.waits.slots.length < 8

/-- A requested port lies behind a closed feed gate. -/
def State.gateShut (s : State) (n : Fin 8) : Bool :=
  match s.groupOfPort n with
  | some g => s.gateMask.getLsbD g.val
  | none => false

/-- The reason of the first check of Table 16.7 that fails. -/
def State.arriveReason (s : State) (mask : BitVec 8) (reuse : Bool) : Option Nat :=
  let ports := maskPorts8 mask
  if s.sys.mode ≠ .run && !(s.second && s.sys.mode = .shadow) then some 1
  else if !s.batchRuns then some 2
  else if mask = 0 || ports.any (fun n => !s.fittedBlock (.port n)) then some 7
  else if reuse then some 6
  else if ports.any (fun n => s.gateShut n) then some 4
  else if s.tl.slots.isEmpty then some 3
  else if ports.any (fun n => !s.portReady n) then some 5
  else none

/-- An answer leaves within 200 ns of decision, after what is in progress; its time is measured to its last bit. -/
def State.answer (typ seq : BitVec 8) (payload : List Byte) (s : State) : State :=
  let now := s.ticks
  let out := s.tl.answerStart now + 720
  let s := s.sendAnswer typ seq payload
  { s with tl.ansMax := word (max s.tl.ansMax.toNat ((out - now) * 2 / 3)), tl.arriveCnt := satInc s.tl.arriveCnt }

/-- An answer is kept, the newest sixteen of them (R379). -/
def State.keepAnswer (a : Answer) (s : State) : State := { s with tl.answers := (a :: s.tl.answers).take 16 }

/-- A REFUSE with its reason. -/
def State.refuse (seq mask : BitVec 8) (payload : List Byte) (reason : Nat) (reuse : Bool) (s : State) : State :=
  let ans := leBytes 4 0 ++ [mask] ++ leBytes 1 reason
  let s := { s with tl.refuseCnt := satInc s.tl.refuseCnt, tl.lastRefuse := packWord [(reason, 0), (seq.toNat, 8)] }
  let s := ((s.answer 0x82 seq ans).fire .tlnk 0).fire .tlnk 1
  if reuse then s.setEvt .tlnk 5 else s.keepAnswer { seq, payload, typ := 0x82, answer := ans }

/-- A SLOT takes the lowest free number and a place in the queue of each requested port (R380). -/
def State.grant (seq mask : BitVec 8) (payload : List Byte) (s : State) : State :=
  match s.tl.slots with
  | [] => s
  | d :: rest =>
    let s := { s with tl.slots := rest }
    let s := s.each (maskPorts8 mask) fun n s => s.modPort n fun p =>
      { p with waits.slots := p.waits.slots ++ [BitVec.ofNat 32 d] }
    let ans := leBytes 4 d ++ [mask] ++ leBytes 1 0
    ((s.answer 0x81 seq ans).fire .tlnk 0).keepAnswer { seq, payload, typ := 0x81, answer := ans }

def State.arrive (seq : BitVec 8) (ctlRef : BitVec 32) (mask pad : BitVec 8) (s : State) : State :=
  let payload := leBytes 4 ctlRef.toNat ++ [mask, pad]
  match s.tl.answers.find? fun a => a.seq = seq && a.payload = payload with
  | some a => { s with tl.repeatCnt := satInc s.tl.repeatCnt }.answer a.typ seq a.answer
  | none =>
    let reuse := s.tl.answers.any fun a => a.seq = seq
    match s.arriveReason mask reuse with
    | some r => s.refuse seq mask payload r (reuse && r = 6)
    | none => s.grant seq mask payload

def execArrive (t : Nat) (seq : BitVec 8) (ctlRef : BitVec 32) (mask pad : BitVec 8) (s : State) :
    Host.Outcome State Fault Refusal :=
  .next (s.act t (State.rxFrame (State.arrive seq ctlRef mask pad)))

/-! ### WITHDRAW, PATH, JAM, ACK (R380, R382 to R384) -/

/-- WITHDRAW: the document's slots that have opened no side. -/
def State.withdraw (doc : BitVec 32) (mask : BitVec 8) (s : State) : State :=
  s.each (maskPorts8 mask) fun n s => s.modPort n fun p => { p with waits.slots := p.waits.slots.filter fun d => d ≠ doc }

def execWithdraw (t : Nat) (_seq : BitVec 8) (doc : BitVec 32) (mask : BitVec 8) (s : State) : Host.Outcome State Fault Refusal :=
  .next (s.act t (State.rxFrame (State.withdraw doc mask)))

def execPath (t : Nat) (_seq mask : BitVec 8) (s : State) : Host.Outcome State Fault Refusal :=
  .next (s.act t (State.rxFrame fun s => State.pathChanged { s with tl.path := mask }))

/-- A quick stop that keeps no move beyond what was kept before: R154 names no JAM (R383). -/
def State.quickStop (a : Fin 12) (s : State) : State :=
  let x := s.axes[a]
  (s.stopAxis a true none).modAxis a fun y => { y with kept := x.kept, remain := x.remain }

/-- The master and feeder of a group make a quick stop. -/
def State.quickStopGroup (g : Fin 4) (s : State) : State :=
  match s.paceCfg g with
  | none => s
  | some c =>
    s.each (c.master :: c.feeder.toList) State.quickStop

/-- JAM of one enabled group (R383). -/
def State.jamGroup (g : Fin 4) (s : State) : State :=
  if (s.paceCfg g).isNone then s
  else ((s.groupLost g).quickStopGroup g).event .pace 0x0900 0x42

def State.jam (mask : BitVec 8) (s : State) : State :=
  ((s.each (allGroups.filter fun g => mask.getLsbD g.val) fun g s => s.jamGroup g).setEvt .tlnk 3).sendGate

def execJam (t : Nat) (_seq mask : BitVec 8) (s : State) : Host.Outcome State Fault Refusal :=
  .next (s.act t (State.rxFrame (State.jam mask)))

/-- ACK: of a REJECT frame with the same type and seq. -/
def State.acked (typ ackSeq : BitVec 8) (s : State) : State :=
  if typ = 0x85 then { s with tl.rejects := s.tl.rejects.filter fun r => r.seq ≠ ackSeq } else s

def execAck (t : Nat) (_seq typ ackSeq : BitVec 8) (s : State) : Host.Outcome State Fault Refusal :=
  .next (s.act t (State.rxFrame (State.acked typ ackSeq)))

/-- REJECT_REPEAT: every 100 us while the link is up; after 16 sends the frame is given up (R384). -/
def State.rejectRepeat (seq : BitVec 8) (s : State) : State :=
  match s.tl.rejects.find? fun r => r.seq = seq with
  | none => s
  | some r =>
    if s.tl.lost || s.ticks < r.nextTick || !s.sys.fit.tlink then s
    else if 16 ≤ r.sends then
      (({ s with tl.rejects := s.tl.rejects.filter fun x => x.seq ≠ seq }).setEvt .tlnk 4).event .tlnk 0x0900 0x43
    else
      let s := s.sendFrame 0x85 seq (leBytes 4 r.doc.toNat ++ [r.mask, r.reason])
      { s with tl.rejects := s.tl.rejects.map fun x =>
          if x.seq = seq then { x with sends := x.sends + 1, nextTick := s.ticks + 150000 } else x }

def execRejectRepeat (t : Nat) (seq : BitVec 8) (s : State) : Host.Outcome State Fault Refusal :=
  .next (s.act t (State.rejectRepeat seq))

/-! ### HELLO and SPEED (R377) -/

/-- Roles as `ROPE_STAT` holds them (14 Table 14.12). -/
def Role.code : Role → Nat
  | .solo => 0 | .lead => 1 | .second => 2

/-- TL_HELLO_SEND: after 20 us, 30,000 ticks, with nothing sent. -/
def State.helloSend (s : State) : State :=
  if s.ticks < s.tl.lastSent + 30000 then s
  else s.sendOwn 0x8F (leBytes 1 s.gateMask.toNat ++ leBytes 1 s.sys.mode.code ++ leBytes 1 s.rope.role.code)

def execTlHelloSend (t : Nat) (s : State) : Host.Outcome State Fault Refusal := .next (s.act t State.helloSend)

/-- SPEED: once per millisecond for an enabled group. -/
def State.speed (g : Fin 4) (s : State) : State :=
  if (s.paceCfg g).isNone || s.ticks < s.tl.speedTicks[g] + 1500000 then s
  else { s.sendOwn 0x84 (leBytes 1 g.val ++ leBytes 1 0 ++ leBytes 4 s.pace.groups[g].vSet) with
         tl.speedTicks := s.tl.speedTicks.set g s.ticks }

def execSpeed (t : Nat) (g : Fin 4) (s : State) : Host.Outcome State Fault Refusal := .next (s.act t (State.speed g))

/-! ### Loss and return of the link (R385) -/

/-- TL_LINK_LOSS: 100 us, 150,000 ticks, without a valid frame. -/
def State.linkLoss (s : State) : State :=
  if !s.sys.fit.tlink || s.tl.lost || s.ticks < s.tl.lastValid + 150000 then s
  else
    let s := { s with tl.lost := true, tl.linkUp := false, tl.validCnt := 0 }
    ((s.setEvt .tlnk 0).fire .tlnk 2).sendGate.pathChanged

def execTlLinkLoss (t : Nat) (s : State) : Host.Outcome State Fault Refusal := .next (s.act t State.linkLoss)

/-- TL_LINK_RETURN: after 16 valid frames GATE goes out at once, and the REJECT frames that were held. -/
def State.linkReturn (s : State) : State :=
  if !s.sys.fit.tlink || s.tl.linkUp || s.tl.validCnt < 16 then s
  else
    let s := { s with tl.lost := false, tl.linkUp := true }.setEvt .tlnk 1
    let m := s.gateMask
    let s := { s with tl.gateSent := m }.sendOwn 0x83 (leBytes 1 m.toNat)
    s.each (s.tl.rejects.map fun r => r.seq) fun q s => match s.tl.rejects.find? fun r => r.seq = q with
      | some r =>
        if r.sends = 0 then
          let s := s.sendFrame 0x85 q (leBytes 4 r.doc.toNat ++ [r.mask, r.reason])
          { s with tl.rejects := s.tl.rejects.map fun x =>
              if x.seq = q then { x with sends := 1, nextTick := s.ticks + 150000 } else x }
        else s
      | none => s

def execTlLinkReturn (t : Nat) (s : State) : Host.Outcome State Fault Refusal := .next (s.act t State.linkReturn)

/-! ### Slot table (R380) -/

/-- SLOT_REFILL: the secure controller reserves numbers from the batch's document counter until the table is full. -/
def State.slotRefill (s : State) : State :=
  if s.sys.mode ≠ .run || s.sys.batchState ≠ .opened || s.sys.closeStep ≠ 0 || s.secPaused || s.cmd.coreWait || s.second
      || 64 ≤ s.tl.slots.length then s
  else
    let k := 64 - s.tl.slots.length
    let n := s.sys.docs.toNat
    { s with tl.slots := s.tl.slots ++ (List.range k).map (fun i => n + 1 + i), sys.docs := BitVec.ofNat 32 (n + k) }

def execSlotRefill (t : Nat) (s : State) : Host.Outcome State Fault Refusal := .next (s.act t State.slotRefill)

end Sys2Proof.Machine
end

