-- ==== Sys2Proof/Machine/Waymarks.lean ====
section
/-! DEFINITION. The waymark fabric (12): delivery to tasks, junctions, ROUTE_SET, ROUTE_CLEAR, ROUTE_QUERY, EVF_FIRE. -/

namespace Sys2Proof.Machine

/-! ### Numbers (12 Table 12.1) -/

/-- Generators of the block at a BAR0 position. -/
def genCount : Nat → Nat
  | 0 => 4 | 1 => 1 | 2 => 2 | 3 => 17 | 4 => 3 | 5 => 26 | 6 => 2 | 7 => 2 | 8 => 3 | 9 => 3 | 10 => 24 | 11 => 2
  | 12 => 2 | 13 => 9 | 14 => 6 | 15 => 4 | _ => 0

/-- Tasks of the block at a BAR0 position. -/
def taskCount : Nat → Nat
  | 0 => 1 | 3 => 16 | 5 => 16 | 13 => 3 | 14 => 3 | _ => 0

/-- The unit that a number and instance name, if the number is assigned and the instance exists. -/
def numbered (count : Nat → Nat) (num inst : Nat) : Option BlockId :=
  if num % 64 < count (num / 64) && (num / 64 ≥ 13 || inst = 0) then BlockId.ofCode (num / 64) inst else none

def genUnit : Nat → Nat → Option BlockId := numbered genCount
def taskUnit : Nat → Nat → Option BlockId := numbered taskCount

/-- ENC_COUNT and GEAR_COUNT, which only system routes name (12 R298). -/
def systemTask (num : Nat) : Bool := num == 13 * 64 + 2 || num == 14 * 64 + 2

/-- Tasks that work in DORMANT: WAKE and the junctions (mark D). -/
def dormantTask (num : Nat) : Bool := num == 0 || num / 64 == 3

/-- The junction that a PASS task fires. -/
def passJunction (x : TaskRef) : Option (Fin 16) :=
  if h : x.num / 64 = 3 ∧ x.num % 64 < 16 then some ⟨x.num % 64, h.2⟩ else none

/-! ### Delivery (12 R293, R299) -/

/-- MERGED of a task input. -/
def State.mergedOf (s : State) (x : TaskRef) : Nat :=
  match s.evf.merged.find? fun m => m.1 == x with
  | some m => m.2
  | none => 0

def State.mergeCount (x : TaskRef) (s : State) : State :=
  { s with evf.merged := (s.evf.merged.filter fun m => m.1 != x) ++ [(x, min 65535 (s.mergedOf x + 1))] }

/-- An event arrives at a task input (12 R299): a new activation, or one more merged into the pending one. A unit that is
not fitted ignores it (00 R5), and in DORMANT only marked tasks take it (12 R294). -/
def State.arriveAt (x : TaskRef) (tick latch : Nat) (edges : List CountEdge) (s : State) : State :=
  match taskUnit x.num x.inst with
  | none => s
  | some b =>
    if !s.fittedBlock b || (s.sys.mode = .dormant && !dormantTask x.num) then s
    else if s.evf.acts.any fun a => a.task == x then
      let add (a : Activation) : Activation := if a.task == x then { a with edges := a.edges ++ edges } else a
      State.mergeCount x { s with evf.acts := s.evf.acts.map add }
    else { s with evf.acts := s.evf.acts ++ [{ task := x, tick, latch, edges }] }

/-- WAYMARK_DELIVERY: the oldest event of a channel reaches its tasks. A resynchronised channel samples it at the tick after
it fired and delivers it at the next; its tasks take it one tick later (R293, R299; log entry 41). -/
def State.waymark (ch : BitVec 8) (s : State) : State :=
  let resync := ch.toNat ≥ 240
  match s.evf.fired.find? fun f => f.ch == ch.toNat && (!resync || decide (f.tick + 2 ≤ s.ticks)) with
  | none => s
  | some f =>
    let s := { s with evf.fired := s.evf.fired.erase f }
    if s.sys.mode = .dormant && resync then s
    else
      let latch := if resync then f.tick + 1 else s.ticks
      s.each f.route.tasks fun x s => s.arriveAt x (s.ticks + b2n resync) latch f.edge.toList

def execWaymarkDelivery (t : Nat) (ch : BitVec 8) (s : State) : Host.Outcome State Fault Refusal :=
  .next (s.act t (State.waymark ch))

/-- JUNCTION: the PASS task fires its junction generator at once (R296). -/
def State.junction (k : Fin 16) (s : State) : State :=
  match s.takeAct (3 * 64 + k.val) 0 with
  | none => s
  | some (_, s) => s.fire .evf k.val

def execJunction (t : Nat) (k : Fin 16) (s : State) : Host.Outcome State Fault Refusal := .next (s.act t (State.junction k))

/-! ### ROUTE_SET (12 R298, R301, R302) -/

/-- A route entry as sent (Table 12.3). -/
structure RouteEntry where
  channel : Nat
  source : Nat
  flags : Nat
  count : Nat
  rate : Nat
  words : List Nat
  reservedOk : Bool
  deriving DecidableEq, Repr

def RouteEntry.parse (l : List Byte) (o : Nat) : RouteEntry :=
  { channel := u16 l o, source := u16 l (o + 2), flags := u8 l (o + 4), count := u8 l (o + 5), rate := u32 l (o + 8)
    words := (List.range 8).map fun k => u32 l (o + 16 + 4 * k)
    reservedOk := zeroBytes l (o + 6) 2 && zeroBytes l (o + 12) 4 }

def routeEntries (l : List Byte) : List RouteEntry := (List.range (u8 l 0)).map fun k => RouteEntry.parse l (8 + 48 * k)

def taskOfWord (w : Nat) : TaskRef := { num := w % 1024, inst := bitsOf w 13 10 }

def RouteEntry.tasks (e : RouteEntry) : List TaskRef := (e.words.take e.count).map taskOfWord

/-- The units that an entry names. -/
def RouteEntry.units (e : RouteEntry) : List BlockId :=
  (genUnit (e.source % 1024) (bitsOf e.source 13 10)).toList ++ e.tasks.filterMap fun x => taskUnit x.num x.inst

/-- The fields of an entry in range, its numbers assigned, no task twice, none system only (R301). -/
def RouteEntry.ok (e : RouteEntry) : Bool :=
  e.channel ≤ 255 && e.source < 2 ^ 14 && e.flags < 2 && 1 ≤ e.count && e.count ≤ 8 && e.reservedOk
    && (e.rate = 0 || (1000 ≤ e.rate && e.rate ≤ 50000000))
    && ((e.words.take e.count).all fun w => w < 2 ^ 14) && ((e.words.drop e.count).all fun w => w == 0)
    && (genUnit (e.source % 1024) (bitsOf e.source 13 10)).isSome
    && (e.tasks.all fun x => (taskUnit x.num x.inst).isSome && !systemTask x.num) && decide e.tasks.Nodup

def RouteEntry.route (e : RouteEntry) : Route :=
  { gen := e.source % 1024, inst := bitsOf e.source 13 10, enable := e.flags == 1, rate := e.rate, tasks := e.tasks, system := false }

/-- Junction edges of a route: from the junction that is its source to those that its PASS tasks fire. -/
def Route.junctionEdges (r : Route) : List (Fin 16 × Fin 16) :=
  match passJunction { num := r.gen, inst := r.inst } with
  | none => []
  | some j => if r.enable then (r.tasks.filterMap passJunction).map fun k => (j, k) else []

/-- Drop the edges into junctions that lead nowhere, over and over; what is left lies on or leads to a cycle. -/
def pruneEdges : Nat → List (Fin 16 × Fin 16) → List (Fin 16 × Fin 16)
  | 0, l => l
  | n + 1, l => pruneEdges n (l.filter fun e => l.any fun d => d.1 == e.2)

/-- The routes once a set of entries replaces those of its channels. -/
def State.routesWith (s : State) (l : List RouteEntry) : List Route :=
  (List.finRange 256).filterMap fun c =>
    match l.find? fun e => e.channel == c.val with
    | some e => some e.route
    | none => s.evf.chans[c].route

/-- A cycle of channels over PASS tasks is a cycle of junctions (R302). -/
def State.routeLoop (s : State) (l : List RouteEntry) : Bool :=
  !(pruneEdges 17 ((s.routesWith l).flatMap Route.junctionEdges)).isEmpty

def routeWorld (s : State) (p : Packet) (secure : Bool) : Bool :=
  s.secureBlock .evf == secure && (routeEntries p.params).all fun e => e.units.all fun b => s.secureBlock b == secure

/-- A channel takes a new route, or none; its quarantine ends (R301, R304; log entry 42). -/
def EvfChan.setRoute (x : EvfChan) (r : Option Route) : EvfChan :=
  { x with route := r, quarantined := false, fast := if x.quarantined then 0 else x.fast }

def State.setRoutes (l : List RouteEntry) (s : State) : State :=
  s.each l fun e s =>
    let c : Fin 256 := Fin.ofNat 256 e.channel
    { s with evf.chans := s.evf.chans.set c (s.evf.chans[c].setRoute (some e.route)) }

/-- A set names a system channel: this check comes before every other of R301, and answers 0x703 whatever other faults the set
holds (R298), so that neither the worlds nor the length answer first. -/
def namesSystem (p : Packet) : Bool := (routeEntries p.params).any fun e => 248 ≤ e.channel && e.channel ≤ 255

def routeSetSpec : PacketSpec where
  code := 0x0701
  world s p secure := namesSystem p || routeWorld s p secure
  len p := namesSystem p || p.paramLen.toNat == 8 + 48 * u8 p.params 0
  fitted := alwaysFitted
  check s p _ :=
    let l := routeEntries p.params
    firstFail [(namesSystem p, badState 0x703),
      (l.isEmpty || l.length > 16 || !zeroBytes p.params 1 7 || !(l.all fun e => e.ok) || !decide (l.map RouteEntry.channel).Nodup,
        badParam 0x702),
      (s.routeLoop l, some ⟨0x0400, 0x701, 0⟩)]
  run p _ seq s := (s.setRoutes (routeEntries p.params)).finishOk seq 0

def execRouteSet (p : Packet) (s : State) : Host.Outcome State Fault Refusal := .next (s.act p.tick (State.packet routeSetSpec p))

/-! ### ROUTE_CLEAR (12 R304) -/

/-- A channel without a route is left as it is. -/
def State.clearRoutes (mask : Nat) (s : State) : State :=
  s.each ((List.finRange 256).filter fun c => mask.testBit c.val) fun c s =>
    if s.evf.chans[c].route.isNone then s else { s with evf.chans := s.evf.chans.set c (s.evf.chans[c].setRoute none) }

def routeClearSpec : PacketSpec where
  code := 0x0702
  world s p secure := u8 p.params 31 ≠ 0 || blockWorld .evf s p secure
  len p := u8 p.params 31 ≠ 0 || p.paramLen == 32
  fitted := alwaysFitted
  check _ p _ := firstFail [(u8 p.params 31 ≠ 0, badState 0x703)]
  run p _ seq s := (s.clearRoutes (fieldAt p.params 0 31)).finishOk seq 0

def execRouteClear (p : Packet) (s : State) : Host.Outcome State Fault Refusal :=
  .next (s.act p.tick (State.packet routeClearSpec p))

/-! ### ROUTE_QUERY and the channel registers (12 R305, R308) -/

/-- `EVF_CHc_SRC` (Table 12.5); zero without a route. -/
def State.chanSource (s : State) (c : Fin 256) : Word :=
  match s.evf.chans[c].route with
  | none => 0
  | some r => packWord [(r.source, 0), (1, 16), (b2n r.enable, 17), (b2n (decide (240 ≤ c.val)), 18), (b2n r.system, 19),
      (b2n s.evf.chans[c].quarantined, 20), (min 255 r.tasks.length, 24)]

/-- A task word (Table 12.3). -/
def TaskRef.word (x : TaskRef) : Nat := x.num + 1024 * x.inst

/-- The 64 bytes of ROUTE_QUERY with `what` 0. -/
def State.routeBuffer (s : State) (c : Fin 256) : List Byte :=
  let x := s.evf.chans[c]
  (match x.route with
    | none => leBytes 48 0
    | some r => leBytes 2 c.val ++ leBytes 2 r.source ++ leBytes 1 (b2n r.enable) ++ leBytes 1 (min 255 r.tasks.length)
        ++ leBytes 2 0 ++ leBytes 4 r.rate ++ leBytes 4 0 ++ padTo 32 ((r.tasks.take 8).flatMap fun t => leBytes 4 t.word))
    ++ leBytes 8 x.count.toNat ++ leBytes 4 x.storms ++ leBytes 4 x.fast

/-- MERGED and the pending activation of a task, as `EVF_TMERGED` shows them. -/
def State.taskWord (s : State) (x : TaskRef) : Word :=
  packWord [(s.mergedOf x, 0), (b2n (s.evf.acts.any fun a => a.task == x), 16)]

/-- Check 6 of ROUTE_QUERY: EVF, and the instance of the task that it names. -/
def routeQueryWorld (s : State) (p : Packet) (secure : Bool) : Bool :=
  let x := taskOfWord (u16 p.params 4)
  s.secureBlock .evf == secure && (u8 p.params 2 ≠ 1 || match taskUnit x.num x.inst with
    | some b => s.secureBlock b == secure
    | none => true)

def routeQuerySpec : PacketSpec where
  code := 0x0703
  world := routeQueryWorld
  len p := p.paramLen == 16
  fitted := alwaysFitted
  check _ p _ :=
    let l := p.params
    let x := taskOfWord (u16 l 4)
    firstFail [(u16 l 0 > 255 || u8 l 2 > 1 || u8 l 3 ≠ 0 || u16 l 6 ≠ 0
      || (u8 l 2 = 1 && (u16 l 4 ≥ 2 ^ 14 || (taskUnit x.num x.inst).isNone)), badParam 0x702)]
  run p _ seq s :=
    let l := p.params
    let c : Fin 256 := Fin.ofNat 256 (u16 l 0)
    if u8 l 2 = 1 then s.finishOk seq (s.taskWord (taskOfWord (u16 l 4)))
    else s.finish seq 0 0 (s.chanSource c) (buffers := if u64 l 8 = 0 then [] else [(u64 l 8, s.routeBuffer c)])

def execRouteQuery (p : Packet) (s : State) : Host.Outcome State Fault Refusal :=
  .next (s.act p.tick (State.packet routeQuerySpec p))

/-! ### EVF_FIRE (12 R307) -/

/-- The channel can be fired from software. -/
def EvfChan.fireable (x : EvfChan) : Bool :=
  !x.quarantined && match x.route with
    | some r => r.enable && !r.system
    | none => false

def State.evfFire (pf : PF) (value : BitVec 32) (s : State) : State :=
  if !s.reaches pf .evf then s.deny.setEvt .evf 1
  else
    let c : Fin 256 := Fin.ofNat 256 (value.toNat % 256)
    if !s.evf.chans[c].fireable then s.setEvt .evf 2
    else
      let (s, storm) := s.fireOn c none
      if storm then s.fire .evf 16 else s

def execEvfFire (t : Nat) (pf : PF) (value : BitVec 32) (s : State) : Host.Outcome State Fault Refusal :=
  .next (s.act t (State.evfFire pf value))

/-- RESET_BLOCK of EVF (12 R306): user routes, activations and events on their way go; system routes are rebuilt. -/
def State.resetEvf (s : State) : State :=
  { s with evf := Evf.fresh }.sysRoutes

end Sys2Proof.Machine
end

