-- ==== Sys2Proof/Machine/SecCmds.lean ====
section
/-! DEFINITION. The commands of the secure world: block worlds, attestation, firmware, keys, signing policy and estate number
(15 R352 to R363). -/

namespace Sys2Proof.Machine

/-! ### WORLD_ASSIGN (15 R354) -/

/-- The unit that block and instance name at an offset; a block without instances takes instance 0. -/
def blockAt (l : List Byte) (off : Nat) : Option BlockId :=
  if u8 l off < 13 && u8 l (off + 1) ≠ 0 then none else BlockId.ofCode (u8 l off) (u8 l (off + 1))

/-- Assignable under Table 15.1. -/
def BlockId.assignable : BlockId → Bool
  | .sec | .cmd | .dma => false
  | _ => true

/-- Whether any pace group is enabled. -/
def State.anyGroup (s : State) : Bool := allGroups.any fun g => (s.paceCfg g).isSome

/-- The user routes. -/
def State.userRoutes (s : State) : List Route :=
  (List.finRange 256).filterMap fun c => if c.val < 248 then s.evf.chans[c].route else none

/-- A block is busy (R354). -/
def State.worldBusy (s : State) : BlockId → Bool
  | .port n => !(s.ports[n].st = .off || s.ports[n].st = .idle)
  | .ax a => !(s.axes[a].st = .disabled || s.axes[a].st = .idle || s.axes[a].st = .parked)
  | .enc e => s.encUsed e
  | .madc => (s.madc.seqs.any fun q => q.armed) || !s.madc.q.entries.isEmpty
  | .trig => !s.trig.runs.isEmpty || !s.trig.gaps.isEmpty || !s.trig.stores.isEmpty
  | .sys | .tlnk | .pace => s.sys.batchState ≠ .none || s.anyGroup
  | .evf => !s.userRoutes.isEmpty
  | .rope => s.rope.paired
  | _ => false

/-- Units of a pace group. -/
def PaceCfg.units (c : PaceCfg) : List BlockId :=
  c.ports.map .port ++ [.ax c.master, .enc c.enc] ++ c.feeder.toList.map .ax

/-- World of a unit once `b` has moved to world `w`. -/
def State.worldWith (s : State) (b : BlockId) (w : Bool) (x : BlockId) : Bool := if x = b then w else s.secureBlock x

/-- A route names a unit as its generator or among its tasks. -/
def Route.names (r : Route) (b : BlockId) : Bool :=
  genUnit r.gen r.inst == some b || r.tasks.any fun t => taskUnit t.num t.inst == some b

/-- A move of a unit would leave something that names units of two worlds (R354). -/
def State.worldMixes (s : State) (b : BlockId) (w : Bool) : Bool :=
  (match b with
    | .port n => (s.rings.any fun r => decide (r.kind = .image) && r.port == n.val && r.secure != w)
        || ((List.finRange 64).any fun r => decide (s.cel.regions[r].purpose = .image) && s.cel.regions[r].port == n.val
              && s.cel.regions[r].secure != w)
        || s.cel.waiting.any fun x => decide (x.new.purpose = .image) && x.new.port == n.val && x.new.secure != w
    | .madc => s.madc.q.ring != 0 && (match s.ring? s.madc.q.ring with
        | some r => r.secure != w
        | none => false)
    | _ => false)
  || (allGroups.any fun g => match s.paceCfg g with
    | some c => c.units.contains b && c.units.any fun x => s.worldWith b w x != w
    | none => false)
  || (decide (b ≠ .evf) && s.secureBlock .evf != w && s.userRoutes.any fun r => r.names b)

/-- A bit of a world mask. -/
def putBit {n : Nat} (m : BitVec n) (i : Nat) (w : Bool) : BitVec n :=
  if w then m ||| (1#n <<< i) else m &&& ~~~ (1#n <<< i)

def State.setWorld (b : BlockId) (w : Bool) (s : State) : State :=
  match b with
  | .port n => { s with sec.worldPort := putBit s.sec.worldPort n.val w }
  | .ax a => { s with sec.worldAx := putBit s.sec.worldAx a.val w }
  | .enc e => { s with sec.worldEnc := putBit s.sec.worldEnc e.val w }
  | b => { s with sec.worldBlk := putBit s.sec.worldBlk b.code w }

/-- WORLD_ASSIGN (15 R354): the world of the block that it names is not compared (log entry 130). -/
def worldAssignSpec : PacketSpec where
  code := 0x0A01
  world := secureOnly
  len p := p.paramLen == 8
  fitted s p := match blockAt p.params 0 with
    | some b => s.fittedBlock b
    | none => true
  check s p _ :=
    match blockAt p.params 0 with
    | none => badParam 0xA01
    | some b =>
      firstFail [(!b.assignable || u8 p.params 2 > 1 || !zeroBytes p.params 3 5, badParam 0xA01),
        (s.worldBusy b, badState 0xA02), (s.worldMixes b (u8 p.params 2 == 1), badState 0xA03)]
  run p _ seq s := match blockAt p.params 0 with
    | some b => (s.setWorld b (u8 p.params 2 == 1)).finishOk seq 0
    | none => s

def execWorldAssign (p : Packet) (s : State) : Host.Outcome State Fault Refusal :=
  .next (s.act p.tick (State.packet worldAssignSpec p))

/-! ### Keys and certificates (15 R355) -/

/-- The identifier of the vendor root. -/
def vendorId : BitVec 64 := first8 (Config.sha384 (beBytes 97 Config.vendorRootPub.toNat))

/-- The epoch certificate of the capture key (Table 15.4), made when the key is (15 Table 15.3). -/
def State.newEpochCert (s : State) : List Byte :=
  let b := leBytes 4 0x54435045 ++ leBytes 1 1 ++ leBytes 3 0 ++ leBytes 4 s.sec.estate ++ leBytes 4 s.ldg.epoch.toNat
    ++ leBytes 16 Config.serial.toNat ++ beBytes 8 dikId.toNat ++ leBytes 8 s.wall
    ++ beBytes 97 (Config.capturePub s.sec.capEpoch).toNat ++ leBytes 15 0
  b ++ beBytes 96 (Config.ecdsa dikId (Config.sha384 b)).toNat

/-- SEC_STAT (Table 15.10). -/
def State.secStat (s : State) : Word :=
  let fw := s.trig.stores.any fun x => match x.item with
    | .image _ _ _ => true
    | _ => false
  packWord [(b2n s.sec.locked, 0), (b2n s.sec.debug, 1), (b2n (0 < s.backlog), 2), (b2n fw, 3),
    (b2n !s.sec.estateWords.isEmpty, 4), (b2n s.sec.capReady, 5)]

/-- The 640 bytes of KEY_INFO. -/
def State.keyInfo (s : State) : List Byte :=
  beBytes 97 Config.vendorRootPub.toNat ++ leBytes 31 0 ++ beBytes 256 Config.deviceCert.toNat ++ padTo 256 s.sec.epochCert

def keyInfoSpec : PacketSpec where
  code := 0x0A05
  world := secureOnly
  len p := p.paramLen == 8
  fitted := alwaysFitted
  check _ p _ := firstFail [(u64 p.params 0 = 0, badParam 0xA04)]
  run p _ seq s := s.finish seq 0 0 s.secStat (buffers := [(u64 p.params 0, s.keyInfo)])

def execKeyInfo (p : Packet) (s : State) : Host.Outcome State Fault Refusal :=
  .next (s.act p.tick (State.packet keyInfoSpec p))

/-! ### Estate number and signing policy (15 R356, R363) -/

def estateSetSpec : PacketSpec where
  code := 0x0A07
  world := secureOnly
  len p := p.paramLen == 8
  fitted := alwaysFitted
  check s p _ :=
    let l := p.params
    firstFail [(u32 l 0 = 0 || u32 l 0 > 262143 || u8 l 4 > 1 || !zeroBytes l 5 3, badParam 0xA20),
      (s.rope.paired, badState 0x907), (s.sys.batchState ≠ .none || s.sec.locked, badState 0xA21),
      (s.sec.estateWords.length ≥ 8, noResource 0xA22)]
  run p _ seq s :=
    let s := { s with sec.estateWords := s.sec.estateWords ++ [u32 p.params 0]
                      sec.locked := s.sec.locked || u8 p.params 4 = 1
                      board.jtag.debugOpen := s.board.jtag.debugOpen && u8 p.params 4 != 1 }
    (s.setEvt .sec 4).finishOk seq 0

def execEstateSet (p : Packet) (s : State) : Host.Outcome State Fault Refusal :=
  .next (s.act p.tick (State.packet estateSetSpec p))

/-- Check 12 for a mask of ports. -/
def maskFitted (off : Nat) (s : State) (p : Packet) : Bool := (maskPorts (u8 p.params off)).all fun n => s.fittedBlock (.port n)

/-- Check 6 of a secure opcode that names a mask of ports (10 R410). -/
def secureMask (off : Nat) (s : State) (p : Packet) (secure : Bool) : Bool :=
  secure && (maskPorts (u8 p.params off)).all fun n => s.secureBlock (.port n)

def signPolicySpec : PacketSpec where
  code := 0x0A06
  world := secureMask 0
  len p := p.paramLen == 8
  fitted := maskFitted 0
  check _ p _ := firstFail [(u8 p.params 1 > 1 || !zeroBytes p.params 2 6, badParam 0xA04)]
  run p _ seq s :=
    let m := BitVec.ofNat 8 (u8 p.params 0)
    let s := { s with sec.signPolicy := if u8 p.params 1 = 1 then s.sec.signPolicy ||| m else s.sec.signPolicy &&& ~~~ m }
    s.finishOk seq 0

def execSignPolicy (p : Packet) (s : State) : Host.Outcome State Fault Refusal :=
  .next (s.act p.tick (State.packet signPolicySpec p))

/-! ### Firmware (15 R358 to R360; 13 R321) -/

def SecUnit.slots (u : SecUnit) (secure : Bool) : Vector FwSlot 2 := if secure then u.sec else u.ctl
def SecUnit.run (u : SecUnit) (secure : Bool) : Fin 2 := if secure then u.secRun else u.ctlRun
def SecUnit.start (u : SecUnit) (secure : Bool) : Option FwStart := if secure then u.secStart else u.ctlStart
def SecUnit.svnMin (u : SecUnit) (secure : Bool) : Nat := if secure then u.svnMinSec else u.svnMinCtl

/-- The slot that does not run. -/
def SecUnit.idle (u : SecUnit) (secure : Bool) : Fin 2 := 1 - u.run secure

/-- A slot authenticates (R358). -/
def SecUnit.authentic (u : SecUnit) (secure : Bool) (k : Fin 2) : Bool :=
  let x := (u.slots secure)[k]
  x.authentic && !x.revoked && u.svnMin secure ≤ x.svn

/-- The target of FW_STAGE and FW_ACTIVATE: 1 control, 2 secure. -/
def fwTarget (l : List Byte) : Option Bool := match u8 l 0 with
  | 1 => some false
  | 2 => some true
  | _ => none

/-- R359: what keeps an image from authenticating; `len` is the length that the command names. An image whose `revoked` is not
all ones fails as one of bad format (R358; log entry 153). -/
def State.imageFault (s : State) (secure : Bool) (len : Nat) (l : List Byte) : Option (BitVec 32) :=
  let body := l.drop 256
  if u32 l 0 ≠ 0x57465754 || u8 l 4 ≠ 1 || u8 l 5 ≠ (if secure then 2 else 1) || u16 l 6 > 1 || u32 l 12 > 63
      || u32 l 16 > 16776960 || u32 l 16 + 256 ≠ len || l.length ≠ len || !zeroBytes l 20 12 || !zeroBytes l 80 16
      || (l.drop 200).take 8 ≠ List.replicate 8 0xFF then some 0xA13
  else if !Config.vendorVerifies (Config.sha384 (l.take 96)) (BitVec.ofNat 768 (fieldAt ((l.drop 96).take 96).reverse 0 96)) then some 0xA10
  else if hashBytes (Config.sha384 body) ≠ (l.drop 32).take 48 then some 0xA11
  else if u32 l 12 < s.sec.svnMin secure then some 0xA12
  else none

/-- The image as its slot will hold it, `activation` and `revoked` erased. -/
def FwSlot.ofImage (l : List Byte) : FwSlot :=
  { version := BitVec.ofNat 32 (u32 l 8), svn := u32 l 12, compatible := (u16 l 6).testBit 0
    digest := BitVec.ofNat 384 (fieldAt ((l.drop 32).take 48).reverse 0 48), authentic := true, activation := none, revoked := false }

/-- A stage is in progress. -/
def State.staging (s : State) : Bool := s.cmd.flights.any fun f => f.opcode = 0x0A03 && !f.finished

def fwStageSpec : PacketSpec where
  code := 0x0A03
  world := secureOnly
  len p := p.paramLen == 16
  fitted := alwaysFitted
  check s p _ := firstFail [(!zeroBytes p.params 1 3, badParam 4), ((fwTarget p.params).isNone, badParam 0xA01),
    (s.staging, busy 0xA15)]
  run p _ seq s :=
    match fwTarget p.params with
    | none => s
    | some t =>
      match s.imageFault t (u32 p.params 4) p.hostData with
      | some d => s.authFail.finish seq 0x0700 d 0
      | none =>
        let x : NvmStore := { item := .image t (s.sec.idle t) (FwSlot.ofImage p.hostData), job := some seq, step := 2 }
        State.begun seq { s with trig.stores := s.trig.stores ++ [x] }

def execFwStage (p : Packet) (s : State) : Host.Outcome State Fault Refusal :=
  .next (s.act p.tick (State.packet fwStageSpec p))

/-- Bounds of a restart: 100 us for the control image, 50 ms for the secure image (R360). -/
def restartTicks (secure : Bool) : Nat := if secure then 75000000 else 150000

def State.setStart (secure : Bool) (x : Option FwStart) (s : State) : State :=
  if secure then { s with sec.secStart := x } else { s with sec.ctlStart := x }

/-- `activation` of the staged image is programmed, and its target restarts on it. -/
def State.activate (secure : Bool) (seq : DWord) (s : State) : State :=
  let u := s.sec.slots secure
  let top := u.toList.foldl (fun m x => max m (x.activation.getD 0)) 0
  let s := s.modSlot secure (s.sec.idle secure) fun x => { x with activation := some (top + 1) }
  let s := (s.setStart secure (some { seq, tick := s.ticks, peer := false })).begun seq
  if secure then s else { s with cmd.coreWait := true }

/-- FW_ACTIVATE. On a lead the second activates first: the lead goes on once the second's heartbeat names the new image. -/
def fwActivateSpec : PacketSpec where
  code := 0x0A04
  world := secureOnly
  len p := p.paramLen == 8
  fitted := alwaysFitted
  check s p _ :=
    match fwTarget p.params with
    | none => badParam 0xA01
    | some t =>
      let k := s.sec.idle t
      let ok := ((s.sec.slots t)[k]).compatible
      firstFail [(!zeroBytes p.params 1 7, badParam 4), (s.rope.paired && !ok, badState 0x907),
        (!s.sec.authentic t k || (s.sec.start t).isSome, badState 0xA16),
        (!ok && !(s.sys.mode = .ready || s.sys.mode = .service), badState 0xA17)]
  run p _ seq s :=
    match fwTarget p.params with
    | none => s
    | some t =>
      if s.rope.role = .lead then s.setStart t (some { seq, tick := s.ticks, peer := true }) else s.activate t seq

def execFwActivate (p : Packet) (s : State) : Host.Outcome State Fault Refusal :=
  .next (s.act p.tick (State.packet fwActivateSpec p))

/-- R358: when an activated image reaches READY, its target's minimum rises to its `svn`. -/
def State.raiseSvn (s : State) : State :=
  let up (secure : Bool) (m : Nat) : Nat :=
    let x := (s.sec.slots secure)[s.sec.run secure]
    if x.activation.isSome then max m x.svn else m
  { s with sec.svnMinCtl := up false s.sec.svnMinCtl, sec.svnMinSec := up true s.sec.svnMinSec }

/-- IMAGE_STARTED: the new image runs within its bound. -/
def State.imageStarted (secure : Bool) (s : State) : State :=
  match s.sec.start secure with
  | none => s
  | some x =>
    if x.peer || x.tick + restartTicks secure < s.ticks then s
    else
      let k := s.sec.idle secure
      let s := s.setStart secure none
      let s := if secure then { s with sec.secRun := k } else { s with sec.ctlRun := k, cmd.coreWait := false }
      (if s.sys.mode = .ready then s.raiseSvn else s).finishOk x.seq 0

def execImageStarted (t : Nat) (secure : Bool) (s : State) : Host.Outcome State Fault Refusal :=
  .next (s.act t (State.imageStarted secure))

/-- An activation has failed: the former image runs, and the command ends. -/
def State.activateFailed (secure : Bool) (x : FwStart) (s : State) : State :=
  let s := s.setStart secure none
  let s := if secure then s else { s with cmd.coreWait := false }
  let no := s.ldg.faultNext
  let s := s.takeFault.device true 0x0700 0xA18 0 no []
  ((s.setEvt .sec 3).authFail).finish x.seq 0x0700 0xA18 0 (fault := no)

/-- FW_START_TIMEOUT: the new slot is revoked, and the target restarts on the previous one. -/
def State.startTimeout (secure : Bool) (s : State) : State :=
  match s.sec.start secure with
  | none => s
  | some x =>
    if x.peer || s.ticks < x.tick + restartTicks secure then s
    else (s.modSlot secure (s.sec.idle secure) fun y => { y with revoked := true }).activateFailed secure x

def execFwStartTimeout (t : Nat) (secure : Bool) (s : State) : Host.Outcome State Fault Refusal :=
  .next (s.act t (State.startTimeout secure))

/-! ### Attestation (15 Table 15.6) -/

/-- One slot of the report: version, svn, flags. -/
def SecUnit.slotReport (u : SecUnit) (secure : Bool) (k : Fin 2) : List Byte :=
  let x := (u.slots secure)[k]
  leBytes 4 x.version.toNat ++ leBytes 4 x.svn
    ++ leBytes 4 (b2n (u.authentic secure k) + 2 * b2n (u.run secure == k) + 4 * b2n x.activation.isSome) ++ leBytes 4 0

/-- SEC_SVN_MIN. -/
def SecUnit.svnWord (u : SecUnit) : Nat := u.svnMinCtl % 64 + 256 * (u.svnMinSec % 64)

/-- Codes of SET_MODE (13 Table 13.3). -/
def State.modeCode (s : State) : Nat := s.sys.mode.code

/-- A mask over regions. -/
def regionMask (f : Fin 64 → Bool) : Nat := (List.finRange 64).foldl (fun m r => m + b2n (f r) * 2 ^ r.val) 0

/-- Bytes 0 to 415 of the report. -/
def State.reportHead (s : State) (nonce : List Byte) : List Byte :=
  let u := s.sec
  leBytes 4 0x54535441 ++ leBytes 4 1 ++ padTo 48 nonce ++ leBytes 16 Config.serial.toNat ++ beBytes 8 dikId.toNat
    ++ beBytes 8 s.keyId.toNat ++ leBytes 4 (u.estate + 2 ^ 24 * b2n u.locked) ++ leBytes 4 s.ldg.epoch.toNat
    ++ leBytes 8 s.ns ++ leBytes 8 s.wall ++ leBytes 1 s.modeCode ++ leBytes 1 s.rope.role.code
    ++ leBytes 1 (b2n u.locked + 2 * b2n u.debug) ++ leBytes 1 0 ++ leBytes 4 u.svnWord
    ++ u.slotReport false 0 ++ u.slotReport false 1 ++ u.slotReport true 0 ++ u.slotReport true 1
    ++ beBytes 48 (u.ctl[u.ctlRun]).digest.toNat ++ beBytes 48 (u.sec[u.secRun]).digest.toNat
    ++ leBytes 8 (u.worldBlk.toNat + 2 ^ 13 * u.worldPort.toNat + 2 ^ 21 * u.worldAx.toNat + 2 ^ 33 * u.worldEnc.toNat)
    ++ leBytes 8 (regionMask fun r => s.cel.regions[r].secure) ++ leBytes 8 (regionMask fun r => s.cel.regions[r].purpose ≠ .none)
    ++ leBytes 4 u.signPolicy.toNat ++ leBytes 4 (s.trigGen planIndex) ++ leBytes 104 0

def attestSpec : PacketSpec where
  code := 0x0A02
  world := secureOnly
  len p := p.paramLen == 56
  fitted := alwaysFitted
  check _ p _ := firstFail [(u64 p.params 48 = 0, badParam 0xA04)]
  run p _ seq s :=
    let h := s.reportHead (p.params.take 48)
    let sig := Config.ecdsa dikId (Config.sha384 h)
    s.signedOne.finish seq 0 0 0 (buffers := [(u64 p.params 48, h ++ beBytes 96 sig.toNat)])

def execAttest (p : Packet) (s : State) : Host.Outcome State Fault Refusal :=
  .next (s.act p.tick (State.packet attestSpec p))

end Sys2Proof.Machine
end

