-- ==== Sys2Proof/Machine/Modes.lean ====
section
/-! DEFINITION. Device modes, SET_MODE, GET_STATUS, RESET_BLOCK, SELF_TEST, DORMANT and the wake, SAFE, the L2 watchdog
(13 R309 to R316, R322, R323; 01 R22). -/

namespace Sys2Proof.Machine

/-- A mode comes into force (13 Table 13.2): `mode change`, and MODE_CHANGE, which does not work in DORMANT (12 R294). The
second of a lead in RUN is in SHADOW (14 R334). -/
def State.enterMode (m : Mode) (s : State) : State :=
  let m := if s.second && m = .run then .shadow else m
  if s.sys.mode = m then s
  else
    let s := s.setEvt .sys 0
    if m = .dormant then
      let s := s.fire .sys 0
      { s with sys.mode := m }
    else State.fire .sys 0 { s with sys.mode := m }

/-! ### SAFE (R322) -/

/-- A port goes to OFF at once (02 R35): what it was capturing is gone, the records in its store stay (log entry 44). -/
def State.portSafe (n : Fin 8) (s : State) : State :=
  s.modPort n fun p =>
    { p with st := .off, line := none, waiting := [], grid.sched := [], sides := [], inbuf := [], caps := [], signatures := []
             recent := [], waits := { PortWaits.fresh with ready := false }, lvds := Lvds.fresh, vid := p.vid.powerDown, darkPhase := false }

/-- The bridges of an axis are switched off and it is DISABLED with `position_lost` (07 R181). -/
def State.axisOff (a : Fin 12) (s : State) : State :=
  let lost := s.axes[a].drive.en
  let s := (s.haltAxis a).modAxis a fun x =>
    { x.bridgesOff with st := .disabled, positionLost := true, waits := AxisWaits.none, home := none, gear := none, move := Move.none
                        drive.en := false }
  s.when lost fun s => s.powerLost a

/-- The heartbeat generator stops, and with it `OWN_N` and the pair: a second takes over or is left behind (14 R329, R343). A
lead sends YIELD first if a lane works. -/
def State.ropeStops (s : State) : State :=
  { s with rope.yieldSent := s.rope.yieldSent || (s.rope.role = .lead && s.rope.lanes ≠ 0)
           rope.hbRunning := false, rope.netLow := s.rope.netLow && !s.rope.own, rope.own := false
           rope.role := if s.rope.role = .lead then .solo else s.rope.role, rope.follow := .detached, rope.pairing := none, rope.swap := none }

/-- Commands in flight that SAFE cuts short: all but those of the Cellar's regions and channels, whose chains stay queued
(R322), those of the Ledger, and those whose store or start goes on. -/
def State.cutBySafe (s : State) : List DWord :=
  (s.cmd.flights.filter fun f =>
    let stored := s.trig.stores.any fun x => x.job = some f.seq
    let started := [false, true].any fun k => (s.sec.start k).any fun x => x.seq = f.seq
    !f.finished && decide (f.kind ≠ .mirrored) && f.opcode.toNat / 256 ≠ 6 && f.opcode.toNat / 256 ≠ 0x0B
      && !(s.trig.jobs.any fun j => j.seq = f.seq) && !(stored && s.sys.batchWait ≠ some f.seq) && !started).map fun f => f.seq

/-- Commands that SAFE cuts short end: each writes its DONE entry and replies (10 R247), with a status, detail and result that the
spec does not name (log entry 44). -/
def State.cutShort (l : List DWord) (s : State) : State :=
  s.each l fun q s =>
    (s.finish q (Config.free16 s.free) (Config.free32 s.free) (Config.free32 (s.free + 1))).drawn.drawn

/-- Entry to SAFE with a cause of Table 13.9 and the number of the fault that led to it, 0 for none. -/
def State.enterSafe (cause : Nat) (fault : BitVec 32) (s : State) : State :=
  if s.sys.mode = .safe then s
  else
    let cut := s.cutBySafe
    let s := s.each (List.finRange 8) State.portSafe
    let s := s.each (List.finRange 12) State.axisOff
    let s := (s.madcDisarmAll true).refOff
    let free (c : MadcCore) : MadcCore := { c with held := none }
    let calm (x : PaceGroup) : PaceGroup := { x with sb := none, gapStop := false }
    let chan (c : Fin 32) : Channel :=
      if c.val < 8 || 12 ≤ c.val then { s.dma.chans[c] with stopped := true } else s.dma.chans[c]
    let s := { s.ropeStops with cel.selfRefresh := true, sys.safeCause := cause, sys.alert := true, trig.runs := [], trig.gaps := []
                                madc.cores := s.madc.cores.map free, pace.groups := s.pace.groups.map calm
                                dma.chans := Vector.ofFn chan, sys.batchWait := none }
    ((((s.cutShort cut).sysRoutes).enterMode .safe).sendGate).device (s.secureBlock .sys) 0 0x10B (BitVec.ofNat 32 cause) fault []

/-- SAFE on a fault: causes 1 to 5 carry its number. -/
def State.safeFault (cause : Nat) (s : State) : State :=
  let no := s.ldg.faultNext
  if s.sys.mode = .safe then s else s.takeFault.enterSafe cause no

/-- SAFE_ENTRY: causes 1 to 5 are faults, 6 is SET_MODE's. -/
def State.safeEntry (cause : Nat) (s : State) : State :=
  if cause = 0 then s else if cause = 6 then s.enterSafe 6 0 else s.safeFault cause

def execSafeEntry (t : Nat) (cause : Fin 7) (s : State) : Host.Outcome State Fault Refusal :=
  .next (s.act t (State.safeEntry cause.val))

/-- A watchdog restart has ended (01 R22; 10 R257, R258): it settled the fault, or it failed. Three failures of restarts
within 1 s, 1,500,000,000 ticks, lead to SAFE (Table 13.9). Otherwise the fault passes on to L3 on a lead with a second, to
L4 elsewhere; the spec gives the failure no status of its own (log entry 45). -/
def State.watchdog (ok : Bool) (s : State) : State :=
  if s.sys.mode = .safe then s
  else
    let no := s.ldg.faultNext
    let s := s.takeFault
    if ok then (State.device (s.secureBlock .cmd) 0 0 0 no [] { s with cmd.coreWait := s.sec.ctlStart.any fun x => !x.peer })
    else
      let fails := s.ticks :: s.sys.watchdog.filter fun t => s.ticks ≤ t + 1500000000
      let s := (State.device (s.secureBlock .cmd) (Config.free16 s.free) (Config.free32 s.free) 0 no []
        { s with sys.watchdog := fails, cmd.coreWait := true }).drawn
      if 3 ≤ fails.length then s.enterSafe 1 no
      else if s.rope.role = .lead then { s.ropeStops with ldg.faults := s.ldg.faults ++ [(no, 3)] }
      else { s with ldg.faults := s.ldg.faults ++ [(no, 4)] }

def execWatchdogRecovery (t : Nat) (_core : Fin 4) (ok : Bool) (s : State) : Host.Outcome State Fault Refusal :=
  .next (s.act t (State.watchdog ok))

/-! ### DORMANT (R315, R316) -/

/-- The entry conditions of R315. -/
def State.dormantOk (s : State) : Bool :=
  ((List.finRange 8).all fun n => s.ports[n].st = .off || s.ports[n].st = .idle || s.ports[n].st = .hold)
    && ((List.finRange 12).all fun a =>
      !(s.axes[a].st = .moving || s.axes[a].st = .stopping || s.axes[a].st = .homing || s.axes[a].st = .geared))
    && s.trig.runs.isEmpty && s.trig.gaps.isEmpty && s.trig.stores.isEmpty && s.trig.jobs.isEmpty
    && ((List.finRange 32).all fun c => s.dma.chans[c].queue.isEmpty)

/-- An axis that is not parked is unpowered; a park sequence under way ends as one whose driver power is lost
(log entry 46). -/
def State.axisSleep (a : Fin 12) (s : State) : State :=
  if s.axes[a].st = .parked || s.axes[a].st = .disabled then s
  else ((s.haltAxis a).endWaiting a 0x0302 0x30F 0).axisOff a

/-- A second loses the coverage that ELIGIBLE promises. -/
def Rope.dropped (r : Rope) : Rope := { r with follow := if r.follow = .eligible then .following else r.follow }

/-- Entry to DORMANT, step by step; a second is no longer ELIGIBLE (14 R350); the reply comes before the link enters L1. -/
def State.enterDormant (seq : DWord) (s : State) : State :=
  let on := s.madc.refOn
  let s := (s.madcDisarmAll true).refOff
  let s := { s with madc.refSaved := on }
  let s := s.each (List.finRange 8) fun n s => s.modPort n fun p => { p with vid := p.vid.powerDown }
  let s := s.each (List.finRange 12) State.axisSleep
  let s := { s with cel.selfRefresh := true, sys.dormantAt := s.ns, sys.waking := false, rope := { s.rope.dropped with lanes := 0 } }
  (s.enterMode .dormant).finishOk seq 0

/-- The wake of R316 reaches READY: references and lanes come up again, the Cellar is active, and a
plan is due (R324). -/
def State.wakeComplete (s : State) : State :=
  if s.sys.mode ≠ .dormant || !s.sys.waking then s
  else
    let s := { s with cel.selfRefresh := false, sys.waking := false, wea.due := true }
    let s := s.each (List.finRange 8) fun n s => s.modPort n fun p =>
      if p.configured && !p.cfg.digital && p.st ≠ .off then { p with vid := p.vid.powerUp s.ticks p.cfg } else p
    let s := s.when s.madc.refSaved fun s => s.setReference true s.madc.refMout
    State.enterMode .ready { s with madc.refSaved := false }

def execWakeComplete (t : Nat) (s : State) : Host.Outcome State Fault Refusal := .next (s.act t State.wakeComplete)

/-- WAKE: the SYS WAKE task takes its activation (12 Table 12.2); a wake starts only in DORMANT. -/
def State.wakeTask (s : State) : State :=
  match s.takeAct 0 0 with
  | some (_, s) => s.startWake
  | none => s

def execWake (t : Nat) (s : State) : Host.Outcome State Fault Refusal := .next (s.act t State.wakeTask)

/-! ### SET_MODE, GET_STATUS (R309, R310) -/

/-- The reply of a command that has ended is written at once, with those ahead of it in its ring, while there is room (R310; log
entry 151). -/
def State.replyNow (seq : DWord) (s : State) : State :=
  match s.cmd.replies.find? fun r => r.flight = some seq with
  | none => s
  | some r => s.each (s.cmd.replies.filter fun x => x.ring = r.ring) fun _ s => s.writeReply r.ring

/-- SET_MODE: checks in the order of log entry 47. -/
def setModeSpec : PacketSpec where
  code := 0x0003
  world := eitherWorld
  len p := p.paramLen == 8
  fitted := alwaysFitted
  check s p secure :=
    let m := u8 p.params 0
    firstFail [(!([1, 2, 4, 5].contains m) || !zeroBytes p.params 1 7, badParam 0x102),
      ((m = 4 || m = 5) && !secure, worldDenied 9), (m = 4 && s.rope.paired, badState 0x907),
      (!(m = 5 || (m = 2 && s.sys.mode = .ready) || (m = 4 && s.sys.mode = .ready && s.sys.batchWait.isNone)
          || (m = 1 && s.sys.mode = .service)), badState 0x101),
      (m = 2 && !s.dormantOk, badState 0x103)]
  run p _ seq s :=
    match u8 p.params 0 with
    | 5 => ((s.finishOk seq 0).replyNow seq).enterSafe 6 0
    | 2 => s.enterDormant seq
    | 4 => (s.enterMode .service).finishOk seq 0
    | _ => ((s.enterMode .ready).raiseSvn).finishOk seq 0

def execSetMode (p : Packet) (s : State) : Host.Outcome State Fault Refusal :=
  .next (s.act p.tick (State.packet setModeSpec p))

/-- Batch states as GET_STATUS and SYS_MODE hold them. -/
def BatchState.code : BatchState → Nat
  | .none => 0 | .opened => 1 | .closing => 2 | .aborting => 3

/-- Port states of 02 Table 2.12. -/
def PortState.code : PortState → Nat
  | .off => 0 | .idle => 1 | .cal => 2 | .scan => 3 | .hold => 4 | .reconfig => 5

/-- Axis states of 06 Table 6.13. -/
def AxisState.code : AxisState → Nat
  | .disabled => 0 | .parked => 1 | .idle => 2 | .moving => 3 | .stopping => 4 | .homing => 5 | .geared => 6 | .fault => 7

/-- Table 13.3. -/
def State.statusBuffer (s : State) : List Byte :=
  leBytes 1 s.sys.mode.code ++ leBytes 1 s.sys.phase ++ leBytes 1 s.sys.safeCause ++ leBytes 1 s.sys.batchState.code
    ++ leBytes 4 s.sys.batch.toNat ++ leBytes 4 s.sys.docs.toNat
    ++ leBytes 4 ((List.finRange 8).foldl (fun x n => x + s.ports[n].st.code * 16 ^ n.val) 0)
    ++ leBytes 8 ((List.finRange 12).foldl (fun x a => x + s.axes[a].st.code * 16 ^ a.val) 0)
    ++ leBytes 8 s.ns ++ leBytes 4 (s.trigGen planIndex) ++ leBytes 4 s.cel.initCount ++ leBytes 8 s.ldg.nextSeq.toNat
    ++ leBytes 16 0

def getStatusSpec : PacketSpec where
  code := 0x0004
  world := eitherWorld
  len p := p.paramLen == 8
  fitted := alwaysFitted
  check _ _ _ := none
  run p _ seq s :=
    s.finish seq 0 0 (word (s.sys.mode.code + 16 * s.sys.batchState.code))
      (buffers := if u64 p.params 0 = 0 then [] else [(u64 p.params 0, s.statusBuffer)])

def execGetStatus (p : Packet) (s : State) : Host.Outcome State Fault Refusal :=
  .next (s.act p.tick (State.packet getStatusSpec p))

/-! ### RESET_BLOCK (R313, Table 13.6) -/

/-- The commands that wait on a port end, each with BAD_STATE (log entry 48). -/
def State.endPortWaits (n : Fin 8) (s : State) : State :=
  let w := s.ports[n].waits
  let seqs := w.arm ++ (w.reconfig.map Prod.fst).toList ++ w.later.map Prod.fst
    ++ s.ports[n].alignPending.filterMap fun a => a.seq
  (s.finishAll w.disarm 0 0 0).finishAll seqs 0x0103 0 0

/-- PORTn: OFF at once, its open side closed at the present line; the store, the ceilings and TIME tables stay. The reference
and the lanes that were in use of an analogue port power up again at the end (03 R56; log entry 113). -/
def State.resetPort (n : Fin 8) (s : State) : State :=
  let s := s.dropGaps n
  let s := match s.portRun n with
    | some r => s.calAbandon r 0x0103 0x518
    | none => s
  let s := (s.endPortWaits n).closeAll n fun d => { d.rejected 5 with lineLoss := true }
  let s := s.freeDelay n
  let s := s.modPort n fun p =>
    let q := Port.fresh n
    { q with held := p.held, store := p.store, writeOff := p.writeOff, released := p.released, provs := p.provs
             figures := p.figures, cnt.pipeCeil := p.cnt.pipeCeil, timeTables := p.timeTables, timeGen := p.timeGen
             timePending := p.timePending
             vid := if p.configured && !p.cfg.digital then Video.off.powerUp s.ticks p.cfg else Video.off }
  s.sysRoutes

/-- AXn: DISABLED with `position_lost`; its commands end with POSITION_LOST and the distance left. -/
def State.resetAxis (a : Fin 12) (s : State) : State :=
  let s := ((s.haltAxis a).endWaiting a 0x0302 0x30F 0).modAxis a fun x =>
    { Axis.fresh with
      homeActive := x.homeActive, limActive := x.limActive
      drive := { Drive.fresh with fltLow := x.drive.fltLow, chopA := { Chop.idle with ofsRec := x.drive.chopA.ofsRec }
                                  chopB := { Chop.idle with ofsRec := x.drive.chopB.ofsRec } } }
  let s := { s with madc.urgent := s.madc.urgent.filter fun u => u.who ≠ Requester.axis a }
  (s.powerLost a).sysRoutes

/-- ENCn: configuration and counts at their reset values. -/
def State.resetEncoder (e : Fin 8) (s : State) : State :=
  let s := s.modEnc e fun _ => Encoder.fresh
  s.each (List.finRange 12) fun a s => if s.axes[a].cfg.enc = some e then s.modAxis a fun x => s.alignEncoder x else s

/-- MADC: sequences disarmed, the queue emptied, the reference off. A software request that waits ends with free values, as
one that is replaced does (log entry 34). -/
def State.resetMadc (s : State) : State :=
  let s := (s.madcDisarmAll true).refOff
  let soft := s.madc.urgent.filterMap (fun u => u.seq)
    ++ (List.finRange 2).filterMap fun k => s.madc.cores[k].urg.bind fun x => x.req.seq
  let s := s.each soft fun q s =>
    (s.finish q (Config.free16 s.free) (Config.free32 s.free) (Config.free32 (s.free + 1))).drawn.drawn
  { s with madc := { Madc.fresh with
      cores := s.madc.cores.map (fun c => { MadcCore.fresh with gen := c.gen, z := c.z, s := c.s, next := c.next, noRecord := c.noRecord })
      urgent := s.madc.urgent.filter fun u => u.seq.isNone } }

/-- TRIG: candidates and queued requests go; a calibration that runs ends as a queued one does (log entry 48). -/
def State.resetTrig (s : State) : State :=
  let s := s.each (List.finRange 8) State.dropGaps
  let s := s.each s.trig.runs fun r s => s.calAbandon r 0x0103 0x518
  { s with trig := { s.trig with
      cells := s.trig.cells.map (fun c => { c with cand := none }), last := 0, lastDetail := 0, lastResid := 0, nvmErr := 0
      timeRunning := false, timeImplausible := false, evt := 0, irqEn := 0 } }

/-- PACE: groups disabled, seam policies at their defaults. -/
def State.resetPace (s : State) : State :=
  State.sendGate { s with pace := { Pace.fresh with lastUpdate := s.pace.lastUpdate } }

/-- WEA: the monitors are measured again, the plan in force is kept. -/
def State.resetWea (s : State) : State :=
  { s with wea := { s.wea with due := true, storeFailed := false, evt := 0, irqEn := 0 } }

/-- What keeps a block from being reset (Table 13.6). -/
def State.resetRefused (s : State) : BlockId → Bool
  | .ax a => (s.groupOfAxis a).isSome
  | .enc e => s.encUsed e
  | .madc => (List.finRange 2).any fun k => s.madc.cores[k].held.isSome
  | .trig => !s.trig.stores.isEmpty
  | .pace => allGroups.any fun g => !s.masterAtRest g || s.pace.groups[g].sb.isSome
  | _ => false

def BlockId.resettable : BlockId → Bool
  | .port _ | .ax _ | .enc _ | .madc | .trig | .evf | .pace | .wea => true
  | _ => false

def State.resetUnit (b : BlockId) (s : State) : State :=
  match b with
  | .port n => s.resetPort n
  | .ax a => s.resetAxis a
  | .enc e => s.resetEncoder e
  | .madc => s.resetMadc
  | .trig => s.resetTrig
  | .evf => s.resetEvf
  | .pace => s.resetPace
  | .wea => s.resetWea
  | _ => s

/-- Checks 6 and 12 for a command that names a block and an instance at offset 0. -/
def unitWorld (s : State) (p : Packet) (secure : Bool) : Bool :=
  match blockAt p.params 0 with
  | some b => s.secureBlock b == secure
  | none => true
def unitFitted (s : State) (p : Packet) : Bool :=
  match blockAt p.params 0 with
  | some b => s.fittedBlock b
  | none => true

def resetBlockSpec : PacketSpec where
  code := 0x0005
  world := unitWorld
  len p := p.paramLen == 8
  fitted := unitFitted
  check s p _ :=
    match blockAt p.params 0 with
    | none => badParam 0x102
    | some b => firstFail [(!b.resettable || !zeroBytes p.params 2 6, badParam 0x102), (s.resetRefused b, badState 0x106)]
  run p _ seq s :=
    match blockAt p.params 0 with
    | some b => (s.resetUnit b).finishOk seq 0
    | none => s

def execResetBlock (p : Packet) (s : State) : Host.Outcome State Fault Refusal :=
  .next (s.act p.tick (State.packet resetBlockSpec p))

/-! ### SELF_TEST (R323) -/

/-- A block is idle: no work in progress (log entry 49). -/
def State.unitIdle (s : State) : BlockId → Bool
  | .port n => s.ports[n].st = .off || s.ports[n].st = .idle
  | .ax a => s.axes[a].st = .disabled
  | .enc e => !s.encUsed e
  | .madc => !s.madc.seqs.any fun q => q.armed
  | .sys | .tlnk => s.sys.batchState = .none
  | .cmd => s.cmd.replies.isEmpty
  | .ldg => s.ldg.signing.isEmpty
  | .evf => s.evf.fired.isEmpty && s.evf.acts.isEmpty
  | .dma => s.dma.chans.all fun c => c.phase = .idle
  | .trig => s.trig.runs.isEmpty && s.trig.gaps.isEmpty && s.trig.stores.isEmpty
  | .sec => s.backlog = 0 && s.sec.ctlStart.isNone && s.sec.secStart.isNone
  | .rope => !s.rope.paired && s.rope.pairing.isNone
  | .pace => !s.anyGroup
  | .cel => s.cel.waiting.isEmpty
  | .wea => !s.wea.planning

/-- SELF_TEST: the result word and the 64 bytes of results are what the tests found, which the spec does not say
(log entry 50). -/
def selfTestSpec : PacketSpec where
  code := 0x0007
  world s p secure := u8 p.params 0 = 0xFF || unitWorld s p secure
  len p := p.paramLen == 16
  fitted s p := u8 p.params 0 = 0xFF || unitFitted s p
  check s p _ :=
    let l := p.params
    if u8 l 0 = 0xFF then
      firstFail [(u8 l 1 ≠ 0 || !zeroBytes l 2 6, badParam 0x102), (s.sys.mode ≠ .service, badState 0x106)]
    else
      match blockAt l 0 with
      | none => badParam 0x102
      | some b => firstFail [(!zeroBytes l 2 6, badParam 0x102), (!s.unitIdle b, badState 0x106)]
  run p _ seq s :=
    let k := s.free
    let found := (List.range 8).flatMap fun i => leBytes 8 (Config.free64 (k + i)).toNat
    let s := s.finish seq 0 0 (Config.free32 k) (buffers := if u64 p.params 8 = 0 then [] else [(u64 p.params 8, found)])
    { s with free := k + 8 }

def execSelfTest (p : Packet) (s : State) : Host.Outcome State Fault Refusal :=
  .next (s.act p.tick (State.packet selfTestSpec p))

end Sys2Proof.Machine
end

