-- ==== Sys2Proof/Machine/Batches.lean ====
section
/-! DEFINITION. Batches: BATCH_OPEN, BATCH_CLOSE, BATCH_ABORT, the seal, DOC_BEGIN and DOC_END (13 R317 to R320, Table 13.8;
15 R362). -/

namespace Sys2Proof.Machine

/-- The opcodes of this chapter belong to the world of SYS and carry 8 bytes. -/
def batchReserved (p : Packet) : Bool := zeroBytes p.params 0 8

/-! ### BATCH_OPEN (R317) -/

/-- Step 1 sets the number down in the boot record; the rest follows when its store has ended. -/
def batchOpenSpec : PacketSpec where
  code := 0x0101
  world := blockWorld .sys
  len p := p.paramLen == 8
  fitted := alwaysFitted
  check s p _ :=
    firstFail [(!batchReserved p, badParam 0x102),
      (decide (s.sys.batchState ≠ .none) || s.sys.batchWait.isSome, badState 0x104),
      (s.sec.estateWords.isEmpty, badState 0x107)]
  run _ _ seq s := State.openNext { s with sys.batchWait := some seq }

def execBatchOpen (p : Packet) (s : State) : Host.Outcome State Fault Refusal :=
  .next (s.act p.tick (State.packet batchOpenSpec p))

/-- Steps 2 and 3, once the boot record holds the number: RUN, a Ledger session from the ACCEPT entry, document numbers
from 1, the slot table, the pace groups. -/
def State.batchOpened (q : DWord) (number : BitVec 32) (s : State) : State :=
  let s := { s with sys.bootLast := number, sys.batch := number, sys.docs := 0, sys.batchState := .opened, sys.closeStep := 0
                    sys.batchWait := none }
  let s := (((s.enterMode .run).beginSession q).slotRefill).sendGate
  ((s.setEvt .sys 1).fire .sys 1).finishOk q number

/-- The boot record could not be stored: the device stays in READY. -/
def State.openFailed (q : DWord) (s : State) : State :=
  { s with sys.batchWait := none }.finish q 0x0202 0x108 0

/-! ### BATCH_CLOSE (R319, Table 13.8) -/

/-- Step 1: free slots withdrawn, unused slots and DOC_BEGIN cancelled. -/
def State.withdrawAll (s : State) : State :=
  let drop (p : Port) : Port := { p with waits.slots := [], waits.docBegin := none }
  { s with tl.slots := [], ports := s.ports.map drop }

def batchCloseSpec : PacketSpec where
  code := 0x0102
  world := blockWorld .sys
  len p := p.paramLen == 8
  fitted := alwaysFitted
  check s p _ :=
    firstFail [(!batchReserved p, badParam 0x102), (decide (s.sys.batchState ≠ .opened), badState 0x104)]
  run _ _ seq s :=
    State.sendGate { s with sys.batchState := .closing, sys.closeStep := 1, sys.batchWait := some seq }.withdrawAll

def execBatchClose (p : Packet) (s : State) : Host.Outcome State Fault Refusal :=
  .next (s.act p.tick (State.packet batchCloseSpec p))

/-- The deadline of a BATCH_CLOSE expires before step 8: the batch stays open, nothing drained is undone. -/
def State.closeExpired (s : State) : State :=
  match s.sys.batchWait with
  | none => s
  | some q =>
    let s := { s with sys.batchState := .opened, sys.closeStep := 0, sys.batchWait := none }
    ((s.finish q 0x0104 0x105 0).slotRefill).sendGate

/-! ### The seal (Table 13.8 step 8; 15 R362) -/

/-- Counters of a port that clear at a seal (02 R51, 03 R73, 04 R101), and the figures of its batch. -/
def Port.sealed (p : Port) : Port :=
  { p with
    figures := SealFigures.fresh, lvds.errs := p.lvds.errs.map fun _ => 0
    vid.lanes := p.vid.lanes.map (fun l => { l with ovr := 0, und := 0 })
    cnt := { p.cnt with late := 0, overrun := 0, lateMax := 0, gapLines := 0, edgeErr := 0, lockLoss := 0, inbufHwm := 0
                        gapRej := 0, clip := 0, neg := 0, docs := 0, strips := 0 } }

/-- Counters of a pace group and of a pace port that clear at a seal (05 R133). -/
def PaceGroup.sealed (x : PaceGroup) : PaceGroup :=
  { x with sbCnt := 0, gapCnt := 0, failCnt := 0, slowNs := 0, holdNs := 0 }
def PacePort.sealed (x : PacePort) : PacePort := { x with drained := 0, fillMax := 0 }

/-- Every per-batch figure starts empty; on a lead the DONE entry that follows is acknowledged (14 R331, R351). -/
def State.clearBatch (s : State) : State :=
  { s with
    ports := s.ports.map Port.sealed
    pace := { s.pace with groups := s.pace.groups.map PaceGroup.sealed, ports := s.pace.ports.map PacePort.sealed }
    evf.merged := []
    madc := { s.madc with seqs := s.madc.seqs.map (fun x => { x with missed := 0 }), urgDrop := 0
                          q := { s.madc.q with ovf := 0, top := s.madc.q.entries.length } }
    cmd := { s.cmd with rejected := 0, dups := 0, badDoorbells := 0 }
    dma := { s.dma with evtLost := 0, retryCnt := 0, errCnt := 0 }
    rope.fig := { s.rope.fig with hbMiss := 0, retx := 0, stepDiv := 0, encDiv := 0, acked := decide (s.rope.role = .lead) }
    tl := { s.tl with arriveCnt := 0, refuseCnt := 0, repeatCnt := 0, crcErrCnt := 0, ansMax := 0, slots := [] }
    sec.backlogMax := 0 }

/-- The last Ledger entry before the seal checkpoint, and C of it (R362): on a second, which seals with its lead's DONE entry, that
before the CHECKPOINT entry written last. -/
def State.sealLast (s : State) : DWord × BitVec 384 :=
  if s.second then (s.ldg.ckptSeq - 1, s.ldg.ckptChain) else (s.ldg.nextSeq - 1, s.ldg.chain)

/-- Bytes 32 to 479 of the BATCH_SEAL record (15 Table 15.8). -/
def State.sealBody (s : State) (n : Fin 8) : List Byte :=
  let f := s.ports[n].figures
  leBytes 4 s.sys.batch.toNat ++ leBytes 4 s.sec.estate ++ leBytes 4 s.ldg.epoch.toNat
    ++ leBytes 4 (b2n (s.sys.batchState = .aborting) + 2 * b2n s.rope.paired) ++ leBytes 4 f.sides ++ leBytes 4 f.rejected
    ++ leBytes 8 f.lines ++ leBytes 8 f.discarded ++ leBytes 4 f.provs ++ leBytes 4 0 ++ hashBytes f.chain
    ++ leBytes 8 s.sealLast.1.toNat ++ hashBytes s.sealLast.2 ++ beBytes 8 s.keyId.toNat ++ padTo 256 s.sec.epochCert
    ++ leBytes 32 0

/-- The BATCH_SEAL record of a port that holds an IMAGE region, formed and signed, into the ring in force. -/
def State.sealPort (n : Fin 8) (s : State) : State :=
  if (s.imageRegion n).isNone then s
  else
    let ring := s.ports[n].fmt.ring
    let cid := captureId s.sec.estate s.sys.batch 0 n.val 0
    let body := s.sealBody n
    let signed := s.recordNow n 7 ring false cid (body ++ List.replicate 96 0)
    let sig := beBytes 96 (Config.ecdsa s.keyId (Config.sha384 (signed.take 480))).toNat
    (s.writeRecord n 7 ring false cid (body ++ sig) true).signedOne

/-- A ROPE_PAIR with `join` 0 that waits for the seal begins to synchronise (14 Table 14.3). -/
def State.pairAtSeal (s : State) : State :=
  let start (x : Pairing) : Pairing := if x.waitSeal then { x with waitSeal := false, start := s.ticks } else x
  { s with rope.pairing := s.rope.pairing.map start }

/-- Step 8 can be taken: no waymark activation pending, the capture key signs, the Cellar takes records, and the Ledger has
room for the checkpoint (10 R252). -/
def State.sealReady (s : State) : Bool :=
  s.evf.fired.isEmpty && s.evf.acts.isEmpty && s.signs && !s.cel.selfRefresh && (s.generalRoom > 0 || s.ldg.ledgerReserve > 0)

/-- The batch ends: counters cleared, mode READY. -/
def State.batchEnds (s : State) : State :=
  let s := { s.clearBatch with sys.docs := 0, sys.batchState := .none, sys.closeStep := 0, sys.batchWait := none }
  let s := ((s.enterMode .ready).setEvt .sys 2).fire .sys 2
  s.pairAtSeal.sendGate

/-- Step 8: the BATCH_SEAL records, the checkpoint that begins a session, the counters, READY, the reply. -/
def State.seal8 (s : State) : State :=
  let q := s.sys.batchWait
  let s := (s.madcDisarmAll false).each (List.finRange 8) State.sealPort
  let s := s.checkpoint 2
  let s := (s.beginSession s.ldg.ckptSeq).batchEnds.raiseSvn
  s.each q.toList fun q s => s.finishOk q 0

/-- Every side is closed with its PROVENANCE written, and every master is at rest (step 2). -/
def State.sidesDone (s : State) : Bool :=
  !s.anySide && ((List.finRange 8).all fun n => s.ports[n].provs.isEmpty) && allGroups.all fun g => s.masterAtRest g

/-- Steps 3 and 4: the pipelines are drained and what the delay lines hold is discarded. -/
def State.flushLines (s : State) : State :=
  s.each (List.finRange 8) fun n s => (s.drainPort n).modPort n fun p => if p.inbuf.isEmpty then { p with caps := [] } else p

def State.linesDone (s : State) : Bool :=
  (List.finRange 8).all fun n => s.ports[n].inbuf.isEmpty && s.ports[n].held.isEmpty

/-- Step 6: the sequences are disarmed and the queue goes to its ring as far as it can. -/
def State.flushMadc (s : State) : State :=
  let s := s.madcDisarmAll false
  (s.madcDrain (s.madc.q.entries.length / 8)).slotFlush

def State.madcDone (s : State) : Bool :=
  s.madc.q.entries.isEmpty && (List.finRange 16).all fun q => !s.seqRunning q

/-- Step 7: every channel is idle and the writes of each have been answered. -/
def State.chansIdle (s : State) : Bool :=
  (List.finRange 32).all fun c =>
    s.dma.chans[c].queue.isEmpty && s.dma.chans[c].phase = .idle && (!s.dma.chans[c].wroteHost || s.canHost (s.chanSecure c.val))

def State.flushChans (s : State) : State :=
  s.each ((List.finRange 32).filter fun c => s.dma.chans[c].wroteHost) State.chanFlushed

/-- A close goes on through the steps of Table 13.8 whose triggers hold. -/
def State.closeOn (s : State) : State :=
  if !s.sidesDone then { s with sys.closeStep := 2 }
  else
    let s := s.flushLines
    if !s.linesDone then { s with sys.closeStep := 3 }
    else if (List.finRange 8).any fun n => !s.ports[n].store.isEmpty then { s with sys.closeStep := 5 }
    else
      let s := s.flushMadc
      if !s.madcDone then { s with sys.closeStep := 6 }
      else if !s.chansIdle then { s with sys.closeStep := 7 }
      else
        let s := s.flushChans
        if s.sealReady then s.seal8 else { s with sys.closeStep := 8 }

/-! ### BATCH_ABORT (R320) -/

/-- A switchback is abandoned (05 Table 5.6): its ports scan again, the master comes to rest. -/
def State.dropSwitchback (g : Fin 4) (s : State) : State :=
  let s := (s.endHold g).stopGroup g
  let s := s.each (s.groupPorts g) fun n s => s.modPort n fun p => if p.st = .hold then { p with st := .scan } else p
  s.modGroup g fun x => { x with sb := none, gapStop := false, ignoreEdges := false }

/-- Kept by step 2: the DOC_CLOSE and PROVENANCE records of the sides that the abort closes, and BATCH_SEAL records. -/
def ImageRec.kept (r : ImageRec) : Bool := r.keep && 5 ≤ r.typ

/-- Step 2 on one port: what it discards, and the report of what its store lost. A side closed before the abort whose
DOC_CLOSE still waited for room is discarded with it, and gets no PROVENANCE record: that is signed only for a DOC_CLOSE the
Cellar holds (01 R19). -/
def State.discardPort (n : Fin 8) (s : State) : State :=
  let stays (r : ImageRec) : Bool := r.delivered || r.kept
  let p := s.ports[n]
  let lost := ((p.store ++ p.held).filter fun r => !stays r).foldl (fun k r => k + 64 * r.slots) 0
  let s := s.modPort n fun p =>
    { p with store := p.store.filter stays, held := p.held.filter stays, caps := [], inbuf := []
             provs := p.provs.filter fun j => j.keep || !p.closeHeld j
             figures.discarded := p.figures.discarded + lost }
  let s := (s.docEnds ((p.held.filter fun r => !stays r).flatMap fun r => r.ends)).flushRecords n s.ports[n].held.length
  if lost = 0 then s
  else s.deviceEvent (.port n) 0 0x10C (sat32 ((lost + 2 ^ 20 - 1) / 2 ^ 20)) 0 0 (leBytes 8 lost)

/-- Steps 1 and 2. -/
def State.abortNow (s : State) : State :=
  let s := s.each allGroups State.dropSwitchback
  let s := s.each (List.finRange 8) fun n s => (s.closeAll n fun d => { d.rejected 5 with lineLoss := true }).dropGaps n
  let s := s.each (List.finRange 8) State.discardPort
  State.sendGate { s with madc.q.entries := [], madc.q.times := [] }

def batchAbortSpec : PacketSpec where
  code := 0x0105
  world := blockWorld .sys
  len p := p.paramLen == 8
  fitted := alwaysFitted
  check s p _ :=
    firstFail [(!batchReserved p, badParam 0x102), (decide (s.sys.batchState = .aborting), badState 0x104)]
  run _ _ seq s :=
    let s := s.each s.sys.batchWait.toList fun q s => s.finish q 0x0104 0x105 0
    State.abortNow { s with sys.batchState := .aborting, sys.closeStep := 8, sys.batchWait := some seq }.withdrawAll

def execBatchAbort (p : Packet) (s : State) : Host.Outcome State Fault Refusal :=
  .next (s.act p.tick (State.packet batchAbortSpec p))

/-- Step 3: the masters are at rest, chains in progress have ended, the PROVENANCE records are written; then step 8. -/
def State.abortOn (s : State) : State :=
  let chains := (List.finRange 32).all fun c => s.dma.chans[c].cur.isNone || s.dma.chans[c].stuck
  if s.sidesDone && chains && s.sealReady then s.seal8 else s

/-- BATCH_SEAL: the close or the abort under way goes on; at its end the batch is sealed. A second follows its lead's seal. -/
def State.batchSeal (s : State) : State :=
  if s.second || s.sys.mode = .safe then s
  else match s.sys.batchState with
  | .closing => s.closeOn
  | .aborting => s.abortOn
  | _ => s

def execBatchSeal (t : Nat) (s : State) : Host.Outcome State Fault Refusal := .next (s.act t State.batchSeal)

/-! ### DOC_BEGIN and DOC_END (R318, Table 13.7) -/

def docPorts (p : Packet) : List (Fin 8) := maskPorts (u8 p.params 0)

/-- SYS and every named port belong to the ring's world. -/
def docWorld (s : State) (p : Packet) (secure : Bool) : Bool :=
  s.secureBlock .sys == secure && (docPorts p).all fun n => s.secureBlock (.port n) == secure

def docFields (p : Packet) (flagsMax : Nat) : Bool :=
  u8 p.params 0 ≠ 0 && u8 p.params 1 ≤ flagsMax && zeroBytes p.params 2 6

/-- A port that can take a DOC_BEGIN. -/
def Port.docFree (p : Port) : Bool := p.st = .scan && p.noSide && p.waits.slots.isEmpty && p.waits.docBegin.isNone

/-- The present position of a port's encoder. -/
def State.here (s : State) (n : Fin 8) : Int := s.encs[s.ports[n].cfg.encoder].pos

def docBeginSpec : PacketSpec where
  code := 0x0103
  world := docWorld
  len p := p.paramLen == 8
  fitted := maskFitted 0
  check s p _ :=
    firstFail [(!docFields p 1, badParam 0x102), (decide (s.sys.batchState ≠ .opened), badState 0x104),
      ((docPorts p).any fun n => !s.ports[n].docFree, badState 0x109)]
  run p _ seq s :=
    let doc := s.sys.docs + 1
    let s := { s with sys.docs := doc }
    let s := s.each (docPorts p) fun n s => s.modPort n fun p => { p with waits.docBegin := some doc }
    let s := s.when (u8 p.params 1 = 1) fun s => s.each (docPorts p) fun n s => s.leadEdge n (s.here n)
    s.finishOk seq doc

def execDocBegin (p : Packet) (s : State) : Host.Outcome State Fault Refusal :=
  .next (s.act p.tick (State.packet docBeginSpec p))

/-- DOC_END on a port in HOLD in steps 4 to 7 of a switchback (05 Table 5.6): the side closes at its seam, which leaves the
switchback; captures after K are discarded. -/
def State.endAtSeam (n : Fin 8) (g : Fin 4) (m : Seam) (s : State) : State :=
  let s := match s.sideOf n m.doc with
    | none => s
    | some d =>
      let k := d.lineOf (m.k.getD 0)
      (s.modPort n fun p => { p with caps := p.caps.filter fun c => (c.k : Int) ≤ k }).closeNow n m.doc fun d =>
        { d.rejected 1 with lineLoss := true }
  s.modSb g fun b => { b with seams := b.seams.filter fun x => x.port ≠ n }

/-- DOC_END on one port: an unused DOC_BEGIN is cancelled, and the side that awaits its trailing edge gets it here. -/
def State.docEndPort (n : Fin 8) (s : State) : State :=
  let s := (s.uncover n).modPort n fun p => { p with waits.docBegin := none }
  match s.seamOf n with
  | some (g, b, m) =>
    if s.ports[n].st = .hold && 4 ≤ b.step then s.endAtSeam n g m
    else if s.ports[n].sides.any fun d => d.last.isNone then s.trailEdge n (s.here n) else s
  | none => if s.ports[n].sides.any fun d => d.last.isNone then s.trailEdge n (s.here n) else s

def docEndSpec : PacketSpec where
  code := 0x0104
  world := docWorld
  len p := p.paramLen == 8
  fitted := maskFitted 0
  check _ p _ := firstFail [(!docFields p 0, badParam 0x102)]
  run p _ seq s :=
    if (docPorts p).all fun n => s.ports[n].noSide then
      (s.each (docPorts p) fun n s => (s.uncover n).modPort n fun p => { p with waits.docBegin := none }).finishOk seq 0
    else
      let mark (d : Side) : Side := { d with endCmd := d.endCmd ++ [seq] }
      let s := (s.begun seq).each (docPorts p) fun n s => s.modPort n fun p => { p with sides := p.sides.map mark }
      s.each (docPorts p) State.docEndPort

def execDocEnd (p : Packet) (s : State) : Host.Outcome State Fault Refusal :=
  .next (s.act p.tick (State.packet docEndSpec p))

end Sys2Proof.Machine
end

