-- ==== Sys2Proof/Machine/WeatherCmds.lean ====
section
/-! DEFINITION. The steps of a flash store, the weathering plan and the TIME calibration (09 R220, R225; 13 R317, R324,
R325). -/

namespace Sys2Proof.Machine

/-! ### TIME (09 R220) -/

/-- A vernier table within 09 Table 9.3, in 0.1 ps: steps of 25 ps to 60 ps, step 15 within one tick of 666.7 ps and 10 %. -/
def vernierOk (t : List Nat) : Bool :=
  t.length = 16 && t.getD 0 0 = 0
    && ((List.range 15).all fun k => t.getD k 0 + 250 ≤ t.getD (k + 1) 0 && t.getD (k + 1) 0 ≤ t.getD k 0 + 600)
    && 6000 ≤ t.getD 15 0 && t.getD 15 0 ≤ 7333

/-- A TIME calibration with the tables as measured: the record is written by the device, or is kept where they are
implausible. The spec gives the unit of its residual and not the figure (log entry 51). Its end is shown as that of any
calibration, with no opcode of its own (log entry 149). -/
def State.timeCal (tables : List (List Nat)) (s : State) : State :=
  if tables.length = 40 && tables.all vernierOk then
    State.drawn (State.deviceRecord timeIndex (Config.freeInt s.free) (.time tables)
      { s with trig.timeRunning := true, trig.timeImplausible := false })
  else
    State.event .trig 0x0200 0x515
      (State.drawn (State.calLast 0 timeIndex.val 0x0200 0x515 (Config.freeInt s.free) { s with trig.timeImplausible := true }))

/-! ### The plan (13 R324) -/

/-- The plan that the monitors, the site temperatures and the supply give. -/
def State.newPlan (s : State) (mon : List Nat) (temps : List Int) (mv : Nat) : PlanBody :=
  let planMv := min 700 mv
  let ceilings := (List.range 8).map fun n => Config.ceiling mon temps planMv n
  let margin := Config.margin mon temps planMv
  { planTime := s.ns, planWall := s.wall, margin, marginLow := decide (margin < 200) || ceilings.any (fun c => decide (c < 1000))
    ceilings, curve := (List.range 7).map fun k => Config.curve mon temps k
    slices := (List.range 32).map fun k => Config.sliceTiming mon temps k
    monitors := (List.range 64).map fun k => mon.getD k 0, planMv }

/-- The residual of a WEATHER record: the greatest difference, in 0.01 %, between a monitor as measured and as the previous
plan predicted it. Without a previous plan the spec states none (log entry 51). -/
def State.planResidual (s : State) (mon : List Nat) : Int :=
  match s.planOf with
  | none => Config.freeInt s.free
  | some (_, old) =>
    (List.range 64).foldl (fun (r : Int) k =>
      let f : Int := Config.monitorForecast old.monitors k
      max r (roundHalfUp (10000 * ((mon.getD k 0 : Int) - f).natAbs) f)) 0

/-- A plan is made and stored, and a TIME calibration follows. -/
def State.makePlan (mon : List Nat) (temps : List Int) (mv : Nat) (tables : List (List Nat)) (s : State) : State :=
  let low := if s.wea.vddLow = 0 then mv else min s.wea.vddLow mv
  let body := s.newPlan mon temps low
  let s := State.deviceRecord planIndex (s.planResidual mon) (.weather body) s
  let s := { s.drawn with wea := { s.wea with planning := true, due := false, storeFailed := false, lastPlan := s.ns, vddLow := 0
                                              monitors := (List.range 64).map fun k => mon.getD k 0 } }
  s.timeCal tables

/-- A daily plan is due 24 h of device time after the last. -/
def State.planIsDue (s : State) : Bool := s.wea.due || s.wea.lastPlan + 86400000000000 ≤ s.ns

/-- WEATHER_PLAN: a plan that is due is made; one that falls due in DORMANT waits for the wake (R316). -/
def State.weatherPlan (mon : List Nat) (temps : List Int) (mv : Nat) (tables : List (List Nat)) (s : State) : State :=
  if !s.planIsDue || s.wea.planning || s.secPaused || s.sys.mode = .safe || s.sys.mode = .startUp then s
  else if s.sys.mode = .dormant then { s with wea.due := true }
  else s.makePlan mon temps mv tables

def execWeatherPlan (t : Nat) (mon : List Nat) (temps : List Int) (mv : Nat) (verniers : List (List Nat)) (s : State) :
    Host.Outcome State Fault Refusal := .next (s.act t (State.weatherPlan mon temps mv verniers))

/-- VDD_SAG: `VDD_CORE` has read more than 10 mV below `plan_mv` for 1 ms; a new plan is due. -/
def State.vddSag (mv : Nat) (s : State) : State :=
  match s.planOf with
  | none => s
  | some (_, b) =>
    if mv + 10 < b.planMv then
      { s with wea.due := true, wea.vddLow := if s.wea.vddLow = 0 then mv else min s.wea.vddLow mv }
    else s

def execVddSag (t mv : Nat) (s : State) : Host.Outcome State Fault Refusal := .next (s.act t (State.vddSag mv))

/-- The plan's store has ended: PLAN_NEW, and MARGIN_LOW where the margin has fallen below its bound (R325). `was` is
`margin_low` before. -/
def State.planEnd (ok was : Bool) (s : State) : State :=
  let s := { s with wea.planning := false, wea.storeFailed := !ok }
  if !ok then s
  else
    let s := (s.setEvt .wea 0).fire .wea 0
    s.when (s.wea.marginLow && !was) fun s => (s.setEvt .wea 1).fire .wea 1

/-! ### The steps of Table 9.10 -/

/-- What follows the end of a store, and the next store. -/
def State.storeEnded (was : Bool) (r : State × Option (NvmStore × Bool)) : State :=
  match r.2 with
  | none => r.1
  | some (x, ok) =>
    let s := r.1
    let s := match x.item with
      | .boot _ b => s.each x.job.toList fun q s =>
        if s.sys.batchWait = some q && s.sys.batchState = BatchState.none then
          (if ok then s.batchOpened q b.lastBatch else s.openFailed q)
        else s
      | .trig i _ _ =>
        if i = planIndex then s.planEnd ok was
        else if i = timeIndex then { s with trig.timeRunning := false } else s
      | .image _ _ _ => s
    s.startStores

/-- A step of the store in progress, unless Trig work waits for the secure controller (13 R321). -/
def State.nvmStep (step : Nat) (o : StoreStep) (s : State) : State :=
  if s.secPaused then s else State.storeEnded s.wea.marginLow (s.storeStep step o)

def execNvmEraseDone (t : Nat) (ok : Bool) (s : State) : Host.Outcome State Fault Refusal :=
  .next (s.act t (State.nvmStep 2 (if ok then .on true else .failed 0x520)))

def execNvmProgramDone (t : Nat) (res : NvmResult) (s : State) : Host.Outcome State Fault Refusal :=
  .next (s.act t (State.nvmStep 3 (match res with
    | .ok => .on false
    | .failed => .failed 0x520
    | .mismatch => .failed 0x521)))

def execNvmCheckDone (t : Nat) (ok : Bool) (s : State) : Host.Outcome State Fault Refusal :=
  .next (s.act t (State.nvmStep 4 (if ok then .done else .failed 0x521)))

end Sys2Proof.Machine
end

