-- ==== Sys2Proof/Machine/Startup.lean ====
section
/-! DEFINITION. Start-up, resets of the device, resets and link state of PCI Express (13 R311, R312, R314, Table 13.5; 16
R370, R374; 17 R401). -/

namespace Sys2Proof.Machine

/-! ### Steps 2 to 4 -/

/-- The fitted-unit map from the board record; a lane of a port that is not fitted is not fitted (00 R3, 16 R374). -/
def BoardRecord.fitted (r : BoardRecord) : Fitted :=
  { ports := r.ports, axes := r.axes, encs := r.encs, rope := r.twin, valid := true
    lanes := BitVec.ofNat 32 ((List.finRange 8).foldl (fun m n =>
      if r.ports.getLsbD n.val then m + bitsOf r.lanes.toNat (4 * n.val + 3) (4 * n.val) * 16 ^ n.val else m) 0)
    dimms := 0, ain := r.ain, tlink := r.tlink }

def Board.fitted (b : Board) : Fitted :=
  match b.record with
  | .valid r => r.fitted
  | _ => Fitted.none

/-- DIMM slots that are fitted: those of the set that training chose. A DIMM that fails training or is left outside the set is
marked not fitted (00 R3, 11 R264, R265). -/
def Cellar.dimmMask (u : Cellar) : BitVec 8 :=
  (List.finRange 8).foldl (fun m k => if u.dimms[k].inUse then m ||| (1#8 <<< k.val) else m) 0

/-- The slot that a firmware target boots: the authenticating one of the highest activation, slot A before slot B where
none carries one (15 R358, log entry 52). -/
def SecUnit.bootSlot (u : SecUnit) (secure : Bool) : Option (Fin 2) :=
  let act (k : Fin 2) : Nat := (((u.slots secure)[k]).activation.map fun x => x + 1).getD 0
  match u.authentic secure 0, u.authentic secure 1 with
  | true, true => some (if act 0 < act 1 then 1 else 0)
  | true, false => some 0
  | false, true => some 1
  | false, false => none

/-- The boot record of the new epoch (R312, 14 R335). -/
def State.newBoot (s : State) : BootRecord × Fin 2 :=
  match s.trig.bootRecord with
  | some (k, r) =>
    ({ epoch := BitVec.ofNat 24 (s.nextNumber s.sideB r.epoch.toNat), lastBatch := r.lastBatch, generation := r.generation + 1 }, 1 - k)
  | none => ({ epoch := BitVec.ofNat 24 (s.nextNumber s.sideB 0), lastBatch := 0, generation := 1 }, 0)

/-- DEVICE entries of the boot record slots as they were found (R312). -/
def State.bootReport (found : Vector (SlotState BootRecord) 2) (s : State) : State :=
  let entry (result : BitVec 32) (s : State) : State := s.device (s.secureBlock .sys) 0x0202 0x10A result 0 []
  let s := ((s.when found[0].isBad (entry 0)).when found[1].isBad (entry 0x100))
  s.when (found[0].get?.isNone && found[1].get?.isNone) (entry 0x200)

/-- A new boot epoch: an empty Ledger whose first entry is its CHECKPOINT, a new capture key and its certificate
(10 R248, R250; 15 Table 15.3). -/
def State.newEpoch (epoch : BitVec 24) (s : State) : State :=
  let ldg := { Ledger.fresh with epoch, evt := s.ldg.evt, irqEn := s.ldg.irqEn, region := s.ldg.region, capOvf := s.ldg.capOvf }
  let s := { s with ldg, sec.capReady := true, sec.capEpoch := epoch }
  let s := { s with sec.epochCert := s.newEpochCert }.signedOne
  let s := s.checkpoint 1
  s.beginSession s.ldg.ckptSeq

/-! ### Die temperatures (17 R394) -/

/-- A site reads 105 degrees, 13,440 units of 1/128 degree, or more. -/
def siteHot (temp : Int) : Bool := 13440 ≤ temp

/-- The sites as they are read now (log entry 66). `SMB_ALERT_N` goes low when a site gets hot, a new cause (log entry 134),
and is released once no site is hot and the device is not in SAFE. -/
def State.seeTemps (sites : List Int) (s : State) : State :=
  let old := s.sys.siteTemps
  let new : Vector Int 8 := Vector.ofFn fun k => sites.getD k.val old[k]
  let raised := (List.finRange 8).any fun k => siteHot new[k] && !siteHot old[k]
  let held := decide (s.sys.mode = .safe) || new.any siteHot
  { s with sys.siteTemps := new, sys.alert := (s.sys.alert || raised) && held }

/-! ### The latch (R311) -/

/-- Steps 1 to 6 of Table 13.5, with what the device finds. The boot record of step 2 is stored as it is chosen; the records of
step 6 are stored by the steps of 09 Table 9.10 (log entry 53). The epoch and its Ledger begin also where no firmware
authenticates: R312 and R322 ask entries of it then (log entry 152). -/
def State.latch (b : BootInputs) (s : State) : State :=
  let cause : BitVec 4 := if s.sys.dead then 1 else 2
  let s := { s with sys := { s.sys with inReset := false, dead := false, straps := b.straps, resetCause := cause
                                        pllLocked := true, refPresent := true, phase := 2, fit := s.board.fitted }
                    board.jtag := s.board.jtag.released }
  let s := s.seeTemps b.temps
  let found := s.trig.boot
  let (r, slot) := s.newBoot
  let s := { s with trig.boot := s.trig.boot.set slot (.valid r), sys.bootLast := r.lastBatch }
  let s := (s.newEpoch r.epoch).bootReport found
  match s.sec.bootSlot false, s.sec.bootSlot true with
  | some ctl, some sec =>
    let s := { s with sec.ctlRun := ctl, sec.secRun := sec }
    let s := s.each (List.finRange 64) State.startCell
    let cel := s.cel.train b.dimms
    let s := { s with cel, sys.phase := 6
                      sys.fit.dimms := cel.dimmMask }
    s.makePlan b.monitors b.temps b.vddMv b.verniers
  | _, _ => { s with sec.capReady := false }.safeFault 2

/-- STRAP_LATCH: `PWRGOOD` or `RESET_N` rises with the other high. Device time starts at 0. -/
def execStrapLatch (b : BootInputs) (s : State) : Host.Outcome State Fault Refusal :=
  .next (if s.sys.inReset then
    let s0 : State := { s with ticks := 0 }
    s0.settle (s0.latch b)
  else s)

/-! ### READY (Table 13.5 step 8; 14 R328) -/

/-- The stores of step 6 that are still under way are complete when the step is. -/
def State.finishStores : Nat → State → State
  | 0, s => s
  | k + 1, s =>
    match s.trig.stores with
    | [] => s
    | x :: rest =>
      let s := { s with trig.stores := { x with step := 4 } :: rest }
      State.finishStores k (State.storeEnded s.wea.marginLow (s.storeStep 4 .done))

/-- Region 63 exists on a trained Cellar and its first granule is initialised (step 5; 11 R268). -/
def State.systemReady (s : State) : Bool := !s.cel.trained || s.cel.initialised.getLsbD s.cel.regions[63].base

/-- READY_REACHED: steps 5, 6 and 7 are done. A roped side-A device takes a free `OWN_N`. -/
def State.readyReached (ownHigh : Bool) (s : State) : State :=
  if s.sys.mode ≠ .startUp || !s.pci.linkUp || !s.systemReady then s
  else
    let s := s.finishStores s.trig.stores.length
    let rope := s.sys.fit.rope
    let take := rope && !s.sideB && ownHigh
    let s := { s with sys.phase := 8, rope.hbRunning := rope, rope.hbSent := s.ticks, rope.own := take
                      rope.netLow := take || !ownHigh }
    (s.enterMode .ready).raiseSvn

def execReadyReached (t : Nat) (ownHigh : Bool) (s : State) : Host.Outcome State Fault Refusal :=
  .next (s.act t (State.readyReached ownHigh))

/-! ### RESET_N and PWRGOOD (17 R401) -/

/-- What a reset leaves: the flash, the one-time store, the pins as the board drives them, host memory. -/
def State.resetAll (powerGone : Bool) (s : State) : State :=
  let cells := s.trig.cells.map fun c => { TrigCell.empty with a := c.a, b := c.b }
  let s' : State :=
    { State.reset with
      pending := s.pending, ticks := s.ticks, free := s.free, host0 := s.host0, host1 := s.host1
      sys := { SysUnit.fresh with dead := powerGone || s.sys.dead, resetCause := s.sys.resetCause
                                  safeEnded := if powerGone || s.sys.mode ≠ .safe then 0 else BitVec.ofNat 4 s.sys.safeCause }
      trig := { Trig.fresh with cells, boot := s.trig.boot }
      sec := { SecUnit.fresh with estateWords := s.sec.estateWords, locked := s.sec.locked, svnMinCtl := s.sec.svnMinCtl
                                  svnMinSec := s.sec.svnMinSec, ctl := s.sec.ctl, sec := s.sec.sec }
      board := { s.board with
        smb := Board.fresh.smb
        jtag := if powerGone then Board.fresh.jtag else { s.board.jtag.inReset with debugOpen := false } }
      axes := Vector.ofFn fun a : Fin 12 => { Axis.fresh with
        homeActive := s.axes[a].homeActive, limActive := s.axes[a].limActive
        drive := { Drive.fresh with fltLow := s.axes[a].drive.fltLow } }
      rope := { Rope.fresh with netLow := s.rope.netLow && !s.rope.own }
      cel.mem := s.cel.mem };
  s'.zeroCellar 0 (2048 * 2 ^ 30)

def execResetNAssert (t : Nat) (s : State) : Host.Outcome State Fault Refusal := .next (s.actAlways t (State.resetAll false))

def execPwrgoodFall (t : Nat) (s : State) : Host.Outcome State Fault Refusal := .next (s.actAlways t (State.resetAll true))

/-! ### PCI Express (R314; 16 R370) -/

/-- What a function shows of itself in configuration space (16 R367, Table 16.1). -/
structure PciIdent where
  vendor : BitVec 16
  device : BitVec 16
  classCode : BitVec 24
  subsystem : Option (BitVec 16 × BitVec 16) -- vendor and ID of the board record; none without a valid record
  bars : List Nat                 -- sizes of BAR0/1, BAR2/3 and BAR4/5 in bytes
  deriving DecidableEq, Repr

def State.pciIdent (s : State) (pf : PF) : PciIdent :=
  { vendor := 0x1E9C, device := if pfSecure pf then 0x0841 else 0x0840, classCode := 0x118000
    subsystem := match s.board.record with
      | .valid r => some (r.ssvid, r.ssid)
      | _ => none
    bars := [2 ^ 24, 2 ^ 16, 2 ^ 32] }

/-- Maximum payload size and maximum read request in bytes (16 R366). -/
def pciMaxPayload : Nat := 512
def pciMaxReadRequest : Nat := 4096

/-- A function-level reset: configuration space and MSI-X table; the read shadow and what has been sent stay. -/
def PciFunction.flr (f : PciFunction) : PciFunction :=
  { PciFunction.fresh with shadow := f.shadow, lrOff := f.lrOff, lastRead := f.lastRead, msixSent := f.msixSent }

def execFlrPf0 (t : Nat) (s : State) : Host.Outcome State Fault Refusal := .next (s.act t (State.modPf false PciFunction.flr))

def execFlrPf1 (t : Nat) (s : State) : Host.Outcome State Fault Refusal := .next (s.act t (State.modPf true PciFunction.flr))

def execHotReset (t : Nat) (s : State) : Host.Outcome State Fault Refusal :=
  .next (s.act t fun s => (s.modPf false PciFunction.flr).modPf true PciFunction.flr)

/-- The part of the link that goes down or comes up. -/
def State.setLink (what : LinkPart) (up : Bool) (s : State) : State :=
  match what with
  | .link => { s with pci.linkUp := up }
  | .busMaster pf => s.modPf (pfSecure pf) fun f => { f with bme := up }
  | .power pf => s.modPf (pfSecure pf) fun f => { f with d0 := up }

def execPcieLinkDown (t : Nat) (what : LinkPart) (s : State) : Host.Outcome State Fault Refusal :=
  .next (s.act t (State.setLink what false))

/-- Vectors that were pending and are unmasked are sent once transfers are possible (16 R369). -/
def State.sendVectors (secure : Bool) (s : State) : State :=
  if !s.canHost secure then s
  else s.modPf secure fun f =>
    let free (v : Nat) : Bool := !((f.msixWord (4 * v + 3)).getLsbD 0)
    { f with msixSent := f.msixSent ++ f.msixPending.filter free, msixPending := f.msixPending.filter fun v => !free v }

/-- PCIE_LINK_UP: the link trains, at a generation 1 to 5 and a width of 8, 4, 2 or 1 lanes (16 R366), or a function may transfer
again. -/
def State.linkComesUp (what : LinkPart) (gen width : Nat) (s : State) : State :=
  if what = .link && !linkShape gen width then s else
  let s := s.setLink what true
  let s := match what with
    | .link => { s with pci.gen := gen, pci.width := width, sys.phase := if s.sys.mode = Mode.startUp then max s.sys.phase 7 else s.sys.phase }
    | _ => s
  (s.sendVectors false).sendVectors true

def execPcieLinkUp (t : Nat) (what : LinkPart) (gen : Fin 6) (width : Fin 9) (s : State) : Host.Outcome State Fault Refusal :=
  .next (s.act t (State.linkComesUp what gen.val width.val))

end Sys2Proof.Machine
end

