-- ==== Sys2Proof/Machine/RegsCore.lean ====
section
/-! DEFINITION. What the registers of the core blocks read: SYS (16 Table 16.5), CMD and LDG (10 Tables 10.13, 10.14), EVF
(12 Table 12.5), DMA (11 Table 11.13), MADC (08 Table 8.8), TRIG (09 Table 9.13), SEC (15 Table 15.10), ROPE (14 Table
14.11), TLNK (16 Table 16.9). Offsets that a table does not list read zero (16 R371). -/

namespace Sys2Proof.Machine

/-- Position of an offset in an array of registers of a table, and the offset within its element. -/
def inArray (o base stride n : Nat) : Option (Nat × Nat) :=
  if base ≤ o ∧ o < base + stride * n then some ((o - base) / stride, (o - base) % stride) else none

/-- Bits of a list of conditions, first in bit 0. -/
def boolBits (l : List Bool) : Nat := l.foldr (fun b m => b2n b + 2 * m) 0

/-- Half of a 64-bit value. -/
def halfOf (x : Nat) (hi : Bool) : Word := if hi then word (x / 2 ^ 32) else word x

/-! ### SYS -/

/-- `SYS_ID` [23:0]. -/
def sysId : Word := packWord [(0x0840, 0), (Config.revision.toNat, 16)]

def Fitted.word0 (f : Fitted) : Word :=
  packWord [(f.ports.toNat, 0), (f.axes.toNat, 8), (f.encs.toNat, 20), (b2n f.rope, 28), (b2n f.valid, 29)]
def Fitted.word2 (f : Fitted) : Word := packWord [(f.dimms.toNat, 0), (f.ain.toNat, 8), (b2n f.tlink, 16)]

def State.sysReg (s : State) (secure : Bool) (o : Nat) : Word :=
  let u := s.sys
  match o with
  | 0x00 => sysId
  | 0x04 => Config.serial.extractLsb' 0 32
  | 0x08 => Config.serial.extractLsb' 32 32
  | 0x0C => Config.serial.extractLsb' 64 32
  | 0x10 => Config.serial.extractLsb' 96 32
  | 0x14 => packWord [(u.mode.code, 0), (u.batchState.code, 4), (u.phase, 8), (u.safeCause, 16)]
  | 0x18 => packWord [(u.resetCause.toNat, 0), (u.safeEnded.toNat, 8)]
  | 0x1C => u.straps.setWidth 32
  | 0x20 => u.evt
  | 0x24 => u.irqEn
  | 0x28 => s.irqSum secure
  | 0x30 => lowHalf s.time
  | 0x34 => highHalf s.time
  | 0x38 => halfOf s.wall false
  | 0x3C => halfOf s.wall true
  | 0x40 => packWord [(b2n u.pllLocked, 0), (b2n u.refPresent, 1), (u.tbOut, 2), (u.lockLosses.toNat, 16)]
  | 0x50 => u.fit.word0
  | 0x54 => u.fit.lanes
  | 0x58 => u.fit.word2
  | 0x5C => u.badAcc
  | 0x60 => u.lrMiss
  | _ => 0

/-! ### CMD -/

/-- Command rings by their place in CMD_BINDk. -/
def State.boundRing (s : State) (secure : Bool) (k : Nat) : Option Ring :=
  s.commandRings.find? fun r => r.slot == k && (secure || !r.secure)

def State.cmdReg (s : State) (secure : Bool) (o : Nat) : Word :=
  let u := s.cmd
  match o with
  | 0x00 =>
    let full := 4096 ≤ s.inFlight.length || s.commandRings.any fun r => 256 ≤ s.inFlightOn r.id
    let taking := s.ldg.ready && decide (s.sys.mode ≠ .dormant) && !u.coreWait && decide (s.inFlight.length < 4096)
    packWord [(b2n taking, 0), (b2n s.replyStall, 1), (b2n full, 2), (b2n u.coreWait, 3)]
  | 0x04 => u.evt
  | 0x08 => u.irqEn
  | 0x0C => u.accepted
  | 0x10 => u.rejected
  | 0x14 => u.dups
  | 0x18 => word (s.inFlight.length % 8192)
  | 0x1C => packWord [(u.lastRejRing.toNat, 0), (u.lastRejStatus.toNat, 16)]
  | 0x20 => u.lastRejTag
  | 0x24 => u.lastRejDetail
  | 0x28 => u.badDoorbells
  | _ =>
    match inArray o 0x100 8 64 with
    | none => 0
    | some (k, part) =>
      match s.boundRing secure k, part with
      | some r, 0 => packWord [(r.id, 0), (r.bind, 16), (1, 31)]
      | some r, 4 => packWord [(s.inFlightOn r.id, 0), (b2n r.fenceHold.isSome, 16)]
      | _, _ => 0

/-! ### LDG -/

/-- The oldest entry held, or the next one when none is held. -/
def Ledger.oldest (l : Ledger) : DWord := (l.entries.head?.map fun e => e.seq).getD l.nextSeq

def State.ldgReg (s : State) (o : Nat) : Word :=
  let l := s.ldg
  match o with
  | 0x00 => packWord [(b2n l.region.isSome, 0), (b2n (l.region.isSome && decide (15360 < l.onChip)), 1), (b2n (decide (s.generalRoom < 2)), 2),
      (b2n (decide (l.deviceReserve < 16)), 3), (b2n (decide (s.rope.role = .lead)), 4), (b2n !l.signing.isEmpty, 5),
      (b2n l.unreadable, 6)]
  | 0x04 => l.evt
  | 0x08 => l.irqEn
  | 0x10 => lowHalf l.nextSeq
  | 0x14 => highHalf l.nextSeq
  | 0x18 => lowHalf l.oldest
  | 0x1C => highHalf l.oldest
  | 0x20 => lowHalf l.sessionSeq
  | 0x24 => highHalf l.sessionSeq
  | 0x28 => lowHalf l.ckptSeq
  | 0x2C => highHalf l.ckptSeq
  | 0x30 => word l.onChip
  | 0x34 => word l.spilled
  | 0x38 => word l.capOvf
  | 0x3C => match l.region with
    | some r => packWord [(r, 0), (1, 7)]
    | none => 0
  | 0x40 => l.faultNext
  | 0x44 => l.devLost
  | 0x48 => l.epoch.setWidth 32
  | 0x50 => l.winSeqLo
  | 0x54 => l.winSeqHi
  | 0x58 => packWord [(b2n l.win.isSome, 0)]
  | _ =>
    match inArray o 0x100 4 16 with
    | none => 0
    | some (k, _) => match l.win with
      | some e => word (u32 e.bytes (4 * k))
      | none => 0xFFFFFFFF

/-! ### EVF -/

/-- The task that EVF_TSEL selects, if there is one. -/
def State.selected (s : State) : Option TaskRef :=
  let x := taskOfWord (s.evf.tsel.toNat % 2 ^ 14)
  if (taskUnit x.num x.inst).isSome then some x else none

def State.evfReg (s : State) (o : Nat) : Word :=
  let u := s.evf
  match o with
  | 0x00 => packWord [(((List.finRange 256).filter fun c => u.chans[c].route.isSome).length, 0),
      (b2n ((List.finRange 256).any fun c => u.chans[c].quarantined), 16)]
  | 0x04 => u.evt
  | 0x08 => u.irqEn
  | 0x10 => u.tsel
  | 0x14 => match s.selected with
    | some x => s.taskWord x
    | none => packWord [(1, 17)]
  | _ =>
    match inArray o 0x20 4 8, inArray o 0x400 16 256, inArray o 0x2000 32 256 with
    | some (k, _), _, _ => word (boolBits ((List.range 32).map fun i => u.chans[Fin.ofNat 256 (32 * k + i)].quarantined))
    | _, some (c, part), _ =>
      let c : Fin 256 := Fin.ofNat 256 c
      let x := u.chans[c]
      match part with
      | 0 => s.chanSource c
      | 4 => match x.route with
        | some r => word (if r.rate = 0 then 10000000 else r.rate)
        | none => 10000000
      | 8 => lowHalf x.count
      | 12 => packWord [(x.fast, 0), (x.storms, 16)]
      | _ => 0
    | _, _, some (c, part) =>
      match u.chans[Fin.ofNat 256 c].route with
      | some r => match r.tasks[part / 4]? with
        | some t => packWord [(t.word, 0), (1, 31)]
        | none => 0
      | none => 0
    | _, _, _ => 0

/-! ### DMA -/

/-- Work of a channel is the secure world's: that of its chain in progress, or of the units that it serves. -/
def State.chanHidden (s : State) (c : Fin 32) : Bool := s.chanSecure c.val

def State.chanReg (s : State) (c : Fin 32) (o : Nat) : Word :=
  let x := s.dma.chans[c]
  let st := if x.halted then 3 else match x.phase with
    | .idle => 0
    | .running => 1
    | .fencing => 2
  match o with
  | 0x00 => packWord [(st, 0), (min x.queue.length 15, 4), (b2n (match x.queue with
      | q :: _ => q.secure
      | [] => false), 8)]
  | 0x04 => word x.hopLimit
  | 0x08 => x.index
  | 0x0C => x.remain
  | 0x10 => lowHalf x.failAddr
  | 0x14 => highHalf x.failAddr
  | 0x18 => x.err
  | 0x1C => lowHalf x.bytes
  | 0x20 => highHalf x.bytes
  | _ => 0

/-- Delivery state of a port: the first record of the store that has not been delivered. -/
def State.deliveryReg (s : State) (n : Fin 8) (o : Nat) : Word :=
  let p := s.ports[n]
  let left := p.store.filter fun r => !r.delivered
  match o with
  | 0 => halfOf p.fill false
  | 4 => halfOf p.fill true
  | 8 => word (left.foldl (fun m r => m + r.held) 0 / 2 ^ 20)
  | 12 => match left with
    | r :: _ => lowHalf r.recSeq
    | [] => word (s.nextRecSeq n p.fmt.ring)
  | _ => 0

def State.dmaReg (s : State) (secure : Bool) (o : Nat) : Word :=
  let u := s.dma
  let shown (c : Fin 32) : Bool := secure || !s.chanHidden c
  match o with
  | 0x00 => word (boolBits ((List.finRange 32).map fun c => shown c && decide (u.chans[c].phase ≠ .idle) && !u.chans[c].stuck))
  | 0x04 => word (boolBits ((List.finRange 32).map fun c => shown c && u.chans[c].halted))
  | 0x08 => u.evt
  | 0x0C => u.irqEn
  | 0x10 => u.retryCnt
  | 0x14 => u.errCnt
  | 0x18 => u.evtLost
  | _ =>
    match inArray o 0x100 0x40 32, inArray o 0x900 0x10 8 with
    | some (c, part), _ => if shown (Fin.ofNat 32 c) then s.chanReg (Fin.ofNat 32 c) part else 0
    | _, some (n, part) =>
      let n : Fin 8 := Fin.ofNat 8 n
      if secure || !s.secureBlock (.port n) then s.deliveryReg n part else 0
    | _, _ => 0

/-! ### MADC -/

def MadcEntry.bytes (e : MadcEntry) : List Byte :=
  leBytes 1 e.input ++ leBytes 1 (b2n e.raw) ++ leBytes 2 e.count ++ leBytes 1 e.shift ++ leBytes 1 e.settle ++ leBytes 2 0

/-- The result at the head of the queue: none, or a queue that drains to a ring, reads all ones with a high half of zero
(R197, R198). -/
def State.madcHead (s : State) : DWord :=
  if s.madc.q.ring = 0 then s.madc.q.entries.headD 0x00000000FFFFFFFF else 0x00000000FFFFFFFF

/-- A core converts: an entry of a run, an urgent sample or a sample of its calibration. -/
def State.coreBusy (s : State) (k : Fin 2) : Bool :=
  let c := s.urgentTake.madc.cores[k]
  c.run.isSome || c.urg.isSome || (c.held.isSome && s.trig.runs.any fun r =>
    (r.op == 4 || r.op == 5) && r.num == k.val && decide (r.stage = .phase))

def State.seqReg (s : State) (q : Fin 16) (o : Nat) : Word :=
  let x := s.madc.seqs[q]
  match o with
  | 0 => packWord [(x.mode, 0), (x.core, 4), (x.entries.length, 8), (x.edges, 16), (x.pins, 24), (b2n x.wm, 28), (b2n x.queue, 29)]
  | 4 => word x.period
  | 8 => word x.missed
  | 12 => x.runs
  | _ => 0

def State.madcReg (s : State) (o : Nat) : Word :=
  let u := s.madc
  let seqs (f : Fin 16 → Bool) : Nat := boolBits ((List.finRange 16).map f)
  match o with
  | 0x00 => packWord [(b2n u.refOn, 0), (b2n u.refSettled, 1), (b2n u.cores[0].held.isSome, 2), (b2n u.cores[1].held.isSome, 3),
      (b2n (s.coreBusy 0), 4), (b2n (s.coreBusy 1), 5), (b2n u.cores[0].noRecord, 6), (b2n u.cores[1].noRecord, 7)]
  | 0x04 => u.evt
  | 0x08 => u.irqEn
  | 0x0C => packWord [(b2n u.refOn, 0), (b2n u.refMout, 1), (if u.refOn then min 65535 ((s.ticks - u.refTick) / 150000) else 0, 16)]
  | 0x10 => lowHalf s.madcHead
  | 0x14 => highHalf s.madcHead
  | 0x18 => packWord [(min u.q.entries.length 4095, 0), (min u.q.top 4095, 16)]
  | 0x1C => packWord [(u.q.ring, 0), (u.q.thresh, 16)]
  | 0x20 => u.q.ovf
  | 0x24 => word (seqs fun q => u.seqs[q].armed)
  | 0x28 => packWord [(seqs fun q => s.seqRunning q, 0), (seqs fun q => u.seqs[q].pend, 16)]
  | 0x2C => u.seqDone
  | 0x30 => u.urgLast
  | 0x34 => u.urgCnt
  | 0x38 => u.urgDrop
  | 0x3C => u.cores[0].gen
  | 0x40 => u.cores[1].gen
  | _ =>
    match inArray o 0x100 0x10 16, inArray o 0x1000 0x80 16, inArray o 0x2000 0x100 16 with
    | some (q, part), _, _ => s.seqReg (Fin.ofNat 16 q) part
    | _, some (q, part), _ => (u.seqs[Fin.ofNat 16 q].last[part / 4]?).getD 0
    | _, _, some (q, part) => match u.seqs[Fin.ofNat 16 q].entries[part / 8]? with
      | some e => word (u32 e.bytes (part % 8))
      | none => 0
    | _, _, _ => 0

/-! ### TRIG -/

/-- Halves of a mask over the record indices. -/
def indexMask (f : Fin 64 → Bool) (hi : Bool) : Word := halfOf (boolBits ((List.finRange 64).map f)) hi

def State.trigReg (s : State) (o : Nat) : Word :=
  let u := s.trig
  match o with
  | 0x00 => packWord [(b2n (u.runs.any fun r => decide (r.stage ≠ .deferred)), 0),
      (b2n ((List.finRange 64).any fun i => u.cells[i].cand.isSome), 1),
      (b2n ((List.finRange 64).any fun i => u.cells[i].rev), 2), (b2n !u.stores.isEmpty, 3), (b2n u.timeRunning, 4),
      (b2n u.timeImplausible, 5), (b2n (s.secureBlock .trig), 6)]
  | 0x04 => u.evt
  | 0x08 => u.irqEn
  | 0x0C => packWord [(boolBits ((List.range 8).map fun n => u.runs.any fun r => r.op ≤ 3 && r.num == n && decide (r.stage ≠ .deferred)), 0),
      (boolBits ((List.range 8).map fun n => u.gaps.any fun j => j.port.val == n), 8),
      (boolBits [s.madc.cores[0].held.isSome, s.madc.cores[1].held.isSome], 16),
      (boolBits ((List.range 12).map fun a => u.runs.any fun r => r.op == 9 && r.num == a), 20)]
  | 0x10 => u.last
  | 0x14 => u.lastDetail
  | 0x18 => u.lastResid
  | 0x1C => u.nvmErr
  | 0x20 => indexMask (fun i => (s.trigRec i).isSome) false
  | 0x24 => indexMask (fun i => (s.trigRec i).isSome) true
  | 0x28 => indexMask (fun i => u.cells[i].cand.isSome) false
  | 0x2C => indexMask (fun i => u.cells[i].cand.isSome) true
  | 0x30 => indexMask (fun i => u.cells[i].rev) false
  | 0x34 => indexMask (fun i => u.cells[i].rev) true
  | _ =>
    match inArray o 0x100 4 64, inArray o 0x200 4 64 with
    | some (i, _), _ => word (s.trigGen (Fin.ofNat 64 i))
    | _, some (i, _) => word (((s.trigRec (Fin.ofNat 64 i)).map fun r => r.head.count).getD 0)
    | _, _ => 0

/-! ### SEC -/

/-- Bytes of an identifier as two register words, first byte lowest. -/
def idWord (x : BitVec 64) (hi : Bool) : Word := word (u32 (beBytes 8 x.toNat) (if hi then 4 else 0))

def State.secReg (s : State) (o : Nat) : Word :=
  let u := s.sec
  match o with
  | 0x00 => s.secStat
  | 0x04 => u.evt
  | 0x08 => u.irqEn
  | 0x0C => packWord [(u.estate, 0), (b2n u.locked, 24), (8 - u.estateWords.length, 28)]
  | 0x10 => s.ldg.epoch.setWidth 32
  | 0x14 => u.worldBlk.setWidth 32
  | 0x18 => u.worldPort.setWidth 32
  | 0x1C => u.worldAx.setWidth 32
  | 0x20 => u.worldEnc.setWidth 32
  | 0x24 => u.signPolicy.setWidth 32
  | 0x28 => u.signCnt
  | 0x2C => packWord [(min s.backlog 0xFFFF, 0), (u.backlogMax.toNat, 16)]
  | 0x30 => packWord [(u.ctlRun.val, 0), (u.secRun.val, 1), (b2n (u.authentic false (u.idle false)), 2),
      (b2n (u.authentic true (u.idle true)), 3)]
  | 0x34 => u.ctl[u.ctlRun].version
  | 0x38 => u.sec[u.secRun].version
  | 0x3C => word u.svnWord
  | 0x40 => idWord dikId false
  | 0x44 => idWord dikId true
  | 0x48 => idWord s.keyId false
  | 0x4C => idWord s.keyId true
  | 0x50 => u.denyCnt
  | 0x54 => u.authFailCnt
  | _ => 0

/-! ### ROPE -/

/-- Follow states as Table 14.12 codes them. -/
def Follow.code : Follow → Nat
  | .detached => 0 | .syncing => 1 | .following => 2 | .eligible => 3

/-- Age of a heartbeat in us, saturating. -/
def State.hbAge (s : State) (last : Option Nat) : Nat :=
  match last with
  | some t => min 0xFFFF ((s.ticks - t) / 1500)
  | none => 0xFFFF

/-- A heartbeat younger than 50 us: 75,000 ticks. -/
def State.hbFresh (s : State) (last : Option Nat) : Bool :=
  match last with
  | some t => s.ticks < t + 75000
  | none => false

/-- `ROPE_STAT` (Table 14.12). -/
def State.ropeStat (s : State) : Word :=
  let r := s.rope
  packWord [(r.role.code, 0), (if r.role = .second then r.follow.code else 0, 2), (b2n r.own, 4), (b2n r.netLow, 5), (b2n s.sideB, 6),
    (r.lanes.toNat, 7), (b2n (s.hbFresh r.hbLane), 9), (b2n (s.hbFresh r.hbPin), 10), (b2n r.tbLocked, 11),
    (b2n (decide (r.calMismatch ≠ 0)), 12), (b2n r.ownFault, 13),
    (b2n (s.rings.any fun x => x.waitDoorbell && decide (x.kind ≠ .command)), 14)]

/-- ROPE registers; traffic, phase error and acknowledgement times are free values (log entry 55). The first two are zero until a
lane has locked, the last acknowledgement time until the device has led, the greatest until one is timed after a seal. -/
def State.ropeReg (s : State) (o : Nat) : Word :=
  let r := s.rope
  match o with
  | 0x00 => s.ropeStat
  | 0x04 => r.evt
  | 0x08 => r.irqEn
  | 0x0C => match r.peer with
    | some p => packWord [(p.mode, 0), (p.role, 4), (p.follow, 6)]
    | none => 0
  | 0x10 => packWord [(s.hbAge r.hbLane, 0), (s.hbAge r.hbPin, 16)]
  | 0x14 => r.fig.hbMiss
  | 0x18 => packWord [(r.lanes.toNat, 0), (r.retrain0.toNat, 8), (r.retrain1.toNat, 16)]
  | 0x1C => r.fig.retx
  | 0x20 =>
    let v := if r.led then Config.free32 (s.free + 2) else 0
    if r.fig.acked then v else v &&& 0xFFFF
  | 0x24 => if r.fig.laned then Config.free32 s.free else 0
  | 0x28 => r.fig.stepDiv
  | 0x2C => r.fig.encDiv
  | 0x30 => if r.fig.laned then Config.free32 (s.free + 1) else 0
  | 0x34 => r.fig.takeCnt
  | 0x38 => lowHalf r.fig.takeTime
  | 0x3C => highHalf r.fig.takeTime
  | 0x40 => r.fig.takeInfo
  | 0x44 => r.fig.takeFault
  | _ => 0

/-! ### TLNK -/

def State.tlnkReg (s : State) (o : Nat) : Word :=
  let u := s.tl
  match o with
  | 0x00 =>
    let able := s.sys.fit.tlink && u.symLock && (List.finRange 8).any fun n => (s.arriveReason (1#8 <<< n.val) false).isNone
    packWord [(b2n s.sys.fit.tlink, 0), (b2n u.linkUp, 1), (b2n u.symLock, 2), (s.gateMask.toNat, 4), (if u.lost then 0xFF else u.path.toNat, 8), (b2n able, 16)]
  | 0x04 => u.evt
  | 0x08 => u.irqEn
  | 0x0C => word (min 127 u.slots.length)
  | 0x10 => word (boolBits ((List.finRange 8).map fun n => s.portReady n))
  | 0x14 => word ((List.finRange 8).foldl (fun m n => m + s.ports[n].waits.slots.length * 16 ^ n.val) 0)
  | 0x18 => u.arriveCnt
  | 0x1C => u.refuseCnt
  | 0x20 => u.repeatCnt
  | 0x24 => u.crcErrCnt
  | 0x28 => u.ansMax
  | 0x2C => u.lastRefuse
  | 0x30 => word (min 255 u.rejects.length)
  | _ => 0

end Sys2Proof.Machine
end

