-- ==== Sys2Proof/Machine/RegsUnits.lean ====
section
/-! DEFINITION. What the registers of the other blocks read: PACE (05 Table 5.12), CEL (11 Table 11.12), WEA (13 Table
13.11), PORTn (02 Table 2.11, 03 Table 3.7, 04 Table 4.14), AXn (06 Table 6.13, 07 Table 7.7), ENCn (06 Table 6.15). -/

namespace Sys2Proof.Machine

/-! ### PACE -/

def State.paceStat (s : State) : Word :=
  let bits (f : Fin 4 → Bool) : Nat := boolBits (allGroups.map f)
  let on (g : Fin 4) : Bool := (s.paceCfg g).isSome
  packWord [(bits on, 0), (bits fun g => on g && s.groupRuns, 4), (bits fun g => s.gateClosed g, 8),
    (bits fun g => s.pace.groups[g].sb.isSome, 12), (bits fun g => s.pace.groups[g].marginLow, 16),
    (bits fun g => s.pace.groups[g].floorBreach, 20)]

/-- Time at steps 2 to 6, those of the switchback in progress included. -/
def PaceGroup.holdNow (x : PaceGroup) (now : Nat) : Nat := x.holdNs + ((x.sb.map fun b => b.heldNs now).getD 0)

def State.groupReg (s : State) (g : Fin 4) (o : Nat) : Word :=
  let x := s.pace.groups[g]
  let cfg (f : PaceCfg → Word) : Word := (x.cfg.map f).getD 0
  match o with
  | 0x00 => match x.cfg with
    | none => 0x003F0000
    | some c => packWord [(c.master.val, 0), (c.enc.val, 4), (c.mask, 8), ((c.feeder.map Fin.val).getD 15, 16), (b2n !c.stoppable, 20)]
  | 0x04 => s.paceStateWord g
  | 0x08 => word x.vSet
  | 0x0C => word x.vCap
  | 0x10 => s.paceMeas g
  | 0x14 => s.paceLimitWord g
  | 0x18 => cfg fun c => word c.vMax
  | 0x1C => cfg fun c => word c.vFloor
  | 0x20 => cfg fun c => word c.accel
  | 0x24 => cfg fun c => word c.jerk
  | 0x28 => cfg fun c => packWord [(c.tauMs, 0), (c.windowMs, 16)]
  | 0x2C => word x.planV
  | 0x30 => x.sbCnt
  | 0x34 => x.gapCnt
  | 0x38 => x.failCnt
  | 0x3C => wordInt x.pmax
  | 0x40 => halfOf x.slowNs false
  | 0x44 => halfOf x.slowNs true
  | 0x48 => halfOf (x.holdNow s.ns) false
  | 0x4C => halfOf (x.holdNow s.ns) true
  | 0x50 => packWord [(x.policy.overlap, 0), (x.policy.retries, 8), (b2n x.policy.closeOnFail, 10), (x.policy.limit, 16)]
  | 0x54 => word x.policy.maxSplices
  | 0x58 => word x.policy.backExtra
  | _ => 0

def State.pacePortReg (s : State) (n : Fin 8) (o : Nat) : Word :=
  let x := s.pace.ports[n]
  let level (f : Nat × Nat × Nat × Nat → Nat) : Word :=
    match (s.groupOfPort n).bind s.paceCfg with
    | some c => word (f (c.levels.getD n.val (0, 0, 0, 0)))
    | none => 0
  match o with
  | 0x00 => halfOf x.fill false
  | 0x04 => halfOf x.fill true
  | 0x08 => word (x.drain / 1000)
  | 0x0C => if s.ports[n].configured then word (256 * s.ports[n].bpl) else 0
  | 0x10 => s.paceLevelWord n
  | 0x14 => level fun l => l.1
  | 0x18 => level fun l => l.2.1
  | 0x1C => level fun l => l.2.2.1
  | 0x20 => level fun l => l.2.2.2
  | 0x24 => word x.vLim
  | 0x28 => wordInt x.seamK
  | 0x2C => packWord [(x.spliceErr, 0), (x.texture, 16)]
  | 0x30 => halfOf x.drained false
  | 0x34 => halfOf x.drained true
  | 0x38 => match x.ovrUntil with
    | some t => sat32 ((t - s.ticks) / 1500)
    | none => 0
  | 0x3C => word (x.fillMax / 2 ^ 20)
  | _ => 0

def State.paceReg (s : State) (o : Nat) : Word :=
  match o with
  | 0x00 => s.paceStat
  | 0x04 => s.pace.evt
  | 0x08 => s.pace.irqEn
  | 0x0C => s.pace.updates
  | _ =>
    match inArray o 0x100 0x80 4, inArray o 0x400 0x40 8 with
    | some (g, part), _ => s.groupReg (Fin.ofNat 4 g) part
    | _, some (n, part) => s.pacePortReg (Fin.ofNat 8 n) part
    | _, _ => 0

/-! ### CEL -/

/-- MiB occupied in a region: store bytes, delay stores of 2 MiB units, Ledger entries, rounded up. -/
def State.regionUsed (s : State) (r : Fin 64) : Nat :=
  let x := s.cel.regions[r]
  match x.purpose with
  | .image => if h : x.port < 8 then (s.ports[x.port].fill + 1048575) / 1048576 else 0
  | .delay => (List.finRange 8).foldl (fun m n => match s.cel.delays[n] with
    | some d => if d.region = r.val then m + 2 * d.units else m
    | none => m) 0
  | .ledger => if s.ldg.region = some r.val then (64 * s.ldg.spilled + 1048575) / 1048576 else 0
  | _ => 0

def Dimm.word (d : Dimm) : Word :=
  packWord [(d.gib, 0), (b2n d.x8, 9), (b2n d.present, 12), (b2n d.trained, 13), (b2n d.inUse, 14), (d.ranks, 16)]

def State.regionReg (s : State) (r : Fin 64) (o : Nat) : Word :=
  let x := s.cel.regions[r]
  let waits := s.cel.waiting.any fun w => w.region == r.val
  match o with
  | 0 => word x.base
  | 4 => word x.size
  | 8 => packWord [(x.purpose.code, 0), (b2n x.secure, 3), (x.port, 4), (b2n x.inEffect, 8), (b2n waits, 9), (b2n (s.regionInUse r), 10)]
  | 12 => word (s.regionUsed r)
  | _ => 0

/-- CEL registers; the traffic figure is a free value once the Cellar has been trained (log entry 55). PF1's window base is hidden from PF0 (R291). -/
def State.celReg (s : State) (secure : Bool) (o : Nat) : Word :=
  let u := s.cel
  match o with
  | 0x00 => packWord [(b2n u.trained, 0), (b2n (u.trained && decide (0 < u.capGib) && decide (u.initCount = u.capGib)), 1),
      (b2n u.popMismatch, 2), (b2n u.scrubRunning, 3), (u.channels.toNat, 4)]
  | 0x04 => u.evt
  | 0x08 => u.irqEn
  | 0x0C => word u.capGib
  | 0x10 => word u.initCount
  | 0x14 => u.ceCnt
  | 0x18 => u.ueCnt
  | 0x1C => u.replayCnt
  | 0x20 => lowHalf u.ueAddr
  | 0x24 => highHalf u.ueAddr
  | 0x28 => word u.scrubPos
  | 0x2C => u.scrubPass
  | 0x30 => word u.winBase0
  | 0x34 => if secure then word u.winBase1 else 0
  | 0x38 => if u.trained then Config.free32 s.free else 0
  | _ =>
    match inArray o 0x100 4 8, inArray o 0x200 0x10 64 with
    | some (k, _), _ => u.dimms[Fin.ofNat 8 k].word
    | _, some (r, part) => s.regionReg (Fin.ofNat 64 r) part
    | _, _ => 0

/-! ### WEA -/

/-- `WEA_MONm`: the cycle time as last measured, and its departure from the baseline in 0.01 %, nearest, within 16 bits. -/
def State.monitorWord (s : State) (m : Nat) : Word :=
  match s.wea.monitors[m]? with
  | none => 0
  | some x =>
    let base := Config.monitorBaseline m
    let d := if base = 0 then 0 else clampInt (-32768) 32767 (roundHalfUp (((x : Int) - base) * 10000) base)
    packWord [(min x 0xFFFF, 0), ((d % 65536).toNat, 16)]

def State.weaReg (s : State) (o : Nat) : Word :=
  let u := s.wea
  let plan (f : PlanBody → Nat) : Nat := ((s.planOf).map fun p => f p.2).getD 0
  match o with
  | 0x00 => packWord [(b2n u.planning, 0), (b2n u.marginLow, 1), (b2n u.storeFailed, 2)]
  | 0x04 => u.evt
  | 0x08 => u.irqEn
  | 0x0C => word (s.trigGen planIndex)
  | 0x10 => halfOf (plan fun b => b.planTime) false
  | 0x14 => halfOf (plan fun b => b.planTime) true
  | 0x18 => halfOf (plan fun b => b.planWall) false
  | 0x1C => halfOf (plan fun b => b.planWall) true
  | 0x20 => word (plan fun b => b.margin)
  | 0x24 => if u.due then 0 else sat32 ((u.lastPlan + 86400000000000 - s.ns) / 1000000)
  | _ =>
    match inArray o 0x100 4 8, inArray o 0x200 4 7, inArray o 0x400 4 64 with
    | some (p, _), _, _ => word (plan fun b => b.ceilings.getD p 0)
    | _, some (k, _), _ => word (plan fun b => b.curve.getD k 0)
    | _, _, some (m, _) => s.monitorWord m
    | _, _, _ => 0

/-! ### PORTn -/

/-- Four bytes of a list as a word. -/
def bytesWord (l : List Nat) : Word := packWord ((List.range 4).map fun c => (l.getD c 0 % 256, 8 * c))

/-- Two 16-bit values as a word, in two's complement. -/
def pairWord (a b : Int) : Word := packWord [((a % 65536).toNat, 0), ((b % 65536).toNat, 16)]

/-- Eight nibbles of a list from a place. -/
def nibbleWord (l : List Nat) (off : Nat) : Word := packWord ((List.range 8).map fun k => (l.getD (off + k) 0 % 16, 4 * k))

def EdgeTable.word (t : EdgeTable) (active : Bool) : Word :=
  packWord [(t.edges.length, 0), (t.shift, 13), (b2n active, 16), (t.pending, 17)]

/-- A PORT_RECONFIG waits at step 2 of Table 2.10. -/
def Port.reconfigWaits (p : Port) : Bool := (p.waits.reconfig.any fun r => r.2.2 = 2) || !p.waits.later.isEmpty

/-- The registers of 02 Table 2.11. A word skew of +8 does not fit the signed 4-bit field of `PORTn_LVDS_WOFS` and shows 0x8
(DESIGN CHOICE, log entry 110). -/
def State.portMain (s : State) (n : Fin 8) (o : Nat) : Word :=
  let p := s.ports[n]
  let c := p.cfg
  match o with
  | 0x00 => packWord [(p.st.code, 0), (b2n p.docOpen, 3), (b2n p.reconfigWaits, 4), (b2n !p.waits.disarm.isEmpty, 5),
      (b2n p.lvds.locked, 6), (b2n p.calNeeded, 7), (b2n p.lampOn, 8)]
  | 0x04 => p.stat
  | 0x08 => p.irqEn
  | 0x10 => if !p.configured then 0 else
      packWord [(b2n c.digital, 0), (c.colourCount, 1), (c.dataOrder, 4), (b2n c.down, 6), (c.pgLevel, 7), (c.lanes, 8),
        (c.sampleBits, 12), (c.encoder.val, 17)]
  | 0x14 => packWord ((List.range 4).map fun k => (c.colours.getD k 255 % 256, 8 * k))
  | 0x18 => word c.width
  | 0x1C => word c.laneRate
  | 0x20 => word c.pitch
  | 0x24 => word (c.pitch / 2 ^ 32)
  | 0x28 => wordInt c.edgeOfs
  | 0x2C => wordInt (c.edgeOfs / 2 ^ 32)
  | 0x30 => packWord [(c.leadLines, 0), (c.trailLines, 16)]
  | 0x34 => word c.maxLines
  | 0x38 => c.pgIdle.setWidth 32
  | 0x3C => word (boolBits ((List.range 24).map fun k => s.outputLevel n k))
  | 0x40 => nibbleWord c.pgMode 0
  | 0x44 => nibbleWord c.pgMode 8
  | 0x48 => nibbleWord c.pgMode 16
  | 0x4C => nibbleWord c.pgShut 0
  | 0x50 => nibbleWord c.pgShut 8
  | 0x54 => nibbleWord c.pgShut 16
  | 0x58 => word c.lampPeriod
  | 0x5C => word c.lampDuty
  | 0x60 => p.tabA.word (p.active == some false)
  | 0x64 => p.tabB.word (p.active == some true)
  | 0x68 => p.cnt.busyTicks
  | 0x70 => match p.openSide with
    | some d => word (p.grid.next - d.first - 1)
    | none => 0xFFFFFFFF
  | 0x74 => p.cnt.late
  | 0x78 => p.cnt.overrun
  | 0x7C => word (sat16 p.cnt.lateMax)
  | 0x80 => p.cnt.gapLines
  | 0x84 => p.cnt.edgeErr
  | 0x88 => p.cnt.lockLoss
  | 0x90 => p.snap.nextFrac
  | 0x94 => p.snap.nextInt
  | 0x98 => p.snap.enc
  | 0x9C => p.snap.time
  | 0xA0 => p.snap.tEst
  | 0xC0 => packWord [(if p.lvds.locked then 2 ^ c.lanes - 1 else 0, 0), (b2n p.lvds.clock, 8), (b2n p.lvds.locked, 9), (b2n p.lvds.locked, 10)]
  | 0xC4 => bytesWord p.lvds.taps
  | 0xC8 => bytesWord (p.lvds.taps.drop 4)
  | 0xCC => packWord ((List.range 8).map fun k => ((p.lvds.offsets.getD k 0 % 16).toNat, 4 * k))
  | 0xD0 => bytesWord p.lvds.errs
  | 0xD4 => bytesWord (p.lvds.errs.drop 4)
  | 0xD8 => word p.lvds.ckKhz
  | _ => 0

/-- Age of the oldest calibration of a good slice, in ms. -/
def VideoLane.calAge (l : VideoLane) (now : Nat) : Nat :=
  l.good.foldl (fun m k => if l.slices[k].calDone then max m ((now - l.slices[k].calTick) / 1500000) else m) 0

/-- The registers of 03 Table 3.7 of a lane. -/
def State.laneReg (s : State) (n : Fin 8) (c : Fin 4) (o : Nat) : Word :=
  let p := s.ports[n]
  let e := p.cfg.block.lanes[c]
  let l := p.vid.lanes[c]
  match o with
  | 0x00 => packWord [(e.mode, 0), (b2n e.invert, 2)]
  | 0x04 => packWord [(e.shd, 0), (e.shdV, 16)]
  | 0x08 => packWord [(e.shr, 0), (e.shrV, 16)]
  | 0x0C => packWord [(l.pga, 0), ((l.offset % 1024).toNat, 16)]
  | 0x10 => l.gen
  | 0x14 => packWord [(boolBits ((List.finRange 9).map fun k => l.slices[k].retired), 0), ((l.spare.map Fin.val).getD 15, 16),
      ((l.calSlice.map Fin.val).getD 15, 20)]
  | 0x18 => sat32 (l.calAge s.ticks)
  | 0x1C => l.calCycles
  | 0x20 => l.resid
  | 0x24 => l.ovr
  | 0x28 => l.und
  | 0x2C => l.range
  | _ => 0

def State.portVideo (s : State) (n : Fin 8) (o : Nat) : Word :=
  let p := s.ports[n]
  let b := p.cfg.block
  let lanes (f : Fin 4 → Bool) : Nat := boolBits ((List.finRange 4).map f)
  match o with
  | 0x800 => packWord [(b2n p.vid.on, 0), (b2n p.vid.settled, 1), (b2n p.vid.ready, 2), (lanes fun c => p.laneOn c, 4),
      (lanes fun c => p.vid.lanes[c].noSpare, 8), (lanes fun c => p.vid.lanes[c].overdue, 12), (lanes fun c => p.vid.lanes[c].fail, 16)]
  | 0x804 => packWord [(b.pxPeriod, 0), (b.pxHigh, 16)]
  | 0x808 => word b.rdStart
  | 0x80C => packWord [(b.lead, 0), (b2n b.pxckEn, 16)]
  | 0x810 => word (s.minPeriod n)
  | _ => match inArray o 0x840 0x40 4 with
    | some (c, part) => s.laneReg n (Fin.ofNat 4 c) part
    | none => 0

/-- Samples that entered the pipeline in the last 1 ms. -/
def Port.demandNow (p : Port) (t : Nat) : Nat := p.cnt.demand.foldl (fun m x => if t < x.1 + 1500000 then m + x.2 else m) 0

/-- The pipeline is taking samples: a line is being captured or waits in the input buffer, and nothing holds the pipeline
(DESIGN CHOICE, log entry 118). -/
def Port.takesSamples (p : Port) : Bool := (p.line.isSome || !p.inbuf.isEmpty) && !p.stalled

/-- A refresh segment or a SHADE load is being written: one is due, and R78 allows it now, or a load has begun and holds a
side back (R79). -/
def Port.storeWriting (p : Port) : Bool :=
  p.shade.loading || (p.noSide && (p.shade.newGain.isSome || p.shade.loadPending))

/-- The registers of 04 Table 4.14. -/
def State.portPipe (s : State) (n : Fin 8) (o : Nat) : Word :=
  let p := s.ports[n]
  let f := p.fmt
  let h := p.shade
  let off (k : Nat) : Int := h.driftOff.getD k 0
  let gain (k : Nat) : Int := h.driftGain.getD k 0x4000
  let demand := p.demandNow s.ticks / 1000
  match o with
  | 0x1000 => packWord [(b2n p.takesSamples, 0), (b2n (decide (100 * p.cnt.pipeCap.toNat < 105 * demand)), 1),
      (b2n p.staleNow, 2), (b2n h.segWritten, 3), (b2n (decide (0 < h.accLines)), 4), (b2n p.storeWriting, 5),
      (b2n (p.driftAtBound h.offLearn h.gainLearn), 6), (b2n !p.alignPending.isEmpty, 7), (b2n p.fmtPending.isSome, 8), (b2n p.docOpen, 9)]
  | 0x1004 => p.cnt.pipeCap
  | 0x1008 => p.cnt.pipeCeil
  | 0x100C => word demand
  | 0x1010 => p.cnt.inbufHwm
  | 0x1014 => packWord [(f.bits, 0), (b2n f.interleaved, 5), (b2n f.packed, 6), (f.slotMask, 8), (f.linesPerStrip, 16),
      (b2n p.fmtPending.isSome, 25)]
  | 0x1018 => if p.configured then word f.ring else 0
  | 0x101C => bytesWord p.align.delays
  | 0x1020 => bytesWord p.align.phases
  | 0x1024 => p.align.gen
  | 0x1028 => h.gen
  | 0x102C => pairWord (off 0) (off 1)
  | 0x1030 => pairWord (off 2) (off 3)
  | 0x1034 => pairWord (gain 0) (gain 1)
  | 0x1038 => pairWord (gain 2) (gain 3)
  | 0x103C => h.epoch
  | 0x1040 => h.clamped
  | 0x1044 => p.cnt.gapRej
  | 0x1048 => p.cnt.clip
  | 0x104C => p.cnt.neg
  | 0x1050 => p.cnt.docs
  | 0x1054 => p.cnt.strips
  | 0x1058 => word (s.nextRecSeq n f.ring)
  | 0x105C => match p.openSide with
    | some d => word d.hashed.length
    | none => 0
  | 0x1060 => packWord [(p.dMaxOf p.align, 0), (min 16 (p.caps.length - p.dMaxOf p.align), 8)]
  | _ => 0

/-- The registers of a port. An entry of an edge table beyond its edge count reads 0 (DESIGN CHOICE, log entry 112). -/
def State.portReg (s : State) (n : Fin 8) (o : Nat) : Word :=
  if o < 0x800 then s.portMain n o
  else if o < 0x1000 then s.portVideo n o
  else if o < 0x2000 then s.portPipe n o
  else match inArray o 0x8000 4 4096, inArray o 0xC000 4 4096 with
    | some (k, _), _ => (s.ports[n].tabA.edges[k]?).getD 0
    | _, some (k, _) => (s.ports[n].tabB.edges[k]?).getD 0
    | _, _ => 0

/-! ### AXn -/

def MoveKind.code : MoveKind → Nat
  | .none => 0 | .position => 1 | .velocity => 2 | .geared => 3 | .homing => 4 | .governed => 5

/-- `AXn_STATE`. -/
def State.axisState (s : State) (a : Fin 12) : Word :=
  let x := s.axes[a]
  packWord [(x.st.code, 0), (b2n x.positionLost, 4), (b2n x.kept.isSome, 5), (b2n (s.governed a), 6),
    (b2n ((x.gear.bind fun g => g.next).isSome), 7), (b2n x.homeActive, 8), (b2n x.limActive, 9), (b2n x.softOn, 10), (x.move.kind.code, 12)]

/-- The ratio in force (06 R158). -/
def Axis.ratioNow (x : Axis) : Int :=
  match x.gear with
  | some g => ((g.ratioAt g.x) * 2 ^ 32).floor
  | none => 0

/-- The registers of 06 Table 6.13. -/
def State.axisMain (s : State) (a : Fin 12) (o : Nat) : Word :=
  let x := s.axes[a]
  let k := x.kin s.ticks
  let gear (f : Gear → Word) : Word := (x.gear.map f).getD 0
  let next (f : GearNext → Word) : Word := ((x.gear.bind fun g => g.next).map f).getD 0
  match o with
  | 0x00 => s.axisState a
  | 0x04 => x.evt
  | 0x08 => x.irqEn
  | 0x10 => lowInt x.pos
  | 0x14 => highInt x.pos
  | 0x18 => lowInt x.move.target
  | 0x1C => highInt x.move.target
  | 0x20 => wordInt (ratRound k.v)
  | 0x24 => satInt32 (ratRound k.a)
  | 0x28 => match x.plan with
    | some pl => word (pl.at s.ticks).2
    | none => 0
  | 0x2C => lowInt x.remain
  | 0x30 => highInt x.remain
  | 0x34 => sat32 x.overshoot
  | 0x38 => packWord [(b2n x.cfg.invert, 0), (b2n x.cfg.homePol, 1), (b2n x.cfg.limPol, 2), (b2n x.cfg.limDir, 3),
      ((x.cfg.enc.map Fin.val).getD 15, 8)]
  | 0x3C => word x.cfg.ratio
  | 0x40 => word (x.cfg.ratio / 2 ^ 32)
  | 0x44 => word x.lim.v
  | 0x48 => word x.lim.a
  | 0x4C => word x.lim.j
  | 0x50 => word x.lim.aStop
  | 0x54 => word x.lim.jStop
  | 0x58 => lowInt x.lim.softMin
  | 0x5C => highInt x.lim.softMin
  | 0x60 => lowInt x.lim.softMax
  | 0x64 => highInt x.lim.softMax
  | 0x68 => word x.move.v
  | 0x6C => word x.move.a
  | 0x70 => word x.move.j
  | 0x74 => wordInt x.ratioNow
  | 0x78 => wordInt (x.ratioNow / 2 ^ 32)
  | 0x7C => gear fun g => word g.src.val
  | 0x80 => gear fun g => word g.sync
  | 0x84 => next fun g => lowInt g.pos
  | 0x88 => next fun g => highInt g.pos
  | 0x8C => next fun g => wordInt g.ratio
  | 0x90 => next fun g => wordInt (g.ratio / 2 ^ 32)
  | 0x94 => packWord [(x.queued 16, 0), (min x.steps.starve 0xFFFF, 16)]
  | 0x98 => x.steps.steps
  | 0x9C => word x.steps.lastInt
  | 0xA0 => satInt32 (s.followErr x)
  | 0xA4 => match x.home with
    | some h => packWord [(h.step, 0), (h.method, 4)]
    | none => 0
  | 0xA8 => x.steps.moves
  | _ => 0

/-- `AXn_DRV_STAT` (07 Table 7.8). -/
def State.drvStat (s : State) (a : Fin 12) : Word :=
  let x := s.axes[a]
  let d := x.drive
  let i := d.cur.now s.ticks
  packWord [(b2n d.en, 0), (b2n d.fltIn, 1),
    (b2n (d.en && decide (d.cur.hi = d.lev.iHold ∧ d.cur.hi ≤ i)), 2), (b2n (decide (d.lev.iRun < i)), 3),
    (b2n (d.en && decide (i = d.lev.iMax)), 4), (b2n d.load.valid, 5), (b2n (decide (x.st = .parked) && !d.en), 6),
    (if x.st = .disabled then 15 else d.res, 8), (if x.st = .disabled then 3 else x.chopCode s.ticks .a, 12),
    (if x.st = .disabled then 3 else x.chopCode s.ticks .b, 14)]

/-- Chopper cycles of the last 1 ms and ON periods ended by t_on_max. -/
def Chop.word (c : Chop) (t : Nat) : Word :=
  packWord [(sat16 (c.cycles.filter fun u => t < u + 1500000).length, 0), (sat16 c.onMax, 16)]

/-- The registers of 07 Table 7.7. -/
def State.axisDrive (s : State) (a : Fin 12) (o : Nat) : Word :=
  let x := s.axes[a]
  let d := x.drive
  let ta := x.thr .a s.ticks
  let tb := x.thr .b s.ticks
  match o with
  | 0x800 => s.drvStat a
  | 0x804 => d.evt
  | 0x808 => d.irqEn
  | 0x80C => word x.index
  | 0x810 => packWord [(d.idxRef, 0), (b2n d.refValid, 16)]
  | 0x814 => packWord [(ta.1, 0), (b2n ta.2, 10), (tb.1, 16), (b2n tb.2, 26)]
  | 0x818 => word (d.cur.now s.ticks)
  | 0x81C => packWord [(d.load.lambda, 0), (d.load.top, 8), (d.load.samples % 65536, 16)]
  | 0x820 => packWord [(d.chop.flags, 0), (d.chop.mixRise, 8), (d.chop.mixFall, 16), (d.chop.tDead, 24)]
  | 0x824 => word d.chop.tBlank
  | 0x828 => word d.chop.tOff
  | 0x82C => word d.chop.tOnMax
  | 0x830 => packWord [(d.lev.iRun, 0), (d.lev.iMax, 16)]
  | 0x834 => packWord [(d.lev.iHold, 0), (d.lev.iPark, 16)]
  | 0x838 => word d.lev.fUp
  | 0x83C => packWord [(d.ld.target, 0), (d.ld.band, 8), (d.ld.stall, 16), (d.ld.count, 24)]
  | 0x840 => packWord [(d.ld.up, 0), (d.ld.down, 8), (d.ld.adapt, 16)]
  | 0x844 => packWord [(d.ld.zc, 0), (d.ld.ke, 16)]
  | 0x848 => word d.ld.vMin
  | 0x84C => packWord [(d.lev.enSettle, 0), (d.lev.holdDelay, 16)]
  | 0x850 => word d.ld.follow
  | 0x854 => d.chopA.word s.ticks
  | 0x858 => d.chopB.word s.ticks
  | 0x85C => packWord [(d.parked.idx, 0), (if d.parked.valid then (d.parked.idx + 128) % 1024 else 0, 10), (b2n d.parked.valid, 31)]
  | 0x860 => lowInt d.parked.pos
  | 0x864 => highInt d.parked.pos
  | 0x868 => wordInt d.parked.enc
  | 0x86C => d.stallCnt
  | 0x870 => d.skipCnt
  | _ => 0

def State.axisReg (s : State) (a : Fin 12) (o : Nat) : Word := if o < 0x800 then s.axisMain a o else s.axisDrive a o

/-! ### ENCn -/

def State.encReg (s : State) (e : Fin 8) (o : Nat) : Word :=
  let x := s.encs[e]
  match o with
  | 0x00 => x.evt ||| packWord [(b2n x.backward, 8), (b2n (x.lastEdge.any fun t => decide (s.ticks < t + 300000)), 9), (b2n x.posInvalid, 10)]
  | 0x04 => x.irqEn
  | 0x08 => packWord [(b2n x.invert, 0), (b2n x.idxEn, 1), (b2n x.idxPol, 2), (b2n x.idxGate, 3), (x.filter, 4), (x.estEdges, 8), (b2n x.idxMode, 16)]
  | 0x10 => lowInt x.pos
  | 0x14 => highInt x.pos
  | 0x18 => lowInt x.idxPos
  | 0x1C => highInt x.idxPos
  | 0x20 => word (x.tpc s.ticks)
  | 0x24 => wordInt (x.vel s.ticks)
  | 0x28 => word (x.lastEdge.getD 0)
  | 0x2C => x.illegalCnt
  | 0x30 => x.idxCnt
  | _ => 0

end Sys2Proof.Machine
end

