-- ==== Sys2Proof/Machine/Pins.lean ====
section
/-! DEFINITION. What the device drives on its machine outputs (14 Table 14.1; 17 Table 17.1), the SMBus target and the test port
(16 R388 to R390; 17 R394). -/

namespace Sys2Proof.Machine

/-! ### Machine outputs (14 R327, R329; 17 R391, R392) -/

/-- What an output pin does: high impedance, or a level. -/
inductive PinDrive where
  | z
  | low
  | high
  deriving DecidableEq, Repr

/-- No pin is driven: the device is unpowered, or the test port floats the pins. -/
def State.unpowered (s : State) : Bool := s.sys.dead || s.board.jtag.floating

/-- The Rope bit, as the board record gives it while no map is latched. -/
def State.ropeBit (s : State) : Bool := s.sys.fit.rope || (s.sys.inReset && s.board.fitted.rope)

/-- A shared output of Table 14.1: high impedance unless this device owns the machine; on a device without the Rope bit it is
always driven, low where its unit is off or not fitted. -/
def State.sharedPin (s : State) (level : Bool) : PinDrive :=
  if s.unpowered || (s.ropeBit && !s.rope.own) then .z else if level && !s.sys.inReset then .high else .low

/-- `PGn_o` and `PXCKn`. -/
def State.pgPin (s : State) (n : Fin 8) (o : Nat) : PinDrive := s.sharedPin (s.outputLevel n o)
def State.pxckPin (s : State) (n : Fin 8) : PinDrive := s.sharedPin (s.pxckLevel n)

/-- `AXn_EN`, and the two pins of a phase. -/
def State.axEnPin (s : State) (a : Fin 12) : PinDrive := s.sharedPin s.axes[a].drive.en
def State.axPhasePins (s : State) (a : Fin 12) (ph : Phase) : PinDrive × PinDrive :=
  let x := s.axes[a].bridgePins s.ticks ph
  (s.sharedPin x.1, s.sharedPin x.2)

/-- The driver of `TL_TX` is on: a driver that is off presents high impedance. -/
def State.tlDriverOn (s : State) : Bool := !s.unpowered && (!s.ropeBit || s.rope.own)

/-- `ROPE_HB_OUT`: a heartbeat is a pulse of 1 us, 1,500 ticks, a wake one of 5 us, 7,500 ticks, in its place (14 R350, Table 14.2). -/
def State.ropeHbOut (s : State) : Bool :=
  !s.unpowered && s.rope.hbRunning
    && (decide (s.ticks < s.rope.hbSent + 1500) || (s.rope.wakeSent.any fun t => s.ticks < t + 7500))

/-- `OWN_N` is open-drain: a holder pulls it low, any other releases it. -/
def State.ownPin (s : State) : PinDrive := if !s.unpowered && s.rope.own then .low else .z

/-- The buffered reference is driven on `MREF_OUT`; otherwise that pin is high-impedance (08 R189). -/
def State.mrefDriven (s : State) : Bool := !s.unpowered && s.madc.refOn && s.madc.refMout

/-! ### SMBus (16 Table 16.11) -/

/-- The 7-bit address of the target. -/
def State.smbAddr (s : State) : Nat := if s.sys.straps.getLsbD 2 then 0x5D else 0x5C

/-- One bit of the packet error code, most significant first, with the polynomial of the SMBus standard (log entry 65). -/
def pecBit (c : BitVec 8) : BitVec 8 := if c.getLsbD 7 then (c <<< 1) ^^^ 0x07#8 else c <<< 1

def pecByte (c x : BitVec 8) : BitVec 8 := (List.range 8).foldl (fun c _ => pecBit c) (c ^^^ x)

def pec (l : List Byte) : Byte := l.foldl pecByte 0

/-- The answer to a read of a command code, PEC last. -/
def State.smbAnswer (code : Nat) (data : List Byte) (s : State) : State :=
  let a := s.smbAddr
  let head := leBytes 1 (2 * a) ++ leBytes 1 code ++ leBytes 1 (2 * a + 1)
  { s with board.smb := { s.board.smb with answer := data ++ [pec (head ++ data)], nacked := false } }

/-- Read Word and Block Read. -/
def State.smbWord (code w : Nat) (s : State) : State := s.smbAnswer code (leBytes 2 w)
def State.smbBlock (code : Nat) (data : List Byte) (s : State) : State := s.smbAnswer code (leBytes 1 data.length ++ data)

/-- The millisecond of the snapshot (16 R388, log entry 66). -/
def State.shotMs (s : State) : Nat := s.ticks / 1500000

/-- A snapshot of this millisecond stands; without one the values read now are it. -/
def State.shotOf {α : Type} (s : State) (x : Option (Nat × α)) (now : α) : Nat × α :=
  match x with
  | some y => if y.1 = s.shotMs then y else (s.shotMs, now)
  | none => (s.shotMs, now)

/-- The site temperatures of the snapshot, with what is read now as its values where it is new. -/
def State.shootSites (sites : List Int) (s : State) : State :=
  if (s.board.smb.sites.any fun x => x.1 = s.shotMs) then s
  else
    let s := s.seeTemps sites
    { s with board.smb.sites := some (s.shotMs, s.sys.siteTemps.toList) }

/-- The site temperatures of the snapshot. -/
def State.shotSites (s : State) : List Int := (s.board.smb.sites.map Prod.snd).getD []

/-- The highest of the site temperatures. -/
def State.hottest (s : State) : Int := s.shotSites.foldl max (s.shotSites.headD 0)

def execSmbReadMode (t : Nat) (s : State) : Host.Outcome State Fault Refusal :=
  .next (s.act t fun s => s.smbWord 0 s.smbShot)

def execSmbReadTemp (t : Nat) (sites : List Int) (s : State) : Host.Outcome State Fault Refusal :=
  .next (s.act t fun s => let s := s.shootSites sites; s.smbAnswer 1 (leInt 2 s.hottest))

def execSmbReadTempSites (t : Nat) (sites : List Int) (s : State) : Host.Outcome State Fault Refusal :=
  .next (s.act t fun s => let s := s.shootSites sites; s.smbBlock 2 (s.shotSites.flatMap (leInt 2)))

def execSmbReadPower (t power : Nat) (s : State) : Host.Outcome State Fault Refusal :=
  .next (s.act t fun s =>
    let x := s.shotOf s.board.smb.power power
    { s with board.smb.power := some x }.smbWord 3 (sat16 x.2))

def execSmbReadRailPower (t : Nat) (rails : List Nat) (s : State) : Host.Outcome State Fault Refusal :=
  .next (s.act t fun s =>
    let x := s.shotOf s.board.smb.rails rails
    { s with board.smb.rails := some x }.smbBlock 4 (x.2.flatMap fun x => leBytes 2 (sat16 x)))

def execSmbReadId (t : Nat) (s : State) : Host.Outcome State Fault Refusal :=
  .next (s.act t fun s => s.smbBlock 5 (leBytes 4 sysId.toNat ++ leBytes 16 Config.serial.toNat))

/-- SMB_ALERT_RESPONSE: a device that pulls the alert answers with its address and releases it. -/
def State.alertResponse (s : State) : State :=
  if s.sys.alert then
    let b := leBytes 1 (2 * s.smbAddr)
    { s with sys.alert := false, board.smb := { s.board.smb with answer := b ++ [pec (leBytes 1 0x19 ++ b)], nacked := false } }
  else { s with board.smb := { s.board.smb with answer := [], nacked := true } }

def execSmbAlertResponse (t : Nat) (s : State) : Host.Outcome State Fault Refusal := .next (s.act t State.alertResponse)

/-- SMB_NACK: a write beyond the command code, or an unknown code. -/
def execSmbNack (t : Nat) (s : State) : Host.Outcome State Fault Refusal :=
  .next (s.act t fun s => { s with board.smb := { s.board.smb with answer := [], nacked := true } })

/-! ### Test port (R389, R390) -/

/-- An instruction is loaded: it selects a register, and stops whatever an earlier one drove. -/
def State.testIr (ir : TestInstr) (reg : TestReg) (captured : Nat) (s : State) : State :=
  { s with board.jtag := { s.board.jtag with ir, reg, captured, driving := false, floating := false } }

/-- What BYPASS does, under the name of the instruction that acts so. -/
def State.asBypass (ir : TestInstr) (s : State) : State := s.testIr ir .bypass 0

def execBypass (t : Nat) (s : State) : Host.Outcome State Fault Refusal := .next (s.actAlways t (State.asBypass .bypass))

/-- The identification code: the revision in bits [31:28]. -/
def idcodeWord : Nat := 0x0084056F + 2 ^ 28 * (Config.revision.toNat % 16)

def execIdcode (t : Nat) (s : State) : Host.Outcome State Fault Refusal :=
  .next (s.actAlways t (State.testIr .idcode .idcode idcodeWord))

/-- SAMPLE_PRELOAD: the boundary cells take the pins. -/
def State.samplePins (pins : List Bool) (s : State) : State :=
  let s := s.testIr .samplePreload .boundary (boolBits pins)
  { s with board.jtag.cells := pins }

def execSamplePreload (t : Nat) (pins : List Bool) (s : State) : Host.Outcome State Fault Refusal :=
  .next (s.actAlways t (State.samplePins pins))

/-- EXTEST, CLAMP and HIGHZ take effect only while `RESET_N` is low. -/
def State.inTest (ir : TestInstr) (reg : TestReg) (drive float : Bool) (s : State) : State :=
  if !s.sys.inReset then s.asBypass ir
  else
    let s := s.testIr ir reg 0
    { s with board.jtag := { s.board.jtag with driving := drive, floating := float } }

def execExtest (t : Nat) (s : State) : Host.Outcome State Fault Refusal :=
  .next (s.actAlways t (State.inTest .extest .boundary true false))

def execClamp (t : Nat) (s : State) : Host.Outcome State Fault Refusal :=
  .next (s.actAlways t (State.inTest .clamp .bypass true false))

def execHighz (t : Nat) (s : State) : Host.Outcome State Fault Refusal :=
  .next (s.actAlways t (State.inTest .highz .bypass false true))

/-- DBG_ACCESS opens the debug port until provisioning is locked, with a DEVICE entry; afterwards it acts as BYPASS. In reset
there is nothing to open (log entry 67). -/
def State.openDebug (s : State) : State :=
  if s.sec.locked || s.sys.inReset then s.asBypass .dbgAccess
  else
    let s := s.testIr .dbgAccess .debug 0
    { s with board.jtag.debugOpen := true, sec.debug := true }.device true 0 0 0 0 []

def execDbgAccess (t : Nat) (s : State) : Host.Outcome State Fault Refusal := .next (s.actAlways t State.openDebug)

end Sys2Proof.Machine
end

