-- ==== Sys2Proof/Machine/Registers.lean ====
section
/-! DEFINITION. Register accesses through BAR0 (00 R9, 08 R197, 15 R353, 16 R368, R369, R371): the map of Table 16.2, reads,
latching and shadow reads, writes to the registers that have no row of their own. -/

namespace Sys2Proof.Machine

/-! ### The map (Table 16.2) -/

/-- The block, or instance, and the offset in it. -/
def regAt (off : Nat) : Option (BlockId × Nat) :=
  if off < 0xD0000 then (BlockId.ofCode (off / 0x10000) 0).map fun b => (b, off % 0x10000)
  else match inArray off 0x100000 0x10000 8, inArray off 0x200000 0x1000 12, inArray off 0x210000 0x1000 8 with
    | some (n, o), _, _ => some (.port (Fin.ofNat 8 n), o)
    | _, some (a, o), _ => some (.ax (Fin.ofNat 12 a), o)
    | _, _, some (e, o) => some (.enc (Fin.ofNat 8 e), o)
    | _, _, _ => none

/-- What a register of a block reads through a function of the given world. -/
def State.blockReg (s : State) (secure : Bool) (b : BlockId) (o : Nat) : Word :=
  match b with
  | .sys => s.sysReg secure o
  | .cmd => s.cmdReg secure o
  | .ldg => s.ldgReg o
  | .evf => s.evfReg o
  | .dma => s.dmaReg secure o
  | .madc => s.madcReg o
  | .trig => s.trigReg o
  | .sec => s.secReg o
  | .rope => s.ropeReg o
  | .tlnk => s.tlnkReg o
  | .pace => s.paceReg o
  | .cel => s.celReg secure o
  | .wea => s.weaReg o
  | .port n => s.portReg n o
  | .ax a => s.axisReg a o
  | .enc e => s.encReg e o

/-- A word of the ring table: entries of secure rings read zero through PF0 (R353). -/
def State.ringWord (s : State) (secure : Bool) (ring k : Nat) : Word :=
  match s.ring? ring with
  | some r => if r.secure && !secure then 0 else word (u32 r.entry (4 * k))
  | none => 0

/-- A word of the pending-bit array of a function. -/
def PciFunction.pba (f : PciFunction) (k : Nat) : Word := word (boolBits ((List.range 32).map fun i => f.msixPending.contains (32 * k + i)))

/-- What an offset of BAR0 reads; offsets outside the map read zero (R371). -/
def State.readWord (s : State) (secure : Bool) (off : Nat) : Word :=
  match regAt off with
  | some (b, o) => if secure || !s.secureBlock b then s.blockReg secure b o else 0
  | none =>
    match inArray off 0x400000 32 8192, inArray off 0x800000 4 4096, inArray off 0x808000 4 32 with
    | some (r, o), _, _ => s.ringWord secure r (o / 4)
    | _, some (k, _), _ => (s.pf secure).msixWord k
    | _, _, some (k, _) => (s.pf secure).pba k
    | _, _, _ => 0

/-- Offsets of the low halves in a block (access code LR). -/
def lowRegister (b : BlockId) (o : Nat) : Bool :=
  match b with
  | .sys => o == 0x30 || o == 0x38
  | .ldg => o == 0x10 || o == 0x18 || o == 0x20 || o == 0x28
  | .dma => match inArray o 0x100 0x40 32, inArray o 0x900 0x10 8 with
    | some (_, k), _ => k == 0x10 || k == 0x1C
    | _, some (_, k) => k == 0
    | _, _ => false
  | .madc => o == 0x10
  | .rope => o == 0x38
  | .pace => match inArray o 0x100 0x80 4, inArray o 0x400 0x40 8 with
    | some (_, k), _ => k == 0x40 || k == 0x48
    | _, some (_, k) => k == 0x00 || k == 0x30
    | _, _ => false
  | .cel => o == 0x20
  | .wea => o == 0x10 || o == 0x18
  | .ax _ => o == 0x10 || o == 0x18 || o == 0x2C || o == 0x58 || o == 0x60 || o == 0x84 || o == 0x860
  | .enc _ => o == 0x10 || o == 0x18
  | _ => false

/-- An offset of BAR0 is the low half of a pair. -/
def isLow (off : Nat) : Bool := match regAt off with
  | some (b, o) => lowRegister b o
  | none => false

/-- An offset of BAR0 is the high half of a pair. -/
def isHigh (off : Nat) : Bool := decide (4 ≤ off) && isLow (off - 4)

/-- A register that PF0 does not reach is counted (R353). -/
def State.denied (s : State) (pf : PF) (off : Nat) : Bool := match regAt off with
  | some (b, _) => !s.reaches pf b
  | none => false

/-! ### Reads (R9, R197) -/

/-- The value of a read goes back to its function. -/
def State.readBack (pf : PF) (x : Word) (s : State) : State := s.returned pf (x.setWidth 64)

/-- The free values that a read of the ROPE and CEL blocks may have shown are used up (log entry 55). -/
def State.readSpent (off : Nat) (s : State) : State :=
  match regAt off with
  | some (.rope, _) | some (.cel, _) => { s with free := s.free + 3 }
  | _ => s

/-- A register without a side effect is read. -/
def State.plainRead (pf : PF) (off : Nat) (s : State) : State :=
  if s.denied pf off then (s.readBack pf 0).deny
  else (s.readBack pf (s.readWord (pfSecure pf) off)).readSpent off

/-- The high half of a pair goes to the function's shadow. -/
def State.latch64 (pf : PF) (off : Nat) (hi : Word) (s : State) : State :=
  s.modPf (pfSecure pf) fun f => { f with shadow := hi, lrOff := some off }

/-- BAR0 offset of MADC_RES_LO. -/
def madcResOff : Nat := 0x50010

/-- MADC_RES_LO: while the queue drains to registers the head entry is removed; its high half is latched. -/
def State.resLo (pf : PF) (s : State) : State :=
  if s.denied pf madcResOff then (s.readBack pf 0).deny
  else
    let x := s.madcHead
    let s := (s.readBack pf (lowHalf x)).latch64 pf madcResOff (highHalf x)
    if s.madc.q.ring ≠ 0 then s
    else
      let left := s.madc.q.entries.drop 1
      { s with madc.q.entries := left, madc.q.times := s.madc.q.times.drop 1 }

/-- LATCHING_READ: the low half is returned and the high half of the same instant copied; at another register it is a
plain read (log entry 54). -/
def State.latchingRead (pf : PF) (off : Nat) (s : State) : State :=
  if off = madcResOff then s.resLo pf
  else if !isLow off || s.denied pf off then s.plainRead pf off
  else (s.plainRead pf off).latch64 pf off (s.readWord (pfSecure pf) (off + 4))

/-- A high half read without its low half before it (R9, R375): the live half, `lr_miss`, `SYS_LR_MISS`. -/
def State.lrMissed (pf : PF) (off : Nat) (s : State) : State :=
  let sec := pfSecure pf
  { s with sys.lrMiss := packWord [(off % 2 ^ 24, 0), (b2n sec, 31)] }.setEvt .sys (if sec then 7 else 6)

/-- SHADOW_READ: the shadow if the low half was read last, once; else the live half with the miss recorded. At another
register it is a plain read. "Read last" counts the reads of a function's low halves alone: a plain read in between keeps the
pairing, a low half of another pair takes it (DESIGN CHOICE, log entry 119). -/
def State.shadowRead (pf : PF) (off : Nat) (s : State) : State :=
  if !isHigh off || s.denied pf off then s.plainRead pf off
  else if (s.pf (pfSecure pf)).lrOff = some (off - 4) then
    (s.readBack pf (s.pf (pfSecure pf)).shadow).modPf (pfSecure pf) fun f => { f with lrOff := none }
  else
    let s := (s.plainRead pf off).lrMissed pf off
    if off = madcResOff + 4 then s.setEvt .madc 2 else s

def execLatchingRead (t : Nat) (pf : PF) (off : Nat) (s : State) : Host.Outcome State Fault Refusal :=
  .next (s.act t (State.latchingRead pf off))

def execShadowRead (t : Nat) (pf : PF) (off : Nat) (s : State) : Host.Outcome State Fault Refusal :=
  .next (s.act t (State.shadowRead pf off))

def execMadcResLo (t : Nat) (pf : PF) (s : State) : Host.Outcome State Fault Refusal := .next (s.act t (State.resLo pf))

def execMadcResHi (t : Nat) (pf : PF) (s : State) : Host.Outcome State Fault Refusal :=
  .next (s.act t (State.shadowRead pf (madcResOff + 4)))

/-! ### Writes (R9) -/

/-- Offsets of a block's event register and of its enables, and the bits that the event register has. -/
def evtPlace : BlockId → Nat × Nat × Word
  | .sys => (0x20, 0x24, 0xFF)
  | .cmd => (4, 8, 0x7F)
  | .ldg => (4, 8, 0x3F)
  | .evf => (4, 8, 7)
  | .dma => (8, 12, 0x3F)
  | .madc => (4, 8, 0x1F)
  | .trig => (4, 8, 0x3F)
  | .sec => (4, 8, 0x1F)
  | .rope => (4, 8, 0xFF)
  | .tlnk => (4, 8, 0x3F)
  | .pace => (4, 8, 0xFFFFFFFF)
  | .cel => (4, 8, 0x3F)
  | .wea => (4, 8, 3)
  | .port _ => (4, 8, 0xFF)
  | .ax _ => (4, 8, 0x3FF)
  | .enc _ => (0, 4, 7)

/-- The event register of a block takes a W1C write. -/
def State.clearEvt (b : BlockId) (v : Word) (s : State) : State :=
  match b with
  | .sys => { s with sys.evt := w1c s.sys.evt v }
  | .cmd => { s with cmd.evt := w1c s.cmd.evt v }
  | .ldg => { s with ldg.evt := w1c s.ldg.evt v }
  | .evf => { s with evf.evt := w1c s.evf.evt v }
  | .dma => { s with dma.evt := w1c s.dma.evt v }
  | .madc => { s with madc.evt := w1c s.madc.evt v }
  | .trig => { s with trig.evt := w1c s.trig.evt v }
  | .sec => { s with sec.evt := w1c s.sec.evt v }
  | .rope => { s with rope.evt := w1c s.rope.evt v }
  | .tlnk => { s with tl.evt := w1c s.tl.evt v }
  | .pace => { s with pace.evt := w1c s.pace.evt v }
  | .cel => { s with cel.evt := w1c s.cel.evt v }
  | .wea => { s with wea.evt := w1c s.wea.evt v }
  | .port n => s.modPort n fun p => { p with stat := w1c p.stat v }
  | .ax n => s.modAxis n fun a => { a with evt := w1c a.evt v }
  | .enc n => s.modEnc n fun e => { e with evt := w1c e.evt v }

/-- The enables of a block are written. -/
def State.setEnables (b : BlockId) (v : Word) (s : State) : State :=
  match b with
  | .sys => { s with sys.irqEn := v }
  | .cmd => { s with cmd.irqEn := v }
  | .ldg => { s with ldg.irqEn := v }
  | .evf => { s with evf.irqEn := v }
  | .dma => { s with dma.irqEn := v }
  | .madc => { s with madc.irqEn := v }
  | .trig => { s with trig.irqEn := v }
  | .sec => { s with sec.irqEn := v }
  | .rope => { s with rope.irqEn := v }
  | .tlnk => { s with tl.irqEn := v }
  | .pace => { s with pace.irqEn := v }
  | .cel => { s with cel.irqEn := v }
  | .wea => { s with wea.irqEn := v }
  | .port n => s.modPort n fun p => { p with irqEn := v }
  | .ax n => s.modAxis n fun a => { a with irqEn := v }
  | .enc n => s.modEnc n fun e => { e with irqEn := v }

/-- A window base is no greater than `CEL_CAP_GIB` - 4 (11 R272). -/
def Cellar.windowOk (u : Cellar) (v : Word) : Bool := v.toNat % 4096 + 4 ≤ u.capGib

/-- The other registers that a write changes: EVF_TSEL, MADC_SEQ_DONE, CEL_WIN_BASE0 and 1, LDG_WIN_SEQ_LO, the drive
registers of an axis; every other write is ignored. -/
def State.writeOther (secure : Bool) (b : BlockId) (o : Nat) (v : Word) (s : State) : State :=
  match b, o with
  | .evf, 0x10 => { s with evf.tsel := v &&& 0x3FFF }
  | .madc, 0x2C => { s with madc.seqDone := w1c s.madc.seqDone v }
  | .cel, 0x30 => if s.cel.windowOk v then { s with cel.winBase0 := v.toNat % 4096 } else s
  | .cel, 0x34 => if secure && s.cel.windowOk v then { s with cel.winBase1 := v.toNat % 4096 } else s
  | .ldg, 0x50 => { s with ldg.winSeqLo := v }
  | .ax n, 0x804 => s.modAxis n fun a => { a with drive.evt := w1c a.drive.evt v }
  | .ax n, 0x808 => s.modAxis n fun a => { a with drive.irqEn := v &&& 0x7F }
  | _, _ => s

def State.writeBlock (secure : Bool) (b : BlockId) (o : Nat) (v : Word) (s : State) : State :=
  let e := evtPlace b
  if o = e.1 then s.clearEvt b v
  else if o = e.2.1 then s.setEnables b (v &&& e.2.2)
  else s.writeOther secure b o v

/-- A word of a function's MSI-X table, its reserved bits zero; a vector that becomes unmasked is sent if it was pending. -/
def State.writeMsix (secure : Bool) (k : Nat) (v : Word) (s : State) : State :=
  let v := if k % 4 = 3 then v &&& 1 else if k % 4 = 0 then v &&& 0xFFFFFFFC else v
  let base : Word := if k % 4 = 3 then 1 else 0
  let put (f : PciFunction) : PciFunction :=
    let rest := f.msixTable.filter fun e => e.1 != k
    { f with msixTable := if v = base then rest else (rest.filter fun e => e.1 < k) ++ [(k, v)] ++ rest.filter fun e => k < e.1 }
  (s.modPf secure put).sendVectors secure

/-- REGISTER_WRITE. -/
def State.registerWrite (pf : PF) (off : Nat) (v : Word) (s : State) : State :=
  match regAt off with
  | some (b, o) => s.accessTo pf b (State.writeBlock (pfSecure pf) b o v)
  | none =>
    match inArray off 0x800000 4 4096 with
    | some (k, _) => s.writeMsix (pfSecure pf) k v
    | none => s

def execRegisterWrite (t : Nat) (pf : PF) (off : Nat) (value : BitVec 32) (s : State) : Host.Outcome State Fault Refusal :=
  .next (s.act t (State.registerWrite pf off value))

/-- BAD_ACCESS: counted, `bad_access` set; a read that completes with Unsupported Request returns nothing. A poisoned write is
discarded and reported through AER instead (16 R368). -/
def State.badAccess (pf : PF) (poisoned : Bool) (s : State) : State :=
  if poisoned then s.modPf (pfSecure pf) fun f => { f with aer := true }
  else { s with sys.badAcc := satInc s.sys.badAcc }.setEvt .sys 3

def execBadAccess (t : Nat) (pf : BadAccess) (s : State) : Host.Outcome State Fault Refusal :=
  .next (s.act t (State.badAccess pf.pf pf.poisoned))

end Sys2Proof.Machine
end

