-- ==== Sys2Proof/Machine/SysCmds.lean ====
section
/-! DEFINITION. Identity, time, whole seconds, loss of the timebase, die temperature, deadlines and recovery budgets (16 R373,
R375; 14 R329; 17 R394; 10 R240, R257 to R259). -/

namespace Sys2Proof.Machine

/-! ### IDENTIFY (16 Table 16.4) -/

def State.identity (s : State) : List Byte :=
  leBytes 4 sysId.toNat ++ leBytes 4 0 ++ leBytes 16 Config.serial.toNat ++ leBytes 4 s.sys.fit.word0.toNat
    ++ leBytes 4 s.sys.fit.lanes.toNat ++ leBytes 4 s.sys.fit.word2.toNat ++ leBytes 4 s.cel.capGib
    ++ leBytes 4 (s.sec.estate + 2 ^ 24 * b2n s.sec.locked) ++ leBytes 4 s.ldg.epoch.toNat
    ++ leBytes 4 (s.sec.ctl[s.sec.ctlRun]).version.toNat ++ leBytes 4 (s.sec.sec[s.sec.secRun]).version.toNat
    ++ leBytes 1 s.sys.mode.code ++ leBytes 1 s.rope.role.code ++ leBytes 2 (s.pci.gen + 16 * s.pci.width)
    ++ beBytes 8 dikId.toNat ++ leBytes 60 0

/-- A result buffer, where the command names one (10 R235). -/
def bufferAt (addr : Nat) (l : List Byte) : List (Nat × List Byte) := if addr = 0 then [] else [(addr, l)]

def identifySpec : PacketSpec where
  code := 0x0002
  world := eitherWorld
  len p := p.paramLen == 8
  fitted := alwaysFitted
  check _ _ _ := none
  run p _ seq s := s.finish seq 0 0 sysId (buffers := bufferAt (u64 p.params 0) s.identity)

def execIdentify (p : Packet) (s : State) : Host.Outcome State Fault Refusal := .next (s.act p.tick (State.packet identifySpec p))

/-! ### SET_TIME and whole seconds (R373) -/

/-- `TB_OUT` is high for 1 ms from a chosen second. -/
def pulseNs : Nat := 1000000

/-- SET_TIME fields that R373 refuses. -/
def State.timeBad (s : State) (l : List Byte) : Bool :=
  let atTime := u64 l 8
  u64 l 0 = 0 || 3 < u8 l 16 || !zeroBytes l 17 7
    || (atTime ≠ 0 && (s.ns + 1000000000 < atTime || atTime + 10000000000 < s.ns))

/-- The offset and the mode of `TB_OUT` take effect on a command accepted at `ns`; a pulse that is out ends when the output goes
off. -/
def State.setWallAt (ns : Nat) (l : List Byte) (s : State) : State :=
  let since := if u64 l 8 = 0 then ns else u64 l 8
  let mode := if u8 l 16 = 3 then s.sys.tbOut else u8 l 16
  let s := { s with sys.wallOffset := some ((u64 l 0 : Int) - since), sys.tbOut := mode
                    sys.tbOutEnd := if mode = 0 then 0 else s.sys.tbOutEnd }
  { s with sys.lastWallSecond := (s.wall / 1000000000 : Nat) }.setEvt .sys 4

/-- SET_TIME has its effect as it is accepted. -/
def State.setWall (l : List Byte) (s : State) : State := s.setWallAt s.ns l

def setTimeSpec : PacketSpec where
  code := 0x0006
  world := blockWorld .sys
  len p := p.paramLen == 24
  fitted := alwaysFitted
  check s p _ := firstFail [(s.timeBad p.params, badParam 0x40)]
  run p _ seq s := (s.setWall p.params).finishOk seq 0

def execSetTime (p : Packet) (s : State) : Host.Outcome State Fault Refusal := .next (s.act p.tick (State.packet setTimeSpec p))

/-- SECOND: a whole second of device time fires the generator; the chosen second begins a pulse. -/
def State.wholeSecond (s : State) : State :=
  let now := s.ns / 1000000000
  let wall : Int := (s.wall / 1000000000 : Nat)
  let tick := s.sys.lastSecond < now
  let turn := s.sys.wallOffset.isSome && decide (wall ≠ s.sys.lastWallSecond)
  let start :=
    if s.sys.tbOut = 1 && tick then some (now * 1000000000 + pulseNs)
    else if s.sys.tbOut = 2 && turn then some (s.ns - s.wall % 1000000000 + pulseNs)
    else none
  let s := { s with sys.lastSecond := max s.sys.lastSecond now, sys.lastWallSecond := if turn then wall else s.sys.lastWallSecond
                    sys.tbOutEnd := start.getD s.sys.tbOutEnd }
  s.when tick fun s => s.fire .sys 3

def execSecond (t : Nat) (s : State) : Host.Outcome State Fault Refusal := .next (s.act t State.wholeSecond)

/-- `TB_OUT` as the pin shows it; its safe level is low (17 Table 17.1). -/
def State.tbOutHigh (s : State) : Bool := s.sys.tbOut ≠ 0 && decide (s.ns < s.sys.tbOutEnd) && decide (s.sys.mode ≠ .safe)

/-! ### The timebase and the die -/

/-- TIMEBASE_LOCK_LOSS: the PLL has lost lock or its reference, which of the two is open (log entry 56); on a device with a
twin the heartbeat stops (14 R329). -/
def State.timebaseLost (s : State) : State :=
  let s := State.drawn { s with
    sys.pllLocked := false, sys.refPresent := (Config.free8 s.free).getLsbD 0, sys.lockLosses := satInc16 s.sys.lockLosses }
  (s.setEvt .sys 5).when s.sys.fit.rope State.ropeStops

def execTimebaseLockLoss (t : Nat) (s : State) : Host.Outcome State Fault Refusal := .next (s.act t State.timebaseLost)

/-- DIE_TEMPERATURE_ALERT: a site is read. -/
def State.dieHot (site : Fin 8) (temp : Int) (s : State) : State := s.seeTemps (s.sys.siteTemps.set site temp).toList

def execDieTemperatureAlert (t : Nat) (site : Fin 8) (temp : Int) (s : State) : Host.Outcome State Fault Refusal :=
  .next (s.act t (State.dieHot site temp))

/-! ### Deadlines (10 R240; the owning chapters) -/

/-- BUSY for a command that has not begun (R240). -/
def State.endBusy (seq : DWord) (s : State) (detail : BitVec 32 := 0x0A) : State := s.finish seq 0x0104 detail 0

/-- The instance, if there is one, of which a condition holds. -/
def findFin {n : Nat} (f : Fin n → Bool) : Option (Fin n) := (List.finRange n).find? f

/-- BATCH_OPEN that waits for deferred calibrations (09 Table 9.6), BATCH_CLOSE (13 R319). -/
def State.batchExpire (q : DWord) (s : State) : State :=
  if s.sys.batchState = .none then
    if s.trig.stores.any fun x => x.job = some q then s else { s with sys.batchWait := none }.endBusy q
  else if s.sys.batchState = .closing && s.sys.closeStep < 8 then s.closeExpired
  else s

/-- Commands that wait on a port: PORT_ARM before `vid_ready`, PORT_DISARM (02 R49), PORT_RECONFIG in step 2 (02 Table 2.10),
ALIGN_SET (04 R90). -/
def State.portExpire (q : DWord) (n : Fin 8) (s : State) : State :=
  let w := s.ports[n].waits
  if w.arm.contains q && s.ports[n].lvds.training.isNone then
    (s.modPort n fun p => { p with waits.arm := p.waits.arm.erase q }).endBusy q
  else if w.disarm.contains q then (s.modPort n fun p => { p with waits.disarm := p.waits.disarm.erase q }).endBusy q
  else if w.reconfig.any fun r => r.1 = q && r.2.2 = 2 then
    ((s.modPort n fun p => { p with waits.reconfig := none, waits.ready := true }).endBusy q).nextReconfig n w.later.length
  else if w.later.any fun r => r.1 = q then
    (s.modPort n fun p => { p with waits.later := p.waits.later.filter fun r => r.1 ≠ q }).endBusy q
  else if s.ports[n].alignPending.any fun a => a.seq = some q then
    (s.modPort n fun p => { p with alignPending := p.alignPending.filter fun a => a.seq ≠ some q }).endBusy q
  else s

/-- A move stops on the ramp, and its command ends at once (06 R149); a ratio change that waits is dropped. -/
def State.axisExpire (q : DWord) (a : Fin 12) (s : State) : State :=
  if s.axes[a].waits.seq = some q then
    let s := s.modAxis a fun x => { x with waits.seq := none, waits.deferred := false }
    (s.motionLimit a (some q) 0x306 0).stopAxis a false none
  else if s.axes[a].gear.any fun g => g.next.any fun x => x.seq = q then
    let drop (g : Gear) : Gear := { g with next := none }
    (s.modAxis a fun x => { x with gear := x.gear.map drop }).endBusy q
  else s

/-- Calibrations of a port before their stores (09 R214, Table 9.6); a commit or revert whose stores have not begun. -/
def State.calExpire (q : DWord) (s : State) : State :=
  match s.trig.runs.find? fun r => r.seq = q with
  | some r => if r.op ≤ 3 || r.stage = CalStage.deferred then s.calStop r else s
  | none =>
    if (s.trig.jobs.any fun j => j.seq = q && j.cal.isNone && j.written = 0) && (s.trig.stores.head?.all fun x => x.job ≠ some q) then
      { s with trig.jobs := s.trig.jobs.filter (fun j => j.seq ≠ q)
               trig.stores := s.trig.stores.filter fun x => x.job ≠ some q }.endBusy q
    else s

/-- A chain on a copy channel: one that has moved nothing is dropped; one in its descriptor retry ends as the retry would have,
the retry superseded (R259, log entry 57). -/
def State.copyExpire (q : DWord) (ch : Fin 32) (s : State) : State :=
  let c := s.dma.chans[ch]
  let first := c.queue.head?.any fun x => x.seq = q
  if first && c.cur.isSome then
    if c.retried then
      let no := if c.retryFault ≠ 0 then c.retryFault else s.ldg.faultNext
      let s := s.when (c.retryFault = 0) State.takeFault
      let s := s.device (s.chanSecure ch.val) 0x0601 0x611 0 no []
      ((s.chanError ch 0 0x0500 0x611).fire .dma 0).chanHalt ch 0x0500 0x611 no c.failAddr false
    else s
  else (s.modChan ch fun c => { c with
    queue := c.queue.filter fun x => x.seq ≠ q, retried := c.retried && !first }).endBusy q

/-- A planned handover or release that waits for its instant (14 R348); a ROPE_PAIR that waits for the seal. -/
def State.ropeExpire (q : DWord) (s : State) : State :=
  if s.rope.swap.any fun x => x.seq = q then { s with rope.swap := none }.endBusy q 0x905
  else if s.rope.pairing.any fun x => x.seq = q && x.waitSeal then { s with rope.pairing := none }.endBusy q
  else s

/-- Waits of the other units: urgent conversions that no core has taken, fences, regions, an activation that waits for the
second. A LEDGER_CHECKPOINT has begun its session and goes on. -/
def State.otherExpire (q : DWord) (s : State) : State :=
  let s := s.urgentTake
  if s.madc.urgent.any fun u => u.seq = some q then
    { s with madc.urgent := s.madc.urgent.filter fun u => u.seq ≠ some q }.endBusy q
  else if s.dma.fences.any fun f => f.seq = q then { s with dma.fences := s.dma.fences.filter fun f => f.seq ≠ q }.endBusy q
  else match s.cel.waiting.find? fun w => w.seq = q with
  | some w => s.regionExpire w
  | none =>
    match [false, true].find? fun k => (s.sec.start k).any fun x => x.seq = q && x.peer with
    | some k => (s.setStart k none).endBusy q
    | none => s.ropeExpire q

/-- DEADLINE_EXPIRY: the deadline of a command in flight passes before its reply is formed. A command that has begun and that
no chapter ends goes on (R240). -/
def State.deadline (q : DWord) (s : State) : State :=
  match s.flight? q with
  | none => s
  | some f =>
    if f.finished || f.queuedReply || !f.deadline.any fun d => d ≤ s.ns then s
    else if s.sys.batchWait = some q then s.batchExpire q
    else match findFin fun n : Fin 8 =>
        let w := s.ports[n].waits
        w.arm.contains q || w.disarm.contains q || (w.reconfig.any fun r => r.1 = q) || (w.later.any fun r => r.1 = q)
          || s.ports[n].alignPending.any fun a => a.seq = some q with
    | some n => s.portExpire q n
    | none =>
      match findFin fun a : Fin 12 => s.axes[a].waits.seq = some q || s.axes[a].gear.any fun g => g.next.any fun x => x.seq = q with
      | some a => s.axisExpire q a
      | none =>
        if (s.trig.runs.any fun r => r.seq = q) || s.trig.jobs.any fun j => j.seq = q then s.calExpire q
        else match findFin fun c : Fin 32 => s.dma.chans[c].queue.any fun x => x.seq = q with
        | some c => s.copyExpire q c
        | none => s.otherExpire q

def execDeadlineExpiry (t : Nat) (seq : BitVec 64) (s : State) : Host.Outcome State Fault Refusal :=
  .next (s.act t (State.deadline seq))

/-! ### Recovery budgets (10 R257, R258) -/

/-- A descriptor retry at L1 that its budget ends is a fault of L1 under its number, which it takes now if it has none (R257);
the retry goes on at L2. -/
def State.retryOpens (level : Nat) (no : BitVec 32) (s : State) : State :=
  if level ≠ 1 then s
  else match findFin fun c : Fin 32 => s.dma.chans[c].retried && s.dma.chans[c].retryFault = no
      && !s.ldg.faults.contains (no, 1) with
  | none => s
  | some c =>
    let x := if no = 0 then s.ldg.faultNext else no
    let s := s.when (no = 0) State.takeFault
    State.modChan c (fun c => { c with retryFault := x }) { s with ldg.faults := s.ldg.faults ++ [(x, 1)] }

/-- RECOVERY_BUDGET_EXPIRY: the level that owns a fault has not settled it; its DEVICE entry carries the status of the failure,
which the spec does not name for every level (log entry 45), and the fault passes on: to L3 on a lead, to L4 elsewhere. A
number of 0 names a descriptor retry that has needed no entry yet. The restart of L2 ends with WATCHDOG_RECOVERY. -/
def State.budgetOut (level : Nat) (asked : BitVec 32) (s : State) : State :=
  let no := if asked = 0 then s.ldg.faultNext else asked
  let s := s.retryOpens level asked
  if s.ldg.faults.contains (no, level) && level < 4 then
    let next := if level < 2 then level + 1 else if level = 2 && s.rope.role = .lead then 3 else 4
    let s := (s.device (s.secureBlock .cmd) (Config.free16 s.free) (Config.free32 s.free) 0 no []).drawn
    let pass (f : BitVec 32 × Nat) : BitVec 32 × Nat := if f = (no, level) then (no, next) else f
    let s := { s with ldg.faults := s.ldg.faults.map pass }
    s.when (next = 3) State.ropeStops
  else s

def execRecoveryBudgetExpiry (t : Nat) (level : Fin 5) (fault : BitVec 32) (s : State) : Host.Outcome State Fault Refusal :=
  .next (s.act t (State.budgetOut level.val fault))

end Sys2Proof.Machine
end

