-- ==== Sys2Proof/Machine/RopeOps.lean ====
section
/-! DEFINITION. The Rope: heartbeats, ownership, pairing, takeover, planned handover, release and the faults of the link
(14 R327 to R351). -/

namespace Sys2Proof.Machine

/-! ### Leaving a pair -/

/-- A fitted port comes to IDLE with nothing in it; its store is emptied (R349, Table 14.3). -/
def Port.emptied (fit : Bool) (p : Port) : Port :=
  { p with st := if fit then .idle else .off, line := none, waiting := [], grid.sched := [], sides := [], inbuf := []
           caps := [], signatures := [], recent := [], waits := PortWaits.fresh, held := [], store := [], provs := []
           figures := SealFigures.fresh, lvds := Lvds.fresh, darkPhase := false }

/-- A group without a switchback or a gap stop. -/
def PaceGroup.calm (x : PaceGroup) : PaceGroup := { x with sb := none, gapStop := false }

/-- This device becomes solo in READY without `OWN_N`, and begins a boot epoch of its own side (R335, R349). -/
def State.releaseSelf (s : State) : State :=
  let s := { s with rope.role := .solo, rope.follow := .detached, rope.netLow := s.rope.netLow && !s.rope.own, rope.own := false
                    rope.pairing := none, rope.swap := none, rope.outcomes := [], rope.yielded := false, rope.toPass := 0 }
  let s := { s with cmd.flights := s.cmd.flights.filter fun f => f.kind ≠ FlightKind.mirrored }
  let ports := Vector.ofFn fun n : Fin 8 => s.ports[n].emptied (s.fittedBlock (.port n))
  let s := { s with ports, pace.groups := s.pace.groups.map PaceGroup.calm }
  let s := (s.each (List.finRange 12) State.axisOff).sysRoutes
  let s := { s with trig.runs := [], trig.gaps := [], tl.slots := []
                    sys.batchState := .none, sys.closeStep := 0, sys.batchWait := none, sys.docs := 0 }
  let last := (s.trig.bootRecord.map fun r : Fin 2 × BootRecord => r.2.epoch.toNat).getD s.ldg.epoch.toNat
  let epoch := BitVec.ofNat 24 (s.nextNumber s.sideB (max last s.ldg.epoch.toNat))
  ((s.enterMode .ready).storeBoot epoch s.sys.bootLast none).newEpoch epoch

/-- A lead loses its second and goes on alone (R347), under the number of the fault where it has one; a handover or an activation
that needed it ends (log entry 58). -/
def State.loseSecond (s : State) (fault : BitVec 32 := 0) : State :=
  let q := s.rope.swap.map fun x => x.seq
  let s := { s with rope.role := .solo, rope.swap := none }.setEvt .rope 1
  let s := s.event .rope 0x0600 0x902 (fault := fault)
  let s := s.each q.toList fun q s => s.endBusy q 0x905
  s.each [false, true] fun k s => match s.sec.start k with
    | some x => if x.peer then s.activateFailed k x else s
    | none => s

/-- A ROPE_RELEASE of the second completes on the former lead (R349). -/
def State.released (s : State) : State :=
  match s.rope.releasing with
  | none => s
  | some q => { s with rope.releasing := none }.finishOk q 0

/-- A device that does not pull `OWN_N` reads its net. -/
def State.readNet (high : Bool) (s : State) : State := if s.rope.own then s else { s with rope.netLow := !high }

/-- A second that no longer follows (Table 14.3, R336). -/
def State.detachSelf (s : State) : State :=
  { s with rope.follow := .detached, rope.outcomes := [], rope.yielded := false
           cmd.flights := s.cmd.flights.filter fun f => f.kind ≠ FlightKind.mirrored }.setEvt .rope 1

/-- The pair is broken by the link: each side as its role says. -/
def State.breakPair (s : State) : State :=
  match s.rope.role with
  | .lead => s.loseSecond
  | .second => if s.rope.follow = .detached then s else s.detachSelf
  | .solo => s

/-! ### Heartbeats (R329, R343, Table 14.2) -/

/-- Ticks of 25, 50 and 200 us. -/
def hbPeriod : Nat := 37500
def hbFault : Nat := 300000

/-- A path has been silent for a number of ticks. -/
def State.silentFor (s : State) (last : Option Nat) (n : Nat) : Bool :=
  match last with
  | some t => t + n ≤ s.ticks
  | none => true

/-- Both paths have been silent for a number of ticks. -/
def State.bothSilent (s : State) (n : Nat) : Bool := s.silentFor s.rope.hbLane n && s.silentFor s.rope.hbPin n

/-- HEARTBEAT_SEND: one heartbeat each period while the generator runs. A path that has been heard counts a miss for each
period without a heartbeat (log entry 59). -/
def State.sendHeartbeat (s : State) : State :=
  if !s.rope.hbRunning || s.ticks < s.rope.hbSent + hbPeriod then s
  else
    let miss (l : Option Nat) : Nat := b2n (l.any fun t => t + hbPeriod < s.ticks)
    { s with rope.hbSent := s.ticks, rope.fig.hbMiss := satAdd s.rope.fig.hbMiss (miss s.rope.hbLane + miss s.rope.hbPin) }

def execHeartbeatSend (t : Nat) (s : State) : Host.Outcome State Fault Refusal := .next (s.act t State.sendHeartbeat)

/-- What a lane heartbeat tells: a second that has left the pair leaves the lead solo, with a DEVICE entry where it has found a
divergence (R336), under one number with the event record (10 R260). A second whose peer no longer leads, because no
acknowledgement reached it in time, is detached (R331). A release that waits for the peer ends (R349), and an activation
waits for the second's new image (15 R360). -/
def State.heardPeer (was : Option PeerInfo) (p : PeerInfo) (s : State) : State :=
  let s := { s with rope.peer := some p, rope.netLow := s.rope.own || p.own }
  let wasRole (k : Nat) : Bool := match was with
    | some w => w.role = k
    | none => false
  let s :=
    match s.rope.role with
    | .second => if p.role = 0 && wasRole 1 && s.rope.follow ≠ Follow.detached then s.detachSelf else s
    | .solo => if p.role = 2 then s else s.released
    | .lead =>
      if p.role = 2 && p.follow = 0 && p.diverged then
        let no := s.ldg.faultNext
        (s.takeFault.device (s.secureBlock .rope) 0x0600 0x90B 0 no []).loseSecond no
      else if (p.role = 2 && p.follow = 0) || (p.role = 0 && wasRole 2) then s.loseSecond
      else s
  s.each [false, true] fun k s => match s.sec.start k with
    | some x =>
      let image := ((s.sec.slots k)[s.sec.idle k]).digest
      if !x.peer then s
      else if (if k then p.secDigest else p.ctlDigest) = image then s.activate k x.seq
      else if x.tick + 2 * restartTicks k < s.ticks then s.activateFailed k x
      else s
    | none => s

/-- HEARTBEAT: a heartbeat of the peer restarts the age of its path; a lane frame also carries what the peer says of itself. -/
def State.hearHeartbeat (path : HbPath) (p : PeerInfo) (s : State) : State :=
  if !s.sys.fit.rope then s
  else match path with
  | .pin => { s with rope.hbPin := some s.ticks, rope.hbLostFired := false }
  | .lanes =>
    if s.rope.lanes = 0 then s
    else
      let was := s.rope.peer
      State.heardPeer was p { s with rope.hbLane := some s.ticks, rope.hbLostFired := false }

def execHeartbeat (t : Nat) (path : HbPath) (peer : PeerInfo) (s : State) : Host.Outcome State Fault Refusal :=
  .next (s.act t (State.hearHeartbeat path peer))

/-- ROPE_FAULT: both paths silent for 200 us. HB_LOST fires once; the pair is broken (R343, R347). To a second whose net has come
to read high it is the loss of its lead, and LEAD_LOST has the effect. -/
def State.ropeFault (netHigh : Bool) (s : State) : State :=
  let s := s.readNet netHigh
  if !s.sys.fit.rope || !s.bothSilent hbFault || s.rope.hbLostFired || (s.second && !s.rope.netLow) then s
  else { (s.fire .rope 0).breakPair.released with rope.hbLostFired := true }

def execRopeFault (t : NetSample) (s : State) : Host.Outcome State Fault Refusal :=
  .next (s.act t.tick (State.ropeFault t.high))

/-- HB_PATH_LOST: the pin silent for 200 us with a lane up; `hb_pin` clears by its age (Table 14.9). -/
def State.pathLost (s : State) : State :=
  if s.sys.fit.rope && s.rope.lanes ≠ 0 && s.silentFor s.rope.hbPin hbFault then s.setEvt .rope 3 else s

def execHbPathLost (t : Nat) (s : State) : Host.Outcome State Fault Refusal := .next (s.act t State.pathLost)

/-- MIRROR_ACK_TIMEOUT: the second has not acknowledged within 20 us (R331). -/
def execMirrorAckTimeout (t : Nat) (s : State) : Host.Outcome State Fault Refusal :=
  .next (s.act t fun s => if s.rope.role = .lead then s.loseSecond else s)

/-- YIELD reaches a second that follows. -/
def State.hearYield (s : State) : State :=
  if s.second && (s.rope.follow = .following || s.rope.follow = .eligible) then { s with rope.yielded := true } else s

def execYield (t : Nat) (s : State) : Host.Outcome State Fault Refusal := .next (s.act t State.hearYield)

/-! ### Lanes, lock and `OWN_N` (R328, R332, Table 14.9) -/

def execRopeLaneError (t : Nat) (_lane : Fin 2) (s : State) : Host.Outcome State Fault Refusal :=
  .next (s.act t fun s =>
    if !s.sys.fit.rope then s
    else ({ s with rope.fig.retx := satInc s.rope.fig.retx }.setEvt .rope 4).fire .rope 2)

/-- ROPE_LANES_DOWN: a lane that was up retrains; with both down and the pin alive the pair is broken. -/
def State.lanesDown (mask : BitVec 2) (s : State) : State :=
  let r := s.rope
  let bump (c : BitVec 8) (k : Nat) : BitVec 8 := if r.lanes.getLsbD k && mask.getLsbD k && c ≠ 0xFF then c + 1 else c
  let s := { s with rope.lanes := r.lanes &&& ~~~ mask, rope.retrain0 := bump r.retrain0 0, rope.retrain1 := bump r.retrain1 1 }
  if s.rope.lanes = 0 && r.lanes ≠ 0 && !s.silentFor r.hbPin hbFault then s.breakPair else s

def execRopeLanesDown (t : Nat) (mask : BitVec 2) (s : State) : Host.Outcome State Fault Refusal :=
  .next (s.act t fun s => if s.sys.fit.rope then s.lanesDown mask else s)

def execRopeLanesLocked (t : Nat) (mask : BitVec 2) (s : State) : Host.Outcome State Fault Refusal :=
  .next (s.act t fun s =>
    if s.sys.fit.rope then { s with rope.lanes := s.rope.lanes ||| mask, rope.fig.laned := s.rope.fig.laned || mask ≠ 0 } else s)

def execTbLockLoss (t : Nat) (s : State) : Host.Outcome State Fault Refusal :=
  .next (s.act t fun s => if s.second then { s with rope := { s.rope.dropped with tbLocked := false } } else s)

def execTbRelock (t : Nat) (s : State) : Host.Outcome State Fault Refusal :=
  .next (s.act t fun s => if s.second then { s with rope.tbLocked := true } else s)

/-- Ports that scan, as a mask. -/
def State.scanning (s : State) : BitVec 8 :=
  BitVec.ofNat 8 (boolBits ((List.finRange 8).map fun n => s.ports[n].st = .scan || s.ports[n].st = .hold))

/-- ELIGIBLE: the second is locked, its records match, a lane is up, every open side opened after it began to follow, and every
port that scans has passed a line boundary with no side open (R334). -/
def State.reachEligible (s : State) : State :=
  let sides := (List.finRange 8).all fun n => s.ports[n].sides.all fun d => !d.opened || s.rope.joinTick ≤ d.openTick
  if s.second && s.rope.follow = .following && s.rope.tbLocked && s.rope.calMismatch = 0 && s.rope.lanes ≠ 0 && sides
      && s.rope.toPass &&& s.scanning = 0 then
    { s with rope.follow := .eligible }.setEvt .rope 2
  else s

def execEligible (t : Nat) (s : State) : Host.Outcome State Fault Refusal := .next (s.act t State.reachEligible)

/-- OWN_TAKE: the net has been high for 200 us and the peer is silent; in DORMANT the wake comes first (R350). A solo side-B device becomes a solo owner (R328); so does
a second that no longer follows, with its ports and axes as Table 14.3 has them. -/
def State.takeOwn (netHigh : Bool) (s : State) : State :=
  let s := s.readNet netHigh
  if !s.sys.fit.rope || !s.rope.hbRunning || s.rope.own || s.rope.netLow || s.sys.mode = .dormant || !s.bothSilent hbFault then s
  else
    let own (s : State) : State := { s with rope.own := true, rope.netLow := true }
    match s.rope.role with
    | .lead => s
    | .solo => if s.sideB then own s else s
    | .second => if s.rope.follow = .detached || s.rope.follow = .syncing then own s.releaseSelf else s

def execOwnTake (t : NetSample) (s : State) : Host.Outcome State Fault Refusal :=
  .next (s.act t.tick (State.takeOwn t.high))

/-- OWN_FAULT: the net reads high while this device pulls it low. -/
def execOwnFault (t : Nat) (s : State) : Host.Outcome State Fault Refusal :=
  .next (s.act t fun s => if s.rope.own then { s with rope.ownFault := true, rope.netLow := false }.setEvt .rope 5 else s)

/-- ROPE_WAKE_PULSE: a dormant peer wakes (R350). -/
def execRopeWakePulse (t : Nat) (s : State) : Host.Outcome State Fault Refusal :=
  .next (s.act t fun s => if s.sys.fit.rope then s.startWake else s)

/-! ### Takeover (R343 to R345, Table 14.5, Table 14.7) -/

/-- The tick of the last heartbeat on either path. -/
def Rope.lastHeard (r : Rope) : Nat := max (r.hbLane.getD 0) (r.hbPin.getD 0)

/-- Captures of a port whose busy time overlaps an interval of ticks, put out or not: their grid lines. None overlaps the empty
interval of a takeover after YIELD. -/
def Port.lackedIn (p : Port) (since now : Nat) : List Nat :=
  let runs := (p.line.map fun r => (r.k, r.start)).toList ++ p.inbuf.map (fun l => (l.run.k, l.run.start)) ++ p.recent
  (runs.filter fun r => since < now && since < r.2 + p.cnt.busyTicks.toNat && r.2 < now).map Prod.fst

/-- Lacked captures of one side: K is the one before the first of them (R344); of a side that the second does not cover all are
lacked. Where a lacked line has been put out already the side is reported for rejection (log entry 60). A group that is moving
back or coming forward again takes its captures anew in any case (05 R127). -/
def State.sideLacks (n : Fin 8) (since : Nat) (uncovered : Bool) (d : Side) (s : State) : State :=
  let mine (k : Nat) : Bool := d.first ≤ k && d.last.all fun x => k ≤ x
  let l := (s.ports[n].lackedIn since s.ticks).filter mine
  let l := if d.opened && (uncovered || d.openTick < s.rope.joinTick) then d.first :: l else l
  let redone := match s.seamOf n with
    | some (_, b, _) => b.step = 5 || b.step = 6
    | none => false
  let s := s.modPort n fun p => p.modSide d.doc fun d => { d with takeover := true }
  match l with
  | [] => s
  | x :: rest =>
    let first := rest.foldl min x
    if redone then s
    else if first < d.next then s.modPort n fun p => p.modSide d.doc fun d => { d.rejected 1 with lineLoss := true }
    else s.loseLine n d.doc ((first : Int) - d.first - 1)

/-- A switchback in step 5 or 6 starts step 5 again from the present position (05 R127). -/
def State.redoBack (g : Fin 4) (s : State) : State :=
  match s.pace.groups[g].sb with
  | none => s
  | some b =>
    if b.step = 5 || b.step = 6 then
      let s := s.each (s.groupPorts g) fun n s => s.modPort n fun p =>
        if p.st = .scan then { p with st := .hold, waiting := [], grid.sched := [] } else p
      (s.modSb g fun b => { b with step := 4, reserve := false, axes := [] }).sbAdvance g
    else s

/-- A flight of the former lead is completed by the new one: one that has ended here is answered, one that was answered
OK_QUEUED is answered so again, a handover completes as the takeover (Table 14.7). -/
def State.adoptFlight (f : Flight) (s : State) : State :=
  if f.kind ≠ .mirrored then s
  else
    let s := s.modFlight f.seq fun f => { f with kind := .host, finished := false, queuedReply := false }
    let s := if f.flags.getLsbD 2 then s.modRing f.ring fun r => { r with fenceHold := some f.seq } else s
    let s := if f.queuedReply then s.answerQueued f.seq else s
    if f.opcode = 0x0902 then s.finishOk f.seq (word (b2n s.sideB))
    else if f.opcode = 0x0903 then { s with rope.role := .solo, rope.releasing := some f.seq }
    else match s.rope.outcomes.find? fun o => o.seq = f.seq with
      | some o => s.finish f.seq o.status o.detail o.result o.fault
      | none => s

/-- Calibrations of the lead end; nothing is stored (Table 14.7). -/
def State.endCals (fault : BitVec 32) (s : State) : State :=
  let s := s.each s.trig.runs fun r s => s.calAbandon r 0x0600 0x909 (fault := fault)
  s.each s.trig.gaps fun j s => s.gapEnd j 0x0600 0x909 0 (fault := fault)

/-- Device-produced rings wait for their head doorbell, and each raises its vector once; delivery waits for REWIND (R345). -/
def State.ringsWait (s : State) : State :=
  let wait (r : Ring) : Ring := if r.kind = .command then r else { r with waitDoorbell := true, irqRaised := false }
  let s := { s with rings := s.rings.map wait }
  let s := s.each (s.rings.filter fun r => decide (r.kind ≠ .command)) fun r s => s.raiseVector r.secure r.msix
  s.each (List.finRange 8) fun n s => s.modChan (n.castLE (by decide : 8 ≤ 32)) fun c => { c with stopped := true }

/-- The fault that a takeover settles: after YIELD the one that the lead passed to L3; else one that it was still recovering;
else a new one (R260, log entry 61). -/
def State.takeoverFault (s : State) : BitVec 32 × State :=
  let passed := (s.ldg.faults.filter fun f => f.2 = 3).getLast?
  match (if s.rope.yielded then passed else none), s.ldg.faults.find? fun f => f.2 < 3 with
  | some f, _ => (f.1, s)
  | none, some f => (f.1, s)
  | none, none => (s.ldg.faultNext, s.takeFault)

/-- Steps 3 to 7 of Table 14.5. -/
def State.takeOver (s : State) : State :=
  let r := s.rope
  let since := if r.yielded then s.ticks else r.lastHeard
  let gap := s.ticks - since
  let missing := !r.tbLocked || decide (r.calMismatch ≠ 0)
  let lacked := (List.finRange 8).foldl (fun n p =>
    if s.ports[p].docOpen then n + (s.ports[p].lackedIn since s.ticks).length else n) 0
  let s := { s with rope := { r with role := .lead, follow := .detached, own := true, netLow := true, led := true, yieldSent := false }
                    tl.txPlan := [], tl.txFreeAt := s.ticks }
  let s := s.each (List.finRange 8) fun n s =>
    s.each s.ports[n].sides fun d s => State.sideLacks n since (missing && decide (r.follow = Follow.following)) d s
  let s := s.enterMode (if s.sys.mode = .shadow then .run else .ready)
  let (no, s) := s.takeoverFault
  let s := s.each (s.ldg.faults.filter fun f => f.2 < 3) fun f s => s.device (s.secureBlock .rope) 0x0601 0 0 f.1 []
  let s := { s with ldg.faults := [] }.device (s.secureBlock .rope) 0x0600 0x90A 0 no []
  let s := s.each s.cmd.flights State.adoptFlight
  let s := s.endCals no
  let s := (s.each allGroups State.redoBack).ringsWait
  let s := { s with rope := { s.rope with
    outcomes := [], yielded := false
    fig := { s.rope.fig with
      takeCnt := s.rope.fig.takeCnt + 1, takeTime := s.time
      takeInfo := packWord [(sat16 (gap / 15), 0), (b2n r.yielded, 16), (min 255 lacked, 24)], takeFault := no } } }
  ((s.slotRefill.sendGate).setEvt .rope 0).fire .rope 1

/-- LEAD_LOST: the second declares its lead lost: the net reads high, and YIELD has been received or no heartbeat has come for
50 us on either path (R343). A second that does not follow takes nothing over; in DORMANT it is left without a lead, and takes
`OWN_N` once it is awake (R350, log entry 157). -/
def State.leadLost (netHigh : Bool) (s : State) : State :=
  let s := s.readNet netHigh
  if s.second && (s.rope.follow = .following || s.rope.follow = .eligible) && !s.rope.netLow
      && (s.rope.yielded || s.bothSilent 75000) then
    if s.sys.mode = .dormant then s.detachSelf else s.takeOver
  else s

def execLeadLost (t : NetSample) (s : State) : Host.Outcome State Fault Refusal :=
  .next (s.act t.tick (State.leadLost t.high))

end Sys2Proof.Machine
end

