-- ==== Sys2Proof/Machine/RopeCmds.lean ====
section
/-! DEFINITION. The Rope's commands, synchronisation, the planned handover, and what a second does with the items that its lead
mirrors (14 R333 to R341, R348, R349). -/

namespace Sys2Proof.Machine

/-! ### ROPE_PAIR (R333, R334) -/

/-- The fitted units that a pair must share (R330). -/
def Fitted.shared (f : Fitted) : List Nat := [f.ports.toNat, f.axes.toNat, f.encs.toNat, f.lanes.toNat, f.ain.toNat]

/-- VIDEO, SHADE and ALIGN records in force. -/
def State.lineRecords (s : State) : BitVec 64 :=
  (List.finRange 48).foldl (fun m i =>
    if (s.trig.cells[i.castLE (by decide : 48 ≤ 64)]).force.isSome then m ||| (1#64 <<< i.val) else m) 0

/-- R342 for every port of every pace group. -/
def State.pairRoom (s : State) : Bool :=
  allGroups.all fun g => match s.paceCfg g with
    | none => true
    | some c => c.ports.all fun n =>
      (c.level n).2.2.2 + (s.ports[n].cfg.maxLines + s.ports[n].dMaxOf s.ports[n].align + 17) * s.ports[n].bpl ≤ s.quota n

/-- Conditions of R333 that fail, as its mask. -/
def State.pairMask (s : State) (p : PeerInfo) : Nat :=
  boolBits [p.ctlDigest ≠ (s.sec.ctl[s.sec.ctlRun]).digest || p.secDigest ≠ (s.sec.sec[s.sec.secRun]).digest,
    decide (p.fit ≠ s.sys.fit.shared), p.capGib ≠ s.cel.capGib, p.estate ≠ s.sec.estate, p.side == s.sideB, !s.pairRoom,
    decide (s.lineRecords &&& ~~~ p.records ≠ 0)]

/-- A solo owner in READY or RUN that is not already pairing. -/
def State.soloOwner (s : State) : Bool :=
  decide (s.rope.role = .solo) && s.rope.own && s.rope.pairing.isNone && (s.sys.mode = .ready || s.sys.mode = .run)

/-- The state of the peer that R333 asks for, as the lane heartbeats tell it. -/
def State.peerCheck (s : State) : Option Reject :=
  match s.rope.peer with
  | none => some ⟨0x0600, 0x902, 0⟩
  | some p =>
    firstFail [(!s.hbFresh s.rope.hbLane || !s.hbFresh s.rope.hbPin || s.rope.lanes ≠ 3, some ⟨0x0600, 0x902, 0⟩),
      (p.role ≠ 0 || p.mode ≠ Mode.ready.code || p.own, badState 0x904),
      (s.pairMask p ≠ 0, some ⟨0x0103, 0x903, word (s.pairMask p)⟩)]

def ropePairSpec : PacketSpec where
  code := 0x0901
  world := blockWorld .rope
  len p := p.paramLen == 8
  fitted := fun s _ => s.sys.fit.rope
  check s p _ :=
    let l := p.params
    match firstFail [(1 < u8 l 0 || !zeroBytes l 1 3 || u32 l 4 < 1 || 60000 < u32 l 4, badParam 0x90C),
        (!s.soloOwner, badState 0x901)] with
    | some j => some j
    | none => s.peerCheck
  run p _ seq s :=
    let wait := u8 p.params 0 = 0 && decide (s.sys.mode = .run)
    { s with rope.pairing := some { seq, waitSeal := wait, syncMs := u32 p.params 4, start := s.ticks } }

def execRopePair (p : Packet) (s : State) : Host.Outcome State Fault Refusal := .next (s.act p.tick (State.packet ropePairSpec p))

/-- Both devices store the higher epoch and the higher last batch number of the two (R334). -/
def State.shareNumbers (s : State) : State :=
  match s.rope.peer with
  | none => s
  | some p =>
    let mine := (s.trig.bootRecord.map fun r : Fin 2 × BootRecord => r.2.epoch).getD s.ldg.epoch
    let epoch := if mine.toNat < p.epoch.toNat then p.epoch else mine
    let last := if s.sys.bootLast.toNat < p.lastBatch.toNat then p.lastBatch else s.sys.bootLast
    State.storeBoot epoch last none { s with sys.bootLast := last }

/-- A digital port that captures takes its receivers from live data (R334, 02 R45). -/
def Port.joinLive (t : Nat) (p : Port) : Port :=
  if p.cfg.digital ∧ p.st = .scan ∧ !p.lvds.locked ∧ !p.lvds.stopping ∧ p.lvds.resync.isNone then
    { p with lvds.training := none, lvds.resync := some t }
  else p

/-- FOLLOWING begins: every port that scans has a line boundary with no side open to pass before the second is ELIGIBLE. -/
def State.startFollowing (s : State) : State := { s with rope.follow := .following, rope.joinTick := s.ticks, rope.toPass := s.scanning }

/-- SYNC_DONE: the transfer is complete. The device that was sent ROPE_PAIR leads and replies; the other follows. -/
def State.syncDone (s : State) : State :=
  match s.rope.role, s.rope.pairing with
  | .solo, some x =>
    if x.waitSeal then s
    else
      let s := { s with rope := { s.rope with role := .lead, led := true, pairing := none, yieldSent := false, fig.acked := true } }
      s.shareNumbers.finishOk x.seq 0
  | .second, _ =>
    if s.rope.follow ≠ .syncing then s
    else
      let s := { s.startFollowing with ports := s.ports.map (Port.joinLive s.ticks) }
      s.shareNumbers.enterMode (if s.sys.batchState = .none then .ready else .run)
  | _, _ => s

def execSyncDone (t : Nat) (s : State) : Host.Outcome State Fault Refusal := .next (s.act t State.syncDone)

/-- SYNC_TIMEOUT: SYNCING has outlasted `sync_ms`; both devices stay solo, the second with an epoch of its own (log
entry 62). -/
def State.syncTimeout (s : State) : State :=
  match s.rope.role, s.rope.pairing with
  | .solo, some x =>
    if x.waitSeal || s.ticks < x.start + x.syncMs * 1500000 then s
    else { s with rope.pairing := none }.endBusy x.seq 0x905
  | .second, _ => if s.rope.follow = .syncing then s.releaseSelf else s
  | _, _ => s

def execSyncTimeout (t : Nat) (s : State) : Host.Outcome State Fault Refusal := .next (s.act t State.syncTimeout)

/-! ### ROPE_SWAP, ROPE_RELEASE, ROPE_STATUS (R348, R349, Table 14.9) -/

/-- A lead whose second is ELIGIBLE, as its heartbeats tell. -/
def State.peerEligible (s : State) : Bool :=
  decide (s.rope.role = .lead) && s.rope.peer.any fun p => p.role = 2 && p.follow = 3

def ropeSwapSpec : PacketSpec where
  code := 0x0902
  world := blockWorld .rope
  len p := p.paramLen == 8
  fitted := fun s _ => s.sys.fit.rope
  check s p _ :=
    firstFail [(1 < u8 p.params 0 || !zeroBytes p.params 1 7, badParam 0x90C), (!s.peerEligible || s.rope.swap.isSome, badState 0x906)]
  run p _ seq s := { s with rope.swap := some { seq, atOnce := u8 p.params 0 = 1, release := false } }

def execRopeSwap (p : Packet) (s : State) : Host.Outcome State Fault Refusal := .next (s.act p.tick (State.packet ropeSwapSpec p))

/-- ROPE_RELEASE: on a second it releases itself; on a lead `which` 0 leaves it solo, and the reply waits until the peer's heartbeat
tells that the second has left; `which` 1 waits for a handover. A handover that waits when the pair ends is answered BUSY (log
entry 58). A solo device has nothing to release (log entry 63). -/
def ropeReleaseSpec : PacketSpec where
  code := 0x0903
  world := blockWorld .rope
  len p := p.paramLen == 8
  fitted := fun s _ => s.sys.fit.rope
  check s p _ :=
    firstFail [(1 < u8 p.params 0 || !zeroBytes p.params 1 7, badParam 0x90C),
      (decide (s.rope.role = .solo) || (u8 p.params 0 = 1 && (!s.peerEligible || s.rope.swap.isSome)), badState 0x906)]
  run p _ seq s :=
    if u8 p.params 0 = 1 then { s with rope.swap := some { seq, atOnce := false, release := true } }
    else if s.second then s.releaseSelf.finishOk seq 0
    else
      let q := s.rope.swap.map fun x => x.seq
      let s := { s with rope.role := .solo, rope.swap := none, rope.releasing := some seq }
      (s.each q.toList fun q s => s.endBusy q 0x905).begun seq

def execRopeRelease (p : Packet) (s : State) : Host.Outcome State Fault Refusal :=
  .next (s.act p.tick (State.packet ropeReleaseSpec p))

/-- The 128 bytes of ROPE_STATUS. -/
def State.ropeBuffer (s : State) : List Byte :=
  ((List.range 18).flatMap fun k => leBytes 4 (s.ropeReg (4 * k)).toNat) ++ leBytes 56 0

def ropeStatusSpec : PacketSpec where
  code := 0x0904
  world := blockWorld .rope
  len p := p.paramLen == 8
  fitted := fun s _ => s.sys.fit.rope
  check _ _ _ := none
  run p _ seq s := (s.finish seq 0 0 s.ropeStat (buffers := bufferAt (u64 p.params 0) s.ropeBuffer)).drawn.drawn.drawn

def execRopeStatus (p : Packet) (s : State) : Host.Outcome State Fault Refusal :=
  .next (s.act p.tick (State.packet ropeStatusSpec p))

/-- A port is at a line boundary with no side open. -/
def Port.clear (p : Port) : Bool := p.sides.isEmpty && p.line.isNone

/-- SWAP_INSTANT: the lead sends YIELD and hands over; its reply is its last. It becomes second in FOLLOWING, or releases
itself (R348, R349). -/
def State.swapNow (s : State) : State :=
  match s.rope.swap with
  | none => s
  | some x =>
    if !s.peerEligible || (!x.atOnce && !(List.finRange 8).all fun n => s.ports[n].clear) then s
    else
      let s := { s with rope.swap := none }.finishOk x.seq (if x.release then 0 else word (b2n !s.sideB))
      let pass (f : Flight) : Flight := if f.kind = .host && !f.finished then { f with kind := .mirrored } else f
      let s := { s with cmd.flights := s.cmd.flights.map pass }
      let s := { s with rope := { s.rope with role := .second, own := false, netLow := true, yieldSent := s.rope.lanes ≠ 0
                                              tbLocked := false, yielded := false, outcomes := [], openAtJoin := 0 } }
      let s := (s.startFollowing.setEvt .rope 7).when (s.sys.mode = .run) fun s => s.enterMode .run
      if x.release then s.releaseSelf else s

def execSwapInstant (t : Nat) (s : State) : Host.Outcome State Fault Refusal := .next (s.act t State.swapNow)

/-! ### Mirrored commands (R336, R341) -/

/-- What the opcodes do, apart from the Rope's own. -/
def mirroredSpecs : List PacketSpec :=
  [nopSpec, identifySpec, setModeSpec, getStatusSpec, resetBlockSpec, setTimeSpec, selfTestSpec]
    ++ [batchOpenSpec, batchCloseSpec, docBeginSpec, docEndSpec, batchAbortSpec]
    ++ [portConfigSpec, patternLoadSpec, portArmSpec, portDisarmSpec, portReconfigSpec, alignSetSpec, outputFormatSpec]
    ++ [axisConfigSpec, moveToSpec, moveVelocitySpec, stopSpec, resumeSpec, homeSpec, gearSetSpec, gearRatioAtSpec, holdParkSpec,
        axisLimitsSpec]
    ++ [madcSequenceSpec, madcStartSpec, madcUrgentSpec, refbufEnableSpec]
    ++ [calVideoSpec, calShadingSpec, calAlignSpec, calMadcZeroSpec, calMadcFullSpec, calCommitSpec, calQuerySpec, calRevertSpec,
        calDriveSpec]
    ++ [ringCreateSpec, ringDestroySpec, dmaCopySpec, dmaFenceSpec, regionSetSpec, routeSetSpec, routeClearSpec, routeQuerySpec]
    ++ [paceConfigSpec, paceQuerySpec, seamPolicySpec]
    ++ [worldAssignSpec, attestSpec, fwStageSpec, fwActivateSpec, keyInfoSpec, signPolicySpec, estateSetSpec]
    ++ [ledgerReadSpec, ledgerCheckpointSpec, ledgerTrimSpec]

def specOf (op : BitVec 16) : Option PacketSpec := mirroredSpecs.find? fun x => x.code == op

/-- Calibration opcodes that form or store records. -/
def calOpcode (op : BitVec 16) : Bool := [0x0501, 0x0502, 0x0503, 0x0504, 0x0505, 0x0506, 0x0508, 0x0509].contains op.toNat

/-- Record indices of a calibration command; of VIDEO those of the slots that it calibrates. -/
def State.calRecords (s : State) (op : BitVec 16) (l : List Byte) : BitVec 64 :=
  let n := u8 l 0
  let slots := s.ports[Fin.ofNat 8 n].cfg.slots.filter fun c => u8 l 1 = 0 || (u8 l 1).testBit c
  let idx : List Nat := match op.toNat with
    | 0x0501 => slots.map fun c => 4 * n + c
    | 0x0502 => [32 + n]
    | 0x0503 => [40 + n]
    | 0x0504 | 0x0505 => [48 + n]
    | 0x0509 => [50 + n]
    | _ => (calIndices l).map Fin.val
  idx.foldl (fun m i => m ||| (1#64 <<< i)) 0

/-- SET_MODE to DORMANT or SAFE concerns the lead; the second follows into DORMANT at its DONE entry (R350, R343). -/
def leadsOwn (op : BitVec 16) (l : List Byte) : Bool := op == 0x0003 && (u8 l 0 == 2 || u8 l 0 == 5)

/-- The second applies a command that the lead accepted at `time`. A handover or a release waits for its instant; the release of
the second is its own. -/
def State.mirrorRun (op : BitVec 16) (p : Packet) (secure : Bool) (seq time : DWord) (s : State) : State :=
  if leadsOwn op p.params || op = 0x0904 then s.finishOk seq 0
  else if op = 0x0006 then (s.setWallAt time.toNat p.params).finishOk seq 0
  else if op = 0x0903 && u8 p.params 0 = 0 then s.releaseSelf
  else match specOf op with
  | some sp => sp.run p secure seq s
  | none => s

/-- An ACCEPT entry of the lead with its packet: the entry must take the lead's own sequence. In SYNCING one that does not is a
packet of the transfer, which brings a block's configuration. -/
def State.mirrorAccept (p : Packet) (op : BitVec 16) (secure : Bool) (seq time : DWord) (s : State) : State :=
  if s.ldg.nextSeq ≠ seq then
    if s.rope.follow = .syncing then s.mirrorRun op p secure seq time else s.detachSelf
  else
    let f : Flight :=
      { seq, ring := p.ring, replyRing := ((s.ring? p.ring).map fun r => replyRingOf s p r).getD p.replyRing.toNat, secure, opcode := op
        flags := p.flags, tag := p.tag, cookie := p.cookie, digest := packetDigest p op, params := p.params, hostData := p.hostData
        deadline := if p.deadlineUs = 0 then none else some (time.toNat + 1000 * p.deadlineUs.toNat), begun := false
        finished := false, queuedReply := false, replied := false, dups := [], kind := .mirrored }
    let s := s.appendEntryAt time { LedgerEntry.blank .accept with
      tag := p.tag, opcode := op, ring := BitVec.ofNat 16 p.ring, status := 0xFFFF, secure, digest := packetDigest p op }
    State.mirrorRun op p secure seq time { s with cmd.flights := s.cmd.flights ++ [f] }

/-- The second follows its lead's seal: its own BATCH_SEAL records, the counters, the session, READY (R339). -/
def State.mirrorSeal (s : State) : State :=
  (((s.each (List.finRange 8) State.sealPort).beginSession s.ldg.ckptSeq).batchEnds).raiseSvn

/-- What the second has computed for a command, if it has ended here. -/
def State.ownOutcome (s : State) (seq : DWord) : Option Outcome := s.rope.outcomes.find? fun o => o.seq = seq

/-- Records on which the two devices differ after a calibration (R341). -/
def State.calCompare (f : Flight) (leadOk : Bool) (own : Option Outcome) (s : State) : State :=
  let m := s.calRecords f.opcode f.params
  let ownOk := own.any fun o => o.status = 0
  if leadOk && !ownOk then
    { s with rope := { s.rope.dropped with calMismatch := s.rope.calMismatch ||| m } }.setEvt .rope 6
  else if leadOk then { s with rope.calMismatch := s.rope.calMismatch &&& ~~~ m }
  else s

/-- The lead's DONE entry: written here too, and compared with the outcome of the second in status and detail (log entry 64). -/
def State.mirrorDone (seq time : DWord) (status : BitVec 16) (detail result fault : BitVec 32) (s : State) : State :=
  match s.flight? seq with
  | none => s
  | some f =>
    let own := s.ownOutcome seq
    let s := s.appendEntryAt time { LedgerEntry.blank .done with
      tag := f.tag, opcode := f.opcode, ring := BitVec.ofNat 16 f.ring, status, secure := f.secure, fault, digest := f.digest
      detail, result, ends := seq }
    let s := { s with cmd.flights := s.cmd.flights.filter (fun x => x.seq ≠ seq)
                      rope.outcomes := s.rope.outcomes.filter fun o => o.seq ≠ seq }
    if calOpcode f.opcode then s.calCompare f (status = 0) own
    else if f.opcode = 0x0902 || f.opcode = 0x0903 then s
    else if (f.opcode = 0x0102 || f.opcode = 0x0105) && status = 0 then s.mirrorSeal
    else if !(own.any fun o => o.status = status && o.detail = detail) then s.detachSelf
    else if f.opcode = 0x0003 && u8 f.params 0 = 2 then s.enterDormant seq
    else s

/-! ### The other items (Table 14.2) -/

/-- The state transfer begins: a solo device in READY that does not pull `OWN_N` takes over the lead's sequence, chain and fault
counter, its last CHECKPOINT entry, and its batch with the ports that have a side open (R334). The device time is the lead's
once the timebase is locked (R332, log entry 155). -/
def State.mirrorJoin (epoch : BitVec 24) (nextNo : Nat) (chain : BitVec 384) (session : DWord) (faultNext : BitVec 32) (run : Bool)
    (batch docs : BitVec 32) (ckpt : DWord) (openPorts : BitVec 8) (s : State) : State :=
  if s.rope.role ≠ .solo || s.rope.own || s.sys.mode ≠ .ready then s
  else
    let l := { Ledger.fresh with
      epoch, nextNo, chain, sessionSeq := session, ckptSeq := ckpt, ckptFirst := ckpt + 1, faultNext, ready := true
      sinceCkpt := nextNo - 1 - ckpt.toNat % 2 ^ 40
      region := s.ldg.region, capOvf := s.ldg.capOvf, evt := s.ldg.evt, irqEn := s.ldg.irqEn }
    { s with ldg := l, rope := { s.rope with role := .second, follow := .syncing, outcomes := [], yielded := false, calMismatch := 0
                                             openAtJoin := openPorts }
             sys.batchState := if run then .opened else .none, sys.batch := if run then batch else s.sys.batch
             sys.docs := if run then docs else 0 }

def EntryKind.ofCode : Nat → EntryKind
  | 0 => .accept | 1 => .done | 2 => .duplicate | 3 => .device | 4 => .checkpoint | _ => .trim

/-- The entry that 64 bytes hold (10 Table 10.8). -/
def LedgerEntry.parse (l : List Byte) : LedgerEntry :=
  let w := u16 l 26
  { LedgerEntry.blank (EntryKind.ofCode (w / 2 % 8)) with
    seq := BitVec.ofNat 64 (u64 l 0), time := BitVec.ofNat 64 (u64 l 8), tag := BitVec.ofNat 32 (u32 l 16)
    opcode := BitVec.ofNat 16 (u16 l 20), ring := BitVec.ofNat 16 (u16 l 22), status := BitVec.ofNat 16 (u16 l 24)
    secure := w.testBit 0, mirrored := w.testBit 4, fault := BitVec.ofNat 32 (u32 l 28)
    digest := BitVec.ofNat 128 (fieldAt ((l.drop 32).take 16).reverse 0 16), detail := BitVec.ofNat 32 (u32 l 48)
    result := BitVec.ofNat 32 (u32 l 52), chain := BitVec.ofNat 64 (fieldAt ((l.drop 56).take 8).reverse 0 8) }

/-- An entry of the lead's session comes with the transfer, as it stands there (R334); a DONE entry belongs to the last ACCEPT
entry with its ring and tag. -/
def State.mirrorLedger (bytes : List Byte) (s : State) : State :=
  let e := LedgerEntry.parse bytes
  let of := (s.ldg.entries.filter fun a => a.kind = .accept && a.ring = e.ring && a.tag = e.tag).getLast?
  let e := if e.kind = .done then { e with ends := (of.map fun a => a.seq).getD 0 } else e
  if s.rope.follow = .syncing then State.spill { s with ldg.entries := s.ldg.entries ++ [e] } else s

/-- The responder's sequence, its kept answers and its REJECT frames come with the transfer (16 R386). -/
def State.mirrorLink (txSeq : BitVec 8) (answers : List Answer) (rejects : List RejectFrame) (s : State) : State :=
  if s.rope.follow = .syncing then { s with tl.txSeq := txSeq, tl.answers := answers, tl.rejects := rejects } else s

/-- A Ledger entry that is no ACCEPT or DONE of a command in flight. A DEVICE entry settles or passes on the fault it names. -/
def State.mirrorEntry (time : DWord) (e : LedgerEntry) (s : State) : State :=
  let chain := s.ldg.chain
  let s := s.appendEntryAt time e
  match e.kind with
  | .checkpoint => { s with ldg.ckptChain := chain, ldg.ckptSeq := s.ldg.nextSeq - 1, ldg.ckptFirst := s.ldg.nextSeq, ldg.sinceCkpt := 0 }
  | .device =>
    let rest := s.ldg.faults.filter fun f => f.1 ≠ e.fault
    { s with ldg.faults := if e.fault = 0 || e.status = 0 || e.status = 0x0601 then rest else rest ++ [(e.fault, 3)] }
  | _ => s

/-- Ring state: what the lead has put out of the measurement queue is gone here too. -/
def State.mirrorRing (id head tail : Nat) (pass : BitVec 32) (s : State) : State :=
  match s.ring? id with
  | none => s
  | some r =>
    let out := if r.kind = .measurement ∧ s.madc.q.ring = id ∧ r.sizeLog2 ≠ 0 then (tail + r.size - r.tail) % r.size else 0
    State.modRing id (fun r => { r with head, tail, ahead := 0, pass }) { s with madc.q.entries := s.madc.q.entries.drop (8 * out) }

/-- A step event of the lead: another index or position is adopted and counted (R340). -/
def State.mirrorStep (a : Fin 12) (index : Nat) (pos : Int) (s : State) : State :=
  let x := s.axes[a]
  if x.index = index % 1024 && x.pos = pos then s
  else
    let adopt (x : Axis) : Axis :=
      { x with pos, drive.idxOfs := ((index - (if x.cfg.invert then -pos else pos)) % 1024).toNat }
    State.modAxis a adopt { s with rope.fig.stepDiv := satInc s.rope.fig.stepDiv }

def State.mirrorEncoder (e : Fin 8) (pos : Int) (s : State) : State :=
  if s.encs[e].pos = pos then s
  else State.modEnc e (fun x => { x with pos, log := (s.ticks, pos) :: x.log }) { s with rope.fig.encDiv := satInc s.rope.fig.encDiv }

/-- A switchback takes what the lead holds of it (05 R127); its own steps follow. -/
def Switchback.mirrored (b : Switchback) (x : PaceItem) : Switchback :=
  let seams := b.seams.mapIdx fun i m => { m with k := match x.ks[i]? with
    | some k => some k
    | none => m.k }
  { b with attempts := x.attempts, reserve := x.reserve, axes := x.axes, seams }

/-- The switchback of a second comes to the lead's step with the effects of each step on its own ports and axes; a drained
one has step 4 before its lead tells it. -/
def State.mirrorSb (g : Fin 4) (x : PaceItem) (s : State) : State :=
  let s := if s.pace.groups[g].sb.isSome then s else s.switchback g x.cause none
  let was := ((s.pace.groups[g].sb).map fun b => b.step).getD 0
  let goal := if x.step = 3 && was = 4 then 4 else x.step
  let s := s.when (goal < was && goal < 2) fun s => s.sbAgain g
  let s := s.modSb g fun b => b.mirrored x
  let s := s.when (was < 2 && 2 ≤ goal) fun s => s.sbStop g
  let s := s.sbHold g
  let s := s.when (was < 4 && 4 ≤ goal) fun s => s.sbDrained g
  let s := s.when (was < 5 && 5 ≤ goal) fun s => s.sbRewind g
  let s := s.when (was < 6 && 6 ≤ goal) fun s => s.sbScan g
  s.modSb g fun b => { b.mirrored x with step := goal, pBack := if 5 ≤ goal then x.pBack else b.pBack }

/-- An overrun cap as the lead holds it. -/
def PacePort.mirrored (q : PacePort) (now cap us : Nat) : PacePort :=
  { q with ovrAsked := false, ovrCap := cap, ovrUntil := if us = 0 then none else some (now + 1500 * us) }

/-- Pace state: a configuration that waits takes effect, the axes of the group take the set-point, the switchback its step
(R338, R340). -/
def State.mirrorPace (g : Fin 4) (x : PaceItem) (s : State) : State :=
  let s := (s.paceTake g).modGroup g fun y => { y with vSet := x.vSet, limit := x.limit, pmax := x.pmax }
  match s.paceCfg g with
  | none => s
  | some c =>
    let s := s.each (c.ports.zip x.caps) fun e s => s.modPace e.1 fun q => q.mirrored s.ticks e.2.1 e.2.2
    let s := s.driveGroup g c x.vSet
    if x.step = 0 then
      let s := (s.endHold g).when s.pace.groups[g].sb.isSome fun s => s.each c.ports fun n s =>
        s.modPort n fun p => if p.st = .hold then { p with st := .scan } else p
      (s.modGroup g fun x => { x with sb := none }).sendGate
    else s.mirrorSb g x

/-- The lead's verdicts, in the order of the seams, take the place of the second's own (R338). -/
def State.mirrorVerdict (g : Fin 4) (results : List Nat) (s : State) : State :=
  match s.pace.groups[g].sb with
  | none => s
  | some b => s.applyVerdict g b ((s.seamChecks b).mapIdx fun i c => (c.1, { c.2 with result := results.getD i c.2.result }))

/-- The document number in a capture identifier that starts at a byte of a record (04 Table 4.16). -/
def docOf (l : List Byte) (off : Nat) : Nat := fieldAt l off 16 / 2 ^ 46 % 2 ^ 32

/-- The host has released the last slot of a side, or for number 0 of a BATCH_SEAL record, on the lead (R339). -/
def State.mirrorRelease (n : Fin 8) (doc : BitVec 32) (s : State) : State :=
  let s := s.modPort n fun p =>
    { p with store := p.store.filter (fun r => docOf r.bytes 8 ≠ doc.toNat), provs := p.provs.filter fun j => docOf j.body 0 ≠ doc.toNat }
  s.flushRecords n s.ports[n].held.length

/-- MIRROR_ITEM: only a second takes items, `join` apart; one that no longer follows takes none. -/
def State.mirrorItem (item : MirrorItem) (s : State) : State :=
  match item with
  | .join epoch nextNo chain session faultNext run batch docs ckpt openPorts =>
    if s.sys.fit.rope then s.mirrorJoin epoch nextNo chain session faultNext run batch docs ckpt openPorts else s
  | item =>
    if !s.second || s.rope.follow = .detached then s
    else match item with
    | .ledger bytes => s.mirrorLedger bytes
    | .link txSeq answers rejects =>
      s.mirrorLink txSeq (answers.map fun a => { seq := a.1, payload := a.2.1, typ := a.2.2.1, answer := a.2.2.2 })
        (rejects.map fun r => { seq := r.1, doc := r.2.1, mask := r.2.2.1, reason := r.2.2.2.1, sends := r.2.2.2.2.1
                                nextTick := s.ticks + r.2.2.2.2.2 })
    | .accept p op secure seq time => s.mirrorAccept p op secure seq time
    | .done seq time status detail result fault => s.mirrorDone seq time status detail result fault
    | .entry kind secure time tag opcode ring status fault digest detail result =>
      s.mirrorEntry time { LedgerEntry.blank (EntryKind.ofCode kind.val) with
        secure, tag, opcode, ring, status, fault, digest, detail, result }
    | .ring id head tail pass => s.mirrorRing id head tail pass
    | .slots docs => { s with tl.slots := docs, sys.docs := BitVec.ofNat 32 (docs.foldl max s.sys.docs.toNat) }
    | .step a index pos => s.mirrorStep a index pos
    | .encoder e pos => s.mirrorEncoder e pos
    | .pace g item => s.mirrorPace g item
    | .verdict g results => s.mirrorVerdict g results
    | .fault no => { s with ldg.faultNext := if no + 1 = 0 then 1 else no + 1, ldg.faults := s.ldg.faults ++ [(no, 2)] }
    | .release n doc => s.mirrorRelease n doc
    | .join _ _ _ _ _ _ _ _ _ _ => s

def execMirrorItem (t : Nat) (item : MirrorItem) (s : State) : Host.Outcome State Fault Refusal :=
  .next (s.act t (State.mirrorItem item))

end Sys2Proof.Machine
end

