-- ==== Sys2Proof/Machine/Dispatch.lean ====
section
/-! DEFINITION. The dispatch of a command to its meaning: one arm per constructor. -/

namespace Sys2Proof.Machine

/-- The effect of a command on everything but the queue. -/
def exec (i : Instr) (s : State) : Host.Outcome State Fault Refusal :=
  match i with
  | .nop p => Sys2Proof.Machine.execNop p s
  | .identify p => Sys2Proof.Machine.execIdentify p s
  | .setMode p => Sys2Proof.Machine.execSetMode p s
  | .getStatus p => Sys2Proof.Machine.execGetStatus p s
  | .resetBlock p => Sys2Proof.Machine.execResetBlock p s
  | .setTime p => Sys2Proof.Machine.execSetTime p s
  | .selfTest p => Sys2Proof.Machine.execSelfTest p s
  | .batchOpen p => Sys2Proof.Machine.execBatchOpen p s
  | .batchClose p => Sys2Proof.Machine.execBatchClose p s
  | .docBegin p => Sys2Proof.Machine.execDocBegin p s
  | .docEnd p => Sys2Proof.Machine.execDocEnd p s
  | .batchAbort p => Sys2Proof.Machine.execBatchAbort p s
  | .portConfig p => Sys2Proof.Machine.execPortConfig p s
  | .patternLoad p => Sys2Proof.Machine.execPatternLoad p s
  | .portArm p => Sys2Proof.Machine.execPortArm p s
  | .portDisarm p => Sys2Proof.Machine.execPortDisarm p s
  | .portReconfig p => Sys2Proof.Machine.execPortReconfig p s
  | .alignSet p => Sys2Proof.Machine.execAlignSet p s
  | .outputFormat p => Sys2Proof.Machine.execOutputFormat p s
  | .axisConfig p => Sys2Proof.Machine.execAxisConfig p s
  | .moveTo p => Sys2Proof.Machine.execMoveTo p s
  | .moveVelocity p => Sys2Proof.Machine.execMoveVelocity p s
  | .stop p => Sys2Proof.Machine.execStop p s
  | .resume p => Sys2Proof.Machine.execResume p s
  | .home p => Sys2Proof.Machine.execHome p s
  | .gearSet p => Sys2Proof.Machine.execGearSet p s
  | .gearRatioAt p => Sys2Proof.Machine.execGearRatioAt p s
  | .axisLimits p => Sys2Proof.Machine.execAxisLimits p s
  | .holdPark p => Sys2Proof.Machine.execHoldPark p s
  | .madcSequence p => Sys2Proof.Machine.execMadcSequence p s
  | .madcStart p => Sys2Proof.Machine.execMadcStart p s
  | .madcUrgent p => Sys2Proof.Machine.execMadcUrgent p s
  | .refbufEnable p => Sys2Proof.Machine.execRefbufEnable p s
  | .calVideo p => Sys2Proof.Machine.execCalVideo p s
  | .calShading p => Sys2Proof.Machine.execCalShading p s
  | .calAlign p => Sys2Proof.Machine.execCalAlign p s
  | .calMadcZero p => Sys2Proof.Machine.execCalMadcZero p s
  | .calMadcFull p => Sys2Proof.Machine.execCalMadcFull p s
  | .calCommit p => Sys2Proof.Machine.execCalCommit p s
  | .calQuery p => Sys2Proof.Machine.execCalQuery p s
  | .calRevert p => Sys2Proof.Machine.execCalRevert p s
  | .calDrive p => Sys2Proof.Machine.execCalDrive p s
  | .ringCreate p => Sys2Proof.Machine.execRingCreate p s
  | .ringDestroy p => Sys2Proof.Machine.execRingDestroy p s
  | .dmaCopy p => Sys2Proof.Machine.execDmaCopy p s
  | .dmaFence p => Sys2Proof.Machine.execDmaFence p s
  | .regionSet p => Sys2Proof.Machine.execRegionSet p s
  | .routeSet p => Sys2Proof.Machine.execRouteSet p s
  | .routeClear p => Sys2Proof.Machine.execRouteClear p s
  | .routeQuery p => Sys2Proof.Machine.execRouteQuery p s
  | .paceConfig p => Sys2Proof.Machine.execPaceConfig p s
  | .paceQuery p => Sys2Proof.Machine.execPaceQuery p s
  | .seamPolicy p => Sys2Proof.Machine.execSeamPolicy p s
  | .ropePair p => Sys2Proof.Machine.execRopePair p s
  | .ropeSwap p => Sys2Proof.Machine.execRopeSwap p s
  | .ropeRelease p => Sys2Proof.Machine.execRopeRelease p s
  | .ropeStatus p => Sys2Proof.Machine.execRopeStatus p s
  | .worldAssign p => Sys2Proof.Machine.execWorldAssign p s
  | .attest p => Sys2Proof.Machine.execAttest p s
  | .fwStage p => Sys2Proof.Machine.execFwStage p s
  | .fwActivate p => Sys2Proof.Machine.execFwActivate p s
  | .keyInfo p => Sys2Proof.Machine.execKeyInfo p s
  | .signPolicy p => Sys2Proof.Machine.execSignPolicy p s
  | .estateSet p => Sys2Proof.Machine.execEstateSet p s
  | .ledgerRead p => Sys2Proof.Machine.execLedgerRead p s
  | .ledgerCheckpoint p => Sys2Proof.Machine.execLedgerCheckpoint p s
  | .ledgerTrim p => Sys2Proof.Machine.execLedgerTrim p s
  | .badOpcode op p => Sys2Proof.Machine.execBadOpcode op p s
  | .doorbell t pf ring half value => Sys2Proof.Machine.execDoorbell t pf ring half value s
  | .portnSnap t pf n value => Sys2Proof.Machine.execPortnSnap t pf n value s
  | .latchingRead t pf off => Sys2Proof.Machine.execLatchingRead t pf off s
  | .shadowRead t pf off => Sys2Proof.Machine.execShadowRead t pf off s
  | .madcResLo t pf => Sys2Proof.Machine.execMadcResLo t pf s
  | .madcResHi t pf => Sys2Proof.Machine.execMadcResHi t pf s
  | .evfFire t pf value => Sys2Proof.Machine.execEvfFire t pf value s
  | .ldgWinSeqHi t pf value readable => Sys2Proof.Machine.execLdgWinSeqHi t pf value readable s
  | .ringtWrite t pf ring word value => Sys2Proof.Machine.execRingtWrite t pf ring word value s
  | .cellarWindowAccess t pf off acc => Sys2Proof.Machine.execCellarWindowAccess t pf off acc s
  | .badAccess t pf => Sys2Proof.Machine.execBadAccess t pf s
  | .registerWrite t pf off value => Sys2Proof.Machine.execRegisterWrite t pf off value s
  | .arrive t seq ctlRef mask pad => Sys2Proof.Machine.execArrive t seq ctlRef mask pad s
  | .withdraw t seq doc mask => Sys2Proof.Machine.execWithdraw t seq doc mask s
  | .path t seq mask => Sys2Proof.Machine.execPath t seq mask s
  | .jam t seq mask => Sys2Proof.Machine.execJam t seq mask s
  | .ack t seq typ ackSeq => Sys2Proof.Machine.execAck t seq typ ackSeq s
  | .hello t seq => Sys2Proof.Machine.execHello t seq s
  | .tlBadFrame t => Sys2Proof.Machine.execTlBadFrame t s
  | .tlHelloSend t => Sys2Proof.Machine.execTlHelloSend t s
  | .speed t g => Sys2Proof.Machine.execSpeed t g s
  | .rejectRepeat t seq => Sys2Proof.Machine.execRejectRepeat t seq s
  | .tlLinkLoss t => Sys2Proof.Machine.execTlLinkLoss t s
  | .tlLinkReturn t => Sys2Proof.Machine.execTlLinkReturn t s
  | .slotRefill t => Sys2Proof.Machine.execSlotRefill t s
  | .encoderEdge t e up illegal => Sys2Proof.Machine.execEncoderEdge t e up illegal s
  | .encoderIndex t e a b => Sys2Proof.Machine.execEncoderIndex t e a b s
  | .encoderStandstill t e => Sys2Proof.Machine.execEncoderStandstill t e s
  | .encCount t n => Sys2Proof.Machine.execEncCount t n s
  | .gearCount t a => Sys2Proof.Machine.execGearCount t a s
  | .lineTrigger t n => Sys2Proof.Machine.execLineTrigger t n s
  | .lateLineStart t n => Sys2Proof.Machine.execLateLineStart t n s
  | .lineEnd t n data => Sys2Proof.Machine.execLineEnd t n data s
  | .outputLineRelease t n asRead => Sys2Proof.Machine.execOutputLineRelease t n asRead s
  | .provenanceSign t n => Sys2Proof.Machine.execProvenanceSign t n s
  | .docLead t n => Sys2Proof.Machine.execDocLead t n s
  | .docTrail t n => Sys2Proof.Machine.execDocTrail t n s
  | .tableSwitch t n => Sys2Proof.Machine.execTableSwitch t n s
  | .disarmEffect t n => Sys2Proof.Machine.execDisarmEffect t n s
  | .reconfigEnter t n => Sys2Proof.Machine.execReconfigEnter t n s
  | .reconfigDrained t n => Sys2Proof.Machine.execReconfigDrained t n s
  | .lvdsTrainDone t n res => Sys2Proof.Machine.execLvdsTrainDone t n res s
  | .lvdsTrainTimeout t n step lanes => Sys2Proof.Machine.execLvdsTrainTimeout t n step lanes s
  | .lockLoss t n cause => Sys2Proof.Machine.execLockLoss t n cause s
  | .lvdsResyncDone t n => Sys2Proof.Machine.execLvdsResyncDone t n s
  | .lvdsResyncTimeout t n canTrain => Sys2Proof.Machine.execLvdsResyncTimeout t n canTrain s
  | .vrefSettled t n => Sys2Proof.Machine.execVrefSettled t n s
  | .vidReady t n res => Sys2Proof.Machine.execVidReady t n res s
  | .sliceCalStart t n c => Sys2Proof.Machine.execSliceCalStart t n c s
  | .sliceCalDone t n c res => Sys2Proof.Machine.execSliceCalDone t n c res s
  | .sliceSwap t n c => Sys2Proof.Machine.execSliceSwap t n c s
  | .sliceCalStep t n c res => Sys2Proof.Machine.execSliceCalStep t n c res s
  | .calOverdue t n c => Sys2Proof.Machine.execCalOverdue t n c s
  | .videoEffect t n => Sys2Proof.Machine.execVideoEffect t n s
  | .timeEffect t n => Sys2Proof.Machine.execTimeEffect t n s
  | .alignEffect t n => Sys2Proof.Machine.execAlignEffect t n s
  | .shadeLoad t n => Sys2Proof.Machine.execShadeLoad t n s
  | .refreshSegment t n => Sys2Proof.Machine.execRefreshSegment t n s
  | .pipeCapUpdate t n rate => Sys2Proof.Machine.execPipeCapUpdate t n rate s
  | .governorUpdate t => Sys2Proof.Machine.execGovernorUpdate t s
  | .overrunHoldEnd t n => Sys2Proof.Machine.execOverrunHoldEnd t n s
  | .switchbackDrained t g => Sys2Proof.Machine.execSwitchbackDrained t g s
  | .stepEvent t a => Sys2Proof.Machine.execStepEvent t a s
  | .loadSampleRequest t a => Sys2Proof.Machine.execLoadSampleRequest t a s
  | .chopBlankEnd t a ph tripPresent => Sys2Proof.Machine.execChopBlankEnd t a ph tripPresent s
  | .chopTrip t a ph => Sys2Proof.Machine.execChopTrip t a ph s
  | .chopOffEnd t a ph => Sys2Proof.Machine.execChopOffEnd t a ph s
  | .chopOnMax t a ph => Sys2Proof.Machine.execChopOnMax t a ph s
  | .holdCurrentDelay t a => Sys2Proof.Machine.execHoldCurrentDelay t a s
  | .limitSwitch t a active => Sys2Proof.Machine.execLimitSwitch t a active s
  | .homeSwitchEdge t a active => Sys2Proof.Machine.execHomeSwitchEdge t a active s
  | .bridgeFault t a low => Sys2Proof.Machine.execBridgeFault t a low s
  | .enSettleDone t a => Sys2Proof.Machine.execEnSettleDone t a s
  | .parkRampDone t a => Sys2Proof.Machine.execParkRampDone t a s
  | .wakeRampDone t a => Sys2Proof.Machine.execWakeRampDone t a s
  | .madcTrigPin t pin rising => Sys2Proof.Machine.execMadcTrigPin t pin rising s
  | .seqTrig t q => Sys2Proof.Machine.execSeqTrig t q s
  | .madcPeriodTrigger t q => Sys2Proof.Machine.execMadcPeriodTrigger t q s
  | .madcConversionDone t core samples => Sys2Proof.Machine.execMadcConversionDone t core samples s
  | .urgentResult t core samples => Sys2Proof.Machine.execUrgentResult t core samples s
  | .madcSlotFlush t => Sys2Proof.Machine.execMadcSlotFlush t s
  | .refSettled t => Sys2Proof.Machine.execRefSettled t s
  | .calPhaseDone t meas => Sys2Proof.Machine.execCalPhaseDone t meas s
  | .deferredCalStart t => Sys2Proof.Machine.execDeferredCalStart t s
  | .nvmEraseDone t ok => Sys2Proof.Machine.execNvmEraseDone t ok s
  | .nvmProgramDone t res => Sys2Proof.Machine.execNvmProgramDone t res s
  | .nvmCheckDone t ok => Sys2Proof.Machine.execNvmCheckDone t ok s
  | .weatherPlan t mon temps vddMv verniers => Sys2Proof.Machine.execWeatherPlan t mon temps vddMv verniers s
  | .vddSag t mv => Sys2Proof.Machine.execVddSag t mv s
  | .initDone t => Sys2Proof.Machine.execInitDone t s
  | .regionEffect t r => Sys2Proof.Machine.execRegionEffect t r s
  | .patrolScrub t addr res => Sys2Proof.Machine.execPatrolScrub t addr res s
  | .dmaDelivery t n => Sys2Proof.Machine.execDmaDelivery t n s
  | .dmaChainStart t ch desc => Sys2Proof.Machine.execDmaChainStart t ch desc s
  | .descriptorComplete t ch data nextDesc => Sys2Proof.Machine.execDescriptorComplete t ch data nextDesc s
  | .fenceReadDone t ch nextDesc => Sys2Proof.Machine.execFenceReadDone t ch nextDesc s
  | .dmaErrorResponse t ch kind addr => Sys2Proof.Machine.execDmaErrorResponse t ch kind addr s
  | .dmaTimeout t ch host addr => Sys2Proof.Machine.execDmaTimeout t ch host addr s
  | .dmaErrorLate t ch index addr => Sys2Proof.Machine.execDmaErrorLate t ch index addr s
  | .replyWrite t ring => Sys2Proof.Machine.execReplyWrite t ring s
  | .eventRecordWrite t ring => Sys2Proof.Machine.execEventRecordWrite t ring s
  | .deadlineExpiry t seq => Sys2Proof.Machine.execDeadlineExpiry t seq s
  | .ledgerPeriodicCheckpoint t => Sys2Proof.Machine.execLedgerPeriodicCheckpoint t s
  | .waymarkDelivery t ch => Sys2Proof.Machine.execWaymarkDelivery t ch s
  | .junction t k => Sys2Proof.Machine.execJunction t k s
  | .stopRamp t a => Sys2Proof.Machine.execStopRamp t a s
  | .stopQuick t a => Sys2Proof.Machine.execStopQuick t a s
  | .wake t => Sys2Proof.Machine.execWake t s
  | .wakeComplete t => Sys2Proof.Machine.execWakeComplete t s
  | .second t => Sys2Proof.Machine.execSecond t s
  | .strapLatch b => Sys2Proof.Machine.execStrapLatch b s
  | .readyReached t ownHigh => Sys2Proof.Machine.execReadyReached t ownHigh s
  | .resetNAssert t => Sys2Proof.Machine.execResetNAssert t s
  | .pwrgoodFall t => Sys2Proof.Machine.execPwrgoodFall t s
  | .flrPf0 t => Sys2Proof.Machine.execFlrPf0 t s
  | .flrPf1 t => Sys2Proof.Machine.execFlrPf1 t s
  | .hotReset t => Sys2Proof.Machine.execHotReset t s
  | .pcieLinkDown t what => Sys2Proof.Machine.execPcieLinkDown t what s
  | .watchdogRecovery t core ok => Sys2Proof.Machine.execWatchdogRecovery t core ok s
  | .safeEntry t cause => Sys2Proof.Machine.execSafeEntry t cause s
  | .fwStartTimeout t secure => Sys2Proof.Machine.execFwStartTimeout t secure s
  | .batchSeal t => Sys2Proof.Machine.execBatchSeal t s
  | .heartbeatSend t => Sys2Proof.Machine.execHeartbeatSend t s
  | .heartbeat t path peer => Sys2Proof.Machine.execHeartbeat t path peer s
  | .yield t => Sys2Proof.Machine.execYield t s
  | .leadLost t => Sys2Proof.Machine.execLeadLost t s
  | .ropeFault t => Sys2Proof.Machine.execRopeFault t s
  | .hbPathLost t => Sys2Proof.Machine.execHbPathLost t s
  | .mirrorAckTimeout t => Sys2Proof.Machine.execMirrorAckTimeout t s
  | .mirrorItem t item => Sys2Proof.Machine.execMirrorItem t item s
  | .tbLockLoss t => Sys2Proof.Machine.execTbLockLoss t s
  | .tbRelock t => Sys2Proof.Machine.execTbRelock t s
  | .ownTake t => Sys2Proof.Machine.execOwnTake t s
  | .syncDone t => Sys2Proof.Machine.execSyncDone t s
  | .syncTimeout t => Sys2Proof.Machine.execSyncTimeout t s
  | .eligible t => Sys2Proof.Machine.execEligible t s
  | .swapInstant t => Sys2Proof.Machine.execSwapInstant t s
  | .ropeWakePulse t => Sys2Proof.Machine.execRopeWakePulse t s
  | .smbReadMode t => Sys2Proof.Machine.execSmbReadMode t s
  | .smbReadTemp t sites => Sys2Proof.Machine.execSmbReadTemp t sites s
  | .smbReadTempSites t sites => Sys2Proof.Machine.execSmbReadTempSites t sites s
  | .smbReadPower t power => Sys2Proof.Machine.execSmbReadPower t power s
  | .smbReadRailPower t rails => Sys2Proof.Machine.execSmbReadRailPower t rails s
  | .smbReadId t => Sys2Proof.Machine.execSmbReadId t s
  | .smbAlertResponse t => Sys2Proof.Machine.execSmbAlertResponse t s
  | .smbNack t => Sys2Proof.Machine.execSmbNack t s
  | .bypass t => Sys2Proof.Machine.execBypass t s
  | .idcode t => Sys2Proof.Machine.execIdcode t s
  | .samplePreload t pins => Sys2Proof.Machine.execSamplePreload t pins s
  | .extest t => Sys2Proof.Machine.execExtest t s
  | .clamp t => Sys2Proof.Machine.execClamp t s
  | .highz t => Sys2Proof.Machine.execHighz t s
  | .dbgAccess t => Sys2Proof.Machine.execDbgAccess t s
  | .tlSymbolLock t => Sys2Proof.Machine.execTlSymbolLock t s
  | .tlSymbolLockLoss t => Sys2Proof.Machine.execTlSymbolLockLoss t s
  | .pcieLinkUp t what gen width => Sys2Proof.Machine.execPcieLinkUp t what gen width s
  | .timebaseLockLoss t => Sys2Proof.Machine.execTimebaseLockLoss t s
  | .dieTemperatureAlert t site temp => Sys2Proof.Machine.execDieTemperatureAlert t site temp s
  | .ropeLaneError t lane => Sys2Proof.Machine.execRopeLaneError t lane s
  | .ropeLanesDown t mask => Sys2Proof.Machine.execRopeLanesDown t mask s
  | .ropeLanesLocked t mask => Sys2Proof.Machine.execRopeLanesLocked t mask s
  | .ownFault t => Sys2Proof.Machine.execOwnFault t s
  | .checkpointSigned t => Sys2Proof.Machine.execCheckpointSigned t s
  | .imageStarted t secure => Sys2Proof.Machine.execImageStarted t secure s
  | .recoveryBudgetExpiry t level fault => Sys2Proof.Machine.execRecoveryBudgetExpiry t level fault s

end Sys2Proof.Machine
end

