-- ==== Sys2Proof/Safety.lean ====
section
/-! DEFINITION. What a safe run keeps, and the words in which the statements speak of a step: what a step's answer is,
and what it leaves as it was. -/

namespace Sys2Proof.Machine

/-- Every memory is in its canonical form and no posted write is left over. -/
structure State.Sound (s : State) : Prop where
  cellar : Mem.wf (some 0) s.cel.mem
  host0 : Mem.wf none s.host0
  host1 : Mem.wf none s.host1
  posted : s.posted = []

/-- RESET_N and PWRGOOD are high, and no posted write is left over. -/
structure State.Live (s : State) : Prop where
  running : s.sys.inReset = false
  posted : s.posted = []

/-- The command answers a next state, and `P` holds of it. -/
def Answers (c : Instr) (s : State) (P : State → Prop) : Prop := ∃ t, exec c s = .next t ∧ P t

/-- The state after a step, with what the end of EVERY step may touch taken from the state before: the PCI Express
functions (a summary interrupt, 16 R369) and reply_stall with its event bit (10 R233). Equal `calm` states are equal in
everything else. -/
def State.calm (before after : State) : State :=
  { after with pci := before.pci, cmd.evt := before.cmd.evt, cmd.stallShown := before.cmd.stallShown }

/-- The state after a step, with what the end of a step, a waymark event and an event record may touch taken from the
state before: as `calm`, and the waymark fabric (12 R293), the rings with their waiting event records (11 R275) and the
DMA unit's event register and count of lost records. -/
def State.hush (before after : State) : State :=
  { before.calm after with evf := before.evf, rings := before.rings, dma.evt := before.dma.evt
                           dma.evtLost := before.dma.evtLost }

/-- The packet that a packet command carries, and what its opcode adds to the common checks. -/
def packetOf : Instr → Option (Packet × PacketSpec)
  | .nop p => some (p, nopSpec) | .identify p => some (p, identifySpec)
  | .setMode p => some (p, setModeSpec) | .getStatus p => some (p, getStatusSpec)
  | .resetBlock p => some (p, resetBlockSpec) | .setTime p => some (p, setTimeSpec)
  | .selfTest p => some (p, selfTestSpec) | .batchOpen p => some (p, batchOpenSpec)
  | .batchClose p => some (p, batchCloseSpec) | .docBegin p => some (p, docBeginSpec)
  | .docEnd p => some (p, docEndSpec) | .batchAbort p => some (p, batchAbortSpec)
  | .portConfig p => some (p, portConfigSpec) | .patternLoad p => some (p, patternLoadSpec)
  | .portArm p => some (p, portArmSpec) | .portDisarm p => some (p, portDisarmSpec)
  | .portReconfig p => some (p, portReconfigSpec) | .alignSet p => some (p, alignSetSpec)
  | .outputFormat p => some (p, outputFormatSpec) | .axisConfig p => some (p, axisConfigSpec)
  | .moveTo p => some (p, moveToSpec) | .moveVelocity p => some (p, moveVelocitySpec)
  | .stop p => some (p, stopSpec) | .resume p => some (p, resumeSpec)
  | .home p => some (p, homeSpec) | .gearSet p => some (p, gearSetSpec)
  | .gearRatioAt p => some (p, gearRatioAtSpec) | .axisLimits p => some (p, axisLimitsSpec)
  | .holdPark p => some (p, holdParkSpec) | .madcSequence p => some (p, madcSequenceSpec)
  | .madcStart p => some (p, madcStartSpec) | .madcUrgent p => some (p, madcUrgentSpec)
  | .refbufEnable p => some (p, refbufEnableSpec) | .calVideo p => some (p, calVideoSpec)
  | .calShading p => some (p, calShadingSpec) | .calAlign p => some (p, calAlignSpec)
  | .calMadcZero p => some (p, calMadcZeroSpec) | .calMadcFull p => some (p, calMadcFullSpec)
  | .calCommit p => some (p, calCommitSpec) | .calQuery p => some (p, calQuerySpec)
  | .calRevert p => some (p, calRevertSpec) | .calDrive p => some (p, calDriveSpec)
  | .ringCreate p => some (p, ringCreateSpec) | .ringDestroy p => some (p, ringDestroySpec)
  | .dmaCopy p => some (p, dmaCopySpec) | .dmaFence p => some (p, dmaFenceSpec)
  | .regionSet p => some (p, regionSetSpec) | .routeSet p => some (p, routeSetSpec)
  | .routeClear p => some (p, routeClearSpec) | .routeQuery p => some (p, routeQuerySpec)
  | .paceConfig p => some (p, paceConfigSpec) | .paceQuery p => some (p, paceQuerySpec)
  | .seamPolicy p => some (p, seamPolicySpec) | .ropePair p => some (p, ropePairSpec)
  | .ropeSwap p => some (p, ropeSwapSpec) | .ropeRelease p => some (p, ropeReleaseSpec)
  | .ropeStatus p => some (p, ropeStatusSpec) | .worldAssign p => some (p, worldAssignSpec)
  | .attest p => some (p, attestSpec) | .fwStage p => some (p, fwStageSpec)
  | .fwActivate p => some (p, fwActivateSpec) | .keyInfo p => some (p, keyInfoSpec)
  | .signPolicy p => some (p, signPolicySpec) | .estateSet p => some (p, estateSetSpec)
  | .ledgerRead p => some (p, ledgerReadSpec) | .ledgerCheckpoint p => some (p, ledgerCheckpointSpec)
  | .ledgerTrim p => some (p, ledgerTrimSpec)
  | _ => none

/-- What the packet command `c` finds: the block runs, the packet's ring `r` is served and holds the whole packet, the
packet is no longer than 4,096 bytes (10 R233, R234), it passes every check of 10 Table 10.3, and its ACCEPT entry will
have a sequence that no command in flight bears (10 R242). -/
structure Accepts (sp : PacketSpec) (p : Packet) (s : State) (r : Ring) : Prop where
  live : s.Live
  taken : (s.advance p.tick).takeable p = some r
  short : p.paramLen.toNat ≤ 4064
  passes : sp.verdict (s.advance p.tick) p r = .accept
  fresh : s.flight? s.acceptSeq = none

/-- The state in which an accepted packet's own effect begins (10 R238). -/
def State.entered (sp : PacketSpec) (p : Packet) (r : Ring) (s : State) : State :=
  ((s.advance p.tick).takePacket p).accept p r sp.code

/-- The state after a step, with what taking, accepting and answering a packet may touch taken from the state before: as
`hush`, and the command unit, the Ledger, the bytes that the Ledger spills to the Cellar, the counter of free values, and the
world of the ring that a DMA channel of the command unit served last (11 Table 11.8). -/
def State.ordered (before after : State) : State :=
  { before.hush after with cmd := before.cmd, ldg := before.ldg, cel.mem := before.cel.mem, free := before.free
                           dma.served := before.dma.served }

/-- The reply of an accepted packet (10 Table 10.2, R247) with the outcome given, `buffers` being what is written to host
memory with it (10 R235). -/
def replyOf (sp : PacketSpec) (p : Packet) (r : Ring) (s : State) (status : BitVec 16) (detail result : BitVec 32)
    (buffers : List (Nat × List Byte) := []) : Reply :=
  { ring := replyRingOf (s.advance p.tick) p r, cmdRing := p.ring, status, opcode := sp.code, tag := p.tag
    seq := if s.second then -1 else s.ldg.nextSeq, cookie := p.cookie, detail, result, time := (s.advance p.tick).time
    fault := 0, flight := some s.acceptSeq, buffers }

/-- The packet is accepted and answered at once with OK and a result: its reply is the one new reply, and it is in flight
no longer than that reply takes to be written. -/
def RepliesOk (sp : PacketSpec) (p : Packet) (r : Ring) (s t : State) (result : BitVec 32)
    (buffers : List (Nat × List Byte) := []) : Prop :=
  t.cmd.replies = s.cmd.replies ++ [replyOf sp p r s 0 0 result buffers]

/-- What one trigger does to a sequence while its core is busy (08 R191): it becomes pending, or is missed where one is and
the sequence itself runs. -/
def MadcSeq.triggered (x : MadcSeq) (running : Bool) (now : Nat) : MadcSeq :=
  if x.armed && (match x.lastTrig with
    | some t => decide (t + 1 < now)
    | none => true) then
    (if x.pend then { x with lastTrig := some now, missed := if running then sat16 (x.missed + 1) else x.missed }
      else { x with lastTrig := some now, pend := true })
  else x

end Sys2Proof.Machine
end

