-- ==== Sys2Proof/Certificates/Slice0/Obligations.lean ====
section
/-! DEFINITION. The statements about the block that are to be proved. Each says in its docstring which rules of the spec
it rests on, and which log entry where it rests on a choice of the model. -/

open Sys2Proof Sys2Proof.Machine

/-! ### The transport link (16) -/

/-- R376, R377, R380, R382, R384: with symbol lock, a valid frame keeps the link alive and does what its type says, and a
bad frame is discarded and counted; nothing else changes. A PATH that names a port on which a calibration measures ends that
calibration (09 R212).
Also: R376: the receiver of a fitted link gains and loses symbol lock; nothing else changes.
Shown to complete, by a conclusion that exec answers a next state: hello, path, ack, withdraw, tlBadFrame,
tlSymbolLock, tlSymbolLockLoss. -/
def Obligations.TransportFramesTakeEffect : Prop :=
  (∀ (s : State) (t : Nat), s.Live → s.sys.fit.tlink = true → s.tl.symLock = true →
       let s1 := { s.advance t with tl.lastValid := max s.ticks t, tl.validCnt := min 16 (s.tl.validCnt + 1) };
       (∀ seq, Answers (.hello t seq) s fun u => s.calm u = s1)
       ∧ (∀ seq mask, (∀ x ∈ s.trig.runs, x.stage ≠ .phase) → Answers (.path t seq mask) s fun u =>
           s.calm u = { s1 with tl.path := mask })
       ∧ (∀ seq mask (n : Fin 8) x, s.portRun n = some x → x.stage = .phase → mask.getLsbD n.val = true →
           Answers (.path t seq mask) s fun u => u.tl.path = mask ∧ ∀ y ∈ u.trig.runs, y.seq ≠ x.seq)
       ∧ (∀ seq typ ackSeq, Answers (.ack t seq typ ackSeq) s fun u => s.calm u = { s1 with
           tl.rejects := if typ = 0x85 then s.tl.rejects.filter fun r => r.seq ≠ ackSeq else s.tl.rejects })
       ∧ (∀ seq doc mask, Answers (.withdraw t seq doc mask) s fun u =>
           s.calm { u with ports := s.ports } = s1
           ∧ ∀ n : Fin 8, u.ports[n] = if mask.getLsbD n.val then
               { s.ports[n] with waits.slots := s.ports[n].waits.slots.filter fun d => d ≠ doc } else s.ports[n])
       ∧ Answers (.tlBadFrame t) s fun u => s.calm u =
           { s.advance t with tl.crcErrCnt := satInc s.tl.crcErrCnt, tl.evt := setBit s.tl.evt 2 })
  ∧
  (∀ (s : State) (t : Nat), s.Live → s.sys.fit.tlink = true →
       (Answers (.tlSymbolLock t) s fun u => s.calm u = { s.advance t with tl.symLock := true })
       ∧ Answers (.tlSymbolLockLoss t) s fun u => s.calm u = { s.advance t with tl.symLock := false })

/-- R378 to R380 and R383: an ARRIVE answered before is answered from the log, a new one that fails a check of 16 Table
16.7 is refused with its reason, and one that passes takes the lowest free document number for each port it names; a JAM
puts the groups it names in WAIT. An answer goes ahead of every other frame that has not begun.
Shown to complete, by a conclusion that exec answers a next state: arrive, jam. -/
def Obligations.ArriveIsAnsweredOnce : Prop :=
  ∀ (s : State) (t : Nat) (seq : BitVec 8) (ctlRef : BitVec 32) (mask pad : BitVec 8), s.Live → s.sys.fit.tlink = true →
    s.tl.symLock = true → s.second = false → s.owns = true →
    let payload := leBytes 4 ctlRef.toNat ++ [mask, pad];
    let kept := s.tl.answers.find? fun a => a.seq = seq && a.payload = payload;
    let reuse := s.tl.answers.any fun a => a.seq = seq;
    let why := (s.advance t).arriveReason mask reuse;
    let place := s.tl.sent.length - (s.tl.waiting (max s.ticks t)).length;
    let sentWith (f : Frame) : List Frame := s.tl.sent.take place ++ [f] ++ s.tl.sent.drop place;
    (∀ a, kept = some a → Answers (.arrive t seq ctlRef mask pad) s fun u =>
      u.tl.sent = sentWith { typ := a.typ, seq, payload := padTo 6 a.answer } ∧ u.tl.slots = s.tl.slots
        ∧ u.tl.answers = s.tl.answers ∧ u.tl.repeatCnt = satInc s.tl.repeatCnt ∧ u.ports = s.ports)
    ∧ (∀ r, kept = none → why = some r → Answers (.arrive t seq ctlRef mask pad) s fun u =>
      u.tl.sent = sentWith { typ := 0x82, seq, payload := padTo 6 (leBytes 4 0 ++ [mask] ++ leBytes 1 r) }
        ∧ u.tl.refuseCnt = satInc s.tl.refuseCnt ∧ u.tl.slots = s.tl.slots ∧ u.ports = s.ports)
    ∧ (∀ d rest, kept = none → why = none → s.tl.slots = d :: rest → Answers (.arrive t seq ctlRef mask pad) s fun u =>
      u.tl.sent = sentWith { typ := 0x81, seq, payload := padTo 6 (leBytes 4 d ++ [mask] ++ leBytes 1 0) }
        ∧ u.tl.slots = rest
        ∧ ∀ n : Fin 8, u.ports[n].waits.slots = if mask.getLsbD n.val then s.ports[n].waits.slots ++ [BitVec.ofNat 32 d]
            else s.ports[n].waits.slots)
    ∧ Answers (.jam t seq mask) s fun u => u.tl.lastValid = max s.ticks t ∧ u.tl.evt.getLsbD 3 = true
        ∧ ∀ g : Fin 4, mask.getLsbD g.val = true → (s.paceCfg g).isSome = true → u.pace.groups[g].wait = true

/-- R377, R384, R385: what a fitted device that owns the outputs sends and when: HELLO after 20 us of silence, SPEED each
millisecond, a REJECT again every 100 us until its sixteenth sending.
Shown to complete, by a conclusion that exec answers a next state: tlHelloSend, speed, rejectRepeat. -/
def Obligations.DeviceSendsItsFrames : Prop :=
  ∀ (s : State) (t : Nat), s.Live → s.sys.fit.tlink = true → s.second = false → s.owns = true →
    let now := max s.ticks t;
    let start := max now s.tl.txFreeAt;
    let plan := s.tl.unsent now ++ [(start, false)];
    (s.tl.lastSent + 30000 ≤ now → Answers (.tlHelloSend t) s fun u => s.calm u = { s.advance t with
      tl.txFreeAt := start + 780, tl.lastSent := start + 720, tl.txSeq := s.tl.txSeq + 1, tl.txPlan := plan
      tl.sent := s.tl.sent ++ [{ typ := 0x8F, seq := s.tl.txSeq, payload := padTo 6 (leBytes 1 s.gateMask.toNat
        ++ leBytes 1 s.sys.mode.code ++ leBytes 1 s.rope.role.code) }] })
    ∧ (∀ g : Fin 4, (s.paceCfg g).isSome = true → s.tl.speedTicks[g] + 1500000 ≤ now →
      Answers (.speed t g) s fun u => s.calm u = { s.advance t with
        tl.txFreeAt := start + 780, tl.lastSent := start + 720, tl.txSeq := s.tl.txSeq + 1, tl.txPlan := plan
        tl.speedTicks := s.tl.speedTicks.set g now
        tl.sent := s.tl.sent ++ [{ typ := 0x84, seq := s.tl.txSeq
                                   payload := padTo 6 (leBytes 1 g.val ++ leBytes 1 0 ++ leBytes 4 s.pace.groups[g].vSet) }] })
    ∧ ∀ (seq : BitVec 8) (r : RejectFrame), (s.tl.rejects.find? fun x => x.seq = seq) = some r → s.tl.lost = false →
      r.nextTick ≤ now →
      (r.sends < 16 → Answers (.rejectRepeat t seq) s fun u => s.calm u = { s.advance t with
        tl.txFreeAt := start + 780, tl.lastSent := start + 720, tl.txPlan := plan
        tl.sent := s.tl.sent ++ [{ typ := 0x85, seq, payload := padTo 6 (leBytes 4 r.doc.toNat ++ [r.mask, r.reason]) }]
        tl.rejects := s.tl.rejects.map fun x =>
          if x.seq = seq then { x with sends := x.sends + 1, nextTick := now + 150000 } else x })
      ∧ (16 ≤ r.sends → Answers (.rejectRepeat t seq) s fun u => s.hush u = s.hush { s.advance t with
        tl.rejects := s.tl.rejects.filter fun x => x.seq ≠ seq, tl.evt := setBit s.tl.evt 4 })

/-- R380, R382, R385: the link is lost after 100 us without a valid frame: every gate counts as closed and every port as occupied,
which ends a calibration that measures one (09 R212). It returns after 16 valid frames; the slot table of a running batch is
filled to 64 numbers from the document counter.
Shown to complete, by a conclusion that exec answers a next state: tlLinkLoss, tlLinkReturn, slotRefill. -/
def Obligations.LinkLossReturnAndSlots : Prop :=
  ∀ (s : State) (t : Nat), s.Live → s.sys.fit.tlink = true →
    (s.tl.lost = false → s.tl.lastValid + 150000 ≤ max s.ticks t →
      (Answers (.tlLinkLoss t) s fun u => u.tl.lost = true ∧ u.tl.linkUp = false ∧ u.tl.validCnt = 0 ∧ u.gateMask = 15
        ∧ (∀ n : Fin 8, u.docInWay n = true) ∧ ∀ g : Fin 4, (s.paceCfg g).isSome = true → u.gateClosed g = true)
      ∧ ((∀ x ∈ s.trig.runs, x.stage ≠ .phase) → Answers (.tlLinkLoss t) s fun u => u.ports = s.ports ∧ u.ldg = s.ldg)
      ∧ ∀ (n : Fin 8) x, s.portRun n = some x → x.stage = .phase → Answers (.tlLinkLoss t) s fun u =>
        ∀ y ∈ u.trig.runs, y.seq ≠ x.seq)
    ∧ (s.tl.linkUp = false → s.tl.validCnt = 16 → Answers (.tlLinkReturn t) s fun u =>
      u.tl.lost = false ∧ u.tl.linkUp = true ∧ u.tl.evt = setBit s.tl.evt 1 ∧ u.ports = s.ports ∧ u.ldg = s.ldg)
    ∧ (s.sys.mode = .run → s.sys.batchState = .opened → s.sys.closeStep = 0 → s.secPaused = false → s.cmd.coreWait = false →
      s.second = false → s.tl.slots.length < 64 → Answers (.slotRefill t) s fun u => s.calm u = { s.advance t with
        tl.slots := s.tl.slots ++ (List.range (64 - s.tl.slots.length)).map fun i => s.sys.docs.toNat + 1 + i
        sys.docs := s.sys.docs + BitVec.ofNat 32 (64 - s.tl.slots.length) })

/-! ### The step, the queue and the clock -/

/-- The block takes the command at the front of its queue and runs it with the queue's rest.
Also: With nothing commanded the block idles: the model's choice, log entry 33. -/
def Obligations.StepRunsFrontCommand : Prop :=
  (∀ (c : Instr) (rest : List Instr) (s : State), step { s with pending := c :: rest } = exec c { s with pending := rest })
  ∧
  (∀ s : State, s.pending = [] → step s = .next s)

/-- From every sound state a step leads to a sound state: the Cellar and the two host memories keep the canonical form of
their lists (rising addresses, no entry equal to what an unlisted address reads as), and nothing stays posted. -/
def Obligations.EveryStepKeepsMemoriesSound : Prop := ∀ s t : State, s.Sound → step s = .next t → t.Sound

/-- The state after reset is sound. -/
def Obligations.ResetIsSound : Prop := State.reset.Sound

/-- No command changes the queue behind it, and device time never steps backward but at a strap latch, where it starts
(16 R372). -/
def Obligations.CommandsKeepQueueAndTime : Prop :=
  ∀ (c : Instr) (s u : State), exec c s = .next u → u.pending = s.pending ∧ ((∀ b, c ≠ .strapLatch b) → s.ticks ≤ u.ticks)

/-- While RESET_N or PWRGOOD is low the device takes no notice of a command (17 R401): only the strap latch, the two reset
pins and the test port have an effect. -/
def Obligations.HeldInResetTakesNoNotice : Prop :=
  ∀ (c : Instr) (s : State), s.sys.inReset = true → (∀ b, c ≠ .strapLatch b) → (∀ t, c ≠ .resetNAssert t) →
    (∀ t, c ≠ .pwrgoodFall t) → (∀ t, c ≠ .bypass t) → (∀ t, c ≠ .idcode t) → (∀ t l, c ≠ .samplePreload t l) →
    (∀ t, c ≠ .extest t) → (∀ t, c ≠ .clamp t) → (∀ t, c ≠ .highz t) → (∀ t, c ≠ .dbgAccess t) →
    (∀ t a r, c = .patrolScrub t a r → a < s.cel.capGib * 2 ^ 30) →
    ∃ t : Nat, exec c s = .next { s with ticks := max s.ticks t }

/-- Every command of every row answers a next state, but a scrub of an address that the Cellar does not have. -/
def Obligations.OnlyScrubPastCapacityStops : Prop :=
  ∀ (c : Instr) (s : State), (∀ t a r, c = .patrolScrub t a r → a < s.cel.capGib * 2 ^ 30) → ∃ u, exec c s = .next u

/-! ### Packets (10 R230 to R247) -/

/-- R236, R410, 14 R337 and 10 Table 10.3: the checks of a packet come in their order, and the first that fails gives the rejection
its status and detail code. `Turned st d` says that the packet is so rejected, with no entry in the Ledger (R237).
Also: R236: a packet with an opcode that is not assigned is rejected with BAD_OPCODE, and one longer than 4,096 bytes with
BAD_LENGTH, the reply of the latter on the bound ring; neither is accepted.
Shown to complete, by a conclusion that exec answers a next state: badOpcode. -/
def Obligations.PacketChecksComeInOrder : Prop :=
  (∀ (c : Instr) (p : Packet) (sp : PacketSpec) (s : State) (r : Ring), packetOf c = some (p, sp) → s.Live →
       (s.advance p.tick).takeable p = some r → p.paramLen.toNat ≤ 4064 →
       let s1 := s.advance p.tick;
       let turned (st : BitVec 16) (d : BitVec 32) : Prop := Answers c s fun u =>
         u.cmd.lastRejStatus = st ∧ u.cmd.lastRejDetail = d ∧ u.cmd.lastRejTag = p.tag
           ∧ u.cmd.rejected = satInc s.cmd.rejected ∧ u.ldg.entries = s.ldg.entries ∧ u.cmd.flights = s.cmd.flights;
       let replyOk := p.replyRing = 0 ∨ ∃ q, s.ring? p.replyRing.toNat = some q ∧ q.kind = .reply ∧ q.secure = r.secure;
       let plain := p.reserved = 0 ∧ p.flags >>> 4 = 0;
       let headOk := plain ∧ replyOk ∧ p.flags.getLsbD 3 = r.secure;
       (¬ plain → turned 0x0101 4)
       ∧ (plain → ¬ replyOk → turned 0x0101 6)
       ∧ (plain → replyOk → p.flags.getLsbD 3 ≠ r.secure → turned 0x0105 8)
       ∧ (headOk → sp.world s1 p r.secure = false → turned 0x0105 9)
       ∧ (headOk → sp.world s1 p r.secure = true → p.deadlineUs ≠ 0 → p.deadlineUs.toNat < 1000 → turned 0x0101 7)
       ∧ (headOk → sp.world s1 p r.secure = true → (p.deadlineUs = 0 ∨ 1000 ≤ p.deadlineUs.toNat) →
           ∀ e, s.acceptedBefore p = some e → e.digest ≠ packetDigest p sp.code → turned 0x0101 5)
       ∧ (headOk → sp.world s1 p r.secure = true → (p.deadlineUs = 0 ∨ 1000 ≤ p.deadlineUs.toNat) → s.acceptedBefore p = none →
           (s1.roomFor sp.code = false → turned 0x0106 0x0C)
           ∧ (s1.roomFor sp.code = true → sp.len p = false → turned 0x0102 3)
           ∧ (s1.roomFor sp.code = true → sp.len p = true → s1.modeAllows sp.code p r.secure = false →
               turned 0x0103 (s1.modeDetail sp.code p) ∧ (s.second = false → s1.modeDetail sp.code p = 0x0D))
           ∧ (s1.roomFor sp.code = true → sp.len p = true → s1.modeAllows sp.code p r.secure = true → sp.fitted s1 p = false →
               turned 0x0106 0x0B)
           ∧ (s1.roomFor sp.code = true → sp.len p = true → s1.modeAllows sp.code p r.secure = true → sp.fitted s1 p = true →
               ∀ j, sp.check s1 p r.secure = some j → turned j.status j.detail)))
  ∧
  (∀ (op : BitVec 16) (p : Packet) (s : State) (r : Ring), s.Live → (s.advance p.tick).takeable p = some r →
       (p.paramLen.toNat ≤ 4064 → headerCheck (s.advance p.tick) p r = none → assignedOpcodes.contains op.toNat = false →
         Answers (.badOpcode op p) s fun u => u.cmd.lastRejStatus = 0x0100 ∧ u.cmd.lastRejDetail = 1 ∧ u.cmd.lastRejTag = p.tag
           ∧ u.cmd.rejected = satInc s.cmd.rejected ∧ u.cmd.flights = s.cmd.flights ∧ u.ldg = s.ldg
           ∧ s.ordered u = s.ordered (s.advance p.tick))
       ∧ (4064 < p.paramLen.toNat → Answers (.badOpcode op p) s fun u => u.cmd.lastRejStatus = 0x0102 ∧ u.cmd.lastRejDetail = 2
           ∧ u.cmd.rejected = satInc s.cmd.rejected ∧ u.cmd.flights = s.cmd.flights ∧ u.ldg = s.ldg
           ∧ (∃ q, u.cmd.replies = s.cmd.replies ++ [q] ∧ q.ring = r.bind ∧ q.status = 0x0102 ∧ q.detail = 2)
           ∧ s.ordered u = s.ordered (s.advance p.tick)))

/-- R237: a rejected packet is answered with its status, detail code and cookie and an all-ones sequence, is recorded in
CMD_LAST_REJ with `rejected` set, writes no Ledger entry, does not consume its tag, and changes nothing outside the command
unit. -/
def Obligations.RejectionChangesNothingElse : Prop :=
  ∀ (c : Instr) (p : Packet) (sp : PacketSpec) (s : State) (r : Ring) (j : Reject), packetOf c = some (p, sp) → s.Live →
    (s.advance p.tick).takeable p = some r → p.paramLen.toNat ≤ 4064 → sp.verdict (s.advance p.tick) p r = .reject j →
    Answers c s fun u =>
      s.ordered u = s.ordered (s.advance p.tick) ∧ u.ldg.entries = s.ldg.entries ∧ u.ldg.nextNo = s.ldg.nextNo
        ∧ u.ldg.chain = s.ldg.chain ∧ u.acceptedBefore p = s.acceptedBefore p
        ∧ u.cmd.evt.getLsbD 0 = true ∧ u.cmd.flights = s.cmd.flights ∧ u.cmd.accepted = s.cmd.accepted
        ∧ u.cmd.lastRejRing = BitVec.ofNat 13 p.ring ∧ u.cmd.lastRejStatus = j.status ∧ u.cmd.lastRejTag = p.tag
        ∧ u.cmd.lastRejDetail = j.detail
        ∧ u.cmd.replies = s.cmd.replies ++ [{ replyOf sp p r s j.status j.detail j.result with seq := -1, flight := none }]

/-- R238, R247: an accepted packet's ACCEPT entry is written before anything of the command's effect, with the packet's tag,
opcode, ring and parameter digest; the command is in flight; then its own effect follows. -/
def Obligations.AcceptanceIsEnteredThenRun : Prop :=
  ∀ (c : Instr) (p : Packet) (sp : PacketSpec) (s : State) (r : Ring), packetOf c = some (p, sp) → Accepts sp p s r →
    exec c s = .next ((s.advance p.tick).settle (sp.run p r.secure s.acceptSeq (s.entered sp p r)))
    ∧ s.ordered { s.entered sp p r with posted := [] } = s.ordered (s.advance p.tick)
    ∧ (s.entered sp p r).cmd.accepted = s.cmd.accepted + 1
    ∧ (∃ f, (s.entered sp p r).cmd.flights = s.cmd.flights ++ [f] ∧ f.seq = s.acceptSeq ∧ f.tag = p.tag ∧ f.opcode = sp.code
        ∧ f.params = p.params ∧ f.finished = false ∧ f.replied = false)
    ∧ (s.second = false → ∃ e, (s.entered sp p r).ldg.entries = s.ldg.entries ++ [e] ∧ e.kind = .accept
        ∧ e.seq = s.ldg.nextSeq ∧ e.tag = p.tag ∧ e.opcode = sp.code ∧ e.ring = BitVec.ofNat 16 p.ring ∧ e.status = 0xFFFF
        ∧ e.secure = r.secure ∧ e.digest = packetDigest p sp.code ∧ e.time = (s.advance p.tick).time
        ∧ e.chain = first8 s.ldg.chain)

/-- R245, R246: a duplicate is not run again. It is counted, its DUPLICATE entry is written, and it is answered with the
outcome of the original once that is known. -/
def Obligations.DuplicateIsNotRunAgain : Prop :=
  ∀ (c : Instr) (p : Packet) (sp : PacketSpec) (s : State) (r : Ring) (e x : LedgerEntry), packetOf c = some (p, sp) → s.Live →
    (s.advance p.tick).takeable p = some r → p.paramLen.toNat ≤ 4064 → sp.verdict (s.advance p.tick) p r = .duplicate e →
    s.second = false → s.flight? e.seq = none → s.doneOf e = some x → 0 < s.generalRoom →
    Answers c s fun u =>
      s.ordered u = s.ordered (s.advance p.tick) ∧ u.cmd.flights = s.cmd.flights ∧ u.cmd.accepted = s.cmd.accepted
        ∧ u.cmd.dups = satInc s.cmd.dups
        ∧ (∃ d, u.ldg.entries = s.ldg.entries ++ [d] ∧ d.kind = .duplicate ∧ d.tag = p.tag ∧ d.digest = packetDigest p sp.code)
        ∧ ∃ q, u.cmd.replies = s.cmd.replies ++ [q] ∧ q.status = 1 ∧ q.seq = e.seq ∧ q.tag = p.tag ∧ q.cookie = p.cookie
          ∧ q.result = x.result ∧ q.fault = x.fault ∧ q.detail = (x.status.setWidth 32 <<< 16) ||| (x.detail &&& 0xFFFF)

/-! ### What the device writes to host memory (10 R231, R233; 11 R275) -/

/-- R231, R233: the first reply that may go is written to the slot at its ring's tail, `pass` at its offset 40, and nothing
else of host memory changes where the command names no buffer.
Also: 11 R275: the oldest waiting record of an event ring is written to the slot at the ring's tail, `pass` at its offset 60.
Shown to complete, by a conclusion that exec answers a next state: replyWrite, eventRecordWrite. -/
def Obligations.ReplyReachesItsSlot : Prop :=
  (∀ (s : State) (t id : Nat) (q : Ring) (r : Reply), s.Live → s.ring? id = some q → s.nextReply id = some r → q.kind = .reply →
       0 < q.room → q.waitDoorbell = false → s.canHost q.secure = true → s.dma.chans[9].stuck = false → r.buffers = [] →
       let slot := r.bytes.take 40 ++ leBytes 4 q.pass.toNat ++ r.bytes.drop 44;
       let mem (x : State) : List Host.Cell := if q.secure then x.host1 else x.host0;
       Answers (.replyWrite t id) s fun u =>
         (∀ i < 64, Mem.find (mem u) (q.slotAddr q.tail + i) = some (slot.getD i 0))
         ∧ (∀ a, a < q.slotAddr q.tail ∨ q.slotAddr q.tail + 64 ≤ a → Mem.find (mem u) a = Mem.find (mem s) a)
         ∧ (if q.secure then u.host0 = s.host0 else u.host1 = s.host1) ∧ u.cel = s.cel ∧ u.ldg = s.ldg ∧ u.sys = s.sys
         ∧ u.ports = s.ports ∧ u.axes = s.axes)
  ∧
  (∀ (s : State) (t id : Nat) (q : Ring) (e : EventRecord) (rest : List EventRecord), s.Live → s.ring? id = some q →
       q.events = e :: rest → q.kind = .event → 0 < q.room → q.waitDoorbell = false → s.canHost q.secure = true →
       s.dma.chans[10].stuck = false → s.second = false →
       let slot := e.bytes ++ leBytes 4 q.pass.toNat;
       let mem (x : State) : List Host.Cell := if q.secure then x.host1 else x.host0;
       Answers (.eventRecordWrite t id) s fun u =>
         (∀ i < 64, Mem.find (mem u) (q.slotAddr q.tail + i) = some (slot.getD i 0))
         ∧ (∀ a, a < q.slotAddr q.tail ∨ q.slotAddr q.tail + 64 ≤ a → Mem.find (mem u) a = Mem.find (mem s) a)
         ∧ (∃ v, u.ring? id = some v ∧ v.events = rest ∧ v.tail = (q.tail + 1) % q.size)
         ∧ u.cel = s.cel ∧ u.ldg = s.ldg ∧ u.sys = s.sys ∧ u.ports = s.ports)

/-! ### Identity, status, time, modes (13, 16) -/

/-- 16 R375, 13 R310, 16 R373, 13 R323: IDENTIFY and GET_STATUS answer OK with SYS_ID and with the mode and batch state, and
name what they write to host memory; SET_TIME sets the offset and the TB_OUT mode; SELF_TEST answers OK with a result word
and 64 bytes that the spec does not say (free values, log entry 50). Nothing else of the device changes.
Also: Command NOP: it is answered OK and has no other effect; its two entries, its reply, the ring's head and the counters are
all that changes.
Shown to complete, by a conclusion that exec answers a next state: identify, getStatus, setTime, selfTest, nop. -/
def Obligations.DeviceQueriesAndTime : Prop :=
  (∀ (p : Packet) (s : State) (r : Ring),
       let s1 := s.advance p.tick;
       (Accepts identifySpec p s r → Answers (.identify p) s fun u =>
         RepliesOk identifySpec p r s u sysId (bufferAt (u64 p.params 0) s1.identity) ∧ s.ordered u = s.ordered s1)
       ∧ (Accepts getStatusSpec p s r → Answers (.getStatus p) s fun u =>
         RepliesOk getStatusSpec p r s u (word (s.sys.mode.code + 16 * s.sys.batchState.code))
           (bufferAt (u64 p.params 0) (s.entered getStatusSpec p r).statusBuffer) ∧ s.ordered u = s.ordered s1)
       ∧ (Accepts setTimeSpec p s r → Answers (.setTime p) s fun u =>
         RepliesOk setTimeSpec p r s u 0
           ∧ u.sys.wallOffset = some ((u64 p.params 0 : Int) - (if u64 p.params 8 = 0 then s1.ns else u64 p.params 8 : Nat))
           ∧ u.sys.tbOut = (if u8 p.params 16 = 3 then s.sys.tbOut else u8 p.params 16) ∧ u.sys.evt = setBit s.sys.evt 4
           ∧ s.ordered { u with sys := s.sys } = s.ordered s1)
       ∧ (Accepts selfTestSpec p s r → Answers (.selfTest p) s fun u =>
         (∃ word results, results.length = 64
           ∧ RepliesOk selfTestSpec p r s u word (bufferAt (u64 p.params 8) results)) ∧ s.ordered u = s.ordered s1))
  ∧
  (∀ (p : Packet) (s : State) (r : Ring), Accepts nopSpec p s r → s.second = false → Answers (.nop p) s fun u =>
       RepliesOk nopSpec p r s u 0 ∧ s.ordered u = s.ordered (s.advance p.tick) ∧ u.cmd.accepted = s.cmd.accepted + 1
         ∧ u.ldg.nextNo = s.ldg.nextNo + 2
         ∧ ∃ e d, u.ldg.entries = s.ldg.entries ++ [e, d] ∧ e.kind = .accept ∧ d.kind = .done ∧ d.tag = p.tag ∧ d.status = 0
           ∧ d.digest = e.digest)

/-- 13 R309, R310: SET_MODE brings the mode it asks for.
Also: 13 R316: the SYS WAKE task starts a wake from DORMANT, in which a roped device sends its wake pulse (14 R350), and the wake
ends in READY with the Cellar active.
Shown to complete, by a conclusion that exec answers a next state: setMode, wake, wakeComplete. -/
def Obligations.SetModeReachesItsMode : Prop :=
  (∀ (p : Packet) (s : State) (r : Ring), Accepts setModeSpec p s r → Answers (.setMode p) s fun u =>
       (u8 p.params 0 = 1 → u.sys.mode = .ready ∧ RepliesOk setModeSpec p r s u 0)
       ∧ (u8 p.params 0 = 2 → u.sys.mode = .dormant ∧ u.cel.selfRefresh = true ∧ u.madc.refOn = false ∧ u.rope.lanes = 0)
       ∧ (u8 p.params 0 = 4 → u.sys.mode = .service ∧ RepliesOk setModeSpec p r s u 0)
       ∧ (u8 p.params 0 = 5 → u.sys.mode = .safe))
  ∧
  (∀ (s : State) (t : Nat), s.Live → s.sys.mode = .dormant →
       (∀ x, (s.evf.acts.find? fun x => x.task == { num := 0, inst := 0 } && decide (x.tick ≤ max s.ticks t)) = some x →
         s.sys.waking = false → Answers (.wake t) s fun u =>
           s.calm u = { s.advance t with evf.acts := s.evf.acts.erase x, sys.waking := true, sys.wakeTick := max s.ticks t
                                         rope := if s.rope.hbRunning then { s.rope with
                                           wakeSent := some (max s.ticks t), hbSent := max s.ticks t } else s.rope })
       ∧ (s.sys.waking = true → Answers (.wakeComplete t) s fun u =>
         u.sys.mode = .ready ∧ u.sys.waking = false ∧ u.cel.selfRefresh = false ∧ u.ldg = s.ldg ∧ u.axes = s.axes))

/-- 13 R313, Table 13.6: RESET_BLOCK returns the block it names to its reset state and is answered OK.
Shown to complete, by a conclusion that exec answers a next state: resetBlock. -/
def Obligations.ResetBlockRestoresResetState : Prop :=
  ∀ (p : Packet) (s : State) (r : Ring) (b : BlockId), Accepts resetBlockSpec p s r → blockAt p.params 0 = some b →
    Answers (.resetBlock p) s fun u =>
      (match b with
        | .enc _ | .evf | .pace | .wea => RepliesOk resetBlockSpec p r s u 0
        | _ => True)
      ∧ (match b with
        | .port n => u.ports[n].st = .off ∧ u.ports[n].sides = [] ∧ u.ports[n].configured = false ∧ u.ports[n].irqEn = 0
        | .ax a => u.axes[a].st = .disabled ∧ u.axes[a].positionLost = true ∧ u.axes[a].plan = none ∧ u.axes[a].lim = Limits.fresh
        | .enc e => u.encs[e] = Encoder.fresh
        | .madc => u.madc.seqs = Madc.fresh.seqs ∧ u.madc.refOn = false ∧ u.madc.q = Madc.fresh.q
        | .trig => ∀ x ∈ u.trig.cells, x.cand = none
        | .evf => u.evf.evt = 0 ∧ u.evf.fired = [] ∧ u.evf.acts = [] ∧ ∀ c : Fin 256, c.val < 248 → u.evf.chans[c] = EvfChan.fresh
        | .pace => ∀ g : Fin 4, u.pace.groups[g] = PaceGroup.disabled
        | .wea => u.wea.due = true ∧ u.wea.evt = 0
        | _ => True)

/-- 16 R373: a whole second of device time is counted once, and with TB_OUT mode 1 it begins a pulse of 1 ms.
Also: 14 R329, 17 R394: loss of the timebase is recorded, and on a device with a twin the heartbeat stops and OWN_N is
released; a site at 105 degrees pulls SMB_ALERT_N low.
Shown to complete, by a conclusion that exec answers a next state: second, timebaseLockLoss, dieTemperatureAlert. -/
def Obligations.SecondsAreCountedOnce : Prop :=
  (∀ (s : State) (t : Nat), s.Live → s.sys.lastSecond < (s.advance t).ns / 1000000000 → Answers (.second t) s fun u =>
       u.sys.lastSecond = (s.advance t).ns / 1000000000
         ∧ (s.sys.tbOut = 1 → u.sys.tbOutEnd = (s.advance t).ns / 1000000000 * 1000000000 + 1000000)
         ∧ s.hush { u with sys := s.sys } = s.hush (s.advance t))
  ∧
  (∀ (s : State) (t : Nat), s.Live →
       (Answers (.timebaseLockLoss t) s fun u =>
         u.sys.pllLocked = false ∧ u.sys.lockLosses = satInc16 s.sys.lockLosses ∧ u.sys.evt = setBit s.sys.evt 5
           ∧ (s.sys.fit.rope = true → u.rope.hbRunning = false ∧ u.rope.own = false) ∧ (s.sys.fit.rope = false → u.rope = s.rope)
           ∧ s.calm { u with sys := s.sys, rope := s.rope, free := s.free } = s.advance t)
       ∧ ∀ (site : Fin 8) (temp : Int), Answers (.dieTemperatureAlert t site temp) s fun u =>
         s.calm u = { s.advance t with sys.siteTemps := u.sys.siteTemps, sys.alert := u.sys.alert }
         ∧ (∀ k : Fin 8, u.sys.siteTemps[k] = if k = site then temp else s.sys.siteTemps[k])
         ∧ u.sys.alert = ((s.sys.alert || (13440 ≤ temp && s.sys.siteTemps[site] < 13440))
             && (s.sys.mode = .safe || (List.finRange 8).any fun k => 13440 ≤ u.sys.siteTemps[k])))

/-- 13 R322: in SAFE every port is OFF, every axis DISABLED with position_lost, the heartbeat and OWN_N are given up, the
Cellar is in self-refresh, SMB_ALERT_N is low and the cause is recorded.
Shown to complete, by a conclusion that exec answers a next state: safeEntry. -/
def Obligations.SafeDrivesEverythingSafe : Prop :=
  ∀ (s : State) (t : Nat) (cause : Fin 7), s.Live → s.sys.mode ≠ .safe → cause ≠ 0 → Answers (.safeEntry t cause) s fun u =>
    u.sys.mode = .safe ∧ u.sys.safeCause = cause.val ∧ u.sys.alert = true ∧ u.cel.selfRefresh = true
      ∧ (∀ n : Fin 8, u.ports[n].st = .off) ∧ (∀ a : Fin 12, u.axes[a].st = .disabled ∧ u.axes[a].positionLost = true)
      ∧ u.rope.hbRunning = false ∧ u.rope.own = false ∧ u.madc.refOn = false

/-- 01 R22, 10 R257 to R259: a restart of a control core that succeeds lets acceptance go on; one that fails passes its fault
to L3 on a lead and to L4 elsewhere; so does a level whose budget ends. What status the failure's entry carries is open
(log entry 45), and nothing here rests on it.
Shown to complete, by a conclusion that exec answers a next state: watchdogRecovery, recoveryBudgetExpiry. -/
def Obligations.RecoveryLevelsPassFaultsOn : Prop :=
  ∀ (s : State) (t : Nat) (core : Fin 4), s.Live → s.sys.mode ≠ .safe →
    (Answers (.watchdogRecovery t core true) s fun u =>
      u.cmd.coreWait = (s.sec.ctlStart.any fun x => !x.peer) ∧ u.ldg.faultNext = s.takeFault.ldg.faultNext ∧ u.sys = s.sys
        ∧ u.ports = s.ports ∧ u.axes = s.axes)
    ∧ ((s.sys.watchdog.filter fun x => max s.ticks t ≤ x + 1500000000).length < 2 →
      Answers (.watchdogRecovery t core false) s fun u =>
        u.cmd.coreWait = true ∧ u.ldg.faults = s.ldg.faults ++ [(s.ldg.faultNext, if s.rope.role = .lead then 3 else 4)]
          ∧ u.sys.mode = s.sys.mode ∧ u.ports = s.ports ∧ u.axes = s.axes)
    ∧ ((s.sys.watchdog.filter fun x => max s.ticks t ≤ x + 1500000000).length ≥ 2 →
      Answers (.watchdogRecovery t core false) s fun u => u.sys.mode = .safe ∧ u.sys.safeCause = 1)
    ∧ ∀ (level : Fin 5) (no : BitVec 32), no ≠ 0 → s.ldg.faults.contains (no, level.val) = true → level.val < 4 →
      Answers (.recoveryBudgetExpiry t level no) s fun u =>
        u.ldg.faults = s.ldg.faults.map (fun f => if f = (no, level.val) then
          (no, if level.val < 2 then level.val + 1 else if level.val = 2 ∧ s.rope.role = .lead then 3 else 4) else f)
        ∧ u.ports = s.ports ∧ u.axes = s.axes

/-! ### Batches and documents (13 R317 to R320) -/

/-- 13 R317 to R320, Table 13.8: BATCH_OPEN has the next batch number stored in the boot record first; BATCH_CLOSE withdraws
slots and begins the drain; BATCH_ABORT withdraws them and ends the batch; DOC_BEGIN answers with the document number it
assigns; DOC_END cancels an unused DOC_BEGIN.
Shown to complete, by a conclusion that exec answers a next state: batchOpen, batchClose, batchAbort, docBegin,
docEnd. -/
def Obligations.BatchCommandsBeginTheirWork : Prop :=
  ∀ (p : Packet) (s : State) (r : Ring),
    (Accepts batchOpenSpec p s r → s.openHeld = false → (∀ x ∈ s.trig.stores, x.job ≠ some s.acceptSeq) →
      Answers (.batchOpen p) s fun u => u.sys.batchWait = some s.acceptSeq ∧ u.sys.batchState = .none
        ∧ ∃ k b, u.trig.stores = s.trig.stores ++ [{ item := .boot k b, job := some s.acceptSeq, step := 2 }]
          ∧ b.epoch = s.ldg.epoch ∧ b.lastBatch = BitVec.ofNat 32 (s.nextNumber s.acceptSide s.sys.bootLast.toNat))
    ∧ (Accepts batchCloseSpec p s r → Answers (.batchClose p) s fun u =>
      u.sys.batchState = .closing ∧ u.sys.closeStep = 1 ∧ u.sys.batchWait = some s.acceptSeq ∧ u.tl.slots = []
        ∧ ∀ n : Fin 8, u.ports[n] = { s.ports[n] with waits.slots := [], waits.docBegin := none })
    ∧ (Accepts batchAbortSpec p s r → Answers (.batchAbort p) s fun u =>
      u.sys.batchState = .aborting ∧ u.sys.closeStep = 8 ∧ u.sys.batchWait = some s.acceptSeq ∧ u.tl.slots = []
        ∧ u.madc.q.entries = [] ∧ (∀ n : Fin 8, u.ports[n].waits.slots = [] ∧ u.ports[n].waits.docBegin = none)
        ∧ ∀ g : Fin 4, u.pace.groups[g].sb = none)
    ∧ (Accepts docBeginSpec p s r → Answers (.docBegin p) s fun u => u.sys.docs = s.sys.docs + 1
      ∧ (u8 p.params 1 = 0 → RepliesOk docBeginSpec p r s u (s.sys.docs + 1)
        ∧ ∀ n : Fin 8, u.ports[n] = if (u8 p.params 0).testBit n.val then
            { s.ports[n] with waits.docBegin := some (s.sys.docs + 1) } else s.ports[n]))
    ∧ (Accepts docEndSpec p s r → (∀ n : Fin 8, (u8 p.params 0).testBit n.val = true → s.ports[n].noSide = true) →
      Answers (.docEnd p) s fun u => RepliesOk docEndSpec p r s u 0
        ∧ ∀ n : Fin 8, u.ports[n] = if (u8 p.params 0).testBit n.val then
            { s.ports[n] with waits.docBegin := none } else s.ports[n])

/-- 13 Table 13.8 step 8, R320 step 3: once the last steps can be taken BATCH_SEAL ends the batch: READY, no batch, no
document counter, no free slot; a close whose sides are not done waits in step 2.
Also: 10 R240, 13 R319: a BATCH_CLOSE whose deadline passes before the seal leaves the batch open.
Shown to complete, by a conclusion that exec answers a next state: batchSeal, deadlineExpiry. -/
def Obligations.SealEndsTheBatch : Prop :=
  (∀ (s : State) (t : Nat), s.Live → s.second = false → s.sys.mode ≠ .safe →
       let s1 := s.advance t;
       let f := s1.flushLines;
       let g := f.flushMadc;
       let done (u : State) : Prop := u.sys.mode = .ready ∧ u.sys.batchState = .none ∧ u.sys.closeStep = 0 ∧ u.sys.docs = 0
         ∧ u.sys.batchWait = none ∧ u.tl.slots = [] ∧ u.cmd.rejected = 0;
       (s.sys.batchState = .aborting → s1.sidesDone = true → s1.sealReady = true →
         (∀ c : Fin 32, s.dma.chans[c].cur = none) → Answers (.batchSeal t) s done)
       ∧ (s.sys.batchState = .closing → s1.sidesDone = true → f.linesDone = true → (∀ n : Fin 8, f.ports[n].store = []) →
         g.madcDone = true → g.chansIdle = true → g.flushChans.sealReady = true → Answers (.batchSeal t) s done)
       ∧ (s.sys.batchState = .closing → s1.sidesDone = false →
         Answers (.batchSeal t) s fun u => s.calm u = { s1 with sys.closeStep := 2 }))
  ∧
  (∀ (s : State) (t : Nat) (q : DWord) (f : Flight) (d : Nat), s.Live → s.flight? q = some f → f.finished = false →
       f.queuedReply = false → f.deadline = some d → d ≤ (s.advance t).ns → s.sys.batchWait = some q →
       s.sys.batchState = .closing → s.sys.closeStep < 8 → Answers (.deadlineExpiry t q) s fun u =>
         u.sys.batchState = .opened ∧ u.sys.closeStep = 0 ∧ u.sys.batchWait = none ∧ u.sys.mode = s.sys.mode ∧ u.ports = s.ports
           ∧ u.axes = s.axes ∧ (u.flight? q).all fun g => g.finished)

/-! ### Start-up, resets, PCI Express, SMBus, test port (13, 16, 17) -/

/-- 13 R311, R312: a strap latch takes the straps and the reset cause, starts device time at 0, and begins a boot epoch one
above the stored one (on a device without a twin), whose first Ledger entry is its CHECKPOINT, number 0; a device with no
image that authenticates is in SAFE for cause 2.
Also: 13 R311 step 8, 14 R328: the start-up ends in READY, and the heartbeat of a device with a twin starts.
Shown to complete, by a conclusion that exec answers a next state: strapLatch, readyReached. -/
def Obligations.StrapLatchBeginsAnEpoch : Prop :=
  (∀ (s : State) (b : BootInputs) (rec0 : BoardRecord), s.posted = [] → s.sys.inReset = true → s.second = false →
       s.board.record = .valid rec0 → rec0.twin = false →
       (∀ ctl sec k r0, s.sec.bootSlot false = some ctl → s.sec.bootSlot true = some sec → s.trig.bootRecord = some (k, r0) →
         Answers (.strapLatch b) s fun u =>
           u.ticks = 0 ∧ u.sys.inReset = false ∧ u.sys.straps = b.straps ∧ u.sys.resetCause = (if s.sys.dead then 1 else 2)
             ∧ u.sys.fit.ports = rec0.ports ∧ u.sys.fit.axes = rec0.axes ∧ u.sys.fit.encs = rec0.encs ∧ u.sys.bootLast = r0.lastBatch
             ∧ u.ldg.epoch = BitVec.ofNat 24 (r0.epoch.toNat + 1) ∧ u.ldg.ready = true ∧ u.sec.ctlRun = ctl ∧ u.sec.secRun = sec
             ∧ ∃ e rest, u.ldg.entries = e :: rest ∧ e.kind = .checkpoint
               ∧ e.seq = BitVec.ofNat 64 ((BitVec.ofNat 24 (r0.epoch.toNat + 1)).toNat * 2 ^ 40))
       ∧ (s.sec.bootSlot false = none → s.sys.mode ≠ .safe →
         Answers (.strapLatch b) s fun u => u.sys.inReset = false ∧ u.sys.mode = .safe ∧ u.sys.safeCause = 2))
  ∧
  (∀ (s : State) (t : Nat) (ownHigh : Bool), s.Live → s.sys.mode = .startUp → s.pci.linkUp = true → s.systemReady = true →
       Answers (.readyReached t ownHigh) s fun u => u.sys.mode = .ready ∧ u.sys.phase = 8 ∧ u.rope.hbRunning = s.sys.fit.rope)

/-- 17 R401: RESET_N or PWRGOOD low returns every unit to its reset state, zeroes the Cellar, and leaves the flash, the
one-time store and host memory; an EXTEST, CLAMP or HIGHZ loaded before takes effect in reset (16 R389).
Also: 13 R314, 16 R370: a function-level reset resets only its function's PCI Express state, a hot reset that of both, and
the link's state and a function's mastering and power follow what the host does; nothing else changes.
Shown to complete, by a conclusion that exec answers a next state: resetNAssert, pwrgoodFall, flrPf0, flrPf1,
hotReset, pcieLinkDown, pcieLinkUp. -/
def Obligations.ResetPinsRestoreResetState : Prop :=
  (∀ (s : State) (t : Nat),
       let same (u : State) : Prop := u.sys.inReset = true ∧ u.sys.mode = .startUp ∧ u.ldg = Ledger.fresh ∧ u.evf = Evf.fresh
         ∧ u.madc = Madc.fresh ∧ u.pace = Pace.fresh ∧ u.ports = State.reset.ports ∧ u.encs = State.reset.encs
         ∧ u.rings = Ring.bootRings ∧ u.cmd.flights = [] ∧ u.cmd.replies = []
         ∧ (∀ a : Fin 12, u.axes[a].st = .disabled ∧ u.axes[a].positionLost = true)
         ∧ (∀ a < 2048 * 2 ^ 30, Mem.get u.cel.mem a = 0)
         ∧ u.host0 = s.host0 ∧ u.host1 = s.host1 ∧ u.trig.boot = s.trig.boot ∧ u.sec.estateWords = s.sec.estateWords
         ∧ u.sec.locked = s.sec.locked ∧ u.board.record = s.board.record;
       (Answers (.resetNAssert t) s fun u => same u ∧ u.sys.dead = s.sys.dead
         ∧ u.board.jtag.driving = (s.board.jtag.ir = .extest || s.board.jtag.ir = .clamp)
         ∧ u.board.jtag.floating = decide (s.board.jtag.ir = .highz)
         ∧ u.sys.safeEnded = if s.sys.mode = .safe then BitVec.ofNat 4 s.sys.safeCause else 0)
       ∧ Answers (.pwrgoodFall t) s fun u => same u ∧ u.sys.dead = true ∧ u.sys.safeEnded = 0)
  ∧
  (∀ (s : State) (t : Nat), s.Live →
       let flrd (f : PciFunction) : Prop := f.bme = false ∧ f.d0 = true ∧ f.msixTable = [] ∧ f.aer = false;
       let kept (f g : PciFunction) : Prop := f.bme = g.bme ∧ f.d0 = g.d0 ∧ f.msixTable = g.msixTable ∧ f.aer = g.aer;
       (Answers (.flrPf0 t) s fun u => s.calm u = s.advance t ∧ flrd u.pci.pf0 ∧ kept u.pci.pf1 s.pci.pf1)
       ∧ (Answers (.flrPf1 t) s fun u => s.calm u = s.advance t ∧ flrd u.pci.pf1 ∧ kept u.pci.pf0 s.pci.pf0)
       ∧ (Answers (.hotReset t) s fun u => s.calm u = s.advance t ∧ flrd u.pci.pf0 ∧ flrd u.pci.pf1)
       ∧ (Answers (.pcieLinkDown t .link) s fun u => s.calm u = s.advance t ∧ u.pci.linkUp = false)
       ∧ (∀ pf, Answers (.pcieLinkDown t (.busMaster pf)) s fun u => s.calm u = s.advance t ∧ (u.pf (pfSecure pf)).bme = false)
       ∧ (∀ pf, Answers (.pcieLinkDown t (.power pf)) s fun u => s.calm u = s.advance t ∧ (u.pf (pfSecure pf)).d0 = false)
       ∧ (∀ gen width, linkShape gen.val width.val = true → Answers (.pcieLinkUp t .link gen width) s fun u =>
           u.pci.linkUp = true ∧ u.pci.gen = gen.val ∧ u.pci.width = width.val
             ∧ s.calm { u with sys.phase := s.sys.phase } = s.advance t)
       ∧ (∀ gen width, linkShape gen.val width.val = false → Answers (.pcieLinkUp t .link gen width) s fun u =>
           u.pci.gen = s.pci.gen ∧ u.pci.width = s.pci.width ∧ u.pci.linkUp = s.pci.linkUp ∧ s.calm u = s.advance t)
       ∧ (∀ pf gen width, Answers (.pcieLinkUp t (.busMaster pf) gen width) s fun u =>
           s.calm u = s.advance t ∧ (u.pf (pfSecure pf)).bme = true)
       ∧ (∀ pf gen width, Answers (.pcieLinkUp t (.power pf) gen width) s fun u =>
           s.calm u = s.advance t ∧ (u.pf (pfSecure pf)).d0 = true))

/-- 16 R388, 17 R394: what the SMBus target answers to each command code, one packet error code after the data (its
polynomial, log entry 65, is no part of this); an unknown code is not acknowledged. A read changes nothing else but the
temperatures last seen, with the alert that they raise or end; every value is that of the snapshot, refreshed each millisecond
(its phase is log entry 66's choice), so that two reads within one answer alike; the alert response releases SMB_ALERT_N.
Shown to complete, by a conclusion that exec answers a next state: smbReadMode, smbReadTemp, smbReadTempSites,
smbReadPower, smbReadRailPower, smbReadId, smbNack, smbAlertResponse. -/
def Obligations.SmbusAnswersItsCodes : Prop :=
  ∀ (s : State) (t : Nat), s.Live →
    let read (u : State) (data : List Byte) : Prop := u.board.smb.nacked = false ∧ (∃ c, u.board.smb.answer = data ++ [c])
      ∧ s.calm { u with board.smb := s.board.smb, sys.siteTemps := s.sys.siteTemps, sys.alert := s.sys.alert } = s.advance t;
    let ms := max s.ticks t / 1500000;
    (Answers (.smbReadMode t) s fun u => read u (leBytes 2 (if s.ticks / 1500000 < max s.ticks t / 1500000
        then s.sys.mode.code + 256 * s.sys.safeCause + 4096 * b2n s.wea.marginLow else s.smbShot)))
    ∧ ((∀ x, s.board.smb.sites = some x → x.1 ≠ ms) → ∀ sites,
        (Answers (.smbReadTemp t sites) s fun u => read u (leInt 2 (u.sys.siteTemps.toList.foldl max u.sys.siteTemps[0]))
          ∧ u.board.smb.sites = some (ms, u.sys.siteTemps.toList)
          ∧ ∀ k : Fin 8, u.sys.siteTemps[k] = sites.getD k.val s.sys.siteTemps[k])
        ∧ Answers (.smbReadTempSites t sites) s fun u =>
          read u (leBytes 1 16 ++ u.sys.siteTemps.toList.flatMap (leInt 2))
          ∧ u.board.smb.sites = some (ms, u.sys.siteTemps.toList)
          ∧ ∀ k : Fin 8, u.sys.siteTemps[k] = sites.getD k.val s.sys.siteTemps[k])
    ∧ (∀ l, s.board.smb.sites = some (ms, l) → ∀ sites,
        (Answers (.smbReadTemp t sites) s fun u => read u (leInt 2 (l.foldl max (l.headD 0))) ∧ u.sys.siteTemps = s.sys.siteTemps)
        ∧ Answers (.smbReadTempSites t sites) s fun u => read u (leBytes 1 (l.flatMap (leInt 2)).length ++ l.flatMap (leInt 2))
          ∧ u.sys.siteTemps = s.sys.siteTemps)
    ∧ (∀ power x, (x = power ∧ (∀ y, s.board.smb.power = some y → y.1 ≠ ms)) ∨ s.board.smb.power = some (ms, x) →
        Answers (.smbReadPower t power) s fun u => read u (leBytes 2 (min x 0xFFFF)) ∧ u.board.smb.power = some (ms, x))
    ∧ (∀ rails x : List Nat, (x = rails ∧ (∀ y, s.board.smb.rails = some y → y.1 ≠ ms)) ∨ s.board.smb.rails = some (ms, x) →
        Answers (.smbReadRailPower t rails) s fun u =>
          read u (leBytes 1 (2 * x.length) ++ x.flatMap fun x => leBytes 2 (min x 0xFFFF)) ∧ u.board.smb.rails = some (ms, x))
    ∧ (Answers (.smbReadId t) s fun u => read u (leBytes 1 20 ++ leBytes 4 sysId.toNat ++ leBytes 16 Config.serial.toNat))
    ∧ (Answers (.smbNack t) s fun u => u.board.smb = { s.board.smb with answer := [], nacked := true }
        ∧ s.calm { u with board.smb := s.board.smb } = s.advance t)
    ∧ (s.sys.alert = true → Answers (.smbAlertResponse t) s fun u => u.sys.alert = false ∧ u.board.smb.nacked = false
        ∧ (∃ c, u.board.smb.answer = leBytes 1 (2 * s.smbAddr) ++ [c])
        ∧ s.calm { u with board.smb := s.board.smb, sys.alert := true } = s.advance t)

/-- 16 R389, R390: a test instruction selects its register; EXTEST, CLAMP and HIGHZ act only while RESET_N is low and as
BYPASS otherwise; DBG_ACCESS opens the debug port until provisioning is locked.
Shown to complete, by a conclusion that exec answers a next state: bypass, idcode, samplePreload, extest, clamp,
highz, dbgAccess. -/
def Obligations.TestPortInstructions : Prop :=
  ∀ (s : State) (t : Nat), s.posted = [] →
    let port (u : State) (ir : TestInstr) (reg : TestReg) (drive float : Bool) : Prop :=
      u.board.jtag.ir = ir ∧ u.board.jtag.reg = reg ∧ u.board.jtag.driving = drive ∧ u.board.jtag.floating = float
        ∧ s.calm { u with board.jtag := s.board.jtag } = s.advance t;
    let low := s.sys.inReset;
    (Answers (.bypass t) s fun u => port u .bypass .bypass false false)
    ∧ (Answers (.idcode t) s fun u => port u .idcode .idcode false false ∧ u.board.jtag.captured % 2 ^ 28 = 0x084056F)
    ∧ (∀ pins, Answers (.samplePreload t pins) s fun u => port u .samplePreload .boundary false false ∧ u.board.jtag.cells = pins)
    ∧ (Answers (.extest t) s fun u => port u .extest (if low then .boundary else .bypass) low false)
    ∧ (Answers (.clamp t) s fun u => port u .clamp .bypass low false)
    ∧ (Answers (.highz t) s fun u => port u .highz .bypass false low)
    ∧ (s.sec.locked = true → Answers (.dbgAccess t) s fun u => port u .dbgAccess .bypass false false)
    ∧ (s.sec.locked = false → low = false → Answers (.dbgAccess t) s fun u => u.board.jtag.reg = .debug
        ∧ u.board.jtag.debugOpen = true ∧ u.sec.debug = true
        ∧ s.calm { u with board.jtag := s.board.jtag, sec.debug := s.sec.debug, ldg := s.ldg, cel.mem := s.cel.mem
                          cmd := s.cmd } = { s.advance t with cmd := s.cmd })

/-! ### Registers, doorbells, ring table (00 R9, 10 R230, 11 R273, 16 R368 to R371) -/

/-- 00 R9, 08 R197: a read of a low half returns it and copies the high half of the same instant to the function's shadow;
a read of a high half returns the shadow once, and the live half, with the miss recorded, without a low half before it; a
function that the block's world excludes reads zero and is counted. A read changes nothing else, but MADC_RES_LO takes the
head of a queue that drains to registers. (What the ROPE and CEL blocks show may use up free values, log entry 55.)
Shown to complete, by a conclusion that exec answers a next state: latchingRead, shadowRead, madcResLo, madcResHi. -/
def Obligations.PairsAreReadAtOneInstant : Prop :=
  ∀ (s : State) (t : Nat) (pf : PF), s.Live →
    let s1 := s.advance t;
    let sec := pfSecure pf;
    (∀ off, isLow off = true → off ≠ madcResOff → s.denied pf off = false → Answers (.latchingRead t pf off) s fun u =>
      (u.pf sec).lastRead = (s1.readWord sec off).setWidth 64 ∧ (u.pf sec).shadow = s1.readWord sec (off + 4)
        ∧ (u.pf sec).lrOff = some off ∧ s.calm { u with free := s.free } = s1)
    ∧ (∀ off, isHigh off = true → s.denied pf off = false →
      ((s.pf sec).lrOff = some (off - 4) → Answers (.shadowRead t pf off) s fun u =>
        (u.pf sec).lastRead = (s.pf sec).shadow.setWidth 64 ∧ (u.pf sec).lrOff = none ∧ s.calm u = s1)
      ∧ ((s.pf sec).lrOff ≠ some (off - 4) → off ≠ madcResOff + 4 → Answers (.shadowRead t pf off) s fun u =>
        (u.pf sec).lastRead = (s1.readWord sec off).setWidth 64
          ∧ s.calm { u with free := s.free } = { s1 with
              sys.lrMiss := packWord [(off % 2 ^ 24, 0), (b2n sec, 31)], sys.evt := setBit s.sys.evt (if sec then 7 else 6) }))
    ∧ (s.denied pf madcResOff = false → s.madc.q.ring = 0 → Answers (.madcResLo t pf) s fun u =>
      (u.pf sec).lastRead = (lowHalf s.madcHead).setWidth 64 ∧ (u.pf sec).shadow = highHalf s.madcHead
        ∧ u.madc.q.entries = s.madc.q.entries.drop 1
        ∧ s.calm { u with madc.q.entries := s.madc.q.entries, madc.q.times := s.madc.q.times } = s1)
    ∧ (s.denied pf (madcResOff + 4) = false → (s.pf sec).lrOff = some madcResOff → Answers (.madcResHi t pf) s fun u =>
      (u.pf sec).lastRead = (s.pf sec).shadow.setWidth 64 ∧ s.calm u = s1)
    ∧ ∀ off, isLow off = true → off ≠ madcResOff → s.denied pf off = true → Answers (.latchingRead t pf off) s fun u =>
      (u.pf sec).lastRead = 0 ∧ s.calm u = { s1 with sec.denyCnt := satInc s.sec.denyCnt, sec.evt := setBit s.sec.evt 1 }

/-- 00 R9 and Table 0.3, 15 R353, 16 R368: a write of ones to a block's event register clears those bits, a write to its
enables sets them, a write to a block that PF0 does not reach is counted and has no effect, an access of a bad size is
counted, and a poisoned write is discarded and reported. `Quiet` states show reply_stall already, so that the end of the step sets no event bit of its own.
Shown to complete, by a conclusion that exec answers a next state: registerWrite, badAccess. -/
def Obligations.RegisterWritesFollowAccessCodes : Prop :=
  ∀ (s : State) (t : Nat) (pf : PF) (off : Nat) (v : Word), s.Live → (s.replyStall = true → s.cmd.stallShown = true) →
    (∀ b o, regAt off = some (b, o) → s.reaches pf b = true → s.fittedBlock b = true →
      (o = (evtPlace b).1 → Answers (.registerWrite t pf off v) s fun u =>
        u.evtOf b = (w1c (s.evtOf b).1 v, (s.evtOf b).2) ∧ u.ldg.entries = s.ldg.entries ∧ u.rings = s.rings)
      ∧ (o ≠ (evtPlace b).1 → o = (evtPlace b).2.1 → Answers (.registerWrite t pf off v) s fun u =>
        u.evtOf b = ((s.evtOf b).1, v &&& (evtPlace b).2.2) ∧ u.ldg.entries = s.ldg.entries ∧ u.rings = s.rings))
    ∧ (∀ b o, regAt off = some (b, o) → s.reaches pf b = false → Answers (.registerWrite t pf off v) s fun u =>
        s.calm u = { s.advance t with sec.denyCnt := satInc s.sec.denyCnt, sec.evt := setBit s.sec.evt 1 })
    ∧ (regAt off = none → (off < 0x800000 ∨ 0x804000 ≤ off) → Answers (.registerWrite t pf off v) s fun u =>
        s.calm u = s.advance t)
    ∧ (∀ k < 4096, Answers (.registerWrite t pf (0x800000 + 4 * k) v) s fun u => s.calm u = s.advance t
        ∧ (u.pf (pfSecure pf)).msixWord k = if k % 4 = 3 then v &&& 1 else if k % 4 = 0 then v &&& 0xFFFFFFFC else v)
    ∧ (Answers (.badAccess t ⟨pf, false⟩) s fun u =>
        s.calm u = { s.advance t with sys.badAcc := satInc s.sys.badAcc, sys.evt := setBit s.sys.evt 3 })
    ∧ Answers (.badAccess t ⟨pf, true⟩) s fun u => s.calm u = s.advance t ∧ (u.pf (pfSecure pf)).aer = true

/-- 10 R230: a valid doorbell, written as the low half or as a whole, is the new tail of a command ring and the new head of a
ring of any other type; a doorbell to a ring that does not exist or with a value that is not valid is counted, one to a ring
that PF0 does not reach is marked; neither has another effect, and the high half alone has none at all. The value is not
valid where a whole write has a bit set above its low half.
Shown to complete, by a conclusion that exec answers a next state: doorbell. -/
def Obligations.DoorbellsMoveOneIndex : Prop :=
  ∀ (s : State) (t : Nat) (pf : PF) (ring : Nat) (half : DbHalf) (value : BitVec 64), s.Live →
    let v := value.toNat % 2 ^ 32;
    let clean : Bool := half ≠ .whole || value.toNat < 2 ^ 32;
    Answers (.doorbell t pf ring .high value) s (fun u => s.calm u = s.advance t)
    ∧ (half ≠ .high →
      (s.ring? ring = none → Answers (.doorbell t pf ring half value) s fun u =>
        u.cmd.badDoorbells = satInc s.cmd.badDoorbells ∧ u.cmd.evt.getLsbD 1 = true
          ∧ s.calm { u with cmd.badDoorbells := s.cmd.badDoorbells } = s.advance t)
      ∧ ∀ r, s.ring? ring = some r →
        (r.secure = true → pfSecure pf = false → Answers (.doorbell t pf ring half value) s fun u =>
          u.cmd.evt.getLsbD 2 = true ∧ s.calm u = s.advance t)
        ∧ ((r.secure = false ∨ pfSecure pf = true) → (clean && r.doorbellOk v) = false →
          Answers (.doorbell t pf ring half value) s fun u =>
            u.cmd.badDoorbells = satInc s.cmd.badDoorbells ∧ u.cmd.evt.getLsbD 1 = true ∧ u.rings = s.rings)
        ∧ ((r.secure = false ∨ pfSecure pf = true) → clean = true → r.doorbellOk v = true →
          (r.kind = .command → Answers (.doorbell t pf ring half value) s fun u =>
            u.ring? ring = some { r with tail := v, waitDoorbell := false, irqRaised := false }
            ∧ u.cmd.flights = s.cmd.flights ∧ u.ldg = s.ldg ∧ u.ports = s.ports)
          ∧ ((r.kind = .reply ∨ r.kind = .event ∨ r.kind = .ledgerMirror) → Answers (.doorbell t pf ring half value) s fun u =>
            u.ring? ring = some { r with head := v, tail := if r.waitDoorbell then v else r.tail, waitDoorbell := false, irqRaised := false }
            ∧ u.cmd.flights = s.cmd.flights ∧ u.ldg = s.ldg ∧ u.ports = s.ports)
          ∧ ((r.kind = .image ∨ r.kind = .measurement) → Answers (.doorbell t pf ring half value) s fun u =>
            (∃ q, u.ring? ring = some q ∧ q.head = v ∧ q.waitDoorbell = false ∧ (r.waitDoorbell = true → q.tail = v)) ∧ u.cmd.flights = s.cmd.flights)))

/-- 11 R273, 02 R51: a write to the entry of RING0 to RING3 holds while the ring is quiet and the entry may stand, and is
ignored otherwise; a write of 1 to PORTn_SNAP captures the port's grid, encoder, time and estimate at one instant.
Shown to complete, by a conclusion that exec answers a next state: ringtWrite, portnSnap. -/
def Obligations.RingTableAndSnapWrites : Prop :=
  ∀ (s : State) (t : Nat) (pf : PF), s.Live →
    (∀ (ring : Fin 4) (k : Fin 8) (v : BitVec 32) (r : Ring), s.ring? ring.val = some r →
      let q := r.written k.val v.toNat;
      ((r.secure = false ∨ pfSecure pf = true) → s.ringQuiet r = true → q.entryOk = true →
        Answers (.ringtWrite t pf ring k v) s fun u => s.calm { u with rings := s.rings } = s.advance t
          ∧ u.ring? ring.val = some (if q.base = r.base ∧ q.sizeLog2 = r.sizeLog2 then q
              else { q with head := 0, tail := 0, pass := 1 }))
      ∧ ((s.ringQuiet r = false ∨ q.entryOk = false) → Answers (.ringtWrite t pf ring k v) s fun u => s.calm u = s.advance t))
    ∧ ∀ (n : Fin 8) (v : BitVec 32), v.getLsbD 0 = true → s.reaches pf (.port n) = true → s.fittedBlock (.port n) = true →
      let p := s.ports[n];
      Answers (.portnSnap t pf n v) s fun u => s.calm u = { s.advance t with ports := s.ports.set n { p with snap :=
        { nextFrac := wordInt (p.grid.pos p.grid.next), nextInt := wordInt (p.grid.pos p.grid.next / 2 ^ 32)
          enc := wordInt s.encs[p.cfg.encoder].pos, time := word (s.advance t).ns, tEst := word s.encs[p.cfg.encoder].tEst } } }

/-! ### The Cellar (11 R262 to R272) -/

/-- 11 R268, R272: an initialised granule reads zero and no other byte of the Cellar changes; a window write stores its bytes
at the window's address and no other byte changes; a window read returns what is there; an access that the window does not
reach reads ones, stores nothing and is marked.
Also: 11 R267: a scrub of an address at or above the capacity in use has nothing to read, and the model stops; below it, a
corrected line is counted, a replay that settles is counted (R266), and one that cannot be corrected is counted with its
address.
Shown to complete, by a conclusion that exec answers a next state: initDone, cellarWindowAccess, patrolScrub. -/
def Obligations.CellarBytesChangeOnlyWhereWritten : Prop :=
  (∀ (s : State) (t : Nat), s.Live → s.Sound →
       (∀ g, s.cel.trained = true → s.cel.selfRefresh = false → s.cel.nextGranule = some g → Answers (.initDone t) s fun u =>
         (∀ a, Mem.get u.cel.mem a = if g * 2 ^ 30 ≤ a ∧ a < g * 2 ^ 30 + 2 ^ 30 then 0 else Mem.get s.cel.mem a)
           ∧ u.cel.initialised = s.cel.initialised ||| (1#2048 <<< g) ∧ u.host0 = s.host0 ∧ u.host1 = s.host1 ∧ u.ldg = s.ldg)
       ∧ ∀ (pf : PF) (off : Nat),
         let addr := s.windowAddr pf off;
         (∀ data : List Byte, s.windowOk pf addr data.length = true → s.writable addr data.length = true →
           Answers (.cellarWindowAccess t pf off (.write data)) s fun u =>
             (∀ i < data.length, Mem.get u.cel.mem (addr + i) = data.getD i 0)
               ∧ (∀ a, a < addr ∨ addr + data.length ≤ a → Mem.get u.cel.mem a = Mem.get s.cel.mem a)
               ∧ s.calm { u with cel.mem := s.cel.mem } = s.advance t)
         ∧ (∀ len, s.windowOk pf addr len = true → Answers (.cellarWindowAccess t pf off (.read len)) s fun u =>
             (u.pf (pfSecure pf)).lastRead = BitVec.ofNat 64 (u64 (Mem.read s.cel.mem addr (min len 8)) 0)
               ∧ s.calm u = s.advance t)
         ∧ (∀ len, s.windowOk pf addr len = false → Answers (.cellarWindowAccess t pf off (.read len)) s fun u =>
             (u.pf (pfSecure pf)).lastRead = -1 ∧ s.calm u = { s.advance t with cel.evt := setBit s.cel.evt 4 })
         ∧ (∀ data : List Byte, s.windowOk pf addr data.length = false →
           Answers (.cellarWindowAccess t pf off (.write data)) s fun u =>
             s.calm u = { s.advance t with cel.evt := setBit s.cel.evt 4 }))
  ∧
  (∀ (s : State) (t addr : Nat),
       (s.cel.capGib * 2 ^ 30 ≤ addr → ∀ res, exec (.patrolScrub t addr res) s = .fault .noSuchAddress)
       ∧ (addr < s.cel.capGib * 2 ^ 30 → s.Live → s.cel.scrubRunning = true → s.cel.selfRefresh = false →
         s.cel.initialised.getLsbD (addr / 2 ^ 30) = true →
         (Answers (.patrolScrub t addr .clean) s fun u => u.cel.scrubPos = addr / 2 ^ 30 ∧ u.cel.mem = s.cel.mem
           ∧ u.cel.ceCnt = s.cel.ceCnt)
         ∧ (Answers (.patrolScrub t addr .corrected) s fun u => u.cel.ceCnt = satInc s.cel.ceCnt ∧ u.cel.evt.getLsbD 0 = true
           ∧ u.cel.mem = s.cel.mem)
         ∧ (Answers (.patrolScrub t addr .replayed) s fun u => u.cel.replayCnt = satInc s.cel.replayCnt
           ∧ u.cel.mem = s.cel.mem)
         ∧ Answers (.patrolScrub t addr .failed) s fun u => u.cel.ueCnt = satInc s.cel.ueCnt
           ∧ u.cel.replayCnt = satAdd s.cel.replayCnt 3 ∧ u.cel.ueAddr = BitVec.ofNat 64 (addr / 64 * 64) ∧ u.ldg.faultNext = s.takeFault.ldg.faultNext))

/-- 11 R269, R270: REGION_SET deletes a region at once and lets another wait; a region takes effect once its granules are
initialised, and granules of the other world are zeroed before.
Shown to complete, by a conclusion that exec answers a next state: regionSet, regionEffect. -/
def Obligations.RegionsTakeEffectInitialised : Prop :=
  (∀ (p : Packet) (s : State) (r : Ring), Accepts regionSetSpec p s r →
    let x := Region.parse p.params;
    Answers (.regionSet p) s fun u =>
      (x.purpose = .none → RepliesOk regionSetSpec p r s u 0 ∧ u.cel.regions[regionNo p.params] = Region.undefined
        ∧ u.cel.waiting = s.cel.waiting)
      ∧ (x.purpose ≠ .none → u.cel.waiting = s.cel.waiting ++ [{ region := (regionNo p.params).val, new := x, seq := s.acceptSeq }]
        ∧ u.cel.regions = s.cel.regions)
      ∧ ∀ k : Fin 64, k ≠ regionNo p.params → u.cel.regions[k] = s.cel.regions[k])
  ∧ ∀ (s : State) (t : Nat) (r : Fin 64) (w : RegionRequest), s.Live → s.cel.selfRefresh = false →
    (s.cel.waiting.find? fun w => w.region == r.val) = some w → (∀ g ∈ w.new.granules, s.cel.initialised.getLsbD g = true) →
    Answers (.regionEffect t r) s fun u => u.cel.regions[r] = { w.new with inEffect := true }
      ∧ u.cel.waiting = s.cel.waiting.erase w
      ∧ (s.ldg.region = none → w.new.purpose = .general → ∀ g ∈ s.cel.foreign w.new, ∀ a, g * 2 ^ 30 ≤ a →
          a < g * 2 ^ 30 + 2 ^ 30 → Mem.get u.cel.mem a = 0)

/-! ### The Ledger commands (10 R253 to R256, R262) -/

/-- 10 R254 to R256: LEDGER_READ answers with the count of what it copies and the bytes themselves, LEDGER_CHECKPOINT begins a
session at its ACCEPT entry and writes a checkpoint, LEDGER_TRIM keeps every entry above the sequence it names. An entry of the
overflow region that cannot be read is left out and marked (13 R322) or reported (11 R266); which ones are is a free value (log
entry 78).
Shown to complete, by a conclusion that exec answers a next state: ledgerRead, ledgerCheckpoint, ledgerTrim. -/
def Obligations.LedgerCommandsActOnTheLedger : Prop :=
  ∀ (p : Packet) (s : State) (r : Ring),
    (Accepts ledgerReadSpec p s r →
      let e := s.entered ledgerReadSpec p r;
      let start := u64 p.params 0;
      let records := (s.ldg.ckpts.filter fun c => start ≤ c.seq.toNat).take (u32 p.params 8);
      let found := takeReadable (e.heldFrom start) (u32 p.params 8);
      let all := (e.ldg.entries.filter fun x => start ≤ x.seq.toNat).take (u32 p.params 8);
      Answers (.ledgerRead p) s fun u =>
        (u8 p.params 12 = 1 → RepliesOk ledgerReadSpec p r s u (BitVec.ofNat 32 records.length)
            (bufferAt (u64 p.params 16) (records.flatMap Checkpoint.bytes)) ∧ s.ordered u = s.ordered (s.advance p.tick))
        ∧ (u8 p.params 12 ≠ 1 → RepliesOk ledgerReadSpec p r s u (BitVec.ofNat 32 found.1.length)
              (bufferAt (u64 p.params 16) (found.1.flatMap LedgerEntry.bytes))
            ∧ (∀ x ∈ found.1, x ∈ e.ldg.entries ∧ start ≤ x.seq.toNat)
            ∧ (e.ldg.spilled = 0 → found.1 = all)
            ∧ (found.2 = [] → s.ordered u = s.ordered (s.advance p.tick))
            ∧ (found.2 ≠ [] → if s.cel.selfRefresh then u.ldg.unreadable = true else u.cel.evt.getLsbD 1 = true)))
    ∧ (Accepts ledgerCheckpointSpec p s r → s.second = false → 0 < (s.entered ledgerCheckpointSpec p r).generalRoom →
      Answers (.ledgerCheckpoint p) s fun u => u.ldg.sessionSeq = s.ldg.nextSeq
        ∧ RepliesOk ledgerCheckpointSpec p r s u (lowHalf u.ldg.ckptSeq)
        ∧ (∃ c, u.ldg.signing = s.ldg.signing ++ [c] ∧ c.reason = 3 ∧ c.seq = u.ldg.ckptSeq ∧ c.signature = none)
        ∧ ∃ a k d, u.ldg.entries = s.ldg.entries ++ [a, k, d] ∧ a.kind = .accept ∧ k.kind = .checkpoint ∧ k.seq = u.ldg.ckptSeq
          ∧ d.kind = .done)
    ∧ (Accepts ledgerTrimSpec p s r → s.second = false → Answers (.ledgerTrim p) s fun u =>
      (s.ldg.entries.filter fun e => u64 p.params 0 < e.seq.toNat) <+: u.ldg.entries
        ∧ u.ldg.evt.getLsbD 3 = true)

/-- 10 R253: a checkpoint whose signature completes is held with it, and a periodic checkpoint follows 65,536 entries.
Also: 10 R262: the window shows the entry that its pair of registers names, if it is held.
Shown to complete, by a conclusion that exec answers a next state: checkpointSigned, ledgerPeriodicCheckpoint,
ldgWinSeqHi. -/
def Obligations.CheckpointsAreSignedAndPeriodic : Prop :=
  (∀ (s : State) (t : Nat), s.Live →
       (∀ c rest, s.ldg.signing = c :: rest → s.signs = true → Answers (.checkpointSigned t) s fun u =>
         u.ldg.signing = rest ∧ (∃ sig, u.ldg.ckpts.getLast? = some { c with signature := some sig })
           ∧ u.ldg.ckpts.length = min 256 (s.ldg.ckpts.length + 1) ∧ u.sec.signCnt = s.sec.signCnt + 1
           ∧ s.calm { u with ldg.signing := s.ldg.signing, ldg.ckpts := s.ldg.ckpts, sec.signCnt := s.sec.signCnt } = s.advance t)
       ∧ (65536 ≤ s.ldg.sinceCkpt → s.ldg.ckptWaiting = [] → s.second = false → 0 < s.generalRoom → Answers (.ledgerPeriodicCheckpoint t) s fun u =>
         u.ldg.sinceCkpt = 0 ∧ u.ldg.ckptSeq = s.ldg.nextSeq ∧ u.ldg.nextNo = s.ldg.nextNo + 1
           ∧ ∃ e c, u.ldg.entries = s.ldg.entries ++ [e] ∧ e.kind = .checkpoint ∧ e.seq = s.ldg.nextSeq
             ∧ u.ldg.signing = s.ldg.signing ++ [c] ∧ c.reason = 4 ∧ c.chain = s.ldg.chain))
  ∧
  (∀ (s : State) (t : Nat) (pf : PF) (value : BitVec 32), s.Live → s.reaches pf .ldg = true →
       let seq := value.toNat * 2 ^ 32 + s.ldg.winSeqLo.toNat;
       (∀ k e readable, (s.ldg.entries.findIdx? fun e => e.seq.toNat == seq) = some k → s.ldg.entries[k]? = some e →
         (s.ldg.spilled ≤ k ∨ readable = true) → Answers (.ldgWinSeqHi t pf value readable) s fun u =>
           s.calm u = { s.advance t with ldg.winSeqHi := value, ldg.win := some e })
       ∧ ∀ readable, (s.ldg.entries.findIdx? fun e => e.seq.toNat == seq) = none →
         Answers (.ldgWinSeqHi t pf value readable) s fun u =>
           s.calm u = { s.advance t with ldg.winSeqHi := value, ldg.win := none })

/-! ### The waymark fabric (12) -/

/-- 12 R304: ROUTE_CLEAR is opcode 0x0702 with 32 bytes, a mask with bit c for channel c whose bits 248 to 255 are zero. It
removes the route of every channel named, clears quarantine, leaves pending activations and a channel without a route as
they are, and changes nothing else.
Shown to complete, by a conclusion that exec answers a next state: routeClear. -/
def Obligations.RouteClearRemovesItsRoutes : Prop :=
  ∀ (p : Packet) (s : State) (r : Ring),
    routeClearSpec.code = 0x0702 ∧ (u8 p.params 31 = 0 → (routeClearSpec.len p = true ↔ p.paramLen = 32))
    ∧ (∀ secure, u8 p.params 31 ≠ 0 → ∃ j, routeClearSpec.check s p secure = some j ∧ j.status = 0x0103 ∧ j.detail = 0x703)
    ∧ (Accepts routeClearSpec p s r → Answers (.routeClear p) s fun u => RepliesOk routeClearSpec p r s u 0
      ∧ s.ordered u = s.ordered (s.advance p.tick) ∧ u.evf = { s.evf with chans := u.evf.chans }
      ∧ ∀ c : Fin 256,
        ((u8 p.params (c.val / 8)).testBit (c.val % 8) = true → c.val < 248 → s.evf.chans[c].route ≠ none →
          u.evf.chans[c].route = none ∧ u.evf.chans[c].quarantined = false ∧ u.evf.chans[c].count = s.evf.chans[c].count)
        ∧ (s.evf.chans[c].route = none → u.evf.chans[c] = s.evf.chans[c])
        ∧ ((u8 p.params (c.val / 8)).testBit (c.val % 8) = false → u.evf.chans[c] = s.evf.chans[c]))

/-- 12 R301, R305: ROUTE_SET replaces the routes of the channels it names and of no other, ROUTE_QUERY answers with a
channel's source or a task's MERGED count; nothing else changes.
Shown to complete, by a conclusion that exec answers a next state: routeSet, routeQuery. -/
def Obligations.RoutesAreSetAndQueried : Prop :=
  ∀ (p : Packet) (s : State) (r : Ring),
    (Accepts routeSetSpec p s r → Answers (.routeSet p) s fun u => RepliesOk routeSetSpec p r s u 0
      ∧ s.ordered u = s.ordered (s.advance p.tick) ∧ u.evf = { s.evf with chans := u.evf.chans }
      ∧ (∀ e ∈ routeEntries p.params, ∀ c : Fin 256, c.val = e.channel →
          u.evf.chans[c].route = some e.route ∧ u.evf.chans[c].quarantined = false)
      ∧ ∀ c : Fin 256, (∀ e ∈ routeEntries p.params, e.channel ≠ c.val) → u.evf.chans[c] = s.evf.chans[c])
    ∧ (Accepts routeQuerySpec p s r → Answers (.routeQuery p) s fun u =>
      s.ordered u = s.ordered (s.advance p.tick) ∧ u.evf = s.evf
      ∧ (u8 p.params 2 = 1 → RepliesOk routeQuerySpec p r s u (s.taskWord (taskOfWord (u16 p.params 4))))
      ∧ (u8 p.params 2 ≠ 1 → RepliesOk routeQuerySpec p r s u (s.chanSource (Fin.ofNat 256 (u16 p.params 0)))
          (bufferAt (u64 p.params 8) (s.routeBuffer (Fin.ofNat 256 (u16 p.params 0))))))

/-- 12 R293, R296, R299, R307: a fired event reaches every task of its route, a JUNCTION task fires the channels routed from
its junction at once, and a write to EVF_FIRE fires a channel as its source would.
Shown to complete, by a conclusion that exec answers a next state: waymarkDelivery, junction, evfFire. -/
def Obligations.EventsReachTheirTasks : Prop :=
  ∀ (s : State) (t : Nat), s.Live →
    (∀ (ch : BitVec 8) (f : Fired), s.sys.mode ≠ .dormant →
      (s.evf.fired.find? fun f => f.ch == ch.toNat
        && (!decide (ch.toNat ≥ 240) || decide (f.tick + 2 ≤ max s.ticks t))) = some f →
      Answers (.waymarkDelivery t ch) s fun u => u.evf.fired = s.evf.fired.erase f
        ∧ (∀ x ∈ f.route.tasks, ∀ b, taskUnit x.num x.inst = some b → s.fittedBlock b = true → ∃ a ∈ u.evf.acts, a.task = x)
        ∧ (∀ a ∈ s.evf.acts, ∃ a' ∈ u.evf.acts, a'.task = a.task ∧ a'.tick = a.tick)
        ∧ s.calm { u with evf := s.evf } = s.advance t)
    ∧ (∀ (k : Fin 16) (x : Activation),
      (s.evf.acts.find? fun x => x.task == { num := 3 * 64 + k.val, inst := 0 } && decide (x.tick ≤ max s.ticks t)) = some x →
      Answers (.junction t k) s fun u => u.evf.acts = s.evf.acts.erase x ∧ s.hush u = s.hush (s.advance t)
        ∧ ∀ (c : Fin 256) (r : Route), s.evf.chans[c].route = some r → r.gen = 3 * 64 + k.val → r.inst = 0 → r.enable = true →
          s.evf.chans[c].quarantined = false → s.evf.chans[c].fast + 1 < 1000 → c.val < 240 →
          ∃ f ∈ u.evf.fired, f.ch = c.val ∧ f.tick = max s.ticks t ∧ f.route = r)
    ∧ ∀ (pf : PF) (value : BitVec 32), s.reaches pf .evf = true →
      let c : Fin 256 := Fin.ofNat 256 (value.toNat % 256);
      (∀ r, s.evf.chans[c].fireable = true → s.evf.chans[c].route = some r → s.evf.chans[c].fast + 1 < 1000 →
        s.sys.mode ≠ .dormant → Answers (.evfFire t pf value) s fun u =>
          u.evf.fired = s.evf.fired ++ [{ ch := c.val, tick := max s.ticks t, route := r, edge := none }]
            ∧ u.evf.chans[c].count = s.evf.chans[c].count + 1 ∧ s.calm { u with evf := s.evf } = s.advance t)
      ∧ (s.evf.chans[c].fireable = false → Answers (.evfFire t pf value) s fun u =>
          s.calm u = { s.advance t with evf.evt := setBit s.evf.evt 2 })


/-! ### Rings and copy channels (11 R277 to R290) -/

/-- 11 R278, R280, R282, R290: RING_CREATE enters an empty ring with the base, size, type, world and interrupt that it names;
RING_DESTROY removes one; no other ring comes or goes. DMA_COPY queues its chain behind those of its channel. DMA_FENCE
is answered when the writes of its channels are answered, restarts halted channels, or has delivery start again.
Shown to complete, by a conclusion that exec answers a next state: ringCreate, ringDestroy, dmaCopy, dmaFence. -/
def Obligations.RingAndCopyCommandsTakeEffect : Prop :=
  ∀ (p : Packet) (s : State) (r : Ring),
    let l := p.params;
    let chans := maskChans (u32 l 0);
    (Accepts ringCreateSpec p s r → Answers (.ringCreate p) s fun u => RepliesOk ringCreateSpec p r s u 0
      ∧ (∃ q, u.ring? (u16 l 0) = some q ∧ q.kind.code = u8 l 2 ∧ q.secure = r.secure ∧ q.base.toNat = u64 l 8
        ∧ q.sizeLog2 = u8 l 3 ∧ q.irqEn = (u8 l 4).testBit 0 ∧ q.fence = (u8 l 4).testBit 1 ∧ q.msix = u16 l 6
        ∧ q.bind = u16 l 16 ∧ q.head = 0 ∧ q.tail = 0 ∧ q.ahead = 0 ∧ q.pass = 1)
      ∧ ∀ id, id ≠ u16 l 0 → (u.ring? id).isSome = (s.ring? id).isSome)
    ∧ (Accepts ringDestroySpec p s r → Answers (.ringDestroy p) s fun u => RepliesOk ringDestroySpec p r s u 0
      ∧ u.ring? (u16 l 0) = none ∧ ∀ id, id ≠ u16 l 0 → (u.ring? id).isSome = (s.ring? id).isSome)
    ∧ (Accepts dmaCopySpec p s r → Answers (.dmaCopy p) s fun u => u.cmd.replies = s.cmd.replies
      ∧ u.dma.chans[copyChan l] = { s.dma.chans[copyChan l] with queue := s.dma.chans[copyChan l].queue ++ [{
          seq := s.acceptSeq, secure := r.secure, chainCellar := (u8 l 1).testBit 0, inlined := (u8 l 1).testBit 1
          hopLimit := if u32 l 4 = 0 then 4096 else u32 l 4, addr := u64 l 8, desc := (l.drop 16).take 32 }] }
      ∧ (∀ c : Fin 32, c ≠ copyChan l → u.dma.chans[c] = s.dma.chans[c])
      ∧ s.ordered { u with dma := s.dma } = s.ordered { s.advance p.tick with dma := s.dma })
    ∧ (Accepts dmaFenceSpec p s r → Answers (.dmaFence p) s fun u =>
      (u8 l 4 = 0 → (∀ c ∈ chans, s.dma.chans[c].wroteHost = false) → RepliesOk dmaFenceSpec p r s u 0
        ∧ u.dma.chans = s.dma.chans ∧ u.dma.fences = s.dma.fences)
      ∧ (u8 l 4 = 0 → (∃ c ∈ chans, s.dma.chans[c].wroteHost = true) → u.cmd.replies = s.cmd.replies
        ∧ u.dma.chans = s.dma.chans ∧ ∃ f, u.dma.fences = s.dma.fences ++ [f] ∧ f.seq = s.acceptSeq
          ∧ ∀ c : Fin 32, f.channels.getLsbD c.val = (decide (c ∈ chans) && s.dma.chans[c].wroteHost))
      ∧ (u8 l 4 = 1 → RepliesOk dmaFenceSpec p r s u 0 ∧ ∀ c : Fin 32,
          if c ∈ chans then u.dma.chans[c].halted = false ∧ u.dma.chans[c].queue = s.dma.chans[c].queue
            ∧ u.dma.chans[c].cur = s.dma.chans[c].cur
          else u.dma.chans[c] = s.dma.chans[c])
      ∧ (u8 l 4 = 2 → RepliesOk dmaFenceSpec p r s u 0 ∧ ∀ n : Fin 8, (u32 l 0).testBit n.val = true →
          (∀ x ∈ u.ports[n].store, x.delivered = false) ∧ (u.dma.chans[n.castLE (by decide : 8 ≤ 32)]).stopped = false
            ∧ ∀ id q, s.ring? id = some q → q.kind = .image → q.port = n.val → ∃ v, u.ring? id = some v ∧ v.tail = v.head))

/-- 11 R282, R283, R285: a channel with nothing in progress starts the first chain of its queue with a descriptor that is
fetched and checked; a bad one ends the chain and is counted. A complete descriptor has written exactly its bytes; with
FENCE and host writes of its chain a flush read follows, and the end of its chain ends the channel's work on it; a Cellar read
that ECC corrects or a replay settles is counted (R266).
Shown to complete, by a conclusion that exec answers a next state: dmaChainStart, descriptorComplete. -/
def Obligations.ChannelsMoveExactlyTheirBytes : Prop :=
  ∀ (s : State) (t : Nat) (ch : Fin 32) (q : Chain) (rest : List Chain), s.Live → s.Sound →
    s.dma.chans[ch].queue = q :: rest → s.dma.chans[ch].stuck = false → s.cel.selfRefresh = false →
    let c := s.dma.chans[ch];
    (∀ desc : List Byte, c.cur = none → c.retried = false → (q.inlined = true ∨ (if q.chainCellar then s.cellarOk q.secure false q.addr 32 = true
        else s.canHost q.secure = true)) →
      let d := Descriptor.parse (if q.inlined then q.desc else if q.chainCellar then Mem.read s.cel.mem q.addr 32
        else padTo 32 desc);
      (s.descriptorFault q.secure q.inlined d = none → Answers (.dmaChainStart t ch desc) s fun u =>
        u.dma.chans[ch] = { c with index := 0, hopLimit := q.hopLimit, cur := some d, phase := .running, chainHost := false
                                   remain := BitVec.ofNat 32 d.length }
        ∧ (∀ k, k ≠ ch → u.dma.chans[k] = s.dma.chans[k])
        ∧ s.calm { u with dma.chans := s.dma.chans, cmd.flights := s.cmd.flights } = s.advance t)
      ∧ (∀ e, s.descriptorFault q.secure q.inlined d = some e → Answers (.dmaChainStart t ch desc) s fun u =>
        u.dma.chans[ch].queue = rest ∧ u.dma.chans[ch].cur = none ∧ u.dma.chans[ch].halted = c.halted
          ∧ u.dma.errCnt = satInc s.dma.errCnt ∧ u.dma.chans[ch].err = 0x0500 ||| (e <<< 16)
          ∧ ∀ k, k ≠ ch → u.dma.chans[k] = s.dma.chans[k]))
    ∧ ∀ (d : Descriptor) (data nextDesc : List Byte), c.cur = some d → c.phase = .running → c.retried = false →
      s.canHost q.secure = true → (d.srcCellar = true ∨ data.length = d.length) →
      let bytes := if d.srcCellar then Mem.read s.cel.mem d.src d.length else data;
      let host (x : State) : List Host.Cell := if q.secure then x.host1 else x.host0;
      (d.dstCellar = true → d.fence = true → c.chainHost = true →
        Answers (.descriptorComplete t ch ⟨data, .clean⟩ nextDesc) s fun u =>
        (∀ i < d.length, Mem.get u.cel.mem (d.dst + i) = bytes.getD i 0)
        ∧ (∀ a, a < d.dst ∨ d.dst + d.length ≤ a → Mem.get u.cel.mem a = Mem.get s.cel.mem a)
        ∧ u.dma.chans[ch] = { c with bytes := c.bytes + BitVec.ofNat 64 d.length, remain := 0, phase := .fencing }
        ∧ s.calm { u with dma.chans := s.dma.chans, cel.mem := s.cel.mem } = s.advance t)
      ∧ (d.dstCellar = false → s.second = false →
        (d.fence = true → d.length ≠ 0 → Answers (.descriptorComplete t ch ⟨data, .clean⟩ nextDesc) s fun u =>
          (∀ i < d.length, Mem.find (host u) (d.dst + i) = some (bytes.getD i 0))
          ∧ (∀ a, a < d.dst ∨ d.dst + d.length ≤ a → Mem.find (host u) a = Mem.find (host s) a)
          ∧ u.dma.chans[ch] = { c with bytes := c.bytes + BitVec.ofNat 64 d.length, remain := 0, phase := .fencing
                                       wroteHost := true, chainHost := true }
          ∧ s.calm { u with dma.chans := s.dma.chans, host0 := s.host0, host1 := s.host1 } = s.advance t)
        ∧ (d.fence = false → (q.inlined = true ∨ d.next = 0) → Answers (.descriptorComplete t ch ⟨data, .clean⟩ nextDesc) s fun u =>
          (∀ i < d.length, Mem.find (host u) (d.dst + i) = some (bytes.getD i 0))
          ∧ (∀ a, a < d.dst ∨ d.dst + d.length ≤ a → Mem.find (host u) a = Mem.find (host s) a)
          ∧ u.dma.chans[ch].queue = rest ∧ u.dma.chans[ch].cur = none ∧ u.dma.chans[ch].done = true
          ∧ u.dma.chans[ch].bytes = c.bytes + BitVec.ofNat 64 d.length ∧ ∀ k, k ≠ ch → u.dma.chans[k] = s.dma.chans[k])
        ∧ (d.srcCellar = true →
          (Answers (.descriptorComplete t ch ⟨data, .corrected⟩ nextDesc) s fun u => u.cel.ceCnt = satInc s.cel.ceCnt)
          ∧ Answers (.descriptorComplete t ch ⟨data, .replayed⟩ nextDesc) s fun u => u.cel.replayCnt = satInc s.cel.replayCnt))

/-- 11 R274, R277, R285 to R287: a flush read that completes frees the fences that waited for its channel alone, lets the tails
of its rings cover what was written before, and ends a chain that waited; the first failed access of a descriptor is retried, the second, a time-out, and an error after the
completion halt the channel with the address latched; a record of the store goes to the tail of its image ring.
Shown to complete, by a conclusion that exec answers a next state: fenceReadDone, dmaErrorResponse, dmaTimeout,
dmaErrorLate, dmaDelivery. -/
def Obligations.ChannelsAreFlushedRetriedAndHalted : Prop :=
  ∀ (s : State) (t : Nat) (ch : Fin 32), s.Live →
    let c := s.dma.chans[ch];
    (∀ nextDesc, s.canHost (s.chanSecure ch.val) = true → Answers (.fenceReadDone t ch nextDesc) s fun u =>
      (∀ q rest d, c.phase = .fencing → c.queue = q :: rest → c.cur = some d → c.stuck = false →
        (q.inlined = true ∨ d.next = 0) → u.dma.chans[ch].queue = rest ∧ u.dma.chans[ch].cur = none)
      ∧ u.dma.chans[ch].wroteHost = false ∧ (∀ r ∈ u.rings, r.channel = ch → r.ahead = 0)
      ∧ u.dma.fences = (s.dma.fences.map fun f => { f with channels := f.channels &&& ~~~ (1#32 <<< ch.val) }).filter
          fun f => f.channels != 0)
    ∧ (∀ (kind : DmaErr) (addr : BitVec 64), c.working ch.val = true →
      (c.retried = false → kind ≠ .cellar → Answers (.dmaErrorResponse t ch kind addr) s fun u =>
        u.dma.chans[ch] = { c with retried := true, failAddr := addr ||| (1 <<< 63)
                                   index := if c.cur.isSome = true ∨ ch.val < 16 then c.index else 0
                                   phase := if c.cur.isSome then .running else c.phase
                                   remain := (c.cur.map fun d => BitVec.ofNat 32 d.length).getD 0 }
        ∧ s.calm { u with dma.chans := s.dma.chans } = { s.advance t with dma.retryCnt := satInc s.dma.retryCnt })
      ∧ (c.retried = true → Answers (.dmaErrorResponse t ch kind addr) s fun u =>
        u.dma.chans[ch].halted = true ∧ u.dma.chans[ch].failAddr = hostAddress (kind = .other) addr
          ∧ u.dma.errCnt = satInc s.dma.errCnt ∧ u.dma.chans[ch].err = 0x0500 ||| ((if kind = .cellar then 0x0610 else 0x0611) <<< 16)
          ∧ u.dma.chans[ch].queue = c.queue))
    ∧ (∀ (host : Bool) (addr : BitVec 64), c.working ch.val = true → Answers (.dmaTimeout t ch host addr) s fun u =>
      u.dma.chans[ch].halted = true ∧ u.dma.chans[ch].failAddr = hostAddress host addr ∧ u.dma.errCnt = satInc s.dma.errCnt
        ∧ u.dma.chans[ch].err = 0x0501 ||| ((if host then 0x0615 else 0x0614) <<< 16) ∧ u.dma.chans[ch].queue = c.queue)
    ∧ (∀ (index : BitVec 32) (addr : BitVec 64), (ch.val < 16 ∨ c.done = true) →
      Answers (.dmaErrorLate t ch index addr) s fun u =>
        u.dma.chans[ch].halted = true ∧ u.dma.chans[ch].failAddr = hostAddress (ch.val < 16 || c.wroteHost) addr
          ∧ u.dma.errCnt = satInc s.dma.errCnt ∧ u.dma.chans[ch].err = 0x0503 ||| (0x0617 <<< 16) ∧ u.dma.chans[ch].queue = c.queue ∧ u.cmd.replies = s.cmd.replies)
    ∧ ∀ (n : Fin 8) (r : ImageRec) (q : Ring), (s.ports[n].store.find? fun r => !r.delivered) = some r →
      s.ring? r.ring = some q → q.kind = .image → 0 < r.slots → r.slots ≤ q.room → q.waitDoorbell = false →
      s.canHost q.secure = true → s.second = false → s.dma.chans[n.castLE (by decide : 8 ≤ 32)].stuck = false →
      s.dma.chans[n.castLE (by decide : 8 ≤ 32)].retried = false →
      Answers (.dmaDelivery t n) s fun u =>
        (∀ k < 64 * r.slots, Mem.find (if q.secure then u.host1 else u.host0) (q.slotAddr (q.tail + k / 64) + k % 64)
          = some ((padTo (64 * r.slots) r.bytes).getD k 0))
        ∧ (∃ v, u.ring? r.ring = some v ∧ v.tail = (q.tail + r.slots) % q.size ∧ v.head = q.head
            ∧ v.ahead = if q.fence then q.ahead + r.slots else q.ahead)
        ∧ u.ports = s.ports.set n { s.ports[n] with store := s.ports[n].store.map fun x =>
            if x.ring = r.ring ∧ x.recSeq = r.recSeq then { x with delivered := true } else x }
        ∧ (if q.secure then u.host0 = s.host0 else u.host1 = s.host1) ∧ u.cel = s.cel ∧ u.ldg = s.ldg

/-! ### The pace governor and image output (04, 05, 06 R137, 15 R361) -/

/-- 05 R130 to R132: an accepted PACE_CONFIG is answered and its configuration waits; PACE_QUERY answers with the group's
state word and the figures of the last update; SEAM_POLICY sets the policy of its group; no other group changes. An
update of the governor (R104 to R106) comes every 10 us, puts a waiting configuration into effect but in a switchback or a
gap stop (log entry 69); its target is never more than the cap, nor the cap more than `v_max`; a group in WAIT, or without
a batch that runs, is asked for zero. The end of an overrun cap removes it (R107).
Shown to complete, by a conclusion that exec answers a next state: paceConfig, paceQuery, seamPolicy, governorUpdate,
overrunHoldEnd. -/
def Obligations.PaceCommandsAndUpdates : Prop :=
  (∀ (p : Packet) (s : State) (r : Ring) (g : Fin 4), groupAt p.params = some g →
    (Accepts paceConfigSpec p s r →
      let x := { s.pace.groups[g] with next := some (if u8 p.params 1 = 3 then none else PaceCfg.parse p.params), nextOld := false };
      Answers (.paceConfig p) s fun u => RepliesOk paceConfigSpec p r s u 0
        ∧ s.ordered u = s.ordered { s.advance p.tick with pace.groups := s.pace.groups.set g x })
    ∧ (Accepts paceQuerySpec p s r → Answers (.paceQuery p) s fun u => s.ordered u = s.ordered (s.advance p.tick)
      ∧ RepliesOk paceQuerySpec p r s u ((s.entered paceQuerySpec p r).paceStateWord g &&& 0xFFFF)
          (bufferAt (u64 p.params 8) s.pace.groups[g].shot))
    ∧ (Accepts seamPolicySpec p s r →
      let pol : SeamPolicy := { overlap := u8 p.params 1, retries := u8 p.params 2, closeOnFail := u8 p.params 3 == 1
                                limit := u16 p.params 4, maxSplices := u16 p.params 6, backExtra := u32 p.params 8 };
      let x := { s.pace.groups[g] with policy := pol };
      Answers (.seamPolicy p) s fun u => RepliesOk seamPolicySpec p r s u 0
        ∧ s.ordered u = s.ordered { s.advance p.tick with pace.groups := s.pace.groups.set g x }))
  ∧ ∀ (s : State) (t : Nat), s.Live →
    (s.pace.lastUpdate + 15000 ≤ max s.ticks t → s.second = false → Answers (.governorUpdate t) s fun u =>
      u.pace.updates = s.pace.updates + 1 ∧ u.pace.lastUpdate = max s.ticks t
      ∧ ∀ g : Fin 4, let x := s.pace.groups[g]; let y := u.pace.groups[g];
        (x.next = none → y.cfg = x.cfg ∧ y.wait = x.wait ∧ (x.cfg = none → { y with shot := x.shot } = x))
        ∧ (∀ c, x.next = some c → y.cfg = (if x.sb.isSome ∨ x.gapStop = true then x.cfg else c)
          ∧ y.next = (if x.sb.isSome ∨ x.gapStop = true then x.next else none))
        ∧ ∀ c, y.cfg = some c → y.vCap ≤ c.vMax ∧ ((y.wait = true ∨ s.groupRuns = false) → y.limit = 6))
    ∧ (∀ (g : Fin 4) (c : PaceCfg), let a := s.aim g c;
      a.cap ≤ (c.vMax : Rat) ∧ (s.stopAsked g = false → a.target ≤ a.cap) ∧ (s.stopAsked g = true → a.target = 0 ∧ a.limit = 6))
    ∧ ∀ (n : Fin 8) (last : Nat), s.pace.ports[n].ovrUntil = some last → last ≤ max s.ticks t →
      let q := { s.pace.ports[n] with ovrUntil := none, ovrCap := 0 };
      Answers (.overrunHoldEnd t n) s fun u => s.calm u = { s.advance t with pace.ports := s.pace.ports.set n q }

/-- 06 R136 to R138, 05 Table 5.3: an edge counts one up or down with its stamp, and one that cannot be makes the position
invalid; a drained switchback waits for its release or goes on. (Of an edge: where no axis is bound to the encoder.)
Shown to complete, by a conclusion that exec answers a next state: encoderEdge, switchbackDrained. -/
def Obligations.EncoderEdgesAreCounted : Prop :=
  ∀ (s : State) (t : Nat), s.Live →
    (∀ (e : Fin 8) (up : Bool), s.fittedBlock (.enc e) = true → (∀ a : Fin 12, s.axes[a].cfg.enc ≠ some e) →
      let x := s.encs[e];
      ((∀ l, x.lastEdge = some l → l + 37 ≤ max s.ticks t) → Answers (.encoderEdge t e up false) s fun u =>
        u.encs[e].pos = (if up = x.invert then x.pos - 1 else x.pos + 1) ∧ u.encs[e].lastEdge = some (max s.ticks t)
          ∧ u.encs[e].still = false ∧ u.encs[e].posInvalid = x.posInvalid ∧ (∀ k, k ≠ e → u.encs[k] = s.encs[k])
          ∧ s.hush { u with encs := s.encs, pace := s.pace } = s.hush (s.advance t))
      ∧ Answers (.encoderEdge t e up true) s fun u => u.encs[e].posInvalid = true ∧ u.encs[e].evt.getLsbD 0 = true
        ∧ u.encs[e].pos = (if up = x.invert then x.pos - 1 else x.pos + 1))
    ∧ ∀ (g : Fin 4) (b : Switchback), s.pace.groups[g].sb = some b → b.step = 3 →
      (∀ m ∈ b.seams, (s.advance t).seamDrained m = true) → Answers (.switchbackDrained t g) s fun u =>
        ∃ b', u.pace.groups[g].sb = some b' ∧ 4 ≤ b'.step ∧ b'.cause = b.cause ∧ b'.attempts = b.attempts

/-- 04 R87, R97, 15 R361: the next complete line of the oldest side goes into its open STRIP; the oldest closed side gets
its PROVENANCE record once its DOC_CLOSE is in the Cellar, counted, and signed where its port signs each side.
Shown to complete, by a conclusion that exec answers a next state: outputLineRelease, provenanceSign. -/
def Obligations.LinesAndProvenanceGoOut : Prop :=
  ∀ (s : State) (t : Nat) (n : Fin 8), s.Live →
    (∀ d rest, s.ports[n].sides = d :: rest → s.ports[n].held = [] → s.ports[n].inbuf = [] → s.aboveStop n = false →
      s.ports[n].lineReady d = true → s.heldForVerdict n (d.next + s.ports[n].dMaxOf d.align) = false →
      (s.ports[n].capture d.next).isSome = true → (∀ c ∈ (s.ports[n].contributors d d.next).filterMap id, c.lost = false) →
      d.strip.length + 1 < d.fmt.linesPerStrip → (∀ l, d.last = some l → d.next < l) →
      Answers (.outputLineRelease t n none) s fun u => ∃ d', u.sideOf n d.doc = some d' ∧ d'.released = d.released + 1
        ∧ (∃ x, d'.strip = d.strip ++ [x]) ∧ d'.hashed = d.hashed ∧ u.ports[n].store = s.ports[n].store
        ∧ ∀ k, k ≠ n → u.ports[k] = s.ports[k])
    ∧ ∀ j rest, s.ports[n].provs = j :: rest → s.signs = true → s.cel.selfRefresh = false → s.ports[n].closeHeld j = false →
      Answers (.provenanceSign t n) s fun u => u.ports[n].provs = rest
        ∧ u.ports[n].figures.provs = s.ports[n].figures.provs + 1
        ∧ u.sec.signCnt = (if j.sealOnly then s.sec.signCnt else s.sec.signCnt + 1) ∧ u.ldg = s.ldg
        ∧ ∀ k, k ≠ n → u.ports[k] = s.ports[k]

/-! ### The Rope (14) -/

/-- 14 R333, R348, R349, Table 14.9: ROPE_PAIR begins a pairing, ROPE_SWAP and ROPE_RELEASE with `which` 1 wait for their
instant, ROPE_RELEASE with `which` 0 leaves the pair at once, and on a lead is answered when its peer's heartbeat tells that
the second has left too; ROPE_STATUS answers with the registers of the block.
Shown to complete, by a conclusion that exec answers a next state: ropePair, ropeSwap, ropeRelease, ropeStatus. -/
def Obligations.RopeCommandsTakeEffect : Prop :=
  ∀ (p : Packet) (s : State) (r : Ring),
    let s1 := s.advance p.tick;
    let which := u8 p.params 0;
    (Accepts ropePairSpec p s r → Answers (.ropePair p) s fun u => u.cmd.replies = s.cmd.replies
      ∧ s.ordered u = s.ordered { s1 with rope.pairing := some { seq := s.acceptSeq, syncMs := u32 p.params 4, start := s1.ticks,
                                                                 waitSeal := which = 0 && decide (s.sys.mode = .run) } })
    ∧ (Accepts ropeSwapSpec p s r → Answers (.ropeSwap p) s fun u => u.cmd.replies = s.cmd.replies
      ∧ s.ordered u = s.ordered { s1 with rope.swap := some { seq := s.acceptSeq, atOnce := which = 1, release := false } })
    ∧ (Accepts ropeReleaseSpec p s r →
      (which = 1 → Answers (.ropeRelease p) s fun u => u.cmd.replies = s.cmd.replies
        ∧ s.ordered u = s.ordered { s1 with rope.swap := some { seq := s.acceptSeq, atOnce := false, release := true } })
      ∧ (which = 0 → s.second = false → s.rope.swap = none → Answers (.ropeRelease p) s fun u => u.cmd.replies = s.cmd.replies
        ∧ s.ordered u = s.ordered { s1 with rope.role := .solo, rope.releasing := some s.acceptSeq })
      ∧ (which = 0 → s.second = false → Answers (.ropeRelease p) s fun u => u.rope.role = .solo ∧ u.rope.swap = none
        ∧ u.rope.releasing = some s.acceptSeq)
      ∧ (which = 0 → s.second = true → Answers (.ropeRelease p) s fun u => u.rope.role = .solo ∧ u.rope.own = false
        ∧ u.rope.follow = .detached ∧ u.sys.batchState = .none ∧ ∀ n : Fin 8, u.ports[n].sides = [] ∧ u.ports[n].store = []))
    ∧ (Accepts ropeStatusSpec p s r → Answers (.ropeStatus p) s fun u =>
      RepliesOk ropeStatusSpec p r s u (s.entered ropeStatusSpec p r).ropeStat
          (bufferAt (u64 p.params 0) (s.entered ropeStatusSpec p r).ropeBuffer) ∧ s.ordered u = s.ordered s1)

/-- 14 R328, R329, R331, R332, R334, R343, R347, R350: what heartbeats, their loss, lanes, lock, YIELD and the OWN_N net do
to the state of the Rope, and that they do nothing else. A second whose net reads high leaves the loss of its lead to LEAD_LOST;
one whose peer, a lead before, says that it is solo is detached.
Shown to complete, by a conclusion that exec answers a next state: heartbeatSend, heartbeat, ropeFault, hbPathLost,
mirrorAckTimeout, yield, ropeLaneError, ropeLanesLocked, ropeLanesDown, ownFault, tbLockLoss, tbRelock, ropeWakePulse. -/
def Obligations.RopeLinkIsFollowed : Prop :=
  ∀ (s : State) (t : Nat), s.Live → s.sys.fit.rope = true →
    let s1 := s.advance t;
    (s.rope.hbRunning = true → s.rope.hbSent + 37500 ≤ s1.ticks → Answers (.heartbeatSend t) s fun u =>
      u.rope.hbSent = s1.ticks ∧ s.calm { u with rope := s.rope } = s1)
    ∧ (∀ peer, Answers (.heartbeat t .pin peer) s fun u =>
      s.calm u = { s1 with rope.hbPin := some s1.ticks, rope.hbLostFired := false })
    ∧ (∀ peer : PeerInfo, s.rope.lanes ≠ 0 → s.sec.ctlStart = none → s.sec.secStart = none →
      (match s.rope.role with
        | .lead => peer.role = 2 ∧ peer.follow ≠ 0
        | .solo => peer.role = 2 ∨ s.rope.releasing = none
        | .second => peer.role ≠ 0 ∨ ∀ q, s.rope.peer = some q → q.role ≠ 1) → Answers (.heartbeat t .lanes peer) s fun u =>
        s.calm u = { s1 with rope.hbLane := some s1.ticks, rope.hbLostFired := false, rope.peer := some peer
                             rope.netLow := s.rope.own || peer.own })
    ∧ (∀ peer : PeerInfo, s.rope.lanes ≠ 0 → s.sec.ctlStart = none → s.sec.secStart = none → s.rope.role = .second →
      peer.role = 0 → (∃ q, s.rope.peer = some q ∧ q.role = 1) → Answers (.heartbeat t .lanes peer) s fun u =>
        u.rope.follow = .detached ∧ u.rope.role = .second)
    ∧ (s.rope.hbLostFired = false → s1.bothSilent 300000 = true → ∀ netHigh,
      (s.rope.role = .solo → s.rope.releasing = none → Answers (.ropeFault ⟨t, netHigh⟩) s fun u =>
        s.hush u = s.hush { s1.readNet netHigh with rope.hbLostFired := true })
      ∧ (s.rope.role = .lead → Answers (.ropeFault ⟨t, netHigh⟩) s fun u => u.rope.role = .solo ∧ u.rope.hbLostFired = true)
      ∧ (s.rope.role = .second → s.rope.own = false → Answers (.ropeFault ⟨t, netHigh⟩) s fun u => u.rope.role = .second
        ∧ (netHigh = false → u.rope.follow = .detached) ∧ (netHigh = true → s.calm u = { s1 with rope.netLow := false })))
    ∧ (s.rope.lanes ≠ 0 → s1.silentFor s.rope.hbPin 300000 = true → Answers (.hbPathLost t) s fun u =>
      s.calm u = { s1 with rope.evt := setBit s.rope.evt 3 })
    ∧ (s.rope.role = .lead → Answers (.mirrorAckTimeout t) s fun u => u.rope.role = .solo ∧ u.rope.swap = none
      ∧ u.rope.evt.getLsbD 1 = true)
    ∧ (s.second = true → (s.rope.follow = .following ∨ s.rope.follow = .eligible) → Answers (.yield t) s fun u =>
      s.calm u = { s1 with rope.yielded := true })
    ∧ (∀ lane, Answers (.ropeLaneError t lane) s fun u =>
      s.hush u = s.hush { s1 with rope.fig.retx := satInc s.rope.fig.retx, rope.evt := setBit s.rope.evt 4 })
    ∧ (∀ mask, Answers (.ropeLanesLocked t mask) s fun u => u.rope.lanes = s.rope.lanes ||| mask
      ∧ s.calm { u with rope := s.rope } = s1)
    ∧ (∀ mask, s.rope.role = .solo → Answers (.ropeLanesDown t mask) s fun u =>
      u.rope.lanes = s.rope.lanes &&& ~~~mask ∧ s.calm { u with rope := s.rope } = s1)
    ∧ (s.rope.own = true → Answers (.ownFault t) s fun u =>
      s.calm u = { s1 with rope.ownFault := true, rope.netLow := false, rope.evt := setBit s.rope.evt 5 })
    ∧ (s.second = true → Answers (.tbLockLoss t) s fun u => u.rope.tbLocked = false ∧ u.rope.follow ≠ .eligible
      ∧ s.calm { u with rope := s.rope } = s1)
    ∧ (s.second = true → Answers (.tbRelock t) s fun u => s.calm u = { s1 with rope.tbLocked := true })
    ∧ (s.sys.mode = .dormant → s.sys.waking = false → Answers (.ropeWakePulse t) s fun u =>
      s.calm { u with rope := s.rope } = { s1 with sys.waking := true, sys.wakeTick := s1.ticks }
        ∧ (s.rope.hbRunning = true → u.rope.wakeSent = some s1.ticks))

/-- 14 R328, R334, R335, R343 to R345, R348 to R350: how a device's role changes. A following second whose net reads high and
whose lead is lost, or has yielded, leads, pulls OWN_N and holds every ring that it produces until its doorbell; in DORMANT it is left without a lead
(log entry 157); while the net reads low it takes nothing over. A solo B side takes a free OWN_N; a transfer that completes makes lead and second, one that outlasts its time neither; a handover makes the lead the second.
Also: 14 R336 to R341: what a following second adopts from the items of its lead; a device that follows no lead adopts none.
Shown to complete, by a conclusion that exec answers a next state: leadLost, ownTake, syncDone, syncTimeout, eligible,
swapInstant, mirrorItem. -/
def Obligations.RolesChangeAsTheRopeSays : Prop :=
  (∀ (s : State) (t : Nat), s.Live → s.sys.fit.rope = true →
       let s1 := s.advance t;
       (s.second = true → (s.rope.follow = .following ∨ s.rope.follow = .eligible) → s.sys.mode ≠ .dormant →
         (s.rope.yielded = true ∨ s1.bothSilent 75000 = true) → (∀ f ∈ s.cmd.flights, f.opcode ≠ 0x0903) →
         s.rope.own = false → Answers (.leadLost ⟨t, true⟩) s fun u => u.rope.role = .lead ∧ u.rope.own = true ∧ u.rope.led = true
           ∧ u.rope.fig.takeCnt = s.rope.fig.takeCnt + 1 ∧ ∀ q ∈ u.rings, q.kind ≠ .command → q.waitDoorbell = true)
       ∧ (s.second = true → (s.rope.follow = .following ∨ s.rope.follow = .eligible) → s.rope.own = false →
         (s.sys.mode = .dormant → (s.rope.yielded = true ∨ s1.bothSilent 75000 = true) → Answers (.leadLost ⟨t, true⟩) s fun u =>
           u.rope.role = .second ∧ u.rope.follow = .detached ∧ u.rope.own = false)
         ∧ Answers (.leadLost ⟨t, false⟩) s fun u => s.calm u = { s1 with rope.netLow := true })
       ∧ (s.rope.hbRunning = true → s.rope.own = false → s1.bothSilent 300000 = true → s.sys.mode ≠ .dormant →
         (s.rope.role = .solo → s.sideB = true → Answers (.ownTake ⟨t, true⟩) s fun u =>
           s.calm u = { s1 with rope.own := true, rope.netLow := true })
         ∧ (s.second = true → (s.rope.follow = .detached ∨ s.rope.follow = .syncing) → Answers (.ownTake ⟨t, true⟩) s fun u =>
           u.rope.own = true ∧ u.rope.role = .solo))
       ∧ (∀ x, s.rope.pairing = some x → s.rope.role = .solo → x.waitSeal = false →
         (Answers (.syncDone t) s fun u => u.rope.role = .lead ∧ u.rope.led = true ∧ u.rope.pairing = none)
         ∧ (x.start + x.syncMs * 1500000 ≤ s1.ticks → Answers (.syncTimeout t) s fun u =>
           u.rope.pairing = none ∧ u.rope.role = .solo))
       ∧ (s.second = true → s.rope.follow = .syncing →
         (Answers (.syncDone t) s fun u => u.rope.follow = .following ∧ u.rope.joinTick = s1.ticks ∧ u.rope.role = .second)
         ∧ Answers (.syncTimeout t) s fun u => u.rope.role = .solo ∧ u.rope.own = false)
       ∧ (s.second = true → s.rope.follow = .following → s.rope.tbLocked = true → s.rope.calMismatch = 0 → s.rope.lanes ≠ 0 →
         (∀ n : Fin 8, ∀ d ∈ s.ports[n].sides, d.opened = true → s.rope.joinTick ≤ d.openTick) →
         s.rope.toPass &&& s.scanning = 0 → Answers (.eligible t) s fun u =>
           s.calm u = { s1 with rope.follow := .eligible, rope.evt := setBit s.rope.evt 2 })
       ∧ ∀ x, s.rope.swap = some x → s.peerEligible = true → (x.atOnce = true ∨ ∀ n : Fin 8, s.ports[n].clear = true) →
         (x.release = false → Answers (.swapInstant t) s fun u => u.rope.role = .second ∧ u.rope.follow = .following
           ∧ u.rope.own = false ∧ u.rope.tbLocked = false ∧ u.rope.swap = none)
         ∧ (x.release = true → Answers (.swapInstant t) s fun u => u.rope.role = .solo ∧ u.rope.own = false))
  ∧
  (∀ (s : State) (t : Nat), s.Live →
       let s1 := s.advance t;
       (s.second = true → s.rope.follow ≠ .detached →
         (∀ docs, Answers (.mirrorItem t (.slots docs)) s fun u => s.calm { u with sys.docs := s.sys.docs } = { s1 with tl.slots := docs }
             ∧ ((∀ d ∈ docs, d < 2 ^ 32) → ∀ d ∈ docs, d ≤ u.sys.docs.toNat))
         ∧ (∀ no : BitVec 32, no + 1 ≠ 0 → Answers (.mirrorItem t (.fault no)) s fun u =>
             s.calm u = { s1 with ldg.faultNext := no + 1, ldg.faults := s.ldg.faults ++ [(no, 2)] })
         ∧ (∀ (e : Fin 8) (pos : Int), Answers (.mirrorItem t (.encoder e pos)) s fun u => u.encs[e].pos = pos
             ∧ (s.encs[e].pos ≠ pos → u.encs[e] = { s.encs[e] with pos, log := (s1.ticks, pos) :: s.encs[e].log })
             ∧ (∀ k, k ≠ e → u.encs[k] = s.encs[k])
             ∧ u.rope.fig.encDiv = (if s.encs[e].pos = pos then s.rope.fig.encDiv else satInc s.rope.fig.encDiv))
         ∧ (∀ (a : Fin 12) (index : Nat) (pos : Int), Answers (.mirrorItem t (.step a index pos)) s fun u =>
             u.axes[a].pos = pos ∧ u.axes[a].index = index % 1024 ∧ ∀ k, k ≠ a → u.axes[k] = s.axes[k])
         ∧ (∀ op p secure seq time, s.rope.follow ≠ .syncing → s.ldg.nextSeq ≠ seq →
             Answers (.mirrorItem t (.accept p op secure seq time)) s fun u => u.rope.follow = .detached ∧ u.ldg.entries = s.ldg.entries))
       ∧ ∀ (e : Fin 8) (pos : Int), s.second = false → Answers (.mirrorItem t (.encoder e pos)) s fun u => s.calm u = s1)


/-! ### The secure world (15) -/

/-- 15 R353 to R356, R358 to R360, R363: WORLD_ASSIGN moves the block it names and no other; ATTEST and KEY_INFO write their
report to host memory; SIGN_POLICY and ESTATE_SET set what they name; FW_STAGE stores an image that authenticates in the slot
that does not run and answers another with AUTH_FAIL; FW_ACTIVATE restarts its target on it; an image that starts in time runs,
one that does not is revoked and the former one runs.
Shown to complete, by a conclusion that exec answers a next state: worldAssign, attest, keyInfo, signPolicy,
estateSet, fwStage, fwActivate, imageStarted, fwStartTimeout. -/
def Obligations.SecureWorldCommandsTakeEffect : Prop :=
  (∀ (p : Packet) (s : State) (r : Ring),
    let s1 := s.advance p.tick;
    let l := p.params;
    (Accepts worldAssignSpec p s r → ∀ b, blockAt l 0 = some b → Answers (.worldAssign p) s fun u =>
      RepliesOk worldAssignSpec p r s u 0 ∧ u.secureBlock b = (u8 l 2 == 1) ∧ (∀ x, x ≠ b → u.secureBlock x = s.secureBlock x)
        ∧ s.ordered { u with sec := s.sec } = s.ordered s1)
    ∧ (Accepts attestSpec p s r →
      let head := (s.entered attestSpec p r).reportHead (l.take 48);
      Answers (.attest p) s fun u => s.ordered u = s.ordered { s1 with sec.signCnt := s.sec.signCnt + 1 } ∧ RepliesOk attestSpec p r s u 0
        [(u64 l 48, head ++ beBytes 96 (Config.ecdsa dikId (Config.sha384 head)).toNat)])
    ∧ (Accepts keyInfoSpec p s r → Answers (.keyInfo p) s fun u => s.ordered u = s.ordered s1
      ∧ RepliesOk keyInfoSpec p r s u (s.entered keyInfoSpec p r).secStat [(u64 l 0, s.keyInfo)])
    ∧ (Accepts signPolicySpec p s r →
      let m := BitVec.ofNat 8 (u8 l 0);
      Answers (.signPolicy p) s fun u => RepliesOk signPolicySpec p r s u 0 ∧ s.ordered u = s.ordered { s1 with
        sec.signPolicy := if u8 l 1 = 1 then s.sec.signPolicy ||| m else s.sec.signPolicy &&& ~~~m })
    ∧ (Accepts estateSetSpec p s r → Answers (.estateSet p) s fun u => RepliesOk estateSetSpec p r s u 0
      ∧ u.sec.estateWords = s.sec.estateWords ++ [u32 l 0] ∧ u.sec.locked = (s.sec.locked || u8 l 4 == 1)
      ∧ u.sec.debug = s.sec.debug ∧ (u8 l 4 = 1 → u.board.jtag.debugOpen = false)
      ∧ s.ordered { u with sec := s.sec, board := s.board } = s.ordered s1)
    ∧ (Accepts fwStageSpec p s r → ∀ t, fwTarget l = some t →
      (∀ d, s.imageFault t (u32 l 4) p.hostData = some d → Answers (.fwStage p) s fun u =>
        u.cmd.replies = s.cmd.replies ++ [replyOf fwStageSpec p r s 0x0700 d 0] ∧ u.sec.authFailCnt = satInc s.sec.authFailCnt
          ∧ u.trig = s.trig)
      ∧ (s.imageFault t (u32 l 4) p.hostData = none →
        let x : NvmStore := { item := .image t (s.sec.idle t) (FwSlot.ofImage p.hostData), job := some s.acceptSeq, step := 2 };
        Answers (.fwStage p) s fun u => u.cmd.replies = s.cmd.replies
          ∧ s.ordered u = s.ordered { s1 with trig.stores := s.trig.stores ++ [x] }))
    ∧ (Accepts fwActivateSpec p s r → ∀ t, fwTarget l = some t → Answers (.fwActivate p) s fun u =>
      u.cmd.replies = s.cmd.replies
      ∧ u.sec.start t = some { seq := s.acceptSeq, tick := s1.ticks, peer := decide (s.rope.role = .lead) }
      ∧ u.sec.run t = s.sec.run t ∧ u.sec.start (!t) = s.sec.start (!t)
      ∧ (s.rope.role ≠ .lead → ((u.sec.slots t)[s.sec.idle t]).activation.isSome = true ∧ (t = false → u.cmd.coreWait = true))))
  ∧ ∀ (s : State) (t : Nat) (secure : Bool) (x : FwStart), s.Live → s.sec.start secure = some x → x.peer = false →
    (max s.ticks t ≤ x.tick + restartTicks secure → Answers (.imageStarted t secure) s fun u =>
      u.sec.run secure = s.sec.idle secure ∧ u.sec.start secure = none ∧ u.sec.run (!secure) = s.sec.run (!secure)
        ∧ (secure = false → u.cmd.coreWait = false))
    ∧ (x.tick + restartTicks secure ≤ max s.ticks t → Answers (.fwStartTimeout t secure) s fun u =>
      u.sec.run secure = s.sec.run secure ∧ u.sec.start secure = none
        ∧ ((u.sec.slots secure)[s.sec.idle secure]).revoked = true ∧ u.sec.authFailCnt = satInc s.sec.authFailCnt
        ∧ (secure = false → u.cmd.coreWait = false))

/-! ### Sensor ports (02, 03, 04) -/

/-- 02 R30, R31, R48 to R50, 04 R90, R93: what the port commands do to their port, and that they touch no other.
Shown to complete, by a conclusion that exec answers a next state: portConfig, patternLoad, portArm, portDisarm,
portReconfig, alignSet, outputFormat. -/
def Obligations.PortCommandsTakeEffect : Prop :=
  ∀ (p : Packet) (s : State) (r : Ring) (n : Fin 8),
    let l := p.params;
    let q := s.ports[n];
    let others (u : State) : Prop := ∀ k, k ≠ n → u.ports[k] = s.ports[k];
    let waits (u : State) : Prop := u.cmd.replies = s.cmd.replies ∧ others u;
    let noGap : Prop := ∀ j ∈ s.trig.gaps, j.port ≠ n;
    (Accepts portConfigSpec p s r → portAt p 0 = some n → Answers (.portConfig p) s fun u =>
      u.ports[n].cfg = PortCfg.parse l 0 ∧ u.ports[n].configured = true ∧ others u
        ∧ (q.waits.arm = [] → u.ports[n].st = .idle ∧ (q.alignPending = [] → RepliesOk portConfigSpec p r s u 0)))
    ∧ (Accepts patternLoadSpec p s r → portAt p 0 = some n →
      let b := u8 l 1 == 1;
      Answers (.patternLoad p) s fun u => RepliesOk patternLoadSpec p r s u 0 ∧ others u
        ∧ (u.ports[n].tab b).edges = patternEdges p ∧ (u.ports[n].tab b).shift = u8 l 3
        ∧ (u.ports[n].tab (!b)).edges = (q.tab (!b)).edges
        ∧ u.ports[n].active = (if u8 l 2 ≠ 0 ∧ (q.active = none ∨ q.st = .idle) then some b else q.active)
        ∧ s.ordered { u with ports := s.ports } = s.ordered (s.advance p.tick))
    ∧ (Accepts portArmSpec p s r → portAt p 0 = some n →
      (q.cfg.digital = true → Answers (.portArm p) s fun u => waits u
        ∧ u.ports[n].waits.arm = q.waits.arm ++ [s.acceptSeq]
        ∧ u.ports[n].lvds.training = some (q.lvds.training.getD (s.advance p.tick).ticks))
      ∧ (q.cfg.digital = false → q.vid.ready = true → Answers (.portArm p) s fun u => others u
        ∧ (q.waits.arm = [] → RepliesOk portArmSpec p r s u 0) ∧ u.ports[n].st = .scan ∧ u.ports[n].grid.next = 0 ∧ u.ports[n].grid.x0 = s.count n * 2 ^ 32
        ∧ u.ports[n].grid.pitch = q.cfg.pitch)
      ∧ (q.cfg.digital = false → q.vid.ready = false → Answers (.portArm p) s fun u => waits u
        ∧ u.ports[n] = { q with waits.arm := q.waits.arm ++ [s.acceptSeq] }))
    ∧ (Accepts portDisarmSpec p s r → portAt p 0 = some n → noGap →
      ((q.st = .off ∨ q.st = .idle) → Answers (.portDisarm p) s fun u =>
        RepliesOk portDisarmSpec p r s u 0 ∧ s.ordered u = s.ordered (s.advance p.tick))
      ∧ (q.st = .scan → q.line = none → q.sides = [] → q.waits.disarm = [] → Answers (.portDisarm p) s fun u =>
        RepliesOk portDisarmSpec p r s u 0 ∧ others u ∧ u.ports[n].st = .idle ∧ u.ports[n].waiting = [] ∧ u.ports[n].inbuf = [])
      ∧ (q.st = .scan → (q.line.isSome = true ∨ q.sides ≠ []) → Answers (.portDisarm p) s fun u =>
        waits u ∧ u.ports[n] = { q with waits.disarm := q.waits.disarm ++ [s.acceptSeq] }))
    ∧ (Accepts portReconfigSpec p s r → portAt p 8 = some n →
      (q.st = .idle → Answers (.portReconfig p) s fun u => u.ports[n].cfg = PortCfg.parse l 8 ∧ others u)
      ∧ (∀ x, q.waits.reconfig = some x → q.st = .scan → noGap → Answers (.portReconfig p) s fun u =>
        waits u ∧ u.ports[n] = { q with waits.later := q.waits.later ++ [(s.acceptSeq, l)] })
      ∧ (q.waits.reconfig = none → q.st = .scan → noGap → (q.line.isSome = true ∨ q.sides ≠ [] ∨ q.waits.slots ≠ []) → Answers (.portReconfig p) s fun u =>
        waits u ∧ u.ports[n] = { q with waits.ready := false, waits.reconfig := some (s.acceptSeq, l, 2) })
      ∧ (q.waits.reconfig = none → q.st = .scan → noGap → q.line = none → q.sides = [] → q.waits.slots = [] → Answers (.portReconfig p) s fun u =>
        waits u ∧ u.ports[n].st = .reconfig ∧ u.ports[n].waits.reconfig = some (s.acceptSeq, l, 3) ∧ u.ports[n].cfg = q.cfg))
    ∧ (Accepts alignSetSpec p s r → portAt p 0 = some n → ∀ a, s.alignAsked n l = some a →
      (q.sides ≠ [] → Answers (.alignSet p) s fun u => waits u
        ∧ u.ports[n] = { q with alignPending := q.alignPending ++ [{ align := a, seq := some s.acceptSeq }] })
      ∧ (q.sides = [] → q.st = .idle → q.alignPending = [] → Answers (.alignSet p) s fun u =>
        RepliesOk alignSetSpec p r s u 0 ∧ others u ∧ u.ports[n] = { q with align := a, caps := [] }))
    ∧ (Accepts outputFormatSpec p s r → portAt p 0 = some n →
      let q' := { q with fmtPending := some (OutFmt.parse n l) };
      Answers (.outputFormat p) s fun u => RepliesOk outputFormatSpec p r s u 0
        ∧ s.ordered u = s.ordered { s.advance p.tick with ports := s.ports.set n q' })

/-- 02 R37 to R39, R46, R47: count edges schedule grid lines; the next line is triggered at its instant and starts when the
generator is free, or waits for it; a line in progress ends; a leading edge latches a new side, a trailing edge its last
line, on a port that scans or holds (elsewhere it is an edge error: the model's choice, log entry 115).
Shown to complete, by a conclusion that exec answers a next state: encCount, lineTrigger, lateLineStart, lineEnd,
docLead, docTrail. -/
def Obligations.LinesAreTriggeredInTurn : Prop :=
  ∀ (s : State) (t : Nat) (n : Fin 8), s.Live →
    let s1 := s.advance t;
    let q := s.ports[n];
    let act (k : Nat) (x : Activation) : Prop :=
      (s.evf.acts.find? fun x => x.task == { num := 13 * 64 + k, inst := n.val } && decide (x.tick ≤ s1.ticks)) = some x;
    (∀ x, act 2 x → q.st = .scan → s.encs[q.cfg.encoder].posInvalid = false → Answers (.encCount t n) s fun u =>
      s.calm u = { s1 with evf.acts := s.evf.acts.erase x, ports := s.ports.set n (x.edges.foldl Port.takeEdge q) })
    ∧ (∀ instant, q.st = .scan →
      (q.grid.sched.find? fun e => e.1 = q.grid.next && decide (e.2 ≤ s1.ticks)) = some (q.grid.next, instant) →
      Answers (.lineTrigger t n) s fun u => u.ports[n].grid.next = q.grid.next + 1 ∧ u.ports[n].lastInstant = some instant
        ∧ if q.waiting = [] ∧ q.canStart = true then
            ∃ v, u.ports[n].line = some v ∧ v.k = q.grid.next ∧ v.start = s1.ticks ∧ v.instant = some instant
          else u.ports[n].line = q.line ∧ u.ports[n].waiting.length = q.waiting.length + 1)
    ∧ (∀ w rest, q.waiting = w :: rest → q.inbuf = [] → q.st = .scan → q.canStart = true → Answers (.lateLineStart t n) s fun u =>
      u.ports[n].waiting = rest ∧ ∃ v, u.ports[n].line = some v ∧ v.k = w.k ∧ v.start = s1.ticks ∧ v.instant = w.instant)
    ∧ (∀ v data, q.line = some v → s1.lineOver n v data = true → Answers (.lineEnd t n data) s fun u =>
      u.ports[n].line = none ∧ u.ports[n].cnt.busyTicks = sat32 (s1.ticks - v.start))
    ∧ (∀ k x, act k x → s.edgesIgnored n = false → s.fittedBlock (.port n) = true → q.takesEdges = false →
      (k = 0 → Answers (.docLead t n) s fun u => u.ports[n].sides = q.sides ∧ u.ports[n].cnt.edgeErr = satInc q.cnt.edgeErr)
      ∧ (k = 1 → Answers (.docTrail t n) s fun u => u.ports[n].sides = q.sides ∧ u.ports[n].cnt.edgeErr = satInc q.cnt.edgeErr))
    ∧ (∀ x, act 0 x → s.edgesIgnored n = false → s.fittedBlock (.port n) = true → q.takesEdges = true →
      let doc := match q.waits.docBegin with
        | some d => some d
        | none => q.waits.slots.head?;
      (∀ d, doc = some d → (∀ e ∈ q.sides, e.last.isSome = true) → s.quota n ≠ 0 → s.batchRuns = true →
        Answers (.docLead t n) s fun u => u.ports[n].sides.length = q.sides.length + 1
          ∧ ∃ e, u.ports[n].sides.getLast? = some e ∧ e.doc = d ∧ e.opened = false ∧ e.last = none
            ∧ e.lead = s.encs[q.cfg.encoder].posAt x.latch)
      ∧ (doc = none → Answers (.docLead t n) s fun u => u.ports[n].sides = q.sides
        ∧ u.ports[n].cnt.edgeErr = satInc q.cnt.edgeErr))
    ∧ ∀ x, act 1 x → s.edgesIgnored n = false → s.fittedBlock (.port n) = true → q.takesEdges = true →
      ((∀ e ∈ q.sides, e.last.isSome = true) → Answers (.docTrail t n) s fun u => u.ports[n].sides = q.sides
        ∧ u.ports[n].cnt.edgeErr = satInc q.cnt.edgeErr)
      ∧ ∀ d, (q.sides.find? fun d => d.last.isNone) = some d → s.sideOf n d.doc = some d → d.opened = false → 0 < q.cfg.maxLines →
        Answers (.docTrail t n) s fun u => u.ports[n].sides.length = q.sides.length
          ∧ ∃ e, u.sideOf n d.doc = some e ∧ e.trail = some (s.encs[q.cfg.encoder].posAt x.latch) ∧ e.first = d.first
            ∧ ∀ last, e.last = some last → d.first ≤ last ∧ last < d.first + q.cfg.maxLines

/-- 02 R35, R42 to R45, R49, R50, 04 R90: what takes effect at a boundary, how a receiver is trained, and what loss of its
lock does; a port whose receiver fails stops in IDLE, after the line in progress.
Shown to complete, by a conclusion that exec answers a next state: tableSwitch, disarmEffect, reconfigEnter,
reconfigDrained, alignEffect, lvdsTrainDone, lvdsTrainTimeout, lockLoss, lvdsResyncDone, lvdsResyncTimeout. -/
def Obligations.BoundariesAndReceiversFollowTheirRules : Prop :=
  ∀ (s : State) (t : Nat) (n : Fin 8), s.Live →
    let s1 := s.advance t;
    let q := s.ports[n];
    let now := s1.ticks;
    let stopped (u : State) : Prop := u.ports[n].lvds.locked = false ∧ u.ports[n].lvds.training = none
      ∧ u.ports[n].lvds.stopping = q.line.isSome ∧ (q.line = none → u.ports[n].st = .idle)
      ∧ (q.line.isSome = true → u.ports[n].st = q.st);
    (q.line = none → q.st ≠ .off →
      (q.tabA.pending = 1 → Answers (.tableSwitch t n) s fun u =>
        s.calm u = { s1 with ports := s.ports.set n (q.activate false) })
      ∧ (q.tabA.pending = 0 → q.tabB.pending = 1 → Answers (.tableSwitch t n) s fun u =>
        s.calm u = { s1 with ports := s.ports.set n (q.activate true) }))
    ∧ (q.waits.disarm ≠ [] → q.st = .scan → q.line = none → q.sides = [] → Answers (.disarmEffect t n) s fun u =>
      u.ports[n].st = .idle ∧ u.ports[n].waits.disarm = [] ∧ u.ports[n].waiting = [] ∧ u.ports[n].grid.sched = [])
    ∧ (∀ seq l, q.waits.reconfig = some (seq, l, 2) → q.st = .scan → q.line = none → q.sides = [] → q.waits.slots = [] →
      Answers (.reconfigEnter t n) s fun u => u.ports[n].st = .reconfig ∧ u.ports[n].waits.reconfig = some (seq, l, 3)
        ∧ u.ports[n].keepLamp = (u8 l 1 == 1) ∧ ∀ k, k ≠ n → u.ports[k] = s.ports[k])
    ∧ (∀ seq l, q.waits.reconfig = some (seq, l, 3) → q.waits.later = [] → q.st = .reconfig → q.inbuf = [] → Answers (.reconfigDrained t n) s fun u =>
      u.ports[n].cfg = PortCfg.parse l 8 ∧ (trainAgain q.cfg (PortCfg.parse l 8) = false →
        u.ports[n].waits.reconfig = none ∧ (u.ports[n].st = .scan ∨ u.ports[n].st = .idle)))
    ∧ (∀ a d, q.alignPending = [a] → q.cfg.phasesOk a.align = true →
      (a.align.fromRecord = true → (s.alignMatches n).map (fun r => Align.ofRecord r.1 r.2) = some a.align) →
      (a.seq = none → q.align.fromRecord = true) → q.sides = [] → (q.st = .idle ∨ (q.st = .scan ∧ q.line = none)) →
      s.delayPlace n (q.delayBytes a.align) = some d → Answers (.alignEffect t n) s fun u =>
        u.ports[n] = { q with align := a.align, alignPending := [], caps := [] } ∧ u.cel.delays[n] = d
          ∧ ∀ k, k ≠ n → u.ports[k] = s.ports[k])
    ∧ (∀ start res, q.lvds.training = some start → (q.st = .reconfig → q.waits.later = []) → trainOk res q.cfg = true → now ≤ start + 15000000 →
      Answers (.lvdsTrainDone t n res) s fun u => u.ports[n].lvds.locked = true ∧ u.ports[n].lvds.training = none
        ∧ u.ports[n].lvds.taps = res.taps.take q.cfg.lanes ∧ u.ports[n].lvds.ckKhz = res.ckKhz)
    ∧ (∀ start k lanes, q.lvds.training = some start → Answers (.lvdsTrainTimeout t n k lanes) s fun u =>
      stopped u ∧ u.ports[n].waits.arm = [] ∧ u.ports[n].waits.reconfig = none ∧ u.ports[n].waits.later = [])
    ∧ (∀ cause, q.cfg.digital = true → q.lvds.locked = true → q.st ≠ .off → Answers (.lockLoss t n cause) s fun u =>
      u.ports[n].lvds.locked = false ∧ u.ports[n].lvds.resync = some now ∧ u.ports[n].cnt.lockLoss = satInc q.cnt.lockLoss
        ∧ ∀ v, u.ports[n].line = some v → v.lost = true)
    ∧ ∀ since, q.lvds.resync = some since →
      (now ≤ since + 75000 → q.lvds.training = none → Answers (.lvdsResyncDone t n) s fun u =>
        u.ports[n].lvds.locked = true ∧ u.ports[n].lvds.resync = none ∧ u.ldg.faultNext = s.takeFault.ldg.faultNext)
      ∧ (since + 75000 ≤ now →
        (Answers (.lvdsResyncTimeout t n true) s fun u => u.ports[n].lvds.training = some now
          ∧ u.ports[n].st = q.st ∧ u.ports[n].lvds.locked = false)
        ∧ Answers (.lvdsResyncTimeout t n false) s stopped)

/-- 03 R56, R61 to R68, 04 R75, R79, R84, 09 R210: how the slices of a lane are calibrated, swapped and retired, what takes
effect where no side is open, and the live capacity of the pipeline.
Shown to complete, by a conclusion that exec answers a next state: vrefSettled, vidReady, sliceCalStart, calOverdue,
sliceCalDone, sliceSwap, sliceCalStep, videoEffect, timeEffect, shadeLoad, refreshSegment, pipeCapUpdate. -/
def Obligations.VideoLanesFollowTheirRules : Prop :=
  ∀ (s : State) (t : Nat) (n : Fin 8) (c : Fin 4), s.Live →
    let s1 := s.advance t;
    let q := s.ports[n];
    let l := q.vid.lanes[c];
    let lane (u : State) (l' : VideoLane) : Prop := s.calm u = { s1 with ports := s.ports.set n (q.modLane c fun _ => l') };
    (q.vid.on = true →
      let q' := { q with vid.settled := true };
      Answers (.vrefSettled t n) s fun u => s.calm u = { s1 with ports := s.ports.set n q' })
    ∧ (∀ res, q.vid.settled = true → q.laneDown c = true → q.laneFailed = false →
      (∀ m : Fin 4, q.laneDown m = true → ∀ k, (initialOutcome (initialResult res m k) (s.sliceTiming n m)).2 = true) →
      Answers (.vidReady t n res) s fun u => u.ports[n].vid.ready = true ∧ u.ports[n].vid.lanes[c].up = true
        ∧ u.ports[n].vid.lanes[c].order.length = 8 ∧ u.ports[n].vid.lanes[c].spare.isSome = true)
    ∧ (q.laneOn c = true → l.up = true →
      (l.fail = false → l.calSlice = none → l.swapReady = false → l.spare.isSome = true →
        Answers (.sliceCalStart t n c) s fun u =>
          lane u { l with calSlice := l.spare, calStart := s1.ticks, calTiming := s.sliceTiming n c, retry := false })
      ∧ (l.isOverdue s1.ticks = true → Answers (.calOverdue t n c) s fun u => lane u { l with overdue := true }))
    ∧ (∀ k res, l.calSlice = some k → l.spare = some k →
      (sliceOk res l.calTiming (s1.ticks - l.calStart) = true → Answers (.sliceCalDone t n c res) s fun u =>
        lane u { (l.measured k res).passed k s1.ticks res.coeff with swapReady := true })
      ∧ (sliceOk res l.calTiming (s1.ticks - l.calStart) = false → l.retry = false → Answers (.sliceCalDone t n c res) s fun u =>
        lane u { l.measured k res with retry := true, calStart := s1.ticks, calTiming := s.sliceTiming n c })
      ∧ (sliceOk res l.calTiming (s1.ticks - l.calStart) = false → l.retry = true → Answers (.sliceCalDone t n c res) s fun u =>
        (u.ports[n].vid.lanes[c].slices[k]).retired = true ∧ u.ports[n].vid.lanes[c].spare = none
          ∧ u.ports[n].vid.lanes[c].noSpare = true ∧ u.ports[n].vid.lanes[c].order = l.order))
    ∧ (∀ spare old, l.swapReady = true → q.line = none → q.pxEnd ≤ s1.ticks → l.spare = some spare → l.oldest = some old →
      Answers (.sliceSwap t n c) s fun u =>
        lane u { l.setSlice spare l.slices[spare].settled with order := l.order.map (fun k => if k = old then spare else k), spare := some old, swapReady := false })
    ∧ (∀ k res, l.noSpare = true → l.fail = false → q.laneOn c = true → s1.stepFree n l = true → l.calSlice = some k →
      let x := { l with calTiming := if l.steps = 0 then s.sliceTiming n c else l.calTiming, stepTick := s1.ticks };
      (l.steps + 1 < 2048 → Answers (.sliceCalStep t n c res) s fun u => lane u { x with steps := l.steps + 1 })
      ∧ (2048 ≤ l.steps + 1 → sliceOk res x.calTiming (2048 * 3000) = true → Answers (.sliceCalStep t n c res) s fun u =>
        let y := ({ x.measured k res with steps := 0 } : VideoLane).passed k s1.ticks res.coeff;
        lane u (if q.line = none then y.settleCoeffs else y)))
    ∧ (l.changed = true → q.line = none → q.sides = [] → q.st ≠ .cal → Answers (.videoEffect t n) s fun u =>
      u.ports[n].shade.excludeNext = true ∧ ∀ k : Fin 4, u.ports[n].vid.lanes[k].changed = false)
    ∧ (∀ h tabs, q.timePending = true → q.line = none → q.sides = [] → s.timeOf = some (h, tabs) → Answers (.timeEffect t n) s fun u =>
      u.ports[n].timePending = false ∧ u.ports[n].timeGen = BitVec.ofNat 32 h.gen
        ∧ u.ports[n].timeTables = (tabs.getD n.val []) :: (List.range 4).map fun c => tabs.getD (8 + 4 * n.val + c) [])
    ∧ (∀ h b, q.shade.loadPending = true → q.sides = [] → s.shadeMatches n q.cfg.colours q.cfg.width = true → s.shadeOf n = some (h, b) →
      Answers (.shadeLoad t n) s fun u => u.ports[n].shade.gen = BitVec.ofNat 32 h.gen ∧ u.ports[n].shade.dark = b.dark
        ∧ u.ports[n].shade.gain = b.gain ∧ u.ports[n].shade.loadPending = false)
    ∧ (∀ g, q.shade.newGain = some g → q.sides = [] →
      (1024 * q.shade.segNext + 1024 < q.cfg.samples → Answers (.refreshSegment t n) s fun u =>
        u.ports[n].shade.segNext = q.shade.segNext + 1 ∧ u.ports[n].shade.newGain = some g)
      ∧ (q.cfg.samples ≤ 1024 * q.shade.segNext + 1024 → Answers (.refreshSegment t n) s fun u =>
        u.ports[n].shade.newGain = none ∧ u.ports[n].shade.epoch = q.shade.epoch + 1 ∧ u.ports[n].shade.segNext = 0))
    ∧ ∀ rate, Answers (.pipeCapUpdate t n rate) s fun u => u.ports[n].cnt.capHistory =
          (s1.ticks, if q.st = .off then 0 else rate) :: q.cnt.capHistory.filter fun x => s1.ticks < x.1 + 150000

/-! ### Axes and encoders (06, 07) -/

/-- 06 R140, R141, R148 to R150, R153 to R158, R160, 07 R182: what the motion commands begin on their axis. A profile is named
by the model's own planner, and `y.plan` is it: where it is empty, the axis is at its goal and at rest.
Shown to complete, by a conclusion that exec answers a next state: axisConfig, axisLimits, moveTo, moveVelocity, stop,
resume, home, gearSet, gearRatioAt, holdPark. -/
def Obligations.MotionCommandsBeginTheirMotion : Prop :=
  ∀ (p : Packet) (s : State) (r : Ring) (a : Fin 12),
    let l := p.params;
    let s1 := s.advance p.tick;
    let now := s1.ticks;
    let x := s.axes[a];
    let seq := s.acceptSeq;
    let alone : Prop := x.waits.park = none ∧ x.waits.settle = none;
    (Accepts axisConfigSpec p s r → u8 l 0 = 0 → axisAt p 1 = some a → Answers (.axisConfig p) s fun u =>
      (alone → (∀ q ∈ s.trig.runs, q.op = 9 → q.num ≠ a.val) → RepliesOk axisConfigSpec p r s u 0
        ∧ s.ordered { u with axes := s.axes } = s.ordered s1) ∧ u.axes[a].st = .idle ∧ u.axes[a].cfg.enc = encAt (u8 l 3)
        ∧ u.axes[a].cfg.ratio = u64 l 8 ∧ u.axes[a].pos = x.pos ∧ u.axes[a].plan = none ∧ u.axes[a].kept = none
        ∧ u.axes[a].drive.en = true ∧ (∀ k, k ≠ a → u.axes[k] = s.axes[k])
        ∧ ∀ q, (s.trig.runs.find? fun q => q.op = 9 && q.num = a.val) = some q → u.trig.runs = s.trig.runs.filter fun y => y.seq ≠ q.seq)
    ∧ (∀ e : Fin 8, Accepts axisConfigSpec p s r → u8 l 0 = 1 → encAt (u8 l 1) = some e → Answers (.axisConfig p) s fun u =>
      RepliesOk axisConfigSpec p r s u 0 ∧ u.encs[e].pos = i64 l 8 ∧ u.encs[e].estEdges = u8 l 4
        ∧ u.encs[e].invert = (u8 l 2).testBit 0 ∧ u.encs[e].posInvalid = Encoder.fresh.posInvalid
        ∧ ∀ k, k ≠ e → u.encs[k] = s.encs[k])
    ∧ (Accepts axisLimitsSpec p s r → axisAt p 0 = some a → x.st ≠ .moving → x.st ≠ .homing →
      let x' := { x with lim := Limits.parse l };
      Answers (.axisLimits p) s fun u => RepliesOk axisLimitsSpec p r s u 0
        ∧ s.ordered u = s.ordered { s1 with axes := s.axes.set a x' })
    ∧ (Accepts moveToSpec p s r → axisAt p 0 = some a → x.st = .idle →
      let target := moveToTarget x l;
      let w := moveValues x.lim (u32 l 16) (u32 l 20) (u32 l 24);
      let y := x.movePlan now target w.1 w.2.1 w.2.2;
      (y.plan.isSome = true → Answers (.moveTo p) s fun u => u.axes[a].st = .moving ∧ u.axes[a].plan = y.plan
        ∧ u.axes[a].waits.seq = some seq ∧ u.axes[a].kept = none
        ∧ u.axes[a].move = { kind := .position, target, vel := 0, v := w.1, a := w.2.1, j := w.2.2 })
      ∧ (y.plan = none → Answers (.moveTo p) s fun u => u.axes[a].st = .idle ∧ u.axes[a].plan = none
        ∧ u.axes[a].move = Move.none ∧ u.axes[a].pos = x.pos))
    ∧ (Accepts moveVelocitySpec p s r → axisAt p 0 = some a → i32 l 8 ≠ 0 → x.softOn = false → Answers (.moveVelocity p) s fun u =>
      u.axes[a].st = .moving ∧ u.axes[a].plan.isSome = true ∧ u.axes[a].waits.seq = some seq ∧ u.axes[a].kept = none
        ∧ u.axes[a].move.kind = .velocity ∧ u.axes[a].move.vel = i32 l 8)
    ∧ (Accepts stopSpec p s r → axisAt p 0 = some a →
      (x.st = .idle → s.groupOfAxis a = none → Answers (.stop p) s fun u =>
        RepliesOk stopSpec p r s u (result32 x.remain) ∧ s.ordered u = s.ordered s1)
      ∧ ((x.st = .disabled ∨ x.st = .parked ∨ x.st = .fault) →
        ((∀ due, x.waits.settle ≠ some (due, .resume)) → Answers (.stop p) s fun u =>
          RepliesOk stopSpec p r s u (result32 x.remain) ∧ s.ordered u = s.ordered s1)
        ∧ ∀ due, x.waits.settle = some (due, .resume) → Answers (.stop p) s fun u =>
          u.axes[a] = { x with waits.settle := none, waits.seq := none, drive.en := false }
            ∧ ∀ k, k ≠ a → u.axes[k] = s.axes[k])
      ∧ (x.st = .moving →
        let y := if u8 l 1 = 1 then x.stopPlan now x.lim.aStop x.lim.jStop
          else if x.move.a = 0 ∨ x.move.j = 0 then x.stopPlan now x.lim.a x.lim.j else x.stopPlan now x.move.a x.move.j;
        y.plan.isSome = true → Answers (.stop p) s fun u => u.axes[a].st = .stopping ∧ u.axes[a].plan = y.plan
          ∧ u.axes[a].kept = x.keep.kept ∧ seq ∈ u.axes[a].waits.stops ∧ u.axes[a].gear = none))
    ∧ (∀ k, Accepts resumeSpec p s r → axisAt p 0 = some a → x.kept = some k → k.move.kind = .position → x.plan = none → alone →
      let m := k.move.within x.lim;
      let y := x.movePlan now m.target m.v m.a m.j;
      (x.drive.en = true → y.plan.isSome = true → Answers (.resume p) s fun u => u.axes[a].st = .moving
        ∧ u.axes[a].plan.isSome = true ∧ u.axes[a].kept = none ∧ u.axes[a].move = m ∧ u.axes[a].waits.seq = some seq)
      ∧ (x.drive.en = false → Answers (.resume p) s fun u => u.axes[a].drive.en = true ∧ u.axes[a].kept = some k
        ∧ u.axes[a].waits.settle = some (now + x.drive.lev.enSettle * 1500, .resume) ∧ u.axes[a].waits.seq = some seq))
    ∧ (Accepts homeSpec p s r → axisAt p 0 = some a → u8 l 1 ≠ 3 → (if u8 l 1 = 2 then x.limActive else x.homeActive) = false → x.waits.settle = none →
      Answers (.home p) s fun u => u.axes[a].st = .homing ∧ u.axes[a].drive.en = true
        ∧ u.axes[a].waits.settle = (if x.drive.en then none else some (now + x.drive.lev.enSettle * 1500, .home))
        ∧ ∃ h, u.axes[a].home = some h ∧ h.seq = seq ∧ h.step = (if x.drive.en then 2 else 1) ∧ h.method = u8 l 1 ∧ h.homePos = i64 l 24 ∧ h.origin = x.pos)
    ∧ (Accepts gearSetSpec p s r → axisAt p 0 = some a →
      (∀ e : Fin 8, u8 l 1 = 0 → encAt (u8 l 2) = some e → Answers (.gearSet p) s fun u => u.axes[a].st = .geared
        ∧ (∃ g, u.axes[a].gear = some g ∧ g.src = e ∧ g.r2 = i64 l 8 ∧ g.x = s.encs[e].pos ∧ g.p = x.pos)
        ∧ (u32 l 4 = 0 → alone → RepliesOk gearSetSpec p r s u 0) ∧ (u32 l 4 ≠ 0 → alone → u.cmd.replies = s.cmd.replies))
      ∧ (u8 l 1 ≠ 0 → (x.stopPlan now x.lim.a x.lim.j).plan.isSome = true → Answers (.gearSet p) s fun u =>
        u.axes[a].st = .stopping ∧ u.axes[a].gear = none ∧ u.axes[a].waits.disengage = some seq
          ∧ u.axes[a].plan = (x.stopPlan now x.lim.a x.lim.j).plan))
    ∧ (∀ g, Accepts gearRatioAtSpec p s r → axisAt p 0 = some a → x.gear = some g → Answers (.gearRatioAt p) s fun u =>
      u.axes[a].gear = some { g with next := some { up := u8 l 1 = 0, pos := i64 l 8, ratio := i64 l 16, blend := u32 l 4, seq } }
        ∧ u.axes[a].st = .geared ∧ ∀ k, k ≠ a → u.axes[k] = s.axes[k])
    ∧ (Accepts holdParkSpec p s r → axisAt p 0 = some a →
      let k : Parking := { seq, waking := u8 l 1 = 1, ramp := u16 l 4 * 1500000, powerOff := u8 l 2 = 1 };
      let from_ := if u8 l 1 = 1 then x.drive.lev.iPark else x.drive.cur.now now;
      let to_ := if u8 l 1 = 1 then x.drive.lev.iHold else x.drive.lev.iPark;
      let x' := if u8 l 1 = 1 ∧ x.drive.parked.powerOff = true then
          { x with drive.en := true, waits.park := some k, waits.settle := some (now + x.drive.lev.enSettle * 1500, .wake) }
        else { x.rampCur now k.ramp from_ to_ with waits.park := some k };
      Answers (.holdPark p) s fun u => u.cmd.replies = s.cmd.replies
        ∧ s.ordered u = s.ordered { s1 with axes := s.axes.set a x' })

/-- 06 R136, R137, R139, R146, R156, R161, 12 R297: what comes to an axis or an encoder by itself: a step at its instant, a
count of a master, a STOP task, the index, a standstill, a switch.
Shown to complete, by a conclusion that exec answers a next state: stepEvent, gearCount, stopRamp, stopQuick,
encoderIndex, encoderStandstill, homeSwitchEdge, limitSwitch. -/
def Obligations.AxesFollowTheirInputs : Prop :=
  ∀ (s : State) (t : Nat) (a : Fin 12) (e : Fin 8), s.Live →
    let s1 := s.advance t;
    let now := s1.ticks;
    let x := s.axes[a];
    let c := s.encs[e];
    let set (x' : Axis) : State := { s1 with axes := s.axes.set a x' };
    let act (k : Nat) (y : Activation) : Prop :=
      (s.evf.acts.find? fun y => y.task == { num := 14 * 64 + k, inst := a.val } && decide (y.tick ≤ now)) = some y;
    (∀ due pos, x.st = .moving → x.home = none → x.waits.settle = none → x.nextStep = some (due, pos) →
      (due ≤ now → Answers (.stepEvent t a) s fun u => u.axes[a].pos = pos ∧ u.axes[a].steps.steps = x.steps.steps + 1
        ∧ ∀ k, k ≠ a → u.axes[k].pos = s.axes[k].pos)
      ∧ (now < due → Answers (.stepEvent t a) s fun u => s.calm u = s1))
    ∧ (∀ y g edge, act 2 y → y.edges = [edge] → x.gear = some g → x.st = .geared → Answers (.gearCount t a) s fun u =>
      ∃ h, u.axes[a].gear = some h ∧ h.x = edge.pos ∧ h.src = g.src ∧ h.stamp = edge.tick ∧ u.axes[a].pos = x.pos)
    ∧ (∀ y, act 0 y → (x.st = .idle → s.groupOfAxis a = none → Answers (.stopRamp t a) s fun u =>
        s.calm u = { s1 with evf.acts := s.evf.acts.erase y })
      ∧ (x.st = .moving →
        let z := if x.move.a = 0 ∨ x.move.j = 0 then x.stopPlan now x.lim.a x.lim.j else x.stopPlan now x.move.a x.move.j;
        z.plan.isSome = true → Answers (.stopRamp t a) s fun u =>
          u.axes[a].st = .stopping ∧ u.axes[a].plan = z.plan ∧ u.axes[a].kept = x.keep.kept))
    ∧ (∀ y, act 1 y → x.st = .moving → (x.stopPlan now x.lim.aStop x.lim.jStop).plan.isSome = true →
      Answers (.stopQuick t a) s fun u => u.axes[a].st = .stopping ∧ u.axes[a].kept = x.keep.kept
        ∧ u.axes[a].plan = (x.stopPlan now x.lim.aStop x.lim.jStop).plan)
    ∧ (∀ pa pb, s.fittedBlock (.enc e) = true → c.idxEn = true → (c.idxGate = false ∨ (pa && pb) = true) →
      (∀ k : Fin 12, s.axes[k].cfg.enc ≠ some e) →
      let c' := { c with idxPos := c.pos, pos := if c.idxMode then c.preset else c.pos, idxMode := false, idxCnt := c.idxCnt + 1
                         evt := setBit c.evt 2, log := if c.idxMode then (now, c.preset) :: c.log else c.log };
      Answers (.encoderIndex t e pa pb) s fun u => s.hush u = s.hush { s1 with encs := s.encs.set e c' })
    ∧ (∀ last, c.lastEdge = some last → last + 300000 ≤ now → c.still = false →
      let c' := { c with still := true };
      Answers (.encoderStandstill t e) s fun u => u.encs = s.encs.set e c'
        ∧ ((∀ g : Fin 4, s.pace.groups[g].sb = none ∧ s.pace.groups[g].gapStop = false) →
            s.hush { u with axes := s.axes } = s.hush { s1 with encs := s.encs.set e c' }
            ∧ ∀ k : Fin 12, u.axes[k] = if s.axes[k].st = .geared ∧ s.axes[k].gear.any (fun g => g.src == e) = true then
                { s.axes[k] with drive.res := 0 } else s.axes[k]))
    ∧ (∀ active, s.fittedBlock (.ax a) = true → x.home = none →
      let xh := { x with homeActive := active };
      let xl := { x with limActive := active };
      (Answers (.homeSwitchEdge t a active) s fun u => s.calm u = set xh)
      ∧ ((x.st = .idle ∨ x.st = .disabled ∨ x.st = .parked ∨ x.st = .fault) → Answers (.limitSwitch t a active) s fun u =>
        s.calm u = set xl)
      ∧ (x.st = .moving → active = true → (if x.cfg.limDir then 0 < (x.kin now).v else (x.kin now).v < 0) →
        Answers (.limitSwitch t a active) s fun u => (u.axes[a].st = .stopping ∨ u.axes[a].st = .fault)
          ∧ u.axes[a].faultCause = 3 ∧ u.axes[a].evt.getLsbD 3 = true ∧ u.axes[a].kept = x.keep.kept))

/-- 07 R172 to R177, R180 to R182, Table 7.4: the chopper's periods, a bridge fault, the settling of the bridges, parking
ramps, the fall of the current at rest, and the request of a load sample.
Shown to complete, by a conclusion that exec answers a next state: chopBlankEnd, chopTrip, chopOffEnd, chopOnMax,
bridgeFault, enSettleDone, parkRampDone, wakeRampDone, holdCurrentDelay, loadSampleRequest. -/
def Obligations.DrivesFollowTheirRules : Prop :=
  ∀ (s : State) (t : Nat) (a : Fin 12), s.Live →
    let s1 := s.advance t;
    let now := s1.ticks;
    let x := s.axes[a];
    let set (x' : Axis) : State := { s1 with axes := s.axes.set a x' };
    (∀ ph : Phase,
      let y := x.phaseSync now ph;
      let c := y.chop ph;
      (c.st = .on → c.blanked = false → c.since + x.drive.chop.tBlank ≤ now →
        (Answers (.chopBlankEnd t a ph false) s fun u => s.calm u = set (y.setChop ph { c with blanked := true }))
        ∧ Answers (.chopBlankEnd t a ph true) s fun u =>
          s.calm u = set ((y.setChop ph { c with blanked := true, onMaxRun := 0 }).phaseOff now ph))
      ∧ (c.st = .on → c.blanked = true → Answers (.chopTrip t a ph) s fun u =>
        s.calm u = set ((y.setChop ph { c with onMaxRun := 0 }).phaseOff now ph))
      ∧ ((x.chop ph).st = .off → (x.chop ph).since + x.drive.chop.tOff ≤ now → Answers (.chopOffEnd t a ph) s fun u =>
        s.calm u = set (x.phaseOn now ph))
      ∧ (c.st = .on → c.since + x.drive.chop.tOnMax ≤ now → Answers (.chopOnMax t a ph) s fun u =>
        (u.axes[a].chop ph).st = .off ∧ (u.axes[a].chop ph).since = now ∧ (u.axes[a].chop ph).onMax = sat16 (c.onMax + 1)
          ∧ ∀ k, k ≠ a → u.axes[k] = s.axes[k]))
    ∧ (s.fittedBlock (.ax a) = true → x.drive.chop.flags.testBit 1 = true →
      (let x' := { x with drive.fltLow := false };
        Answers (.bridgeFault t a false) s fun u => s.calm u = set x')
      ∧ ((x.st = .idle ∨ x.st = .moving ∨ x.st = .stopping ∨ x.st = .geared) → x.waits.settle = none →
        Answers (.bridgeFault t a true) s fun u => u.axes[a].st = .fault ∧ u.axes[a].positionLost = true
          ∧ u.axes[a].faultCause = 2 ∧ u.axes[a].drive.en = false ∧ u.axes[a].plan = none ∧ u.axes[a].pos = x.pos
          ∧ u.axes[a].kept = x.keep.kept
          ∧ ((∀ f, x.drive.stalled = some f → f.1 ≠ now) → u.ldg.faultNext = s.takeFault.ldg.faultNext)))
    ∧ (∀ due what, x.waits.settle = some (due, what) → due ≤ now → Answers (.enSettleDone t a) s fun u =>
      u.axes[a].waits.settle = none ∧ (what = .wake → u.axes[a].drive.en = true ∧ u.axes[a].pos = x.pos))
    ∧ (∀ k, x.waits.park = some k → x.rampDone now = true →
      (k.waking = false → Answers (.parkRampDone t a) s fun u => u.axes[a].st = .parked ∧ u.axes[a].waits.park = none
        ∧ u.axes[a].drive.parked.valid = true ∧ u.axes[a].drive.parked.pos = x.pos ∧ u.axes[a].drive.parked.idx = x.index
        ∧ u.axes[a].drive.en = (x.drive.en && !k.powerOff))
      ∧ (k.waking = true → x.waits.settle = none → Answers (.wakeRampDone t a) s fun u => u.axes[a].st = .idle
        ∧ u.axes[a].waits.park = none ∧ u.axes[a].pos = x.pos ∧ (x.cfg.enc = none → u.axes[a].positionLost = x.positionLost)))
    ∧ (x.drive.lev.holdDelay ≠ 0 → x.steps.last + x.drive.lev.holdDelay * 1500000 ≤ now → x.st ≠ .disabled → x.st ≠ .parked →
      x.waits.park = none → x.drive.lev.iHold < x.drive.cur.hi →
      Answers (.holdCurrentDelay t a) s fun u =>
        s.calm u = set (x.rampCur now 24000000 (x.drive.cur.now now) x.drive.lev.iHold))
    ∧ ∀ t0 ph v, x.drive.load.wait = some (t0, ph, v) → x.drive.load.asked = false → t0 + x.drive.ld.zc ≤ now →
      Answers (.loadSampleRequest t a) s fun u => u.axes[a].drive.load.asked = true
        ∧ ∃ q, u.madc.urgent.getLast? = some q ∧ q.who = .axis a ∧ q.input = 2 * a.val + (if ph = .a then 0 else 1) ∧ q.due = now

/-! ### The measurement converter (08) -/

/-- 08 R190, R191, R193, R196, R201 to R204: MADC_SEQUENCE sets one sequence; MADC_START arms, triggers, disarms or aborts
the sequences of its mask or sets the queue's ring and threshold; MADC_URGENT joins the urgent requests, after those that a
core has taken by now (log entry 94), and is answered later; REFBUF_ENABLE switches the reference buffer and answers with the microseconds left until it has settled.
Shown to complete, by a conclusion that exec answers a next state: madcSequence, madcStart, madcUrgent, refbufEnable. -/
def Obligations.ConverterCommandsTakeEffect : Prop :=
  ∀ (p : Packet) (s : State) (r : Ring),
    let l := p.params;
    let now := (s.advance p.tick).ticks;
    let m := (s.advance p.tick).urgentTake.madc;
    let named (q : Fin 16) : Prop := (u16 l 0).testBit q.val = true;
    let madcOnly (u : State) : Prop := s.ordered { u with madc := s.madc } = s.ordered { s.advance p.tick with madc := s.madc };
    (Accepts madcSequenceSpec p s r → Answers (.madcSequence p) s fun u => RepliesOk madcSequenceSpec p r s u 0 ∧ madcOnly u
      ∧ (∀ q : Fin 16, if q.val = u8 l 0 then u.madc.seqs[q] = { s.madc.seqs[q] with
            core := u8 l 1, mode := u8 l 2, entries := madcEntries p, pins := u8 l 4, edges := u8 l 5, wm := (u8 l 6).testBit 0
            queue := (u8 l 6).testBit 1, period := u32 l 8, last := List.replicate (u8 l 3) 0 }
          else u.madc.seqs[q] = s.madc.seqs[q])
      ∧ u.madc.cores = s.madc.cores ∧ u.madc.q = s.madc.q)
    ∧ (Accepts madcStartSpec p s r →
      (u8 l 2 = 0 → Answers (.madcStart p) s fun u => RepliesOk madcStartSpec p r s u 0 ∧ u.madc.cores = s.madc.cores
        ∧ ∀ q : Fin 16, (named q → u.madc.seqs[q] = { s.madc.seqs[q] with
            armed := true, lastTrig := none, nextTick := now + s.madc.seqs[q].period })
          ∧ (¬ named q → u.madc.seqs[q] = s.madc.seqs[q]))
      ∧ (u8 l 2 = 1 → (∀ k : Fin 2, s.madc.cores[k].run.isSome = true) → Answers (.madcStart p) s fun u =>
        RepliesOk madcStartSpec p r s u 0 ∧ u.madc.cores = m.cores
        ∧ ∀ q : Fin 16, (named q → u.madc.seqs[q] = m.seqs[q].triggered (s.seqRunning q) now)
          ∧ (¬ named q → u.madc.seqs[q] = m.seqs[q]))
      ∧ (u8 l 2 = 2 → (∀ q, named q → s.seqRunning q = false) → Answers (.madcStart p) s fun u =>
        RepliesOk madcStartSpec p r s u 0 ∧ u.madc.cores = s.madc.cores
        ∧ ∀ q : Fin 16, (named q → u.madc.seqs[q] = { s.madc.seqs[q] with armed := false, pend := false })
          ∧ (¬ named q → u.madc.seqs[q] = s.madc.seqs[q]))
      ∧ (u8 l 2 = 3 → (∀ q : Fin 16, s.madc.seqs[q].stops = []) → Answers (.madcStart p) s fun u =>
        RepliesOk madcStartSpec p r s u 0
        ∧ ∀ q : Fin 16, named q → u.madc.seqs[q].armed = false ∧ u.madc.seqs[q].pend = false
          ∧ ∀ (k : Fin 2) (x : MadcRun), u.madc.cores[k].run = some x → x.seq ≠ q)
      ∧ (u8 l 2 = 4 → Answers (.madcStart p) s fun u => RepliesOk madcStartSpec p r s u 0
        ∧ u.madc = { s.madc with q := { s.madc.q with ring := u16 l 4, thresh := u16 l 6 } }))
    ∧ (Accepts madcUrgentSpec p s r → (∀ x ∈ s.madc.urgent, x.who ≠ .software) → Answers (.madcUrgent p) s fun u =>
      u.cmd.replies = s.cmd.replies ∧ madcOnly u ∧ u.madc = { m with urgent := m.urgent ++ [{
        who := .software, input := u8 l 0, raw := decide (u8 l 1 = 1), due := now, seq := some s.acceptSeq }] })
    ∧ (Accepts refbufEnableSpec p s r → Answers (.refbufEnable p) s fun u => madcOnly u
      ∧ u.madc.refOn = decide (u8 l 0 = 1) ∧ u.madc.refMout = decide (u8 l 1 = 1) ∧ (∀ q : Fin 16, { u.madc.seqs[q] with nextTick := s.madc.seqs[q].nextTick } = s.madc.seqs[q])
      ∧ (u8 l 0 ≠ 1 → RepliesOk refbufEnableSpec p r s u 0 ∧ u.madc.refSettled = (!s.madc.refOn && s.madc.refSettled))
      ∧ (u8 l 0 = 1 → s.madc.refOn = false → RepliesOk refbufEnableSpec p r s u 5000 ∧ u.madc.refSettled = false
          ∧ u.madc.refTick = now)
      ∧ (u8 l 0 = 1 → s.madc.refOn = true → s.madc.refSettled = true → RepliesOk refbufEnableSpec p r s u 0
          ∧ u.madc.refTick = s.madc.refTick ∧ u.madc.refSettled = true))

/-- 08 R189 to R196, R199: a trigger from a pin, a task or a period counts on its sequence, which waits behind a busy core
and starts on a free one; an entry whose samples are complete gives its result and the next entry begins, and the last
ends the run; an urgent conversion that a core has taken (log entry 94) ends 900 ticks later with its result; a slot that is not full leaves
the queue 100 microseconds after its first entry; the reference has settled 5 ms after it went on.
Shown to complete, by a conclusion that exec answers a next state: madcTrigPin, seqTrig, madcPeriodTrigger,
madcConversionDone, urgentResult, madcSlotFlush, refSettled. -/
def Obligations.SequencesRunEntryByEntry : Prop :=
  ∀ (s : State) (t : Nat), s.Live →
    let s1 := s.advance t;
    let now := s1.ticks;
    let m := s1.urgentTake.madc;
    let bothBusy : Prop := ∀ k : Fin 2, s.madc.cores[k].run.isSome = true;
    let oneCounts (q : Fin 16) (x : MadcSeq) (u : State) : Prop :=
      ∀ p : Fin 16, u.madc.seqs[p] = if p = q then x else m.seqs[p];
    (∀ (pin : Fin 4) (rising : Bool),
      (bothBusy → s.sys.mode ≠ .dormant → Answers (.madcTrigPin t pin rising) s fun u =>
        u.madc.cores = m.cores ∧ ∀ q : Fin 16,
          let x := m.seqs[q];
          let sel := bitsOf x.edges (2 * pin.val + 1) (2 * pin.val);
          ((x.pins.testBit pin.val = true ∧ (sel = 2 ∨ (sel = 0 ↔ rising = true))) →
            u.madc.seqs[q] = x.triggered (s.seqRunning q) now)
          ∧ (¬ (x.pins.testBit pin.val = true ∧ (sel = 2 ∨ (sel = 0 ↔ rising = true))) → u.madc.seqs[q] = x))
      ∧ (s.sys.mode = .dormant → Answers (.madcTrigPin t pin rising) s fun u => s.hush u = s.hush s1))
    ∧ (∀ (q : Fin 16) (x : Activation),
      (s.evf.acts.find? fun x => x.task == { num := 5 * 64 + q.val, inst := 0 } && decide (x.tick ≤ now)) = some x →
      (s.madc.seqs[q].wm = false → Answers (.seqTrig t q) s fun u =>
        s.calm u = { s1 with evf.acts := s.evf.acts.erase x })
      ∧ (s.madc.seqs[q].wm = true → bothBusy → Answers (.seqTrig t q) s fun u =>
        u.madc.cores = m.cores ∧ oneCounts q (m.seqs[q].triggered (s.seqRunning q) now) u)
      ∧ (s.madc.seqs[q].wm = true → s.madc.seqs[q].armed = true → s.madc.seqs[q].lastTrig = none → s.madc.seqs[q].core < 2 →
        (∀ k : Fin 2, s.madc.cores[k].run = none) → (∀ p : Fin 16, s.madc.seqs[p].pend = false) →
        Answers (.seqTrig t q) s fun u =>
          oneCounts q { m.seqs[q] with lastTrig := some now } u
          ∧ ∀ k : Fin 2, u.madc.cores[k].run =
            if k.val = s.madc.seqs[q].core then (m.cores[k].begin q 0 now).run else none))
    ∧ (∀ q : Fin 16, let x := m.seqs[q]; x.armed = true → x.mode = 2 → x.nextTick ≤ now → bothBusy →
      Answers (.madcPeriodTrigger t q) s fun u => u.madc.cores = m.cores
        ∧ oneCounts q (({ x with nextTick := x.nextTick + x.period } : MadcSeq).triggered (s.seqRunning q) now) u)
    ∧ (∀ (k : Fin 2) (run : MadcRun) (e : MadcEntry) (samples : List Int), m.cores[k].run = some run →
      s.madc.seqs[run.seq].entries[run.entry]? = some e →
      (run.done < e.count → run.start + 75 * e.settle + 750 * (e.count - run.done) ≤ now) → e.count ≤ samples.length →
      let x := m.seqs[run.seq];
      let w := m.cores[k].result e run.seq.val (x.last.getD run.entry 0) (run.unsettled || m.sampleUnsettled run e now) samples;
      (run.entry + 1 < x.entries.length → Answers (.madcConversionDone t k samples) s fun u =>
        oneCounts run.seq { x with last := x.last.set run.entry w.1 } u
        ∧ u.madc.cores[k].run = (m.cores[k].begin run.seq (run.entry + 1) now).run
        ∧ (x.queue = false → u.madc.q = s.madc.q))
      ∧ (x.entries.length ≤ run.entry + 1 → x.stops = [] → (∀ p : Fin 16, s.madc.seqs[p].pend = false) →
        (x.armed = true → x.mode ≠ 1) → Answers (.madcConversionDone t k samples) s fun u =>
        oneCounts run.seq { x with last := x.last.set run.entry w.1, runs := x.runs + 1 } u
        ∧ u.madc.cores[k].run = none ∧ u.madc.seqDone = setBit s.madc.seqDone run.seq.val))
    ∧ (∀ (k : Fin 2) (x : UrgentConv) (samples : List Int), m.cores[k].urg = some x → x.at_ + 900 ≤ now →
      let zs := m.cores[k].zs x.req.raw;
      let v := madcCode zs.1 zs.2 (samples.headD 0);
      Answers (.urgentResult t k samples) s fun u => u.madc.urgCnt = s.madc.urgCnt + 1
        ∧ u.madc.urgLast = resultWord (x.req.input + 0x40) v.1 0 v.2.1 v.2.2 false
            (x.unsettled.getD (s.refUnsettled (x.at_ + 150)))
        ∧ (x.req.who = .software → u.madc.cores[k].urg = none ∧ u.madc.urgent = m.urgent ∧ u.madc.q = s.madc.q))
    ∧ (∀ t0, s.madc.q.times.head? = some t0 →
      (now < t0 + 150000 → Answers (.madcSlotFlush t) s fun u => s.calm u = s1)
      ∧ ∀ q, t0 + 150000 ≤ now → s.ring? s.madc.q.ring = some q → s.madc.q.ring ≠ 0 → s.madc.q.entries ≠ [] →
        s.madc.q.entries.length < 8 → q.room ≠ 0 → q.waitDoorbell = false → s.canHost q.secure = true →
        s.dma.chans[(10 : Fin 32)].stuck = false → s.second = false → Answers (.madcSlotFlush t) s fun u =>
          u.madc.q.entries = [] ∧ u.madc.q.times = s.madc.q.times.drop 8 ∧ u.madc.seqs = s.madc.seqs)
    ∧ (s.madc.refOn = true → s.madc.refTick + 7500000 ≤ now → Answers (.refSettled t) s fun u =>
      s.calm u = { s1 with madc.refSettled := true })
    ∧ (now < s.madc.refTick + 7500000 → Answers (.refSettled t) s fun u => s.calm u = s1)

/-! ### Trig and the weathering planner (09, 13) -/

/-- 09 R208, R209, R211, R212, R218, R219, R221, Table 9.6: a calibration of a port that captures waits for the seal, a gap
request is queued; elsewhere the port enters CAL once its lanes are ready and no line is in progress; a converter core is
held, a drive measured. CAL_COMMIT discards candidates or stores the first of them, CAL_REVERT stores the other slot's
record as a new generation, CAL_QUERY answers with the generation in force and 192 bytes.
Shown to complete, by a conclusion that exec answers a next state: calVideo, calShading, calAlign, calMadcZero,
calMadcFull, calDrive, calCommit, calRevert, calQuery. -/
def Obligations.CalibrationCommandsTakeEffect : Prop :=
  ∀ (p : Packet) (s : State) (r : Ring),
    let l := p.params;
    let seq := s.acceptSeq;
    let now := (s.advance p.tick).ticks;
    let m := (s.advance p.tick).urgentTake.madc;
    let waits (u : State) : Prop := u.cmd.replies = s.cmd.replies ∧ u.ports = s.ports ∧ u.trig.cells = s.trig.cells;
    let port (c : Instr) (sp : PacketSpec) (op : Nat) : Prop := Accepts sp p s r → ∀ n, portAt p 0 = some n →
      (s.capturing n = true → gapRequest op p = false → Answers c s fun u => waits u
        ∧ u.trig = { s.trig with runs := s.trig.runs ++ [CalRun.fresh seq op n.val l .deferred (calPhases op l) now] })
      ∧ (s.capturing n = true → gapRequest op p = true → Answers c s fun u =>
        u.cmd.replies = s.cmd.replies ++ [replyOf sp p r s 2 0 0] ∧ u.ports = s.ports
        ∧ u.trig = { s.trig with gaps := s.trig.gaps ++ [{ port := n, op, seq, params := l, lines := 0, sums := [] }] })
      ∧ (s.capturing n = false → (s.ports[n].cfg.digital = true ∨ s.ports[n].vid.ready = true) → s.ports[n].line = none →
        s.docInWay n = false → (∀ x ∈ s.trig.runs, x.seq ≠ seq) →
        (∀ x ∈ s.madc.urgent, x.who ≠ .lamp n) → Answers c s fun u => u.cmd.replies = s.cmd.replies
          ∧ u.ports[n].st = .cal ∧ u.ports[n].waits.ready = false ∧ u.ports[n].waiting = [] ∧ (∀ k, k ≠ n → u.ports[k] = s.ports[k])
          ∧ u.trig.cells = s.trig.cells ∧ ∃ x, u.trig.runs = s.trig.runs ++ [x] ∧ x.seq = seq ∧ x.op = op ∧ x.num = n.val
            ∧ x.params = l ∧ x.wasScan = decide (s.ports[n].st = .scan) ∧ (calPhases op l ≠ [] → x.stage = .phase ∧ x.start = now));
    let core (c : Instr) (sp : PacketSpec) (op : Nat) : Prop := Accepts sp p s r → Answers c s fun u => waits u
      ∧ u.trig = { s.trig with runs := s.trig.runs ++ [CalRun.fresh seq op (u8 l 0 % 2) l .phase [] now] }
      ∧ ∀ k : Fin 2, u.madc.cores[k] = if k.val = u8 l 0 % 2 then { m.cores[k] with held := some seq } else m.cores[k];
    port (.calVideo p) calVideoSpec 1 ∧ port (.calShading p) calShadingSpec 2 ∧ port (.calAlign p) calAlignSpec 3
    ∧ core (.calMadcZero p) calMadcZeroSpec 4 ∧ core (.calMadcFull p) calMadcFullSpec 5
    ∧ (Accepts calDriveSpec p s r → Answers (.calDrive p) s fun u => waits u
      ∧ u.trig = { s.trig with runs := s.trig.runs ++ [CalRun.fresh seq 9 (u8 l 0) l .phase [] now] } ∧ u.axes = s.axes)
    ∧ (Accepts calCommitSpec p s r →
      ((u8 l 3).testBit 0 = true → Answers (.calCommit p) s fun u => RepliesOk calCommitSpec p r s u 0
        ∧ s.ordered { u with trig := s.trig } = s.ordered (s.advance p.tick) ∧ u.trig.stores = s.trig.stores
        ∧ ∀ i : Fin 64, u.trig.cells[i] = if i ∈ s.pendingOf l then { s.trig.cells[i] with cand := none } else s.trig.cells[i])
      ∧ ((u8 l 3).testBit 0 = false → s.trig.stores = [] → s.trig.jobs = [] → ∀ i rest d, s.pendingOf l = i :: rest →
        s.trig.cells[i].cand = some d → Answers (.calCommit p) s fun u => waits u
          ∧ ∃ x, u.trig.stores = [{ item := .trig i s.trig.cells[i].target x, job := some seq, step := 2, taken := some d }]
            ∧ x.head.gen = s.trig.cells[i].top + 1 ∧ x.head.calTime = d.calTime ∧ x.head.resid = d.resid
            ∧ x.head.sourceGen = 0 ∧ ((∀ a b, d.body ≠ .drive a b) → x.body = d.body)))
    ∧ (Accepts calRevertSpec p s r → s.trig.stores = [] → s.trig.jobs = [] → ∀ i rest old, s.revertOf l = i :: rest →
      s.trig.cells[i].other = some old → Answers (.calRevert p) s fun u => waits u
        ∧ ∃ x, u.trig.stores = [{ item := .trig i s.trig.cells[i].target x, job := some seq, step := 2, taken := s.trig.cells[i].cand }]
          ∧ x.head.gen = s.trig.cells[i].top + 1 ∧ x.head.sourceGen = old.head.gen ∧ x.body = old.body)
    ∧ (Accepts calQuerySpec p s r → let i := (calIndices l).headD 0;
      Answers (.calQuery p) s fun u => RepliesOk calQuerySpec p r s u (word (s.trigGen i)) (bufferAt (u64 l 8) (s.calBuffer i))
        ∧ s.ordered u = s.ordered (s.advance p.tick))

/-- 09 R212, R214, R219, R221, Table 9.5: a phase of a port's calibration ends once it has its lines, and the next one
begins; a document in the way or a lamp outside its window ends it with nothing kept; a drive that is steady and in range
forms its candidate; calibrations that waited for the seal enter CAL when the batch has ended.
Shown to complete, by a conclusion that exec answers a next state: calPhaseDone, deferredCalStart. -/
def Obligations.CalibrationsRunTheirPhases : Prop :=
  ∀ (s : State) (t : Nat), s.Live →
    let s1 := s.advance t;
    let now := s1.ticks;
    (∀ (n : Fin 8) (x : CalRun) (sums dark : List (List Nat)) (ovr : Bool) (lamps : List Nat) (bands : List (List Rat)),
      s.portRun n = some x →
      let c : Instr := .calPhaseDone t (.port n sums dark ovr lamps bands);
      let due := x.start + 1500000 * u16 x.params 14 + x.lines * (if u8 x.params 3 = 1 then u32 x.params 4 else 0);
      ((x.stage ≠ .phase ∨ x.expired = true ∨ s.secPaused = true ∨ now < due) → Answers c s fun u => s.calm u = s1)
      ∧ (x.stage = .phase → x.expired = false → s.secPaused = false → due ≤ now → s.docInWay n = true → x.phases ≠ [] → Answers c s fun u => u.trig.cells = s.trig.cells
        ∧ u.trig.runs = s.trig.runs.filter (fun y => y.seq ≠ x.seq) ∧ u.trig.lastDetail = 0x501
        ∧ (s.ports[n].st = .cal → s.ports[n].waits.disarm = [] → s.ports[n].laneFailed = false → u.ports[n].st = if x.wasScan then .scan else .idle))
      ∧ (x.stage = .phase → x.expired = false → s.secPaused = false → due ≤ now → s.docInWay n = false → ∀ ph more, x.phases = ph :: more →
        (x.lampBad (ph = 0) lamps = true → Answers c s fun u => u.trig.cells = s.trig.cells
          ∧ u.trig.runs = s.trig.runs.filter (fun y => y.seq ≠ x.seq) ∧ u.trig.lastDetail = 0x502)
        ∧ (ph = 0 → more ≠ [] → x.lampBad true lamps = false → Answers c s fun u => u.trig.cells = s.trig.cells
          ∧ ∃ y, u.portRun n = some y ∧ y.seq = x.seq ∧ y.darkSum = sums ∧ y.phases = more ∧ y.stage = .phase ∧ y.start = now)))
    ∧ (∀ (a : Fin 12) (x : CalRun) (conv : List Nat) (first again : Nat),
      (s.trig.runs.find? fun r => r.op = 9 && r.num = a.val) = some x → 256 ≤ conv.length →
      x.start + 256 * 750 + 20 * 30000 ≤ now → s.secPaused = false →
      let ints : List Int := conv.map fun (x : Nat) => (x : Int);
      let c := intMean ints;
      let ofs : Int := (first : Int) - ratNearest (c * mkRat 1023 65535);
      variance ints ≤ 9 → mkRat 65535 10 ≤ c →
      (ofs.natAbs ≤ 32 → (u8 x.params 2).testBit 0 = false → Answers (.calPhaseDone t (.drive a conv false first again)) s fun u =>
        u.trig.runs = s.trig.runs.filter (fun y => y.seq ≠ x.seq)
        ∧ ∃ d p q, u.trig.cells[driveIndex a].cand = some d ∧ d.body = .drive p q
          ∧ (if u8 x.params 1 = 1 then q else p) = { ua := (ratNearest ((u32 x.params 4 : Rat) * 65536 / c)).toNat, ofs })
      ∧ (32 < ofs.natAbs → Answers (.calPhaseDone t (.drive a conv false first again)) s fun u =>
        u.trig.runs = s.trig.runs.filter (fun y => y.seq ≠ x.seq) ∧ u.trig.cells = s.trig.cells ∧ u.trig.lastDetail = 0x514))
    ∧ ((s.sys.batchState ≠ .none ∨ s.secPaused = true) → Answers (.deferredCalStart t) s fun u => s.calm u = s1)
    ∧ (∀ x, s.sys.batchState = .none → s.secPaused = false → (s.trig.runs.filter fun r => r.stage = .deferred) = [x] →
      let n := x.port;
      (s.ports[n].cfg.digital = true ∨ s.ports[n].vid.ready = true) → s.ports[n].line = none → s.docInWay n = false →
      Answers (.deferredCalStart t) s fun u => u.ports[n].st = .cal ∧ u.ports[n].waits.ready = false ∧ u.trig.cells = s.trig.cells
        ∧ ∀ k, k ≠ n → u.ports[k] = s.ports[k])

/-- 09 R225, Table 9.10, 13 R317, R321, R324, R325: a store in the flash goes through its three steps in their order, a
failed erase leaves an invalid slot (log entry 128), a failed program step an empty one, and both are counted; a complete
store is in force; none of them goes on while the secure controller starts. A weathering plan that is due is made and
stored outside DORMANT and waits for the wake in it; a sagging supply makes a plan due. What a plan holds is open (log entry
4), and nothing here rests on it.
Shown to complete, by a conclusion that exec answers a next state: nvmEraseDone, nvmProgramDone, nvmCheckDone,
weatherPlan, vddSag. -/
def Obligations.StoresAndPlansFollowTheirSteps : Prop :=
  ∀ (s : State) (t : Nat), s.Live →
    let s1 := s.advance t;
    let nvm (k : Nat) (c : Instr) (c' : Instr) (next : NvmStore → NvmStore) (left : SlotState TrigRecord) : Prop :=
      ∀ x rest, s.trig.stores = x :: rest →
        ((x.step ≠ k ∨ s.secPaused = true) → Answers c s fun u => s.calm u = s1)
        ∧ (x.step = k → s.secPaused = false →
          (Answers c s fun u => u.trig.stores = next x :: rest ∧ u.trig.jobs = s.trig.jobs
            ∧ u.cmd.replies = s.cmd.replies)
          ∧ Answers c' s fun u => u.trig.nvmErr = satInc s.trig.nvmErr
            ∧ ∀ i b r, x.item = .trig i b r → (if b then u.trig.cells[i].b else u.trig.cells[i].a) = left
              ∧ u.trig.cells[i].force = s.trig.cells[i].force);
    nvm 2 (.nvmEraseDone t true) (.nvmEraseDone t false) (fun x => { x with step := 3 }) .invalid
    ∧ nvm 3 (.nvmProgramDone t .ok) (.nvmProgramDone t .failed) (fun x => { x with step := 4 }) .empty
    ∧ (∀ x rest, s.trig.stores = x :: rest → x.step = 4 → s.secPaused = false → Answers (.nvmCheckDone t true) s fun u =>
      (∀ i b r, x.item = .trig i b r → (if b then u.trig.cells[i].b else u.trig.cells[i].a) = .valid r
        ∧ u.trig.cells[i].force = some b ∧ u.trig.cells[i].rev = false ∧ u.trig.nvmErr = s.trig.nvmErr)
      ∧ ∀ k b, x.item = .boot k b → u.trig.boot[k] = .valid b ∧ u.trig.cells = s.trig.cells)
    ∧ (∀ (mon : List Nat) (temps : List Int) (mv : Nat) (tables : List (List Nat)),
      ((s1.planIsDue = false ∨ s.wea.planning = true ∨ s.secPaused = true ∨ s.sys.mode = .safe ∨ s.sys.mode = .startUp) →
        Answers (.weatherPlan t mon temps mv tables) s fun u => s.calm u = s1)
      ∧ (s1.planIsDue = true → s.wea.planning = false → s.secPaused = false →
        (s.sys.mode = .dormant → Answers (.weatherPlan t mon temps mv tables) s fun u =>
          s.calm u = { s1 with wea.due := true })
        ∧ (s.sys.mode ≠ .dormant → s.sys.mode ≠ .safe → s.sys.mode ≠ .startUp →
          Answers (.weatherPlan t mon temps mv tables) s fun u =>
            u.wea = { s.wea with planning := true, due := false, storeFailed := false, lastPlan := s1.ns, vddLow := 0
                                 monitors := (List.range 64).map fun k => mon.getD k 0 }
            ∧ (∃ x, (u.trig.stores.drop s.trig.stores.length).head? = some x ∧ x.step = 2 ∧ x.job = none
              ∧ ∃ b rec, x.item = .trig planIndex b rec)
            ∧ u.trig.stores.take s.trig.stores.length = s.trig.stores ∧ u.trig.cells = s.trig.cells ∧ u.ports = s.ports)))
    ∧ ∀ (mv : Nat) h b, s.planOf = some (h, b) →
      (mv + 10 < b.planMv → Answers (.vddSag t mv) s fun u => s.calm u = { s1 with
        wea := { s.wea with due := true, vddLow := if s.wea.vddLow = 0 then mv else min s.wea.vddLow mv } })
      ∧ (b.planMv ≤ mv + 10 → Answers (.vddSag t mv) s fun u => s.calm u = s1)
end

