-- ==== Sys2Proof/Laws/Mem.lean ====
section
/-! SUPPORT. The sparse memories: every operation keeps the canonical form, a byte written reads back, and every other byte
reads as before. -/

namespace Sys2Proof.Machine

theorem Mem_put_mem {d : Option Byte} {a : Nat} {b : Byte} {m : List Host.Cell} {c : Host.Cell} :
    c ∈ Mem.put d a b m → (c = (a, b) ∧ d ≠ some b) ∨ c ∈ m := by
  induction m with
  | nil =>
    unfold Mem.put
    split
    · simp
    · intro h; exact .inl ⟨by simpa using h, ‹_›⟩
  | cons x m ih =>
    unfold Mem.put
    split
    · split
      · exact .inr
      · intro h
        rcases List.mem_cons.1 h with rfl | h
        · exact .inl ⟨rfl, ‹_›⟩
        · exact .inr h
    · split
      · split
        · exact fun h => .inr (List.mem_cons_of_mem _ h)
        · intro h
          rcases List.mem_cons.1 h with rfl | h
          · exact .inl ⟨rfl, ‹_›⟩
          · exact .inr (List.mem_cons_of_mem _ h)
      · intro h
        rcases List.mem_cons.1 h with rfl | h
        · exact .inr (List.mem_cons_self ..)
        · exact (ih h).imp id (List.mem_cons_of_mem _)

/-- Writing a byte keeps the canonical form. -/
theorem Mem_put_wf {d : Option Byte} (a : Nat) (b : Byte) {m : List Host.Cell} (h : Mem.wf d m) :
    Mem.wf d (Mem.put d a b m) := by
  refine ⟨?_, fun c hc => ?_⟩
  · induction m with
    | nil => unfold Mem.put; split <;> simp
    | cons x m ih =>
      obtain ⟨hp, hd⟩ := h
      rw [List.pairwise_cons] at hp
      have ih := ih ⟨hp.2, fun c hc => hd c (List.mem_cons_of_mem _ hc)⟩
      unfold Mem.put
      split
      · split
        · exact List.pairwise_cons.2 hp
        · refine List.pairwise_cons.2 ⟨fun c hc => ?_, List.pairwise_cons.2 hp⟩
          rcases List.mem_cons.1 hc with rfl | hc
          · assumption
          · exact lt_trans ‹_› (hp.1 c hc)
      · split
        · split
          · exact hp.2
          · refine List.pairwise_cons.2 ⟨fun c hc => ?_, hp.2⟩
            have := hp.1 c hc
            simp_all
        · refine List.pairwise_cons.2 ⟨fun c hc => ?_, ih⟩
          rcases Mem_put_mem hc with ⟨rfl, -⟩ | hc
          · simp only; omega
          · exact hp.1 c hc
  · rcases Mem_put_mem hc with ⟨rfl, hb⟩ | hc
    · exact hb
    · exact h.2 c hc

/-- Writing bytes keeps the canonical form. -/
theorem Mem_write_wf {d : Option Byte} (a : Nat) (l : List Byte) {m : List Host.Cell} (h : Mem.wf d m) :
    Mem.wf d (Mem.write d a l m) := by
  induction l generalizing a m with
  | nil => exact h
  | cons b l ih => exact ih (a + 1) (Mem_put_wf a b h)

/-- Clearing a range keeps the canonical form. -/
theorem Mem_clear_wf {d : Option Byte} (lo hi : Nat) {m : List Host.Cell} (h : Mem.wf d m) : Mem.wf d (Mem.clear lo hi m) :=
  ⟨h.1.filter _, fun c hc => h.2 c (List.mem_of_mem_filter hc)⟩

/-- The posted writes of a step keep the canonical form. -/
theorem commitWrites_wf (x : Space) {d : Option Byte} (l : List PostedWrite) {m : List Host.Cell} (h : Mem.wf d m) :
    Mem.wf d (commitWrites x d l m) := by
  unfold commitWrites
  induction l generalizing m with
  | nil => exact h
  | cons w l ih =>
    refine ih ?_
    dsimp only
    split
    · exact Mem_write_wf _ _ (Mem_clear_wf _ _ h)
    · exact h

theorem Mem_find_none {m : List Host.Cell} {a : Nat} (h : ∀ c ∈ m, a < c.1) : Mem.find m a = none := by
  simp only [Mem.find, Option.map_eq_none_iff, List.find?_eq_none, beq_iff_eq]
  intro c hc
  have := h c hc
  omega

/-- A byte reads as the one written, or as an unlisted byte where that is what was written; every other byte reads as
before. -/
theorem Mem_find_put {d : Option Byte} (a : Nat) (b : Byte) {m : List Host.Cell} (h : Mem.wf d m) (x : Nat) :
    Mem.find (Mem.put d a b m) x = if x = a then (if d = some b then none else some b) else Mem.find m x := by
  induction m with
  | nil =>
    unfold Mem.put
    by_cases hx : x = a
    · by_cases hd : d = some b <;> simp [Mem.find, hd, hx]
    · have hc : (a == x) = false := by simpa using Ne.symm hx
      by_cases hd : d = some b <;> simp [Mem.find, hd, hx, hc]
  | cons c m ih =>
    obtain ⟨hp, hd⟩ := h
    rw [List.pairwise_cons] at hp
    have ih := ih ⟨hp.2, fun c hc => hd c (List.mem_cons_of_mem _ hc)⟩
    have above : ∀ e ∈ m, c.1 < e.1 := hp.1
    unfold Mem.put
    by_cases h1 : a < c.1
    · by_cases hb : d = some b
      · by_cases hx : x = a
        · subst hx
          simp only [h1, hb, if_true]
          refine Mem_find_none fun e he => ?_
          rcases List.mem_cons.1 he with rfl | he
          · exact h1
          · exact lt_trans h1 (above e he)
        · simp [h1, hb, hx]
      · by_cases hx : x = a
        · simp [h1, hb, hx, Mem.find]
        · have hc : (a == x) = false := by simpa using Ne.symm hx
          simp [h1, hb, hx, hc, Mem.find]
    · by_cases h2 : a = c.1
      · by_cases hb : d = some b
        · by_cases hx : x = a
          · subst hx
            simp only [h2, hb, if_true, lt_self_iff_false, if_false]
            exact Mem_find_none above
          · simp only [h2, hb, if_true, if_false, lt_self_iff_false]
            have : ¬ x = c.1 := by omega
            simp [Mem.find, this, Ne.symm this]
        · by_cases hx : x = a
          · simp [h2, hb, hx, Mem.find]
          · have : ¬ x = c.1 := by omega
            simp [h2, hb, Mem.find, this, Ne.symm this]
      · have hne : c.1 ≠ a := Ne.symm h2
        simp only [h1, h2, if_false]
        by_cases hx : x = c.1
        · subst hx
          simp [Mem.find, hne]
        · have hc : (c.1 == x) = false := by simpa using Ne.symm hx
          simpa [Mem.find, hc] using ih

theorem reset_cellar_wf : Mem.wf (some 0) State.reset.cel.mem := by decide
theorem reset_host0_wf : Mem.wf none State.reset.host0 := by decide
theorem reset_host1_wf : Mem.wf none State.reset.host1 := by decide

end Sys2Proof.Machine
end

