-- ==== Sys2Proof/Laws/Steps.lean ====
section
/-! SUPPORT. What the end of a step does, said once: settle touches the queue's place, the clock, reply_stall, the PCI
Express functions and the memories, and nothing else. -/

namespace Sys2Proof.Machine

theorem stallCheck_form (s : State) : ∃ e b, s.stallCheck = { s with cmd.evt := e, cmd.stallShown := b } := by
  unfold State.stallCheck
  dsimp only
  split <;> exact ⟨_, _, rfl⟩

theorem raiseVector_form (sec : Bool) (v : Nat) (s : State) : ∃ p, s.raiseVector sec v = { s with pci := p } := by
  unfold State.raiseVector State.modPf
  cases sec <;> exact ⟨_, rfl⟩

theorem sumInterrupt_form (b : State) (sec : Bool) (s : State) :
    ∃ p, State.sumInterrupt b sec s = { s with pci := p } := by
  unfold State.sumInterrupt
  split
  · exact raiseVector_form _ _ _
  · exact ⟨s.pci, rfl⟩

theorem settle_form (s0 s : State) : ∃ e b p, s0.settle s = { s with
    pending := s0.pending, ticks := s0.ticks, posted := [], cmd.evt := e, cmd.stallShown := b, pci := p
    cel.mem := commitWrites .cellar (some 0) s.posted s0.cel.mem
    host0 := commitWrites .host0 none s.posted s0.host0
    host1 := commitWrites .host1 none s.posted s0.host1 } := by
  obtain ⟨e, b, h⟩ := stallCheck_form s
  unfold State.settle
  rw [h]
  obtain ⟨p, h⟩ := sumInterrupt_form s0 false { s with cmd.evt := e, cmd.stallShown := b }
  rw [h]
  obtain ⟨q, h⟩ := sumInterrupt_form s0 true { s with cmd.evt := e, cmd.stallShown := b, pci := p }
  rw [h]
  exact ⟨e, b, q, rfl⟩

/-- A running block answers with its effect settled. -/
theorem act_eq_settle {s : State} (h : s.sys.inReset = false) (t : Nat) (f : State → State) :
    s.act t f = (s.advance t).settle (f (s.advance t)) := by
  simp [State.act, State.actAlways, h]

/-- A block held in reset takes no notice. -/
theorem act_in_reset {s : State} (h : s.sys.inReset = true) (t : Nat) (f : State → State) : s.act t f = s.advance t := by
  simp [State.act, h]

/-- Aside from the end of the step, a running block's answer is the effect, its posted writes in the memories. -/
theorem act_calm_posted {s : State} (h : s.Live) (t : Nat) (f : State → State) :
    s.calm (s.act t f) = s.calm { f (s.advance t) with
      pending := s.pending, ticks := max s.ticks t, posted := []
      cel.mem := commitWrites .cellar (some 0) (f (s.advance t)).posted s.cel.mem
      host0 := commitWrites .host0 none (f (s.advance t)).posted s.host0
      host1 := commitWrites .host1 none (f (s.advance t)).posted s.host1 } := by
  rw [act_eq_settle h.running]
  generalize f (s.advance t) = u
  obtain ⟨e, b, p, hs⟩ := settle_form (s.advance t) u
  rw [hs]
  rfl

/-- The same for an effect that posts no write. -/
theorem act_calm {s : State} (h : s.Live) (t : Nat) (f : State → State) (hp : (f (s.advance t)).posted = []) :
    s.calm (s.act t f) = s.calm { f (s.advance t) with
      pending := s.pending, ticks := max s.ticks t, cel.mem := s.cel.mem, host0 := s.host0, host1 := s.host1 } := by
  rw [act_calm_posted h]
  generalize f (s.advance t) = u at hp ⊢
  rw [hp]
  simp [State.calm, commitWrites, hp]

end Sys2Proof.Machine
end

