-- ==== Sys2Proof/Laws/Shared.lean ====
section
/-! SUPPORT. What waymark events, event records, the Ledger and replies touch: one lemma per shared operation, which says
all that it can change. -/

namespace Sys2Proof.Machine

/-- Two states that differ at most in the waymark fabric, the rings, and the DMA unit's event register and lost records. -/
def State.Stirred (s u : State) : Prop := ∃ e r d c, u = { s with evf := e, rings := r, dma.evt := d, dma.evtLost := c }

theorem Stirred_refl (s : State) : s.Stirred s := ⟨s.evf, s.rings, s.dma.evt, s.dma.evtLost, rfl⟩

theorem Stirred_trans {s u v : State} : s.Stirred u → u.Stirred v → s.Stirred v := by
  rintro ⟨_, _, _, _, rfl⟩ ⟨_, _, _, _, rfl⟩
  exact ⟨_, _, _, _, rfl⟩

theorem modRing_stirred (id : Nat) (f : Ring → Ring) (s : State) : s.Stirred (s.modRing id f) :=
  ⟨s.evf, _, s.dma.evt, s.dma.evtLost, rfl⟩

theorem setEvt_evf_stirred (i : Nat) (s : State) : s.Stirred (s.setEvt .evf i) :=
  ⟨_, s.rings, s.dma.evt, s.dma.evtLost, rfl⟩

/-- An event record waits for its ring, is counted as lost, or (on a second) is not made. -/
theorem eventIn_stirred (sec : Bool) (e : EventRecord) (s : State) : s.Stirred (s.eventIn sec e) := by
  unfold State.eventIn
  dsimp only
  split
  · exact Stirred_refl s
  · split
    · exact ⟨s.evf, s.rings, _, _, rfl⟩
    · split
      · exact ⟨s.evf, s.rings, _, _, rfl⟩
      · split
        · exact modRing_stirred _ _ _
        · exact ⟨s.evf, s.rings, _, _, rfl⟩

theorem event_stirred (b : BlockId) (st : BitVec 16) (d : BitVec 32) (s : State) (f : BitVec 32) (q a : DWord)
    (l : List Byte) : s.Stirred (s.event b st d f q a l) := eventIn_stirred _ _ _

theorem fireOn_stirred (c : Fin 256) (edge : Option CountEdge) (s : State) : s.Stirred (s.fireOn c edge).1 := by
  unfold State.fireOn
  dsimp only
  split
  · exact Stirred_refl s
  · split
    · exact Stirred_refl s
    · split <;> (try split) <;> (try split)
      all_goals first
        | exact ⟨_, s.rings, s.dma.evt, s.dma.evtLost, rfl⟩
        | refine Stirred_trans (Stirred_trans ?_ (setEvt_evf_stirred 0 _)) (event_stirred _ _ _ _ _ _ _ _)
          exact ⟨_, s.rings, s.dma.evt, s.dma.evtLost, rfl⟩

theorem foldl_stirred {α : Type} (f : State → α → State) (hf : ∀ (s : State) (x : α), s.Stirred (f s x)) (l : List α) (s : State) :
    s.Stirred (l.foldl f s) := by
  induction l generalizing s with
  | nil => exact Stirred_refl s
  | cons x l ih => exact Stirred_trans (hf s x) (ih _)

theorem fireNum_stirred (n gen inst : Nat) (edge : Option CountEdge) (s : State) :
    s.Stirred (s.fireNum n gen inst edge) := by
  induction n generalizing gen inst edge s with
  | zero => exact Stirred_refl s
  | succ n ih =>
    unfold State.fireNum
    refine foldl_stirred _ (fun s c => ?_) _ s
    dsimp only
    split
    · exact Stirred_refl s
    · split
      · split
        · exact Stirred_trans (fireOn_stirred _ _ _) (ih _ _ _ _)
        · exact fireOn_stirred _ _ _
      · exact Stirred_refl s

/-- A generator that fires touches the fabric and, through a storm, the event rings. -/
theorem fireEdge_stirred (b : BlockId) (off : Nat) (edge : Option CountEdge) (s : State) :
    s.Stirred (s.fireEdge b off edge) := by
  unfold State.fireEdge
  split
  · exact Stirred_refl s
  · exact fireNum_stirred _ _ _ _ _

theorem fire_stirred (b : BlockId) (off : Nat) (s : State) : s.Stirred (s.fire b off) := fireEdge_stirred _ _ _ _

/-- Aside from what `hush` sets aside, stirred states are equal. -/
theorem hush_stirred {s u : State} (h : s.Stirred u) (x : State) : x.hush u = x.hush s := by
  obtain ⟨_, _, _, _, rfl⟩ := h
  rfl

theorem posted_stirred {s u : State} (h : s.Stirred u) : u.posted = s.posted := by
  obtain ⟨_, _, _, _, rfl⟩ := h
  rfl

@[simp] theorem hush_fire (x : State) (b : BlockId) (off : Nat) (s : State) : x.hush (s.fire b off) = x.hush s :=
  hush_stirred (fire_stirred b off s) x
@[simp] theorem hush_event (x : State) (b : BlockId) (st : BitVec 16) (d : BitVec 32) (s : State) (f : BitVec 32)
    (q a : DWord) (l : List Byte) : x.hush (s.event b st d f q a l) = x.hush s :=
  hush_stirred (event_stirred b st d s f q a l) x
@[simp] theorem fire_posted (b : BlockId) (off : Nat) (s : State) : (s.fire b off).posted = s.posted :=
  posted_stirred (fire_stirred b off s)
@[simp] theorem event_posted (b : BlockId) (st : BitVec 16) (d : BitVec 32) (s : State) (f : BitVec 32) (q a : DWord)
    (l : List Byte) : (s.event b st d f q a l).posted = s.posted := posted_stirred (event_stirred b st d s f q a l)

/-- Aside from the end of the step and what events touch, a running block's answer is the effect, when it posts nothing. -/
theorem act_hush {s : State} (h : s.Live) (t : Nat) (f : State → State) (hp : (f (s.advance t)).posted = []) :
    s.hush (s.act t f) = s.hush { f (s.advance t) with
      pending := s.pending, ticks := max s.ticks t, cel.mem := s.cel.mem, host0 := s.host0, host1 := s.host1 } := by
  have := act_calm h t f hp
  unfold State.hush
  rw [this]

end Sys2Proof.Machine
end

