-- ==== Sys2Proof/Laws/State.lean ====
section
/-! SUPPORT. Each field of State after each of the plain updates: one lemma per field per update, so that no proof unfolds
a record update. -/

namespace Sys2Proof.Machine

/-! `State.advance` -/

@[simp] theorem State.advance_pending (t : Nat) (s : State) : (State.advance t s).pending = s.pending := rfl
@[simp] theorem State.advance_ticks (t : Nat) (s : State) : (State.advance t s).ticks = max s.ticks t := rfl
@[simp] theorem State.advance_free (t : Nat) (s : State) : (State.advance t s).free = s.free := rfl
@[simp] theorem State.advance_sys (t : Nat) (s : State) : (State.advance t s).sys = s.sys := rfl
@[simp] theorem State.advance_cmd (t : Nat) (s : State) : (State.advance t s).cmd = s.cmd := rfl
@[simp] theorem State.advance_ldg (t : Nat) (s : State) : (State.advance t s).ldg = s.ldg := rfl
@[simp] theorem State.advance_evf (t : Nat) (s : State) : (State.advance t s).evf = s.evf := rfl
@[simp] theorem State.advance_dma (t : Nat) (s : State) : (State.advance t s).dma = s.dma := rfl
@[simp] theorem State.advance_madc (t : Nat) (s : State) : (State.advance t s).madc = s.madc := rfl
@[simp] theorem State.advance_trig (t : Nat) (s : State) : (State.advance t s).trig = s.trig := rfl
@[simp] theorem State.advance_sec (t : Nat) (s : State) : (State.advance t s).sec = s.sec := rfl
@[simp] theorem State.advance_rope (t : Nat) (s : State) : (State.advance t s).rope = s.rope := rfl
@[simp] theorem State.advance_board (t : Nat) (s : State) : (State.advance t s).board = s.board := rfl
@[simp] theorem State.advance_tl (t : Nat) (s : State) : (State.advance t s).tl = s.tl := rfl
@[simp] theorem State.advance_pace (t : Nat) (s : State) : (State.advance t s).pace = s.pace := rfl
@[simp] theorem State.advance_cel (t : Nat) (s : State) : (State.advance t s).cel = s.cel := rfl
@[simp] theorem State.advance_wea (t : Nat) (s : State) : (State.advance t s).wea = s.wea := rfl
@[simp] theorem State.advance_ports (t : Nat) (s : State) : (State.advance t s).ports = s.ports := rfl
@[simp] theorem State.advance_axes (t : Nat) (s : State) : (State.advance t s).axes = s.axes := rfl
@[simp] theorem State.advance_encs (t : Nat) (s : State) : (State.advance t s).encs = s.encs := rfl
@[simp] theorem State.advance_rings (t : Nat) (s : State) : (State.advance t s).rings = s.rings := rfl
@[simp] theorem State.advance_pci (t : Nat) (s : State) : (State.advance t s).pci = s.pci := rfl
@[simp] theorem State.advance_host0 (t : Nat) (s : State) : (State.advance t s).host0 = s.host0 := rfl
@[simp] theorem State.advance_host1 (t : Nat) (s : State) : (State.advance t s).host1 = s.host1 := rfl
@[simp] theorem State.advance_smbShot (t : Nat) (s : State) : (State.advance t s).smbShot = s.shotAt (max s.ticks t) := rfl
@[simp] theorem State.advance_posted (t : Nat) (s : State) : (State.advance t s).posted = s.posted := rfl

/-! `State.drawn` -/

@[simp] theorem State.drawn_pending (s : State) : (State.drawn s).pending = s.pending := rfl
@[simp] theorem State.drawn_ticks (s : State) : (State.drawn s).ticks = s.ticks := rfl
@[simp] theorem State.drawn_free (s : State) : (State.drawn s).free = s.free + 1 := rfl
@[simp] theorem State.drawn_sys (s : State) : (State.drawn s).sys = s.sys := rfl
@[simp] theorem State.drawn_cmd (s : State) : (State.drawn s).cmd = s.cmd := rfl
@[simp] theorem State.drawn_ldg (s : State) : (State.drawn s).ldg = s.ldg := rfl
@[simp] theorem State.drawn_evf (s : State) : (State.drawn s).evf = s.evf := rfl
@[simp] theorem State.drawn_dma (s : State) : (State.drawn s).dma = s.dma := rfl
@[simp] theorem State.drawn_madc (s : State) : (State.drawn s).madc = s.madc := rfl
@[simp] theorem State.drawn_trig (s : State) : (State.drawn s).trig = s.trig := rfl
@[simp] theorem State.drawn_sec (s : State) : (State.drawn s).sec = s.sec := rfl
@[simp] theorem State.drawn_rope (s : State) : (State.drawn s).rope = s.rope := rfl
@[simp] theorem State.drawn_board (s : State) : (State.drawn s).board = s.board := rfl
@[simp] theorem State.drawn_tl (s : State) : (State.drawn s).tl = s.tl := rfl
@[simp] theorem State.drawn_pace (s : State) : (State.drawn s).pace = s.pace := rfl
@[simp] theorem State.drawn_cel (s : State) : (State.drawn s).cel = s.cel := rfl
@[simp] theorem State.drawn_wea (s : State) : (State.drawn s).wea = s.wea := rfl
@[simp] theorem State.drawn_ports (s : State) : (State.drawn s).ports = s.ports := rfl
@[simp] theorem State.drawn_axes (s : State) : (State.drawn s).axes = s.axes := rfl
@[simp] theorem State.drawn_encs (s : State) : (State.drawn s).encs = s.encs := rfl
@[simp] theorem State.drawn_rings (s : State) : (State.drawn s).rings = s.rings := rfl
@[simp] theorem State.drawn_pci (s : State) : (State.drawn s).pci = s.pci := rfl
@[simp] theorem State.drawn_host0 (s : State) : (State.drawn s).host0 = s.host0 := rfl
@[simp] theorem State.drawn_host1 (s : State) : (State.drawn s).host1 = s.host1 := rfl
@[simp] theorem State.drawn_smbShot (s : State) : (State.drawn s).smbShot = s.smbShot := rfl
@[simp] theorem State.drawn_posted (s : State) : (State.drawn s).posted = s.posted := rfl

/-! `State.modPort` -/

@[simp] theorem State.modPort_pending (n : Fin 8) (f : Port → Port) (s : State)
    : (State.modPort n f s).pending = s.pending := rfl
@[simp] theorem State.modPort_ticks (n : Fin 8) (f : Port → Port) (s : State) : (State.modPort n f s).ticks = s.ticks := rfl
@[simp] theorem State.modPort_free (n : Fin 8) (f : Port → Port) (s : State) : (State.modPort n f s).free = s.free := rfl
@[simp] theorem State.modPort_sys (n : Fin 8) (f : Port → Port) (s : State) : (State.modPort n f s).sys = s.sys := rfl
@[simp] theorem State.modPort_cmd (n : Fin 8) (f : Port → Port) (s : State) : (State.modPort n f s).cmd = s.cmd := rfl
@[simp] theorem State.modPort_ldg (n : Fin 8) (f : Port → Port) (s : State) : (State.modPort n f s).ldg = s.ldg := rfl
@[simp] theorem State.modPort_evf (n : Fin 8) (f : Port → Port) (s : State) : (State.modPort n f s).evf = s.evf := rfl
@[simp] theorem State.modPort_dma (n : Fin 8) (f : Port → Port) (s : State) : (State.modPort n f s).dma = s.dma := rfl
@[simp] theorem State.modPort_madc (n : Fin 8) (f : Port → Port) (s : State) : (State.modPort n f s).madc = s.madc := rfl
@[simp] theorem State.modPort_trig (n : Fin 8) (f : Port → Port) (s : State) : (State.modPort n f s).trig = s.trig := rfl
@[simp] theorem State.modPort_sec (n : Fin 8) (f : Port → Port) (s : State) : (State.modPort n f s).sec = s.sec := rfl
@[simp] theorem State.modPort_rope (n : Fin 8) (f : Port → Port) (s : State) : (State.modPort n f s).rope = s.rope := rfl
@[simp] theorem State.modPort_board (n : Fin 8) (f : Port → Port) (s : State) : (State.modPort n f s).board = s.board := rfl
@[simp] theorem State.modPort_tl (n : Fin 8) (f : Port → Port) (s : State) : (State.modPort n f s).tl = s.tl := rfl
@[simp] theorem State.modPort_pace (n : Fin 8) (f : Port → Port) (s : State) : (State.modPort n f s).pace = s.pace := rfl
@[simp] theorem State.modPort_cel (n : Fin 8) (f : Port → Port) (s : State) : (State.modPort n f s).cel = s.cel := rfl
@[simp] theorem State.modPort_wea (n : Fin 8) (f : Port → Port) (s : State) : (State.modPort n f s).wea = s.wea := rfl
@[simp] theorem State.modPort_ports (n : Fin 8) (f : Port → Port) (s : State)
    : (State.modPort n f s).ports = s.ports.set n (f s.ports[n]) := rfl
@[simp] theorem State.modPort_axes (n : Fin 8) (f : Port → Port) (s : State) : (State.modPort n f s).axes = s.axes := rfl
@[simp] theorem State.modPort_encs (n : Fin 8) (f : Port → Port) (s : State) : (State.modPort n f s).encs = s.encs := rfl
@[simp] theorem State.modPort_rings (n : Fin 8) (f : Port → Port) (s : State) : (State.modPort n f s).rings = s.rings := rfl
@[simp] theorem State.modPort_pci (n : Fin 8) (f : Port → Port) (s : State) : (State.modPort n f s).pci = s.pci := rfl
@[simp] theorem State.modPort_host0 (n : Fin 8) (f : Port → Port) (s : State) : (State.modPort n f s).host0 = s.host0 := rfl
@[simp] theorem State.modPort_host1 (n : Fin 8) (f : Port → Port) (s : State) : (State.modPort n f s).host1 = s.host1 := rfl
@[simp] theorem State.modPort_smbShot (n : Fin 8) (f : Port → Port) (s : State)
    : (State.modPort n f s).smbShot = s.smbShot := rfl
@[simp] theorem State.modPort_posted (n : Fin 8) (f : Port → Port) (s : State)
    : (State.modPort n f s).posted = s.posted := rfl

/-! `State.modAxis` -/

@[simp] theorem State.modAxis_pending (n : Fin 12) (f : Axis → Axis) (s : State)
    : (State.modAxis n f s).pending = s.pending := rfl
@[simp] theorem State.modAxis_ticks (n : Fin 12) (f : Axis → Axis) (s : State) : (State.modAxis n f s).ticks = s.ticks := rfl
@[simp] theorem State.modAxis_free (n : Fin 12) (f : Axis → Axis) (s : State) : (State.modAxis n f s).free = s.free := rfl
@[simp] theorem State.modAxis_sys (n : Fin 12) (f : Axis → Axis) (s : State) : (State.modAxis n f s).sys = s.sys := rfl
@[simp] theorem State.modAxis_cmd (n : Fin 12) (f : Axis → Axis) (s : State) : (State.modAxis n f s).cmd = s.cmd := rfl
@[simp] theorem State.modAxis_ldg (n : Fin 12) (f : Axis → Axis) (s : State) : (State.modAxis n f s).ldg = s.ldg := rfl
@[simp] theorem State.modAxis_evf (n : Fin 12) (f : Axis → Axis) (s : State) : (State.modAxis n f s).evf = s.evf := rfl
@[simp] theorem State.modAxis_dma (n : Fin 12) (f : Axis → Axis) (s : State) : (State.modAxis n f s).dma = s.dma := rfl
@[simp] theorem State.modAxis_madc (n : Fin 12) (f : Axis → Axis) (s : State) : (State.modAxis n f s).madc = s.madc := rfl
@[simp] theorem State.modAxis_trig (n : Fin 12) (f : Axis → Axis) (s : State) : (State.modAxis n f s).trig = s.trig := rfl
@[simp] theorem State.modAxis_sec (n : Fin 12) (f : Axis → Axis) (s : State) : (State.modAxis n f s).sec = s.sec := rfl
@[simp] theorem State.modAxis_rope (n : Fin 12) (f : Axis → Axis) (s : State) : (State.modAxis n f s).rope = s.rope := rfl
@[simp] theorem State.modAxis_board (n : Fin 12) (f : Axis → Axis) (s : State) : (State.modAxis n f s).board = s.board := rfl
@[simp] theorem State.modAxis_tl (n : Fin 12) (f : Axis → Axis) (s : State) : (State.modAxis n f s).tl = s.tl := rfl
@[simp] theorem State.modAxis_pace (n : Fin 12) (f : Axis → Axis) (s : State) : (State.modAxis n f s).pace = s.pace := rfl
@[simp] theorem State.modAxis_cel (n : Fin 12) (f : Axis → Axis) (s : State) : (State.modAxis n f s).cel = s.cel := rfl
@[simp] theorem State.modAxis_wea (n : Fin 12) (f : Axis → Axis) (s : State) : (State.modAxis n f s).wea = s.wea := rfl
@[simp] theorem State.modAxis_ports (n : Fin 12) (f : Axis → Axis) (s : State) : (State.modAxis n f s).ports = s.ports := rfl
@[simp] theorem State.modAxis_axes (n : Fin 12) (f : Axis → Axis) (s : State)
    : (State.modAxis n f s).axes = s.axes.set n (f s.axes[n]) := rfl
@[simp] theorem State.modAxis_encs (n : Fin 12) (f : Axis → Axis) (s : State) : (State.modAxis n f s).encs = s.encs := rfl
@[simp] theorem State.modAxis_rings (n : Fin 12) (f : Axis → Axis) (s : State) : (State.modAxis n f s).rings = s.rings := rfl
@[simp] theorem State.modAxis_pci (n : Fin 12) (f : Axis → Axis) (s : State) : (State.modAxis n f s).pci = s.pci := rfl
@[simp] theorem State.modAxis_host0 (n : Fin 12) (f : Axis → Axis) (s : State) : (State.modAxis n f s).host0 = s.host0 := rfl
@[simp] theorem State.modAxis_host1 (n : Fin 12) (f : Axis → Axis) (s : State) : (State.modAxis n f s).host1 = s.host1 := rfl
@[simp] theorem State.modAxis_smbShot (n : Fin 12) (f : Axis → Axis) (s : State)
    : (State.modAxis n f s).smbShot = s.smbShot := rfl
@[simp] theorem State.modAxis_posted (n : Fin 12) (f : Axis → Axis) (s : State)
    : (State.modAxis n f s).posted = s.posted := rfl

/-! `State.modEnc` -/

@[simp] theorem State.modEnc_pending (n : Fin 8) (f : Encoder → Encoder) (s : State)
    : (State.modEnc n f s).pending = s.pending := rfl
@[simp] theorem State.modEnc_ticks (n : Fin 8) (f : Encoder → Encoder) (s : State)
    : (State.modEnc n f s).ticks = s.ticks := rfl
@[simp] theorem State.modEnc_free (n : Fin 8) (f : Encoder → Encoder) (s : State) : (State.modEnc n f s).free = s.free := rfl
@[simp] theorem State.modEnc_sys (n : Fin 8) (f : Encoder → Encoder) (s : State) : (State.modEnc n f s).sys = s.sys := rfl
@[simp] theorem State.modEnc_cmd (n : Fin 8) (f : Encoder → Encoder) (s : State) : (State.modEnc n f s).cmd = s.cmd := rfl
@[simp] theorem State.modEnc_ldg (n : Fin 8) (f : Encoder → Encoder) (s : State) : (State.modEnc n f s).ldg = s.ldg := rfl
@[simp] theorem State.modEnc_evf (n : Fin 8) (f : Encoder → Encoder) (s : State) : (State.modEnc n f s).evf = s.evf := rfl
@[simp] theorem State.modEnc_dma (n : Fin 8) (f : Encoder → Encoder) (s : State) : (State.modEnc n f s).dma = s.dma := rfl
@[simp] theorem State.modEnc_madc (n : Fin 8) (f : Encoder → Encoder) (s : State) : (State.modEnc n f s).madc = s.madc := rfl
@[simp] theorem State.modEnc_trig (n : Fin 8) (f : Encoder → Encoder) (s : State) : (State.modEnc n f s).trig = s.trig := rfl
@[simp] theorem State.modEnc_sec (n : Fin 8) (f : Encoder → Encoder) (s : State) : (State.modEnc n f s).sec = s.sec := rfl
@[simp] theorem State.modEnc_rope (n : Fin 8) (f : Encoder → Encoder) (s : State) : (State.modEnc n f s).rope = s.rope := rfl
@[simp] theorem State.modEnc_board (n : Fin 8) (f : Encoder → Encoder) (s : State)
    : (State.modEnc n f s).board = s.board := rfl
@[simp] theorem State.modEnc_tl (n : Fin 8) (f : Encoder → Encoder) (s : State) : (State.modEnc n f s).tl = s.tl := rfl
@[simp] theorem State.modEnc_pace (n : Fin 8) (f : Encoder → Encoder) (s : State) : (State.modEnc n f s).pace = s.pace := rfl
@[simp] theorem State.modEnc_cel (n : Fin 8) (f : Encoder → Encoder) (s : State) : (State.modEnc n f s).cel = s.cel := rfl
@[simp] theorem State.modEnc_wea (n : Fin 8) (f : Encoder → Encoder) (s : State) : (State.modEnc n f s).wea = s.wea := rfl
@[simp] theorem State.modEnc_ports (n : Fin 8) (f : Encoder → Encoder) (s : State)
    : (State.modEnc n f s).ports = s.ports := rfl
@[simp] theorem State.modEnc_axes (n : Fin 8) (f : Encoder → Encoder) (s : State) : (State.modEnc n f s).axes = s.axes := rfl
@[simp] theorem State.modEnc_encs (n : Fin 8) (f : Encoder → Encoder) (s : State)
    : (State.modEnc n f s).encs = s.encs.set n (f s.encs[n]) := rfl
@[simp] theorem State.modEnc_rings (n : Fin 8) (f : Encoder → Encoder) (s : State)
    : (State.modEnc n f s).rings = s.rings := rfl
@[simp] theorem State.modEnc_pci (n : Fin 8) (f : Encoder → Encoder) (s : State) : (State.modEnc n f s).pci = s.pci := rfl
@[simp] theorem State.modEnc_host0 (n : Fin 8) (f : Encoder → Encoder) (s : State)
    : (State.modEnc n f s).host0 = s.host0 := rfl
@[simp] theorem State.modEnc_host1 (n : Fin 8) (f : Encoder → Encoder) (s : State)
    : (State.modEnc n f s).host1 = s.host1 := rfl
@[simp] theorem State.modEnc_smbShot (n : Fin 8) (f : Encoder → Encoder) (s : State)
    : (State.modEnc n f s).smbShot = s.smbShot := rfl
@[simp] theorem State.modEnc_posted (n : Fin 8) (f : Encoder → Encoder) (s : State)
    : (State.modEnc n f s).posted = s.posted := rfl

/-! `State.modChan` -/

@[simp] theorem State.modChan_pending (n : Fin 32) (f : Channel → Channel) (s : State)
    : (State.modChan n f s).pending = s.pending := rfl
@[simp] theorem State.modChan_ticks (n : Fin 32) (f : Channel → Channel) (s : State)
    : (State.modChan n f s).ticks = s.ticks := rfl
@[simp] theorem State.modChan_free (n : Fin 32) (f : Channel → Channel) (s : State)
    : (State.modChan n f s).free = s.free := rfl
@[simp] theorem State.modChan_sys (n : Fin 32) (f : Channel → Channel) (s : State) : (State.modChan n f s).sys = s.sys := rfl
@[simp] theorem State.modChan_cmd (n : Fin 32) (f : Channel → Channel) (s : State) : (State.modChan n f s).cmd = s.cmd := rfl
@[simp] theorem State.modChan_ldg (n : Fin 32) (f : Channel → Channel) (s : State) : (State.modChan n f s).ldg = s.ldg := rfl
@[simp] theorem State.modChan_evf (n : Fin 32) (f : Channel → Channel) (s : State) : (State.modChan n f s).evf = s.evf := rfl
@[simp] theorem State.modChan_dma (n : Fin 32) (f : Channel → Channel) (s : State)
    : (State.modChan n f s).dma = { s.dma with chans := s.dma.chans.set n (f s.dma.chans[n]) } := rfl
@[simp] theorem State.modChan_madc (n : Fin 32) (f : Channel → Channel) (s : State)
    : (State.modChan n f s).madc = s.madc := rfl
@[simp] theorem State.modChan_trig (n : Fin 32) (f : Channel → Channel) (s : State)
    : (State.modChan n f s).trig = s.trig := rfl
@[simp] theorem State.modChan_sec (n : Fin 32) (f : Channel → Channel) (s : State) : (State.modChan n f s).sec = s.sec := rfl
@[simp] theorem State.modChan_rope (n : Fin 32) (f : Channel → Channel) (s : State)
    : (State.modChan n f s).rope = s.rope := rfl
@[simp] theorem State.modChan_board (n : Fin 32) (f : Channel → Channel) (s : State)
    : (State.modChan n f s).board = s.board := rfl
@[simp] theorem State.modChan_tl (n : Fin 32) (f : Channel → Channel) (s : State) : (State.modChan n f s).tl = s.tl := rfl
@[simp] theorem State.modChan_pace (n : Fin 32) (f : Channel → Channel) (s : State)
    : (State.modChan n f s).pace = s.pace := rfl
@[simp] theorem State.modChan_cel (n : Fin 32) (f : Channel → Channel) (s : State) : (State.modChan n f s).cel = s.cel := rfl
@[simp] theorem State.modChan_wea (n : Fin 32) (f : Channel → Channel) (s : State) : (State.modChan n f s).wea = s.wea := rfl
@[simp] theorem State.modChan_ports (n : Fin 32) (f : Channel → Channel) (s : State)
    : (State.modChan n f s).ports = s.ports := rfl
@[simp] theorem State.modChan_axes (n : Fin 32) (f : Channel → Channel) (s : State)
    : (State.modChan n f s).axes = s.axes := rfl
@[simp] theorem State.modChan_encs (n : Fin 32) (f : Channel → Channel) (s : State)
    : (State.modChan n f s).encs = s.encs := rfl
@[simp] theorem State.modChan_rings (n : Fin 32) (f : Channel → Channel) (s : State)
    : (State.modChan n f s).rings = s.rings := rfl
@[simp] theorem State.modChan_pci (n : Fin 32) (f : Channel → Channel) (s : State) : (State.modChan n f s).pci = s.pci := rfl
@[simp] theorem State.modChan_host0 (n : Fin 32) (f : Channel → Channel) (s : State)
    : (State.modChan n f s).host0 = s.host0 := rfl
@[simp] theorem State.modChan_host1 (n : Fin 32) (f : Channel → Channel) (s : State)
    : (State.modChan n f s).host1 = s.host1 := rfl
@[simp] theorem State.modChan_smbShot (n : Fin 32) (f : Channel → Channel) (s : State)
    : (State.modChan n f s).smbShot = s.smbShot := rfl
@[simp] theorem State.modChan_posted (n : Fin 32) (f : Channel → Channel) (s : State)
    : (State.modChan n f s).posted = s.posted := rfl

/-! `State.modRing` -/

@[simp] theorem State.modRing_pending (n : Nat) (f : Ring → Ring) (s : State)
    : (State.modRing n f s).pending = s.pending := rfl
@[simp] theorem State.modRing_ticks (n : Nat) (f : Ring → Ring) (s : State) : (State.modRing n f s).ticks = s.ticks := rfl
@[simp] theorem State.modRing_free (n : Nat) (f : Ring → Ring) (s : State) : (State.modRing n f s).free = s.free := rfl
@[simp] theorem State.modRing_sys (n : Nat) (f : Ring → Ring) (s : State) : (State.modRing n f s).sys = s.sys := rfl
@[simp] theorem State.modRing_cmd (n : Nat) (f : Ring → Ring) (s : State) : (State.modRing n f s).cmd = s.cmd := rfl
@[simp] theorem State.modRing_ldg (n : Nat) (f : Ring → Ring) (s : State) : (State.modRing n f s).ldg = s.ldg := rfl
@[simp] theorem State.modRing_evf (n : Nat) (f : Ring → Ring) (s : State) : (State.modRing n f s).evf = s.evf := rfl
@[simp] theorem State.modRing_dma (n : Nat) (f : Ring → Ring) (s : State) : (State.modRing n f s).dma = s.dma := rfl
@[simp] theorem State.modRing_madc (n : Nat) (f : Ring → Ring) (s : State) : (State.modRing n f s).madc = s.madc := rfl
@[simp] theorem State.modRing_trig (n : Nat) (f : Ring → Ring) (s : State) : (State.modRing n f s).trig = s.trig := rfl
@[simp] theorem State.modRing_sec (n : Nat) (f : Ring → Ring) (s : State) : (State.modRing n f s).sec = s.sec := rfl
@[simp] theorem State.modRing_rope (n : Nat) (f : Ring → Ring) (s : State) : (State.modRing n f s).rope = s.rope := rfl
@[simp] theorem State.modRing_board (n : Nat) (f : Ring → Ring) (s : State) : (State.modRing n f s).board = s.board := rfl
@[simp] theorem State.modRing_tl (n : Nat) (f : Ring → Ring) (s : State) : (State.modRing n f s).tl = s.tl := rfl
@[simp] theorem State.modRing_pace (n : Nat) (f : Ring → Ring) (s : State) : (State.modRing n f s).pace = s.pace := rfl
@[simp] theorem State.modRing_cel (n : Nat) (f : Ring → Ring) (s : State) : (State.modRing n f s).cel = s.cel := rfl
@[simp] theorem State.modRing_wea (n : Nat) (f : Ring → Ring) (s : State) : (State.modRing n f s).wea = s.wea := rfl
@[simp] theorem State.modRing_ports (n : Nat) (f : Ring → Ring) (s : State) : (State.modRing n f s).ports = s.ports := rfl
@[simp] theorem State.modRing_axes (n : Nat) (f : Ring → Ring) (s : State) : (State.modRing n f s).axes = s.axes := rfl
@[simp] theorem State.modRing_encs (n : Nat) (f : Ring → Ring) (s : State) : (State.modRing n f s).encs = s.encs := rfl
@[simp] theorem State.modRing_rings (n : Nat) (f : Ring → Ring) (s : State)
    : (State.modRing n f s).rings = s.rings.map fun r => if r.id == n then f r else r := rfl
@[simp] theorem State.modRing_pci (n : Nat) (f : Ring → Ring) (s : State) : (State.modRing n f s).pci = s.pci := rfl
@[simp] theorem State.modRing_host0 (n : Nat) (f : Ring → Ring) (s : State) : (State.modRing n f s).host0 = s.host0 := rfl
@[simp] theorem State.modRing_host1 (n : Nat) (f : Ring → Ring) (s : State) : (State.modRing n f s).host1 = s.host1 := rfl
@[simp] theorem State.modRing_smbShot (n : Nat) (f : Ring → Ring) (s : State) : (State.modRing n f s).smbShot = s.smbShot := rfl
@[simp] theorem State.modRing_posted (n : Nat) (f : Ring → Ring) (s : State) : (State.modRing n f s).posted = s.posted := rfl

/-! `State.modGroup` -/

@[simp] theorem State.modGroup_pending (n : Fin 4) (f : PaceGroup → PaceGroup) (s : State)
    : (State.modGroup n f s).pending = s.pending := rfl
@[simp] theorem State.modGroup_ticks (n : Fin 4) (f : PaceGroup → PaceGroup) (s : State)
    : (State.modGroup n f s).ticks = s.ticks := rfl
@[simp] theorem State.modGroup_free (n : Fin 4) (f : PaceGroup → PaceGroup) (s : State)
    : (State.modGroup n f s).free = s.free := rfl
@[simp] theorem State.modGroup_sys (n : Fin 4) (f : PaceGroup → PaceGroup) (s : State)
    : (State.modGroup n f s).sys = s.sys := rfl
@[simp] theorem State.modGroup_cmd (n : Fin 4) (f : PaceGroup → PaceGroup) (s : State)
    : (State.modGroup n f s).cmd = s.cmd := rfl
@[simp] theorem State.modGroup_ldg (n : Fin 4) (f : PaceGroup → PaceGroup) (s : State)
    : (State.modGroup n f s).ldg = s.ldg := rfl
@[simp] theorem State.modGroup_evf (n : Fin 4) (f : PaceGroup → PaceGroup) (s : State)
    : (State.modGroup n f s).evf = s.evf := rfl
@[simp] theorem State.modGroup_dma (n : Fin 4) (f : PaceGroup → PaceGroup) (s : State)
    : (State.modGroup n f s).dma = s.dma := rfl
@[simp] theorem State.modGroup_madc (n : Fin 4) (f : PaceGroup → PaceGroup) (s : State)
    : (State.modGroup n f s).madc = s.madc := rfl
@[simp] theorem State.modGroup_trig (n : Fin 4) (f : PaceGroup → PaceGroup) (s : State)
    : (State.modGroup n f s).trig = s.trig := rfl
@[simp] theorem State.modGroup_sec (n : Fin 4) (f : PaceGroup → PaceGroup) (s : State)
    : (State.modGroup n f s).sec = s.sec := rfl
@[simp] theorem State.modGroup_rope (n : Fin 4) (f : PaceGroup → PaceGroup) (s : State)
    : (State.modGroup n f s).rope = s.rope := rfl
@[simp] theorem State.modGroup_board (n : Fin 4) (f : PaceGroup → PaceGroup) (s : State)
    : (State.modGroup n f s).board = s.board := rfl
@[simp] theorem State.modGroup_tl (n : Fin 4) (f : PaceGroup → PaceGroup) (s : State)
    : (State.modGroup n f s).tl = s.tl := rfl
@[simp] theorem State.modGroup_pace (n : Fin 4) (f : PaceGroup → PaceGroup) (s : State)
    : (State.modGroup n f s).pace = { s.pace with groups := s.pace.groups.set n (f s.pace.groups[n]) } := rfl
@[simp] theorem State.modGroup_cel (n : Fin 4) (f : PaceGroup → PaceGroup) (s : State)
    : (State.modGroup n f s).cel = s.cel := rfl
@[simp] theorem State.modGroup_wea (n : Fin 4) (f : PaceGroup → PaceGroup) (s : State)
    : (State.modGroup n f s).wea = s.wea := rfl
@[simp] theorem State.modGroup_ports (n : Fin 4) (f : PaceGroup → PaceGroup) (s : State)
    : (State.modGroup n f s).ports = s.ports := rfl
@[simp] theorem State.modGroup_axes (n : Fin 4) (f : PaceGroup → PaceGroup) (s : State)
    : (State.modGroup n f s).axes = s.axes := rfl
@[simp] theorem State.modGroup_encs (n : Fin 4) (f : PaceGroup → PaceGroup) (s : State)
    : (State.modGroup n f s).encs = s.encs := rfl
@[simp] theorem State.modGroup_rings (n : Fin 4) (f : PaceGroup → PaceGroup) (s : State)
    : (State.modGroup n f s).rings = s.rings := rfl
@[simp] theorem State.modGroup_pci (n : Fin 4) (f : PaceGroup → PaceGroup) (s : State)
    : (State.modGroup n f s).pci = s.pci := rfl
@[simp] theorem State.modGroup_host0 (n : Fin 4) (f : PaceGroup → PaceGroup) (s : State)
    : (State.modGroup n f s).host0 = s.host0 := rfl
@[simp] theorem State.modGroup_host1 (n : Fin 4) (f : PaceGroup → PaceGroup) (s : State)
    : (State.modGroup n f s).host1 = s.host1 := rfl
@[simp] theorem State.modGroup_smbShot (n : Fin 4) (f : PaceGroup → PaceGroup) (s : State)
    : (State.modGroup n f s).smbShot = s.smbShot := rfl
@[simp] theorem State.modGroup_posted (n : Fin 4) (f : PaceGroup → PaceGroup) (s : State)
    : (State.modGroup n f s).posted = s.posted := rfl

/-! `State.modPace` -/

@[simp] theorem State.modPace_pending (n : Fin 8) (f : PacePort → PacePort) (s : State)
    : (State.modPace n f s).pending = s.pending := rfl
@[simp] theorem State.modPace_ticks (n : Fin 8) (f : PacePort → PacePort) (s : State)
    : (State.modPace n f s).ticks = s.ticks := rfl
@[simp] theorem State.modPace_free (n : Fin 8) (f : PacePort → PacePort) (s : State)
    : (State.modPace n f s).free = s.free := rfl
@[simp] theorem State.modPace_sys (n : Fin 8) (f : PacePort → PacePort) (s : State)
    : (State.modPace n f s).sys = s.sys := rfl
@[simp] theorem State.modPace_cmd (n : Fin 8) (f : PacePort → PacePort) (s : State)
    : (State.modPace n f s).cmd = s.cmd := rfl
@[simp] theorem State.modPace_ldg (n : Fin 8) (f : PacePort → PacePort) (s : State)
    : (State.modPace n f s).ldg = s.ldg := rfl
@[simp] theorem State.modPace_evf (n : Fin 8) (f : PacePort → PacePort) (s : State)
    : (State.modPace n f s).evf = s.evf := rfl
@[simp] theorem State.modPace_dma (n : Fin 8) (f : PacePort → PacePort) (s : State)
    : (State.modPace n f s).dma = s.dma := rfl
@[simp] theorem State.modPace_madc (n : Fin 8) (f : PacePort → PacePort) (s : State)
    : (State.modPace n f s).madc = s.madc := rfl
@[simp] theorem State.modPace_trig (n : Fin 8) (f : PacePort → PacePort) (s : State)
    : (State.modPace n f s).trig = s.trig := rfl
@[simp] theorem State.modPace_sec (n : Fin 8) (f : PacePort → PacePort) (s : State)
    : (State.modPace n f s).sec = s.sec := rfl
@[simp] theorem State.modPace_rope (n : Fin 8) (f : PacePort → PacePort) (s : State)
    : (State.modPace n f s).rope = s.rope := rfl
@[simp] theorem State.modPace_board (n : Fin 8) (f : PacePort → PacePort) (s : State)
    : (State.modPace n f s).board = s.board := rfl
@[simp] theorem State.modPace_tl (n : Fin 8) (f : PacePort → PacePort) (s : State) : (State.modPace n f s).tl = s.tl := rfl
@[simp] theorem State.modPace_pace (n : Fin 8) (f : PacePort → PacePort) (s : State)
    : (State.modPace n f s).pace = { s.pace with ports := s.pace.ports.set n (f s.pace.ports[n]) } := rfl
@[simp] theorem State.modPace_cel (n : Fin 8) (f : PacePort → PacePort) (s : State)
    : (State.modPace n f s).cel = s.cel := rfl
@[simp] theorem State.modPace_wea (n : Fin 8) (f : PacePort → PacePort) (s : State)
    : (State.modPace n f s).wea = s.wea := rfl
@[simp] theorem State.modPace_ports (n : Fin 8) (f : PacePort → PacePort) (s : State)
    : (State.modPace n f s).ports = s.ports := rfl
@[simp] theorem State.modPace_axes (n : Fin 8) (f : PacePort → PacePort) (s : State)
    : (State.modPace n f s).axes = s.axes := rfl
@[simp] theorem State.modPace_encs (n : Fin 8) (f : PacePort → PacePort) (s : State)
    : (State.modPace n f s).encs = s.encs := rfl
@[simp] theorem State.modPace_rings (n : Fin 8) (f : PacePort → PacePort) (s : State)
    : (State.modPace n f s).rings = s.rings := rfl
@[simp] theorem State.modPace_pci (n : Fin 8) (f : PacePort → PacePort) (s : State)
    : (State.modPace n f s).pci = s.pci := rfl
@[simp] theorem State.modPace_host0 (n : Fin 8) (f : PacePort → PacePort) (s : State)
    : (State.modPace n f s).host0 = s.host0 := rfl
@[simp] theorem State.modPace_host1 (n : Fin 8) (f : PacePort → PacePort) (s : State)
    : (State.modPace n f s).host1 = s.host1 := rfl
@[simp] theorem State.modPace_smbShot (n : Fin 8) (f : PacePort → PacePort) (s : State)
    : (State.modPace n f s).smbShot = s.smbShot := rfl
@[simp] theorem State.modPace_posted (n : Fin 8) (f : PacePort → PacePort) (s : State)
    : (State.modPace n f s).posted = s.posted := rfl

/-! `State.modSeq` -/

@[simp] theorem State.modSeq_pending (n : Fin 16) (f : MadcSeq → MadcSeq) (s : State)
    : (State.modSeq n f s).pending = s.pending := rfl
@[simp] theorem State.modSeq_ticks (n : Fin 16) (f : MadcSeq → MadcSeq) (s : State)
    : (State.modSeq n f s).ticks = s.ticks := rfl
@[simp] theorem State.modSeq_free (n : Fin 16) (f : MadcSeq → MadcSeq) (s : State)
    : (State.modSeq n f s).free = s.free := rfl
@[simp] theorem State.modSeq_sys (n : Fin 16) (f : MadcSeq → MadcSeq) (s : State) : (State.modSeq n f s).sys = s.sys := rfl
@[simp] theorem State.modSeq_cmd (n : Fin 16) (f : MadcSeq → MadcSeq) (s : State) : (State.modSeq n f s).cmd = s.cmd := rfl
@[simp] theorem State.modSeq_ldg (n : Fin 16) (f : MadcSeq → MadcSeq) (s : State) : (State.modSeq n f s).ldg = s.ldg := rfl
@[simp] theorem State.modSeq_evf (n : Fin 16) (f : MadcSeq → MadcSeq) (s : State) : (State.modSeq n f s).evf = s.evf := rfl
@[simp] theorem State.modSeq_dma (n : Fin 16) (f : MadcSeq → MadcSeq) (s : State) : (State.modSeq n f s).dma = s.dma := rfl
@[simp] theorem State.modSeq_madc (n : Fin 16) (f : MadcSeq → MadcSeq) (s : State)
    : (State.modSeq n f s).madc = { s.madc with seqs := s.madc.seqs.set n (f s.madc.seqs[n]) } := rfl
@[simp] theorem State.modSeq_trig (n : Fin 16) (f : MadcSeq → MadcSeq) (s : State)
    : (State.modSeq n f s).trig = s.trig := rfl
@[simp] theorem State.modSeq_sec (n : Fin 16) (f : MadcSeq → MadcSeq) (s : State) : (State.modSeq n f s).sec = s.sec := rfl
@[simp] theorem State.modSeq_rope (n : Fin 16) (f : MadcSeq → MadcSeq) (s : State)
    : (State.modSeq n f s).rope = s.rope := rfl
@[simp] theorem State.modSeq_board (n : Fin 16) (f : MadcSeq → MadcSeq) (s : State)
    : (State.modSeq n f s).board = s.board := rfl
@[simp] theorem State.modSeq_tl (n : Fin 16) (f : MadcSeq → MadcSeq) (s : State) : (State.modSeq n f s).tl = s.tl := rfl
@[simp] theorem State.modSeq_pace (n : Fin 16) (f : MadcSeq → MadcSeq) (s : State)
    : (State.modSeq n f s).pace = s.pace := rfl
@[simp] theorem State.modSeq_cel (n : Fin 16) (f : MadcSeq → MadcSeq) (s : State) : (State.modSeq n f s).cel = s.cel := rfl
@[simp] theorem State.modSeq_wea (n : Fin 16) (f : MadcSeq → MadcSeq) (s : State) : (State.modSeq n f s).wea = s.wea := rfl
@[simp] theorem State.modSeq_ports (n : Fin 16) (f : MadcSeq → MadcSeq) (s : State)
    : (State.modSeq n f s).ports = s.ports := rfl
@[simp] theorem State.modSeq_axes (n : Fin 16) (f : MadcSeq → MadcSeq) (s : State)
    : (State.modSeq n f s).axes = s.axes := rfl
@[simp] theorem State.modSeq_encs (n : Fin 16) (f : MadcSeq → MadcSeq) (s : State)
    : (State.modSeq n f s).encs = s.encs := rfl
@[simp] theorem State.modSeq_rings (n : Fin 16) (f : MadcSeq → MadcSeq) (s : State)
    : (State.modSeq n f s).rings = s.rings := rfl
@[simp] theorem State.modSeq_pci (n : Fin 16) (f : MadcSeq → MadcSeq) (s : State) : (State.modSeq n f s).pci = s.pci := rfl
@[simp] theorem State.modSeq_host0 (n : Fin 16) (f : MadcSeq → MadcSeq) (s : State)
    : (State.modSeq n f s).host0 = s.host0 := rfl
@[simp] theorem State.modSeq_host1 (n : Fin 16) (f : MadcSeq → MadcSeq) (s : State)
    : (State.modSeq n f s).host1 = s.host1 := rfl
@[simp] theorem State.modSeq_smbShot (n : Fin 16) (f : MadcSeq → MadcSeq) (s : State)
    : (State.modSeq n f s).smbShot = s.smbShot := rfl
@[simp] theorem State.modSeq_posted (n : Fin 16) (f : MadcSeq → MadcSeq) (s : State)
    : (State.modSeq n f s).posted = s.posted := rfl

/-! `State.modCore` -/

@[simp] theorem State.modCore_pending (n : Fin 2) (f : MadcCore → MadcCore) (s : State)
    : (State.modCore n f s).pending = s.pending := rfl
@[simp] theorem State.modCore_ticks (n : Fin 2) (f : MadcCore → MadcCore) (s : State)
    : (State.modCore n f s).ticks = s.ticks := rfl
@[simp] theorem State.modCore_free (n : Fin 2) (f : MadcCore → MadcCore) (s : State)
    : (State.modCore n f s).free = s.free := rfl
@[simp] theorem State.modCore_sys (n : Fin 2) (f : MadcCore → MadcCore) (s : State)
    : (State.modCore n f s).sys = s.sys := rfl
@[simp] theorem State.modCore_cmd (n : Fin 2) (f : MadcCore → MadcCore) (s : State)
    : (State.modCore n f s).cmd = s.cmd := rfl
@[simp] theorem State.modCore_ldg (n : Fin 2) (f : MadcCore → MadcCore) (s : State)
    : (State.modCore n f s).ldg = s.ldg := rfl
@[simp] theorem State.modCore_evf (n : Fin 2) (f : MadcCore → MadcCore) (s : State)
    : (State.modCore n f s).evf = s.evf := rfl
@[simp] theorem State.modCore_dma (n : Fin 2) (f : MadcCore → MadcCore) (s : State)
    : (State.modCore n f s).dma = s.dma := rfl
@[simp] theorem State.modCore_madc (n : Fin 2) (f : MadcCore → MadcCore) (s : State)
    : (State.modCore n f s).madc = { s.madc with cores := s.madc.cores.set n (f s.madc.cores[n]) } := rfl
@[simp] theorem State.modCore_trig (n : Fin 2) (f : MadcCore → MadcCore) (s : State)
    : (State.modCore n f s).trig = s.trig := rfl
@[simp] theorem State.modCore_sec (n : Fin 2) (f : MadcCore → MadcCore) (s : State)
    : (State.modCore n f s).sec = s.sec := rfl
@[simp] theorem State.modCore_rope (n : Fin 2) (f : MadcCore → MadcCore) (s : State)
    : (State.modCore n f s).rope = s.rope := rfl
@[simp] theorem State.modCore_board (n : Fin 2) (f : MadcCore → MadcCore) (s : State)
    : (State.modCore n f s).board = s.board := rfl
@[simp] theorem State.modCore_tl (n : Fin 2) (f : MadcCore → MadcCore) (s : State) : (State.modCore n f s).tl = s.tl := rfl
@[simp] theorem State.modCore_pace (n : Fin 2) (f : MadcCore → MadcCore) (s : State)
    : (State.modCore n f s).pace = s.pace := rfl
@[simp] theorem State.modCore_cel (n : Fin 2) (f : MadcCore → MadcCore) (s : State)
    : (State.modCore n f s).cel = s.cel := rfl
@[simp] theorem State.modCore_wea (n : Fin 2) (f : MadcCore → MadcCore) (s : State)
    : (State.modCore n f s).wea = s.wea := rfl
@[simp] theorem State.modCore_ports (n : Fin 2) (f : MadcCore → MadcCore) (s : State)
    : (State.modCore n f s).ports = s.ports := rfl
@[simp] theorem State.modCore_axes (n : Fin 2) (f : MadcCore → MadcCore) (s : State)
    : (State.modCore n f s).axes = s.axes := rfl
@[simp] theorem State.modCore_encs (n : Fin 2) (f : MadcCore → MadcCore) (s : State)
    : (State.modCore n f s).encs = s.encs := rfl
@[simp] theorem State.modCore_rings (n : Fin 2) (f : MadcCore → MadcCore) (s : State)
    : (State.modCore n f s).rings = s.rings := rfl
@[simp] theorem State.modCore_pci (n : Fin 2) (f : MadcCore → MadcCore) (s : State)
    : (State.modCore n f s).pci = s.pci := rfl
@[simp] theorem State.modCore_host0 (n : Fin 2) (f : MadcCore → MadcCore) (s : State)
    : (State.modCore n f s).host0 = s.host0 := rfl
@[simp] theorem State.modCore_host1 (n : Fin 2) (f : MadcCore → MadcCore) (s : State)
    : (State.modCore n f s).host1 = s.host1 := rfl
@[simp] theorem State.modCore_smbShot (n : Fin 2) (f : MadcCore → MadcCore) (s : State)
    : (State.modCore n f s).smbShot = s.smbShot := rfl
@[simp] theorem State.modCore_posted (n : Fin 2) (f : MadcCore → MadcCore) (s : State)
    : (State.modCore n f s).posted = s.posted := rfl

/-! `State.modCell` -/

@[simp] theorem State.modCell_pending (n : Fin 64) (f : TrigCell → TrigCell) (s : State)
    : (State.modCell n f s).pending = s.pending := rfl
@[simp] theorem State.modCell_ticks (n : Fin 64) (f : TrigCell → TrigCell) (s : State)
    : (State.modCell n f s).ticks = s.ticks := rfl
@[simp] theorem State.modCell_free (n : Fin 64) (f : TrigCell → TrigCell) (s : State)
    : (State.modCell n f s).free = s.free := rfl
@[simp] theorem State.modCell_sys (n : Fin 64) (f : TrigCell → TrigCell) (s : State)
    : (State.modCell n f s).sys = s.sys := rfl
@[simp] theorem State.modCell_cmd (n : Fin 64) (f : TrigCell → TrigCell) (s : State)
    : (State.modCell n f s).cmd = s.cmd := rfl
@[simp] theorem State.modCell_ldg (n : Fin 64) (f : TrigCell → TrigCell) (s : State)
    : (State.modCell n f s).ldg = s.ldg := rfl
@[simp] theorem State.modCell_evf (n : Fin 64) (f : TrigCell → TrigCell) (s : State)
    : (State.modCell n f s).evf = s.evf := rfl
@[simp] theorem State.modCell_dma (n : Fin 64) (f : TrigCell → TrigCell) (s : State)
    : (State.modCell n f s).dma = s.dma := rfl
@[simp] theorem State.modCell_madc (n : Fin 64) (f : TrigCell → TrigCell) (s : State)
    : (State.modCell n f s).madc = s.madc := rfl
@[simp] theorem State.modCell_trig (n : Fin 64) (f : TrigCell → TrigCell) (s : State)
    : (State.modCell n f s).trig = { s.trig with cells := s.trig.cells.set n (f s.trig.cells[n]) } := rfl
@[simp] theorem State.modCell_sec (n : Fin 64) (f : TrigCell → TrigCell) (s : State)
    : (State.modCell n f s).sec = s.sec := rfl
@[simp] theorem State.modCell_rope (n : Fin 64) (f : TrigCell → TrigCell) (s : State)
    : (State.modCell n f s).rope = s.rope := rfl
@[simp] theorem State.modCell_board (n : Fin 64) (f : TrigCell → TrigCell) (s : State)
    : (State.modCell n f s).board = s.board := rfl
@[simp] theorem State.modCell_tl (n : Fin 64) (f : TrigCell → TrigCell) (s : State) : (State.modCell n f s).tl = s.tl := rfl
@[simp] theorem State.modCell_pace (n : Fin 64) (f : TrigCell → TrigCell) (s : State)
    : (State.modCell n f s).pace = s.pace := rfl
@[simp] theorem State.modCell_cel (n : Fin 64) (f : TrigCell → TrigCell) (s : State)
    : (State.modCell n f s).cel = s.cel := rfl
@[simp] theorem State.modCell_wea (n : Fin 64) (f : TrigCell → TrigCell) (s : State)
    : (State.modCell n f s).wea = s.wea := rfl
@[simp] theorem State.modCell_ports (n : Fin 64) (f : TrigCell → TrigCell) (s : State)
    : (State.modCell n f s).ports = s.ports := rfl
@[simp] theorem State.modCell_axes (n : Fin 64) (f : TrigCell → TrigCell) (s : State)
    : (State.modCell n f s).axes = s.axes := rfl
@[simp] theorem State.modCell_encs (n : Fin 64) (f : TrigCell → TrigCell) (s : State)
    : (State.modCell n f s).encs = s.encs := rfl
@[simp] theorem State.modCell_rings (n : Fin 64) (f : TrigCell → TrigCell) (s : State)
    : (State.modCell n f s).rings = s.rings := rfl
@[simp] theorem State.modCell_pci (n : Fin 64) (f : TrigCell → TrigCell) (s : State)
    : (State.modCell n f s).pci = s.pci := rfl
@[simp] theorem State.modCell_host0 (n : Fin 64) (f : TrigCell → TrigCell) (s : State)
    : (State.modCell n f s).host0 = s.host0 := rfl
@[simp] theorem State.modCell_host1 (n : Fin 64) (f : TrigCell → TrigCell) (s : State)
    : (State.modCell n f s).host1 = s.host1 := rfl
@[simp] theorem State.modCell_smbShot (n : Fin 64) (f : TrigCell → TrigCell) (s : State)
    : (State.modCell n f s).smbShot = s.smbShot := rfl
@[simp] theorem State.modCell_posted (n : Fin 64) (f : TrigCell → TrigCell) (s : State)
    : (State.modCell n f s).posted = s.posted := rfl

/-! `State.modRun` -/

@[simp] theorem State.modRun_pending (n : DWord) (f : CalRun → CalRun) (s : State)
    : (State.modRun n f s).pending = s.pending := rfl
@[simp] theorem State.modRun_ticks (n : DWord) (f : CalRun → CalRun) (s : State)
    : (State.modRun n f s).ticks = s.ticks := rfl
@[simp] theorem State.modRun_free (n : DWord) (f : CalRun → CalRun) (s : State) : (State.modRun n f s).free = s.free := rfl
@[simp] theorem State.modRun_sys (n : DWord) (f : CalRun → CalRun) (s : State) : (State.modRun n f s).sys = s.sys := rfl
@[simp] theorem State.modRun_cmd (n : DWord) (f : CalRun → CalRun) (s : State) : (State.modRun n f s).cmd = s.cmd := rfl
@[simp] theorem State.modRun_ldg (n : DWord) (f : CalRun → CalRun) (s : State) : (State.modRun n f s).ldg = s.ldg := rfl
@[simp] theorem State.modRun_evf (n : DWord) (f : CalRun → CalRun) (s : State) : (State.modRun n f s).evf = s.evf := rfl
@[simp] theorem State.modRun_dma (n : DWord) (f : CalRun → CalRun) (s : State) : (State.modRun n f s).dma = s.dma := rfl
@[simp] theorem State.modRun_madc (n : DWord) (f : CalRun → CalRun) (s : State) : (State.modRun n f s).madc = s.madc := rfl
@[simp] theorem State.modRun_trig (n : DWord) (f : CalRun → CalRun) (s : State)
    : (State.modRun n f s).trig = { s.trig with runs := s.trig.runs.map fun r => if r.seq = n then f r else r } := rfl
@[simp] theorem State.modRun_sec (n : DWord) (f : CalRun → CalRun) (s : State) : (State.modRun n f s).sec = s.sec := rfl
@[simp] theorem State.modRun_rope (n : DWord) (f : CalRun → CalRun) (s : State) : (State.modRun n f s).rope = s.rope := rfl
@[simp] theorem State.modRun_board (n : DWord) (f : CalRun → CalRun) (s : State)
    : (State.modRun n f s).board = s.board := rfl
@[simp] theorem State.modRun_tl (n : DWord) (f : CalRun → CalRun) (s : State) : (State.modRun n f s).tl = s.tl := rfl
@[simp] theorem State.modRun_pace (n : DWord) (f : CalRun → CalRun) (s : State) : (State.modRun n f s).pace = s.pace := rfl
@[simp] theorem State.modRun_cel (n : DWord) (f : CalRun → CalRun) (s : State) : (State.modRun n f s).cel = s.cel := rfl
@[simp] theorem State.modRun_wea (n : DWord) (f : CalRun → CalRun) (s : State) : (State.modRun n f s).wea = s.wea := rfl
@[simp] theorem State.modRun_ports (n : DWord) (f : CalRun → CalRun) (s : State)
    : (State.modRun n f s).ports = s.ports := rfl
@[simp] theorem State.modRun_axes (n : DWord) (f : CalRun → CalRun) (s : State) : (State.modRun n f s).axes = s.axes := rfl
@[simp] theorem State.modRun_encs (n : DWord) (f : CalRun → CalRun) (s : State) : (State.modRun n f s).encs = s.encs := rfl
@[simp] theorem State.modRun_rings (n : DWord) (f : CalRun → CalRun) (s : State)
    : (State.modRun n f s).rings = s.rings := rfl
@[simp] theorem State.modRun_pci (n : DWord) (f : CalRun → CalRun) (s : State) : (State.modRun n f s).pci = s.pci := rfl
@[simp] theorem State.modRun_host0 (n : DWord) (f : CalRun → CalRun) (s : State)
    : (State.modRun n f s).host0 = s.host0 := rfl
@[simp] theorem State.modRun_host1 (n : DWord) (f : CalRun → CalRun) (s : State)
    : (State.modRun n f s).host1 = s.host1 := rfl
@[simp] theorem State.modRun_smbShot (n : DWord) (f : CalRun → CalRun) (s : State)
    : (State.modRun n f s).smbShot = s.smbShot := rfl
@[simp] theorem State.modRun_posted (n : DWord) (f : CalRun → CalRun) (s : State)
    : (State.modRun n f s).posted = s.posted := rfl

/-! `State.modFlight` -/

@[simp] theorem State.modFlight_pending (n : DWord) (f : Flight → Flight) (s : State)
    : (State.modFlight n f s).pending = s.pending := rfl
@[simp] theorem State.modFlight_ticks (n : DWord) (f : Flight → Flight) (s : State)
    : (State.modFlight n f s).ticks = s.ticks := rfl
@[simp] theorem State.modFlight_free (n : DWord) (f : Flight → Flight) (s : State)
    : (State.modFlight n f s).free = s.free := rfl
@[simp] theorem State.modFlight_sys (n : DWord) (f : Flight → Flight) (s : State)
    : (State.modFlight n f s).sys = s.sys := rfl
@[simp] theorem State.modFlight_cmd (n : DWord) (f : Flight → Flight) (s : State)
    : (State.modFlight n f s).cmd = { s.cmd with flights := s.cmd.flights.map fun x => if x.seq == n then f x else x } := rfl
@[simp] theorem State.modFlight_ldg (n : DWord) (f : Flight → Flight) (s : State)
    : (State.modFlight n f s).ldg = s.ldg := rfl
@[simp] theorem State.modFlight_evf (n : DWord) (f : Flight → Flight) (s : State)
    : (State.modFlight n f s).evf = s.evf := rfl
@[simp] theorem State.modFlight_dma (n : DWord) (f : Flight → Flight) (s : State)
    : (State.modFlight n f s).dma = s.dma := rfl
@[simp] theorem State.modFlight_madc (n : DWord) (f : Flight → Flight) (s : State)
    : (State.modFlight n f s).madc = s.madc := rfl
@[simp] theorem State.modFlight_trig (n : DWord) (f : Flight → Flight) (s : State)
    : (State.modFlight n f s).trig = s.trig := rfl
@[simp] theorem State.modFlight_sec (n : DWord) (f : Flight → Flight) (s : State)
    : (State.modFlight n f s).sec = s.sec := rfl
@[simp] theorem State.modFlight_rope (n : DWord) (f : Flight → Flight) (s : State)
    : (State.modFlight n f s).rope = s.rope := rfl
@[simp] theorem State.modFlight_board (n : DWord) (f : Flight → Flight) (s : State)
    : (State.modFlight n f s).board = s.board := rfl
@[simp] theorem State.modFlight_tl (n : DWord) (f : Flight → Flight) (s : State) : (State.modFlight n f s).tl = s.tl := rfl
@[simp] theorem State.modFlight_pace (n : DWord) (f : Flight → Flight) (s : State)
    : (State.modFlight n f s).pace = s.pace := rfl
@[simp] theorem State.modFlight_cel (n : DWord) (f : Flight → Flight) (s : State)
    : (State.modFlight n f s).cel = s.cel := rfl
@[simp] theorem State.modFlight_wea (n : DWord) (f : Flight → Flight) (s : State)
    : (State.modFlight n f s).wea = s.wea := rfl
@[simp] theorem State.modFlight_ports (n : DWord) (f : Flight → Flight) (s : State)
    : (State.modFlight n f s).ports = s.ports := rfl
@[simp] theorem State.modFlight_axes (n : DWord) (f : Flight → Flight) (s : State)
    : (State.modFlight n f s).axes = s.axes := rfl
@[simp] theorem State.modFlight_encs (n : DWord) (f : Flight → Flight) (s : State)
    : (State.modFlight n f s).encs = s.encs := rfl
@[simp] theorem State.modFlight_rings (n : DWord) (f : Flight → Flight) (s : State)
    : (State.modFlight n f s).rings = s.rings := rfl
@[simp] theorem State.modFlight_pci (n : DWord) (f : Flight → Flight) (s : State)
    : (State.modFlight n f s).pci = s.pci := rfl
@[simp] theorem State.modFlight_host0 (n : DWord) (f : Flight → Flight) (s : State)
    : (State.modFlight n f s).host0 = s.host0 := rfl
@[simp] theorem State.modFlight_host1 (n : DWord) (f : Flight → Flight) (s : State)
    : (State.modFlight n f s).host1 = s.host1 := rfl
@[simp] theorem State.modFlight_smbShot (n : DWord) (f : Flight → Flight) (s : State)
    : (State.modFlight n f s).smbShot = s.smbShot := rfl
@[simp] theorem State.modFlight_posted (n : DWord) (f : Flight → Flight) (s : State)
    : (State.modFlight n f s).posted = s.posted := rfl

/-! `State.pushReply` -/

@[simp] theorem State.pushReply_pending (r : Reply) (s : State) : (State.pushReply r s).pending = s.pending := rfl
@[simp] theorem State.pushReply_ticks (r : Reply) (s : State) : (State.pushReply r s).ticks = s.ticks := rfl
@[simp] theorem State.pushReply_free (r : Reply) (s : State) : (State.pushReply r s).free = s.free := rfl
@[simp] theorem State.pushReply_sys (r : Reply) (s : State) : (State.pushReply r s).sys = s.sys := rfl
@[simp] theorem State.pushReply_cmd (r : Reply) (s : State)
    : (State.pushReply r s).cmd = { s.cmd with replies := s.cmd.replies ++ [r] } := rfl
@[simp] theorem State.pushReply_ldg (r : Reply) (s : State) : (State.pushReply r s).ldg = s.ldg := rfl
@[simp] theorem State.pushReply_evf (r : Reply) (s : State) : (State.pushReply r s).evf = s.evf := rfl
@[simp] theorem State.pushReply_dma (r : Reply) (s : State) : (State.pushReply r s).dma = s.dma := rfl
@[simp] theorem State.pushReply_madc (r : Reply) (s : State) : (State.pushReply r s).madc = s.madc := rfl
@[simp] theorem State.pushReply_trig (r : Reply) (s : State) : (State.pushReply r s).trig = s.trig := rfl
@[simp] theorem State.pushReply_sec (r : Reply) (s : State) : (State.pushReply r s).sec = s.sec := rfl
@[simp] theorem State.pushReply_rope (r : Reply) (s : State) : (State.pushReply r s).rope = s.rope := rfl
@[simp] theorem State.pushReply_board (r : Reply) (s : State) : (State.pushReply r s).board = s.board := rfl
@[simp] theorem State.pushReply_tl (r : Reply) (s : State) : (State.pushReply r s).tl = s.tl := rfl
@[simp] theorem State.pushReply_pace (r : Reply) (s : State) : (State.pushReply r s).pace = s.pace := rfl
@[simp] theorem State.pushReply_cel (r : Reply) (s : State) : (State.pushReply r s).cel = s.cel := rfl
@[simp] theorem State.pushReply_wea (r : Reply) (s : State) : (State.pushReply r s).wea = s.wea := rfl
@[simp] theorem State.pushReply_ports (r : Reply) (s : State) : (State.pushReply r s).ports = s.ports := rfl
@[simp] theorem State.pushReply_axes (r : Reply) (s : State) : (State.pushReply r s).axes = s.axes := rfl
@[simp] theorem State.pushReply_encs (r : Reply) (s : State) : (State.pushReply r s).encs = s.encs := rfl
@[simp] theorem State.pushReply_rings (r : Reply) (s : State) : (State.pushReply r s).rings = s.rings := rfl
@[simp] theorem State.pushReply_pci (r : Reply) (s : State) : (State.pushReply r s).pci = s.pci := rfl
@[simp] theorem State.pushReply_host0 (r : Reply) (s : State) : (State.pushReply r s).host0 = s.host0 := rfl
@[simp] theorem State.pushReply_host1 (r : Reply) (s : State) : (State.pushReply r s).host1 = s.host1 := rfl
@[simp] theorem State.pushReply_smbShot (r : Reply) (s : State) : (State.pushReply r s).smbShot = s.smbShot := rfl
@[simp] theorem State.pushReply_posted (r : Reply) (s : State) : (State.pushReply r s).posted = s.posted := rfl

end Sys2Proof.Machine
end

