-- ==== Sys2Proof/WellFormed.lean ====
section
/-! DEFINITION. Well-formed commands: operands that the outside can present. -/

namespace Sys2Proof

/-- Why a term is no command: a packet whose parameters are not as long as its header says, a ring number past the table
(11 R273), a 32-bit doorbell wider than 32 bits (10 R230), an offset outside its BAR or not aligned (16 R368), a list
whose length the unit fixes. -/
inductive IllFormed where
  | paramLength
  | ringNumber
  | halfRange
  | offset
  | listLength
  | linkShape
  deriving DecidableEq, Repr

/-- The first check that fails. -/
def firstIll : List (Bool × IllFormed) → Option IllFormed
  | [] => none
  | (c, r) :: l => if c then some r else firstIll l

/-- A packet's parameters are those its header announces (10 Table 10.1); the device reads none past 4,064. -/
def packetIll (p : Packet) : Option IllFormed :=
  firstIll [(p.paramLen.toNat ≤ 4064 && p.params.length != p.paramLen.toNat, .paramLength), (8192 ≤ p.ring, .ringNumber)]

/-- A BAR0 access of one register (16 R368). -/
def offsetIll (off : Nat) : Option IllFormed := firstIll [(off % 4 != 0 || 2 ^ 24 ≤ off, .offset)]

/-- What is wrong with a command, if anything. -/
def Instr.illFormed (i : Instr) : Option IllFormed :=
  match i with
  | .nop p => packetIll p
  | .identify p => packetIll p
  | .setMode p => packetIll p
  | .getStatus p => packetIll p
  | .resetBlock p => packetIll p
  | .setTime p => packetIll p
  | .selfTest p => packetIll p
  | .batchOpen p => packetIll p
  | .batchClose p => packetIll p
  | .docBegin p => packetIll p
  | .docEnd p => packetIll p
  | .batchAbort p => packetIll p
  | .portConfig p => packetIll p
  | .patternLoad p => packetIll p
  | .portArm p => packetIll p
  | .portDisarm p => packetIll p
  | .portReconfig p => packetIll p
  | .alignSet p => packetIll p
  | .outputFormat p => packetIll p
  | .axisConfig p => packetIll p
  | .moveTo p => packetIll p
  | .moveVelocity p => packetIll p
  | .stop p => packetIll p
  | .resume p => packetIll p
  | .home p => packetIll p
  | .gearSet p => packetIll p
  | .gearRatioAt p => packetIll p
  | .axisLimits p => packetIll p
  | .holdPark p => packetIll p
  | .madcSequence p => packetIll p
  | .madcStart p => packetIll p
  | .madcUrgent p => packetIll p
  | .refbufEnable p => packetIll p
  | .calVideo p => packetIll p
  | .calShading p => packetIll p
  | .calAlign p => packetIll p
  | .calMadcZero p => packetIll p
  | .calMadcFull p => packetIll p
  | .calCommit p => packetIll p
  | .calQuery p => packetIll p
  | .calRevert p => packetIll p
  | .calDrive p => packetIll p
  | .ringCreate p => packetIll p
  | .ringDestroy p => packetIll p
  | .dmaCopy p => packetIll p
  | .dmaFence p => packetIll p
  | .regionSet p => packetIll p
  | .routeSet p => packetIll p
  | .routeClear p => packetIll p
  | .routeQuery p => packetIll p
  | .paceConfig p => packetIll p
  | .paceQuery p => packetIll p
  | .seamPolicy p => packetIll p
  | .ropePair p => packetIll p
  | .ropeSwap p => packetIll p
  | .ropeRelease p => packetIll p
  | .ropeStatus p => packetIll p
  | .worldAssign p => packetIll p
  | .attest p => packetIll p
  | .fwStage p => packetIll p
  | .fwActivate p => packetIll p
  | .keyInfo p => packetIll p
  | .signPolicy p => packetIll p
  | .estateSet p => packetIll p
  | .ledgerRead p => packetIll p
  | .ledgerCheckpoint p => packetIll p
  | .ledgerTrim p => packetIll p
  | .badOpcode _ _ => none
  | .doorbell _ _ ring half value => firstIll [(8192 ≤ ring, .ringNumber), (half ≠ .whole && 2 ^ 32 ≤ value.toNat, .halfRange)]
  | .portnSnap _ _ _ _ => none
  | .latchingRead _ _ off => offsetIll off
  | .shadowRead _ _ off => offsetIll off
  | .madcResLo _ _ => none
  | .madcResHi _ _ => none
  | .evfFire _ _ _ => none
  | .ldgWinSeqHi _ _ _ _ => none
  | .ringtWrite _ _ _ _ _ => none
  | .cellarWindowAccess _ _ off _ => firstIll [(2 ^ 32 ≤ off, .offset)]
  | .badAccess _ _ => none
  | .registerWrite _ _ off _ => offsetIll off
  | .arrive _ _ _ _ _ => none
  | .withdraw _ _ _ _ => none
  | .path _ _ _ => none
  | .jam _ _ _ => none
  | .ack _ _ _ _ => none
  | .hello _ _ => none
  | .tlBadFrame _ => none
  | .tlHelloSend _ => none
  | .speed _ _ => none
  | .rejectRepeat _ _ => none
  | .tlLinkLoss _ => none
  | .tlLinkReturn _ => none
  | .slotRefill _ => none
  | .encoderEdge _ _ _ _ => none
  | .encoderIndex _ _ _ _ => none
  | .encoderStandstill _ _ => none
  | .encCount _ _ => none
  | .gearCount _ _ => none
  | .lineTrigger _ _ => none
  | .lateLineStart _ _ => none
  | .lineEnd _ _ _ => none
  | .outputLineRelease _ _ _ => none
  | .provenanceSign _ _ => none
  | .docLead _ _ => none
  | .docTrail _ _ => none
  | .tableSwitch _ _ => none
  | .disarmEffect _ _ => none
  | .reconfigEnter _ _ => none
  | .reconfigDrained _ _ => none
  | .lvdsTrainDone _ _ _ => none
  | .lvdsTrainTimeout _ _ _ _ => none
  | .lockLoss _ _ _ => none
  | .lvdsResyncDone _ _ => none
  | .lvdsResyncTimeout _ _ _ => none
  | .vrefSettled _ _ => none
  | .vidReady _ _ _ => none
  | .sliceCalStart _ _ _ => none
  | .sliceCalDone _ _ _ _ => none
  | .sliceSwap _ _ _ => none
  | .sliceCalStep _ _ _ _ => none
  | .calOverdue _ _ _ => none
  | .videoEffect _ _ => none
  | .timeEffect _ _ => none
  | .alignEffect _ _ => none
  | .shadeLoad _ _ => none
  | .refreshSegment _ _ => none
  | .pipeCapUpdate _ _ _ => none
  | .governorUpdate _ => none
  | .overrunHoldEnd _ _ => none
  | .switchbackDrained _ _ => none
  | .stepEvent _ _ => none
  | .loadSampleRequest _ _ => none
  | .chopBlankEnd _ _ _ _ => none
  | .chopTrip _ _ _ => none
  | .chopOffEnd _ _ _ => none
  | .chopOnMax _ _ _ => none
  | .holdCurrentDelay _ _ => none
  | .limitSwitch _ _ _ => none
  | .homeSwitchEdge _ _ _ => none
  | .bridgeFault _ _ _ => none
  | .enSettleDone _ _ => none
  | .parkRampDone _ _ => none
  | .wakeRampDone _ _ => none
  | .madcTrigPin _ _ _ => none
  | .seqTrig _ _ => none
  | .madcPeriodTrigger _ _ => none
  | .madcConversionDone _ _ _ => none
  | .urgentResult _ _ _ => none
  | .madcSlotFlush _ => none
  | .refSettled _ => none
  | .calPhaseDone _ _ => none
  | .deferredCalStart _ => none
  | .nvmEraseDone _ _ => none
  | .nvmProgramDone _ _ => none
  | .nvmCheckDone _ _ => none
  | .weatherPlan _ _ _ _ _ => none
  | .vddSag _ _ => none
  | .initDone _ => none
  | .regionEffect _ _ => none
  | .patrolScrub _ _ _ => none
  | .dmaDelivery _ _ => none
  | .dmaChainStart _ _ desc => firstIll [(desc.length ≠ 32, .listLength)]
  | .descriptorComplete _ _ _ _ => none
  | .fenceReadDone _ _ _ => none
  | .dmaErrorResponse _ _ _ _ => none
  | .dmaTimeout _ _ _ _ => none
  | .dmaErrorLate _ _ _ _ => none
  | .replyWrite _ ring => firstIll [(8192 ≤ ring, .ringNumber)]
  | .eventRecordWrite _ ring => firstIll [(8192 ≤ ring, .ringNumber)]
  | .deadlineExpiry _ _ => none
  | .ledgerPeriodicCheckpoint _ => none
  | .waymarkDelivery _ _ => none
  | .junction _ _ => none
  | .stopRamp _ _ => none
  | .stopQuick _ _ => none
  | .wake _ => none
  | .wakeComplete _ => none
  | .second _ => none
  | .strapLatch b => firstIll [(b.dimms.length ≠ 8, .listLength)]
  | .readyReached _ _ => none
  | .resetNAssert _ => none
  | .pwrgoodFall _ => none
  | .flrPf0 _ => none
  | .flrPf1 _ => none
  | .hotReset _ => none
  | .pcieLinkDown _ _ => none
  | .watchdogRecovery _ _ _ => none
  | .safeEntry _ _ => none
  | .fwStartTimeout _ _ => none
  | .batchSeal _ => none
  | .heartbeatSend _ => none
  | .heartbeat _ _ _ => none
  | .yield _ => none
  | .leadLost _ => none
  | .ropeFault _ => none
  | .hbPathLost _ => none
  | .mirrorAckTimeout _ => none
  | .mirrorItem _ _ => none
  | .tbLockLoss _ => none
  | .tbRelock _ => none
  | .ownTake _ => none
  | .syncDone _ => none
  | .syncTimeout _ => none
  | .eligible _ => none
  | .swapInstant _ => none
  | .ropeWakePulse _ => none
  | .smbReadMode _ => none
  | .smbReadTemp _ sites => firstIll [(sites.length ≠ 8, .listLength)]
  | .smbReadTempSites _ sites => firstIll [(sites.length ≠ 8, .listLength)]
  | .smbReadPower _ _ => none
  | .smbReadRailPower _ rails => firstIll [(rails.length ≠ 10, .listLength)]
  | .smbReadId _ => none
  | .smbAlertResponse _ => none
  | .smbNack _ => none
  | .bypass _ => none
  | .idcode _ => none
  | .samplePreload _ _ => none
  | .extest _ => none
  | .clamp _ => none
  | .highz _ => none
  | .dbgAccess _ => none
  | .tlSymbolLock _ => none
  | .tlSymbolLockLoss _ => none
  | .pcieLinkUp _ what gen width => firstIll [(what == .link && !Machine.linkShape gen.val width.val, .linkShape)]
  | .timebaseLockLoss _ => none
  | .dieTemperatureAlert _ _ _ => none
  | .ropeLaneError _ _ => none
  | .ropeLanesDown _ _ => none
  | .ropeLanesLocked _ _ => none
  | .ownFault _ => none
  | .checkpointSigned _ => none
  | .imageStarted _ _ => none
  | .recoveryBudgetExpiry _ _ _ => none

/-- A well-formed command. -/
def Instr.WellFormed (i : Instr) : Prop := i.illFormed = none

end Sys2Proof
end

