-- ==== Sys2Proof/Tests/Slice0.lean ====
section
/-! SUPPORT. Tests: an ill-formed term for each check of WellFormed, and for each statement of the obligations states and
operands that meet its hypotheses. Each packet command is accepted somewhere. Expected results are those of the rules that
the statements cite. -/

set_option Elab.async false

open Sys2Proof Sys2Proof.Machine

/-! ### Ill-formed terms -/

def testPacket : Packet :=
  { tick := 0, ring := 0, flags := 0, tag := 0, paramLen := 0, replyRing := 0, deadlineUs := 0, cookie := 0, reserved := 0, params := [], hostData := [] }

theorem test_ill_length : (Instr.nop { testPacket with paramLen := 8 }).illFormed = some .paramLength := by decide
theorem test_ill_ring : (Instr.nop { testPacket with ring := 8192 }).illFormed = some .ringNumber := by decide
theorem test_ill_half : (Instr.doorbell 0 .pf0 0 .low 0x100000000).illFormed = some .halfRange := by decide
theorem test_ill_offset : (Instr.registerWrite 0 .pf0 6 0).illFormed = some .offset := by decide
theorem test_ill_list : (Instr.dmaChainStart 0 16 (List.replicate 31 0)).illFormed = some .listLength := by decide
theorem test_ill_link : (Instr.pcieLinkUp 0 .link 0 3).illFormed = some .linkShape ∧ (Instr.pcieLinkUp 0 .link 4 8).illFormed = none := by decide
theorem test_well_formed : (Instr.nop testPacket).illFormed = none ∧ (Instr.dmaChainStart 0 16 (List.replicate 32 0)).illFormed = none
    ∧ (Instr.doorbell 0 .pf0 8191 .low 0xFFFFFFFF).illFormed = none := by decide

/-! ### A small device -/

/-- A board with every unit fitted. -/
def testFit (rope : Bool) : Fitted :=
  { ports := 0xFF, axes := 0xFFF, encs := 0xFF, rope, valid := true, lanes := 0xFFFFFFFF, dimms := 0xFF, ain := 0xFF, tlink := true }

/-- RING0 of PF1 and RING2 of PF0, which carry the packets of the tests. -/
def testRing0 : Ring := { Ring.fresh 0 .command true with bind := 1, slot := 0, sizeLog2 := 8, tail := 100 }
def testRing2 : Ring := { Ring.fresh 2 .command false with bind := 3, slot := 1, sizeLog2 := 8, tail := 100 }

/-- A device out of reset, in READY, whose host has set the four boot rings up. -/
def up : State :=
  { State.reset with
    sys := { SysUnit.fresh with inReset := false, dead := false, mode := .ready, fit := testFit true }
    ldg := { Ledger.fresh with ready := true, epoch := 1 }
    pci := { Pcie.fresh with linkUp := true, pf0 := { PciFunction.fresh with bme := true }, pf1 := { PciFunction.fresh with bme := true } }
    rings := [testRing0, { Ring.fresh 1 .reply true with sizeLog2 := 8 }, testRing2, { Ring.fresh 3 .reply false with sizeLog2 := 8 }] }

/-- Bytes that are zero but for those named. -/
def bytesWith (n : Nat) (sets : List (Nat × Byte)) : List Byte := sets.foldl (fun l x => l.set x.1 x.2) (List.replicate n 0)

/-- A packet on RING0, and one on RING2. -/
def packetOn (ring : Nat) (flags : BitVec 16) (l : List Byte) : Packet :=
  { tick := 5, ring, flags, tag := 7, paramLen := BitVec.ofNat 16 l.length, replyRing := 0, deadlineUs := 0, cookie := 9
    reserved := 0, params := l, hostData := [] }
def secretly (n : Nat) (sets : List (Nat × Byte)) : Packet := packetOn 0 8 (bytesWith n sets)
def openly (n : Nat) (sets : List (Nat × Byte)) : Packet := packetOn 2 0 (bytesWith n sets)

def upRun : State := { up with sys.mode := .run, sys.batchState := .opened }
def upPort (f : Port → Port) (s : State) : State := { s with ports := s.ports.set 0 (f s.ports[0]) }
def upAxis (f : Axis → Axis) (s : State) : State := { s with axes := s.axes.set 0 (f s.axes[0]) }
def testLimits : Limits := { v := 1000, a := 1000, j := 1000, aStop := 1000, jStop := 1000, softEn := false, softMin := 0, softMax := 0 }
def idleAxis (a : Axis) : Axis := { a with st := .idle, positionLost := false, lim := testLimits }
/-- With RING16, the image ring of port 0. -/
def upImage (s : State) : State := { s with rings := s.rings ++ [{ Ring.fresh 16 .image false with sizeLog2 := 12, port := 0 }] }
def calPort : State := upPort (fun p => { p with st := .idle, cfg.colourCount := 1, cfg.width := 64, configured := true, vid.ready := true }) up
def upCell (i : Fin 64) (f : TrigCell → TrigCell) (s : State) : State := { s with trig.cells := s.trig.cells.set i (f s.trig.cells[i]) }
def testMadc : TrigRecord :=
  { head := { gen := 1, count := 0, calTime := 0, wallTime := 0, resid := 0, sourceGen := 0, flags := 0, colours := [], width := 0, signature := none }
    body := .madc { z := 0, s := 0x40000000, r0 := 0, zeroUv := 0, refUv := 0 } }
def testPeer : PeerInfo :=
  { mode := 1, role := 0, follow := 0, own := false, side := true, ctlDigest := 0, secDigest := 0, fit := up.sys.fit.shared, capGib := 0
    estate := 0, records := -1, lastBatch := 0, epoch := 0, diverged := false }
def upRope : State := { up with rope := { up.rope with own := true, lanes := 3, hbLane := some 0, hbPin := some 0, peer := some testPeer } }

/-! ### States that meet the hypotheses of the statements about what happens by itself -/

def upLink : State := { up with tl.symLock := true, rope.own := true }
def upLinkRun : State := { upRun with tl.symLock := true, rope.own := true, tl.slots := [1] }
def testPace : PaceCfg :=
  { stoppable := true, master := 1, enc := 0, feeder := none, mask := 1, vMax := 1000, vFloor := 0, accel := 10, jerk := 10, tauMs := 1
    windowMs := 1, holdMs := 1, feedStop := 0, levels := List.replicate 8 (1, 2, 3, 4) }
def upPace (s : State) : State := { s with pace.groups := s.pace.groups.set 0 { PaceGroup.disabled with cfg := some testPace } }
def testReject (n : Nat) : RejectFrame := { seq := 1, doc := 1, mask := 1, reason := 1, sends := n, nextTick := 0 }
def upActs (num inst : Nat) (s : State) : State := { s with evf.acts := [{ task := { num, inst }, tick := 0, latch := 0, edges := [] }] }

theorem test_hyps_frames : upLink.Live ∧ upLink.sys.fit.tlink = true ∧ upLink.tl.symLock = true := ⟨⟨rfl, rfl⟩, rfl, rfl⟩

/-- An ARRIVE that is kept, one that is refused, and one that takes a slot. -/
theorem test_hyps_arrive :
    let a : Answer := { seq := 1, payload := leBytes 4 5 ++ [1, 0], typ := 0x81, answer := [] };
    upLink.Live ∧ upLink.second = false ∧ upLink.owns = true
    ∧ (({ upLink with tl.answers := [a] } : State).tl.answers.find? fun a => a.seq = 1 && a.payload = leBytes 4 5 ++ [1, 0]) = some a
    ∧ (upLink.advance 5).arriveReason 1 false = some 1
    ∧ ((upPort (fun p => { p with st := .scan }) upLinkRun).advance 5).arriveReason 1 false = none := by
  refine ⟨⟨rfl, rfl⟩, ?_⟩
  decide +kernel

theorem test_hyps_frames_sent :
    upLink.tl.lastSent + 30000 ≤ max upLink.ticks 30000 ∧ ((upPace upLink).paceCfg 0).isSome = true
    ∧ (upPace upLink).tl.speedTicks[(0 : Fin 4)] + 1500000 ≤ 1500000
    ∧ (∀ n ∈ [1, 15, 16], let s : State := { upLink with tl.rejects := [testReject n] };
        (s.tl.rejects.find? fun x => x.seq = 1) = some (testReject n) ∧ s.tl.lost = false ∧ (testReject n).nextTick ≤ 0) := by
  decide +kernel

theorem test_hyps_link :
    upLink.tl.lost = false ∧ upLink.tl.lastValid + 150000 ≤ max upLink.ticks 150000
    ∧ ({ upLink with tl.validCnt := 16 } : State).tl.linkUp = false
    ∧ upRun.sys.mode = .run ∧ upRun.sys.batchState = .opened ∧ upRun.sys.closeStep = 0 ∧ upRun.secPaused = false
    ∧ upRun.cmd.coreWait = false ∧ upRun.second = false ∧ upRun.tl.slots.length < 64 := by decide +kernel

theorem test_hyps_idle : State.reset.pending = [] ∧ State.reset.Sound :=
  ⟨rfl, by decide +kernel, by decide +kernel, by decide +kernel, rfl⟩

theorem test_hyps_sound_step : up.Sound ∧ ∃ t, step up = .next t := 
  ⟨⟨by decide +kernel, by decide +kernel, by decide +kernel, rfl⟩, _, rfl⟩

theorem test_hyps_held_in_reset : State.reset.sys.inReset = true ∧ ∃ u, exec (.hello 0 0) State.reset = .next u := ⟨rfl, _, rfl⟩

/-- Each check of 10 Table 10.3 has a packet that it rejects. -/
theorem test_hyps_checks :
    let rej (sp : PacketSpec) (p : Packet) (s : State) (r : Ring) (st : BitVec 16) (d : BitVec 32) : Prop :=
      (s.advance p.tick).takeable p = some r ∧ sp.verdict (s.advance p.tick) p r = .reject ⟨st, d, 0⟩;
    let p := secretly 0 [];
    rej nopSpec { p with reserved := 1 } up testRing0 0x0101 4
    ∧ rej nopSpec { p with replyRing := 2 } up testRing0 0x0101 6
    ∧ rej nopSpec { p with flags := 0 } up testRing0 0x0105 8
    ∧ rej keyInfoSpec (openly 8 []) up testRing2 0x0105 9
    ∧ rej nopSpec { p with deadlineUs := 999 } up testRing0 0x0101 7
    ∧ rej nopSpec { p with paramLen := 8, params := List.replicate 8 0 } up testRing0 0x0102 3
    ∧ rej portArmSpec (openly 8 []) { up with sys.fit.ports := 0 } testRing2 0x0106 0x0B
    ∧ rej batchOpenSpec (openly 8 []) { up with sys.mode := .service } testRing2 0x0103 0x0D
    ∧ rej setModeSpec (secretly 8 []) up testRing0 0x0101 0x102 := by decide +kernel

theorem test_hyps_bad_opcode :
    let p := secretly 0 [];
    (up.advance 5).takeable p = some testRing0 ∧ headerCheck (up.advance 5) p testRing0 = none ∧ assignedOpcodes.contains 0xFFFF = false
    ∧ (up.advance 5).takeable { p with paramLen := 4065 } = some testRing0 := by decide +kernel

def testReply : Reply :=
  { ring := 3, cmdRing := 2, status := 0, opcode := 1, tag := 7, seq := 0, cookie := 9, detail := 0, result := 0, time := 0, fault := 0
    flight := none, buffers := [] }
def testEvent : EventRecord := { status := 0, block := .sys, detail := 0, time := 0, fault := 0, seq := 0, address := 0, data := [] }
def testEventRing : Ring := { Ring.fresh 5 .event false with sizeLog2 := 4, events := [testEvent] }

theorem test_hyps_reply :
    let s : State := { up with cmd.replies := [testReply] };
    s.Live ∧ (∃ q, s.ring? 3 = some q ∧ s.nextReply 3 = some testReply ∧ q.kind = .reply ∧ 0 < q.room ∧ q.waitDoorbell = false
      ∧ s.canHost q.secure = true) ∧ s.dma.chans[9].stuck = false ∧ testReply.buffers = [] := by
  refine ⟨⟨rfl, rfl⟩, ⟨_, rfl, ?_⟩, ?_⟩ <;> decide +kernel

theorem test_hyps_event_record :
    let s : State := { up with rings := up.rings ++ [testEventRing] };
    s.ring? 5 = some testEventRing ∧ testEventRing.events = testEvent :: [] ∧ testEventRing.kind = .event ∧ 0 < testEventRing.room
    ∧ testEventRing.waitDoorbell = false ∧ s.canHost testEventRing.secure = true ∧ s.dma.chans[10].stuck = false := by decide +kernel

theorem test_hyps_wake :
    let s := upActs 0 0 { up with sys.mode := .dormant };
    s.sys.mode = .dormant ∧ (s.evf.acts.find? fun x => x.task == { num := 0, inst := 0 } && decide (x.tick ≤ 5)).isSome = true
    ∧ s.sys.waking = false ∧ ({ s with sys.waking := true } : State).sys.waking = true := by decide +kernel

theorem test_hyps_second : up.sys.lastSecond < (up.advance 1500000000).ns / 1000000000 := by decide +kernel

theorem test_hyps_recovery :
    up.sys.mode ≠ .safe ∧ (up.sys.watchdog.filter fun x => 5 ≤ x + 1500000000).length < 2
    ∧ ((({ up with sys.watchdog := [0, 0] } : State).sys.watchdog.filter fun x => 5 ≤ x + 1500000000).length ≥ 2)
    ∧ ({ up with ldg.faults := [(1, 3)] } : State).ldg.faults.contains (1, 3) = true := by decide +kernel

theorem test_hyps_seal :
    let ready : State := { upRun with sec.capReady := true };
    let a : State := { ready with sys.batchState := .aborting };
    let c : State := ({ ready with sys.batchState := .closing } : State).advance 5;
    (a.advance 5).sidesDone = true ∧ (a.advance 5).sealReady = true ∧ (∀ k : Fin 32, a.dma.chans[k].cur = none)
    ∧ c.sidesDone = true ∧ c.flushLines.linesDone = true ∧ c.flushLines.flushMadc.madcDone = true
    ∧ c.flushLines.flushMadc.chansIdle = true ∧ c.flushLines.flushMadc.flushChans.sealReady = true
    ∧ (upPort (fun p => { p with provs := [{ body := [], ring := 0, sealOnly := true, batch := 0, tick := 0, keep := false }] }) c).sidesDone
      = false := by decide +kernel

def testFlight : Flight :=
  { seq := 7, ring := 2, replyRing := 3, secure := false, opcode := 0x0102, flags := 0, tag := 7, cookie := 9, digest := 0, params := []
    hostData := [], deadline := some 0, begun := false, finished := false, queuedReply := false, replied := false, dups := [], kind := .host }

theorem test_hyps_deadline :
    let s : State := { upRun with cmd.flights := [testFlight], sys.batchWait := some 7, sys.batchState := .closing, sys.closeStep := 2 };
    s.flight? 7 = some testFlight ∧ testFlight.finished = false ∧ testFlight.queuedReply = false ∧ testFlight.deadline = some 0
    ∧ s.sys.batchWait = some 7 ∧ s.sys.closeStep < 8 := by decide +kernel

theorem test_hyps_start_up :
    let r : BootRecord := { epoch := 4, lastBatch := 2, generation := 1 };
    let s : State := { State.reset with trig.boot := #v[.valid r, .empty] };
    s.posted = [] ∧ s.sys.inReset = true ∧ s.second = false ∧ s.board.record = .valid BoardRecord.full ∧ BoardRecord.full.twin = false
    ∧ s.sec.bootSlot false = some 0 ∧ s.sec.bootSlot true = some 0 ∧ s.trig.bootRecord = some (0, r)
    ∧ ({ s with sec.ctl := #v[FwSlot.delivered false, FwSlot.delivered false] } : State).sec.bootSlot false = none
    ∧ ({ up with sys.mode := .startUp } : State).pci.linkUp = true := by decide +kernel

theorem test_hyps_pins : up.posted = [] ∧ up.sec.locked = false ∧ up.sys.inReset = false ∧ ({ up with sys.alert := true } : State).sys.alert = true
    ∧ ({ up with sec.locked := true } : State).sec.locked = true := by decide +kernel

theorem test_hyps_pairs :
    isLow 0x30 = true ∧ up.denied .pf0 0x30 = false ∧ isHigh 0x34 = true
    ∧ (({ up with pci.pf0.lrOff := some 0x30 } : State).pf false).lrOff = some (0x34 - 4) ∧ (up.pf false).lrOff ≠ some 0x30
    ∧ up.denied .pf0 madcResOff = false ∧ up.madc.q.ring = 0 ∧ up.denied .pf0 (madcResOff + 4) = false
    ∧ isLow 0x20010 = true ∧ ({ up with sec.worldBlk := 4 } : State).denied .pf0 0x20010 = true := by decide +kernel

theorem test_hyps_writes :
    up.replyStall = false ∧ regAt 0x10004 = some (.cmd, 4) ∧ regAt 0x10008 = some (.cmd, 8) ∧ (evtPlace .cmd).1 = 4 ∧ (evtPlace .cmd).2.1 = 8
    ∧ up.reaches .pf0 .cmd = true ∧ up.fittedBlock .cmd = true
    ∧ regAt 0x60004 = some (.trig, 4) ∧ up.reaches .pf0 .trig = false ∧ regAt 0xD0000 = none := by decide +kernel

theorem test_hyps_doorbell :
    up.ring? 7 = none ∧ up.ring? 0 = some testRing0 ∧ testRing0.secure = true ∧ up.ring? 2 = some testRing2 ∧ testRing2.secure = false
    ∧ testRing2.doorbellOk 256 = false ∧ testRing2.doorbellOk 255 = true ∧ testRing2.kind = .command
    ∧ (up.ring? 3).any (fun r => decide (r.kind = .reply) && r.doorbellOk 0) = true := by decide +kernel

theorem test_hyps_ring_table :
    (up.ring? 3).any (fun r => up.ringQuiet r && (r.written 2 8).entryOk && !(r.written 2 1).entryOk) = true
    ∧ up.ringQuiet testRing2 = false ∧ up.reaches .pf0 (.port 0) = true ∧ up.fittedBlock (.port 0) = true := by decide +kernel

/-- A GENERAL region of one granule, in effect and initialised. -/
def testRegion : Region := { purpose := .general, secure := false, port := 0, base := 0, size := 1, inEffect := true }
def upCellar : State := { up with cel := { up.cel with trained := true, capGib := 4, regions := up.cel.regions.set 0 testRegion, initialised := 1 } }

theorem test_hyps_cellar :
    upCellar.cel.trained = true ∧ upCellar.cel.selfRefresh = false ∧ upCellar.cel.nextGranule = some 3
    ∧ upCellar.windowOk .pf0 (upCellar.windowAddr .pf0 0x3FFFFFF8) 8 = true ∧ upCellar.writable (upCellar.windowAddr .pf0 0x3FFFFFF8) 8 = true
    ∧ upCellar.windowOk .pf0 (upCellar.windowAddr .pf0 0x40000000) 8 = false
    ∧ 2 ^ 30 - 1 < upCellar.cel.capGib * 2 ^ 30 ∧ upCellar.cel.initialised.getLsbD ((2 ^ 30 - 1) / 2 ^ 30) = true := by decide +kernel

theorem test_hyps_cellar_sound : upCellar.Sound ∧ upCellar.Live :=
  ⟨⟨by decide +kernel, by decide +kernel, by decide +kernel, rfl⟩, rfl, rfl⟩

theorem test_hyps_region_effect :
    let w : RegionRequest := { region := 1, new := { testRegion with inEffect := false }, seq := 7 };
    let s : State := { upCellar with cel.waiting := [w] };
    (s.cel.waiting.find? fun w => w.region == (1 : Fin 64).val) = some w ∧ (∀ g ∈ w.new.granules, s.cel.initialised.getLsbD g = true)
    ∧ s.ldg.region = none ∧ w.new.purpose = .general := by decide +kernel

def testCkpt : Checkpoint := { seq := 9, time := 0, firstSeq := 0, estate := 0, reason := 1, batch := 0, chain := 0, signature := none }
def testEntry : LedgerEntry := { LedgerEntry.blank .accept with seq := 5 }

theorem test_hyps_checkpoints :
    let s : State := { up with sec.capReady := true, ldg.signing := [testCkpt], ldg.sinceCkpt := 65536 };
    s.ldg.signing = testCkpt :: [] ∧ s.signs = true ∧ 65536 ≤ s.ldg.sinceCkpt ∧ s.second = false ∧ 0 < s.generalRoom := by decide +kernel

theorem test_hyps_ledger_window :
    let s : State := { up with ldg.entries := [testEntry], ldg.winSeqLo := 5 };
    up.reaches .pf0 .ldg = true ∧ (s.ldg.entries.findIdx? fun e => e.seq.toNat == (0 : BitVec 32).toNat * 2 ^ 32 + s.ldg.winSeqLo.toNat) = some 0
    ∧ s.ldg.entries[0]? = some testEntry ∧ s.ldg.spilled ≤ 0
    ∧ (s.ldg.entries.findIdx? fun e => e.seq.toNat == (1 : BitVec 32).toNat * 2 ^ 32 + s.ldg.winSeqLo.toNat) = none := by decide +kernel

def testRoute (gen : Nat) : Route := { gen, inst := 0, enable := true, rate := 0, tasks := [{ num := 832, inst := 0 }], system := false }
def upRoute (gen : Nat) : State := { up with evf.chans := up.evf.chans.set 0 { EvfChan.fresh with route := some (testRoute gen) } }

theorem test_hyps_fired :
    let f : Fired := { ch := 0, tick := 0, route := testRoute 832, edge := none };
    let s : State := { up with evf.fired := [f] };
    s.sys.mode ≠ .dormant ∧ (s.evf.fired.find? fun f => f.ch == (0 : BitVec 8).toNat
        && (!decide ((0 : BitVec 8).toNat ≥ 240) || decide (f.tick + 2 ≤ max s.ticks 5))) = some f
    ∧ (∀ x ∈ f.route.tasks, taskUnit x.num x.inst = some (.port 0)) ∧ s.fittedBlock (.port 0) = true := by decide +kernel

theorem test_hyps_junction :
    let s := upActs 193 0 (upRoute 193);
    (s.evf.acts.find? fun x => x.task == { num := 3 * 64 + (1 : Fin 16).val, inst := 0 } && decide (x.tick ≤ 5)).isSome = true
    ∧ s.evf.chans[(0 : Fin 256)].route = some (testRoute 193) ∧ (testRoute 193).enable = true ∧ s.evf.chans[(0 : Fin 256)].quarantined = false
    ∧ s.evf.chans[(0 : Fin 256)].fast + 1 < 1000 := by decide +kernel

theorem test_hyps_fire_register :
    up.reaches .pf0 .evf = true ∧ (upRoute 832).evf.chans[(0 : Fin 256)].fireable = true
    ∧ (upRoute 832).evf.chans[(0 : Fin 256)].route = some (testRoute 832) ∧ up.evf.chans[(240 : Fin 256)].fireable = false := by decide +kernel

/-- A channel with an inlined chain, and the descriptor of its bytes: 16 bytes from the Cellar to host memory. -/
def testDesc (flags : Byte) : Descriptor := Descriptor.parse (bytesWith 32 [(8, 64), (24, 16), (28, flags)])
def testChain (flags : Byte) : Chain :=
  { seq := 7, secure := false, chainCellar := false, inlined := true, hopLimit := 4096, addr := 0, desc := bytesWith 32 [(8, 64), (24, 16), (28, flags)] }
def upChan (f : Channel → Channel) (s : State) : State := { s with dma.chans := s.dma.chans.set 16 (f s.dma.chans[16]) }

theorem test_hyps_chain :
    let s := upChan (fun c => { c with queue := [testChain 1] }) upCellar;
    s.dma.chans[(16 : Fin 32)].queue = testChain 1 :: [] ∧ s.dma.chans[(16 : Fin 32)].stuck = false ∧ s.cel.selfRefresh = false
    ∧ s.dma.chans[(16 : Fin 32)].cur = none ∧ s.descriptorFault false true (testDesc 1) = none
    ∧ s.descriptorFault false true (testDesc 0) = some 0x0613 ∧ s.canHost false = true := by decide +kernel

theorem test_hyps_descriptor :
    let run (d : Descriptor) (w : Bool) : State :=
      upChan (fun c => { c with queue := [testChain 1], cur := some d, phase := .running, wroteHost := w }) upCellar;
    (∀ flags ∈ [(1 : Byte), 5, 6], (run (testDesc flags) true).dma.chans[(16 : Fin 32)].cur = some (testDesc flags)
      ∧ (run (testDesc flags) true).dma.chans[(16 : Fin 32)].retried = false)
    ∧ (testDesc 1).srcCellar = true ∧ (testDesc 1).dstCellar = false ∧ (testDesc 1).fence = false ∧ (testDesc 5).fence = true
    ∧ (testDesc 5).length ≠ 0 ∧ (testDesc 6).dstCellar = true ∧ (testDesc 6).fence = true ∧ (testDesc 6).length = (List.replicate 16 (0 : Byte)).length := by
  decide +kernel

def testImage : ImageRec := { typ := 1, ring := 16, recSeq := 0, bytes := [1], addr := 0, delivered := false, slotsLeft := 0, keep := false }

theorem test_hyps_channel_errors :
    let c (r : Bool) : State := upChan (fun c => { c with queue := [testChain 1], cur := some (testDesc 1), phase := .running, retried := r }) upCellar;
    (c false).dma.chans[(16 : Fin 32)].working 16 = true ∧ (c true).dma.chans[(16 : Fin 32)].working 16 = true
    ∧ (c false).dma.chans[(0 : Fin 32)].stuck = false := by decide +kernel

theorem test_hyps_delivery :
    let s := upImage (upPort (fun p => { p with store := [testImage] }) up);
    (s.ports[(0 : Fin 8)].store.find? fun r => !r.delivered) = some testImage
    ∧ (s.ring? 16).any (fun q => decide (q.kind = .image) && decide (testImage.slots ≤ q.room) && !q.waitDoorbell && s.canHost q.secure) = true
    ∧ 0 < testImage.slots ∧ s.second = false ∧ s.dma.chans[((0 : Fin 8).castLE (by decide : 8 ≤ 32))].stuck = false := by decide +kernel

theorem test_hyps_pace :
    let s := upPace upRun;
    s.pace.lastUpdate + 15000 ≤ max s.ticks 15000 ∧ s.second = false ∧ s.paceCfg 0 = some testPace ∧ s.paceCfg 1 = none
    ∧ (upPace up).groupRuns = false
    ∧ ({ up with pace.ports := up.pace.ports.set 0 { PacePort.fresh with ovrUntil := some 5 } } : State).pace.ports[(0 : Fin 8)].ovrUntil = some 5 := by
  decide +kernel

def testSwitchback (step : Nat) : Switchback :=
  { step, cause := 1, reserve := false, axes := [], attempts := 0, seams := [], pBack := 0, stopNs := 0, forwardNs := 0, since := none
    policy := SeamPolicy.default }

theorem test_hyps_encoder :
    up.fittedBlock (.enc 0) = true ∧ (∀ a : Fin 12, up.axes[a].cfg.enc ≠ some 0) ∧ up.encs[(0 : Fin 8)].lastEdge = none
    ∧ ({ up with encs := up.encs.set 0 { Encoder.fresh with lastEdge := some 0 } } : State).encs[(0 : Fin 8)].lastEdge = some 0
    ∧ ({ up with pace.groups := up.pace.groups.set 0 { PaceGroup.disabled with sb := some (testSwitchback 3) } } : State).pace.groups[(0 : Fin 4)].sb
      = some (testSwitchback 3) ∧ ∀ m ∈ (testSwitchback 3).seams, (up.advance 5).seamDrained m = true := by decide +kernel

def testSide : Side :=
  { doc := 1, batch := 0, lead := 0, first := 0, last := none, trail := none, opened := true, due := true, openTime := 0, openTick := 0, wallTime := 0
    fmt := OutFmt.default 0 1, align := Align.default, sealOnly := true, videoGen := [], shadeGen := 0, timeGen := 0, planGen := 0
    driftOff := [], driftGain := [], stale := false, refreshed := false, released := 0, lastOut := 0, missed := 0, strip := [], stripFirst := 0, strips := 0
    lateLines := 0, overLines := 0, overrangeLines := 0, clipped := 0, splices := 0, lineLoss := false, tooLong := false, reject := false
    rejectReason := 0, laneFail := false, badStore := false, hashed := [], spliceBytes := [], takeover := false
    pace := { vMin := none, vMax := 0, slowed := 0, capped := 0, seams := 0, fails := 0, overruns := 0, standstills := 0, holdNs := 0
              fillMax := 0, ceiling := 0, flags := 0 }
    seams := [], endCmd := [] }
def testCapture : Capture :=
  { k := 0, start := 0, encPos := 0, late := false, beyond := false, lateField := 0, overrange := false, retired := false, lost := false, y := [[1]] }
def testProv : ProvJob := { body := [], ring := 0, sealOnly := true, batch := 0, tick := 0, keep := false }

theorem test_hyps_lines_out :
    let s := upPort (fun p => { p with sides := [testSide], caps := [testCapture], cfg.colourCount := 1, cfg.width := 1 }) upRun;
    let q := s.ports[(0 : Fin 8)];
    q.sides = testSide :: [] ∧ q.held = [] ∧ q.inbuf = [] ∧ s.aboveStop 0 = false ∧ q.lineReady testSide = true
    ∧ s.heldForVerdict 0 (testSide.next + q.dMaxOf testSide.align) = false ∧ (q.capture testSide.next).isSome = true
    ∧ (∀ c ∈ (q.contributors testSide testSide.next).filterMap id, c.lost = false)
    ∧ testSide.strip.length + 1 < testSide.fmt.linesPerStrip ∧ testSide.last = none := by decide +kernel

theorem test_hyps_provenance :
    let s : State := upPort (fun p => { p with provs := [testProv] }) { up with sec.capReady := true };
    s.ports[(0 : Fin 8)].provs = testProv :: [] ∧ s.signs = true ∧ s.cel.selfRefresh = false := by decide +kernel

theorem test_hyps_rope :
    let lead : State := { upRope with rope.role := .lead };
    let second : State := { upRope with rope.role := .second, rope.follow := .eligible };
    upRope.sys.fit.rope = true ∧ upRope.rope.hbSent + 37500 ≤ (upRope.advance 37500).ticks
    ∧ ({ upRope with rope.hbRunning := true } : State).rope.hbRunning = true
    ∧ upRope.rope.lanes ≠ 0 ∧ upRope.sec.ctlStart = none ∧ upRope.sec.secStart = none ∧ upRope.rope.role ≠ .lead
    ∧ upRope.rope.hbLostFired = false ∧ (upRope.advance 300000).bothSilent 300000 = true ∧ (lead.advance 300000).bothSilent 300000 = true
    ∧ (second.advance 300000).bothSilent 300000 = true ∧ (upRope.advance 300000).silentFor upRope.rope.hbPin 300000 = true
    ∧ upRope.rope.releasing = none ∧ ({ second with rope.own := false } : State).rope.own = false
    ∧ ({ second with rope.peer := some { testPeer with role := 1 } } : State).rope.peer.any (fun q => q.role = 1) = true
    ∧ ({ testPeer with role := 2, follow := 3 } : PeerInfo).follow ≠ 0
    ∧ lead.rope.role = .lead ∧ second.second = true ∧ second.rope.follow = .eligible ∧ upRope.rope.own = true
    ∧ ({ upRope with sys.mode := .dormant } : State).sys.waking = false := by decide +kernel

theorem test_hyps_roles :
    let second (f : Follow) : State := { upRope with rope.role := .second, rope.follow := f, rope.own := false, rope.hbRunning := true, rope.tbLocked := true };
    let b : State := { upRope with rope.own := false, rope.hbRunning := true, sys.straps := 1 };
    let x : Pairing := { seq := 7, waitSeal := false, syncMs := 1, start := 0 };
    let lead (rel : Bool) : State := { upRope with rope.role := .lead, rope.peer := some { testPeer with role := 2, follow := 3 }
                                                   rope.swap := some { seq := 7, atOnce := true, release := rel } };
    (second .following).second = true ∧ (second .following).sys.mode ≠ .dormant ∧ ((second .following).advance 75000).bothSilent 75000 = true
    ∧ (∀ f ∈ (second .following).cmd.flights, f.opcode ≠ 0x0903)
    ∧ ((second .syncing).advance 300000).bothSilent 300000 = true ∧ (b.advance 300000).bothSilent 300000 = true ∧ b.sideB = true
    ∧ ({ upRope with rope.pairing := some x } : State).rope.pairing = some x ∧ upRope.rope.role = .solo
    ∧ x.start + x.syncMs * 1500000 ≤ (upRope.advance 1500000).ticks
    ∧ (second .following).rope.tbLocked = true ∧ (second .following).rope.calMismatch = 0 ∧ (second .following).rope.lanes ≠ 0
    ∧ (∀ n : Fin 8, ∀ d ∈ (second .following).ports[n].sides, d.opened = true → (second .following).rope.joinTick ≤ d.openTick)
    ∧ (second .following).rope.own = false ∧ (second .following).rope.toPass &&& (second .following).scanning = 0
    ∧ (second .syncing).sys.mode ≠ .dormant ∧ ({ second .following with sys.mode := .dormant } : State).second = true
    ∧ (lead false).peerEligible = true ∧ (lead true).peerEligible = true := by decide +kernel

theorem test_hyps_firmware :
    let x : FwStart := { seq := 7, tick := 0, peer := false };
    let s : State := { up with sec.ctlStart := some x };
    s.sec.start false = some x ∧ max s.ticks 5 ≤ x.tick + restartTicks false ∧ x.tick + restartTicks false ≤ max s.ticks (restartTicks false)
    ∧ up.imageFault false 0 [] = some 0xA13 := by decide +kernel

def testLine : LineRun :=
  { k := 0, instant := some 0, start := 0, tline := 0, lateField := 0, late := false, beyond := false, encPos := 0, edgeEnd := 0, edges := []
    lost := false, excluded := false }
def upScan (f : Port → Port) : State := upPort (fun p => f { p with st := .scan, cfg.digital := true, cfg.maxLines := 8 }) upRun

theorem test_hyps_triggers :
    let due : State := upScan fun p => { p with grid := { Grid.stopped with sched := [(0, 4)] } };
    let wait : State := upScan fun p => { p with waiting := [{ k := 0, instant := none, tline := 0, tEst := 1 }] };
    let line : State := upScan fun p => { p with line := some testLine };
    ((upActs 834 0 (upScan id)).evf.acts.find? fun x => x.task == { num := 13 * 64 + 2, inst := (0 : Fin 8).val } && decide (x.tick ≤ 5)).isSome = true
    ∧ (upScan id).ports[(0 : Fin 8)].st = .scan ∧ (upScan id).encs[(upScan id).ports[(0 : Fin 8)].cfg.encoder].posInvalid = false
    ∧ (due.ports[(0 : Fin 8)].grid.sched.find? fun e => e.1 = due.ports[(0 : Fin 8)].grid.next && decide (e.2 ≤ (due.advance 4).ticks)) = some (0, 4)
    ∧ due.ports[(0 : Fin 8)].canStart = true ∧ wait.ports[(0 : Fin 8)].inbuf = [] ∧ wait.ports[(0 : Fin 8)].canStart = true
    ∧ line.ports[(0 : Fin 8)].line = some testLine ∧ (line.advance 5).lineOver 0 { testLine with lost := true } (.slots []) = true := by decide +kernel

theorem test_hyps_document_edges :
    let image (s : State) : State := { s with cel.regions := s.cel.regions.set 0 { testRegion with purpose := .image } };
    let lead := image (upActs 832 0 (upScan fun p => { p with waits.slots := [1] }));
    let trail := upActs 833 0 (upScan fun p => { p with sides := [{ testSide with opened := false }] });
    let act (s : State) (k : Nat) : Bool := (s.evf.acts.find? fun x => x.task == { num := 13 * 64 + k, inst := (0 : Fin 8).val } && decide (x.tick ≤ 5)).isSome;
    act lead 0 = true ∧ lead.edgesIgnored 0 = false ∧ lead.quota 0 ≠ 0 ∧ lead.batchRuns = true ∧ lead.ports[(0 : Fin 8)].waits.slots.head? = some 1
    ∧ act trail 1 = true ∧ (trail.ports[(0 : Fin 8)].sides.find? fun d => d.last.isNone) = some { testSide with opened := false }
    ∧ trail.sideOf 0 1 = some { testSide with opened := false } ∧ 0 < trail.ports[(0 : Fin 8)].cfg.maxLines := by decide +kernel

theorem test_hyps_boundaries :
    let a : AlignPending := { align := Align.default, seq := none };
    let res : TrainResult := { taps := [0], offsets := [0], ckKhz := 75000 };
    let q : Port := (upScan id).ports[(0 : Fin 8)];
    let tr : Port := { q with lvds.training := some 0 };
    q.line = none ∧ q.st ≠ .off ∧ ({ q with tabA.pending := 1 } : Port).tabA.pending = 1 ∧ q.tabA.pending = 0
    ∧ ({ q with waits.disarm := [7] } : Port).waits.disarm ≠ [] ∧ q.sides = [] ∧ q.waits.slots = []
    ∧ ({ q with waits.reconfig := some (7, [], 2) } : Port).waits.reconfig = some (7, [], 2)
    ∧ ({ q with alignPending := [a] } : Port).alignPending = [a] ∧ q.cfg.phasesOk a.align = true ∧ (upScan id).delayPlace 0 (q.delayBytes a.align) = some none
    ∧ tr.lvds.training = some 0 ∧ trainOk res { q.cfg with lanes := 1, laneRate := 150000, sampleBits := 8 } = true ∧ q.cfg.digital = true
    ∧ ({ q with lvds.locked := true } : Port).lvds.locked = true ∧ ({ q with lvds.resync := some 0 } : Port).lvds.resync = some 0 := by decide +kernel

def upVideo (f : VideoLane → VideoLane) : Port :=
  let q := (upScan id).ports[(0 : Fin 8)];
  { q with cfg.digital := false, cfg.block.lanes := Vector.replicate 4 { LaneCfg.off with mode := 0 }, vid.on := true, vid.powered := 0xF, vid.settled := true, vid.ready := true
           vid.lanes := Vector.replicate 4 (f { VideoLane.fresh with order := (List.finRange 9).take 8, spare := some 8 }) }

theorem test_hyps_slices :
    let good : SliceResult := { offset := 0, gain := 0, instant := 0, convTicks := 100, coeff := [] };
    let bad : SliceResult := { good with offset := 5 };
    let l (f : VideoLane → VideoLane) : VideoLane := (upVideo f).vid.lanes[(0 : Fin 4)];
    (upVideo id).vid.on = true ∧ (upVideo id).laneFailed = false ∧ (upVideo id).laneOn 0 = true
    ∧ (∀ c : Fin 4, ∀ k < 9, (0xFFFFFFFFF : BitVec 36).getLsbD (9 * c.val + k) = true)
    ∧ ({ upVideo id with vid.ready := false } : Port).vid.ready = false
    ∧ (l id).calSlice = none ∧ (l id).swapReady = false ∧ (l id).spare = some 8 ∧ (l id).isOverdue 3000000001 = true
    ∧ (l fun x => { x with calSlice := some 8 }).calSlice = some 8 ∧ sliceOk good 0 300000000 = true ∧ sliceOk bad 0 0 = false
    ∧ (l id).oldest = some 0 ∧ (upVideo id).line = none ∧ (l fun x => { x with swapReady := true }).swapReady = true
    ∧ (l fun x => { x with noSpare := true, calSlice := some 8, steps := 2046 }).steps + 1 < 2048
    ∧ 2048 ≤ (l fun x => { x with noSpare := true, calSlice := some 8, steps := 2047 }).steps + 1 ∧ (l id).fail = false := by decide +kernel

def testRecord (body : TrigBody) : TrigRecord := { testMadc with body }
def upRecord (i : Fin 64) (body : TrigBody) : State := upCell i (fun c => { c with a := .valid (testRecord body), force := some false }) up

theorem test_hyps_gap_effects :
    let q := (upVideo fun x => { x with changed := true });
    let shade : ShadeBody := { blockBytes := [], dark := [], gain := [], bref := [] };
    (q.vid.lanes[(0 : Fin 4)]).changed = true ∧ q.line = none ∧ q.sides = [] ∧ q.st ≠ .cal ∧ q.st ≠ .off
    ∧ (upRecord timeIndex (.time [])).timeOf = some (testMadc.head, [])
    ∧ (upRecord (shadeIndex 0) (.shade shade)).shadeOf 0 = some (testMadc.head, shade)
    ∧ (upRecord (shadeIndex 0) (.shade shade)).shadeMatches 0 [] 0 = true
    ∧ 1024 * 0 + 1024 < ({ q with cfg.width := 1025, cfg.colourCount := 1 } : Port).cfg.samples
    ∧ ({ q with cfg.width := 1024, cfg.colourCount := 1 } : Port).cfg.samples ≤ 1024 * 0 + 1024
    ∧ ({ q with shade.newGain := some [] } : Port).shade.newGain = some [] := by decide +kernel

/-- A profile at constant velocity. -/
def testPlan : Plan := { start := 0, kin := { p := 0, v := 100, a := 0 }, segs := [], dest := none }
def movingAxis (a : Axis) : Axis := { idleAxis a with st := .moving, plan := some testPlan, move := { Move.none with kind := .velocity, vel := 100, v := 100, a := 1000, j := 1000 } }

theorem test_hyps_motion :
    let x : Axis := idleAxis up.axes[(0 : Fin 12)];
    let m : Axis := movingAxis up.axes[(0 : Fin 12)];
    (x.movePlan 5 9 100 100 100).plan.isSome = true ∧ (x.movePlan 5 x.pos 100 100 100).plan = none ∧ x.softOn = false
    ∧ up.groupOfAxis 0 = none ∧ (m.stopPlan 5 m.lim.aStop m.lim.jStop).plan.isSome = true ∧ (m.stopPlan 5 m.move.a m.move.j).plan.isSome = true
    ∧ (m.stopPlan 5 m.lim.a m.lim.j).plan.isSome = true
    ∧ x.homeActive = false ∧ x.limActive = false ∧ x.drive.parked.powerOff = false ∧ encAt 0 = some 0 := by decide +kernel

def testGear : Gear :=
  { src := 0, sync := 0, r1 := 0, r2 := 1, x0 := 0, len := 0, x := 0, p := 0, ahead := 0, stamp := 0, tEst := 0, next := none, waiting := [], blending := false, up := true }

theorem test_hyps_axis_inputs :
    let s := upAxis movingAxis up;
    let x := s.axes[(0 : Fin 12)];
    let act (k : Nat) : Bool :=
      ((upActs (896 + k) 0 s).evf.acts.find? fun y => y.task == { num := 14 * 64 + k, inst := (0 : Fin 12).val } && decide (y.tick ≤ 5)).isSome;
    x.home = none ∧ x.waits.settle = none ∧ x.nextStep.isSome = true ∧ x.nextStep.any (fun y => decide (0 < y.1)) = true
    ∧ act 0 = true ∧ act 1 = true ∧ act 2 = true ∧ (upAxis (fun a => { a with st := .geared, gear := some testGear }) up).axes[(0 : Fin 12)].gear = some testGear
    ∧ up.fittedBlock (.enc 0) = true ∧ ({ Encoder.fresh with idxEn := true } : Encoder).idxGate = false ∧ (∀ k : Fin 12, up.axes[k].cfg.enc ≠ some 0)
    ∧ ({ Encoder.fresh with lastEdge := some 0, still := false } : Encoder).lastEdge = some 0 ∧ (∀ g : Fin 4, up.pace.groups[g].sb = none)
    ∧ up.fittedBlock (.ax 0) = true ∧ (0 : Rat) < (({ x with cfg.limDir := true } : Axis).kin 5).v := by decide +kernel

theorem test_hyps_drives :
    let x := (upAxis idleAxis up).axes[(0 : Fin 12)];
    let c : Chop := { Chop.idle with st := .on };
    let d : Axis := { x with drive.lev.holdDelay := 1, drive.cur := Current.at 9, drive.lev.iHold := 8 };
    let k : Parking := { seq := 7, waking := false, ramp := 0, powerOff := true };
    c.since + x.drive.chop.tBlank ≤ 5 ∧ ({ c with blanked := true } : Chop).blanked = true ∧ c.blanked = false ∧ c.since + x.drive.chop.tOff ≤ 5
    ∧ up.fittedBlock (.ax 0) = true ∧ ({ x with drive.chop.flags := 2 } : Axis).drive.chop.flags.testBit 1 = true ∧ x.waits.settle = none
    ∧ ({ x with waits.settle := some (5, .wake) } : Axis).waits.settle = some (5, .wake)
    ∧ ({ x with waits.park := some k } : Axis).rampDone 0 = true
    ∧ d.drive.lev.holdDelay ≠ 0 ∧ d.steps.last + d.drive.lev.holdDelay * 1500000 ≤ 1500000 ∧ d.st ≠ .disabled ∧ d.st ≠ .parked ∧ d.waits.park = none
    ∧ d.drive.lev.iHold < d.drive.cur.hi ∧ ({ x with drive.load.wait := some (0, .a, 1) } : Axis).drive.load.asked = false := by decide +kernel

def testRun : MadcRun := { seq := 0, entry := 0, start := 0, unsettled := false, done := 0, judged := 0 }
def testSeqEntry : MadcEntry := { input := 0, raw := false, count := 1, shift := 0, settle := 0 }
def upBusy : State := { up with madc.cores := Vector.replicate 2 { MadcCore.fresh with run := some testRun } }
def upSeq (f : MadcSeq → MadcSeq) (s : State) : State := { s with madc.seqs := s.madc.seqs.set 0 (f s.madc.seqs[0]) }

theorem test_hyps_converter :
    let two : State := upSeq (fun x => { x with entries := [testSeqEntry, testSeqEntry] }) upBusy;
    let one : State := upSeq (fun x => { x with entries := [testSeqEntry] }) upBusy;
    let req : Urgent := { who := .software, input := 0, raw := false, due := 0, seq := none };
    (∀ k : Fin 2, upBusy.madc.cores[k].run.isSome = true) ∧ (∀ k : Fin 2, up.madc.cores[k].run = none) ∧ upBusy.sys.mode ≠ .dormant
    ∧ ((upActs 320 0 up).evf.acts.find? fun x => x.task == { num := 5 * 64 + (0 : Fin 16).val, inst := 0 } && decide (x.tick ≤ 5)).isSome = true
    ∧ (upSeq (fun x => { x with wm := true, armed := true, mode := 2 }) up).madc.seqs[(0 : Fin 16)].nextTick ≤ 0
    ∧ up.madc.seqs[(0 : Fin 16)].lastTrig = none ∧ up.madc.seqs[(0 : Fin 16)].core < 2 ∧ (∀ p : Fin 16, up.madc.seqs[p].pend = false)
    ∧ two.madc.seqs[(0 : Fin 16)].entries[0]? = some testSeqEntry ∧ 0 + 1 < two.madc.seqs[(0 : Fin 16)].entries.length
    ∧ testRun.start + 75 * testSeqEntry.settle + 750 * (testSeqEntry.count - testRun.done) ≤ 750 ∧ testSeqEntry.count ≤ ([3] : List Int).length
    ∧ one.madc.seqs[(0 : Fin 16)].entries.length ≤ 0 + 1 ∧ one.madc.seqs[(0 : Fin 16)].stops = []
    ∧ (({ up with madc.urgent := [req] } : State).advance 900).urgentTake.madc.cores[(0 : Fin 2)].urg = some { req, at_ := 0, unsettled := none }
    ∧ up.madc.cores[(0 : Fin 2)].held = none := by decide +kernel

theorem test_hyps_slot_flush :
    let r : Ring := { Ring.fresh 24 .measurement false with sizeLog2 := 4 };
    let s : State := { up with rings := up.rings ++ [r], madc.q := { up.madc.q with ring := 24, entries := [1], times := [0] } };
    s.madc.q.times.head? = some 0 ∧ s.ring? s.madc.q.ring = some r ∧ s.madc.q.ring ≠ 0 ∧ s.madc.q.entries.length < 8 ∧ r.room ≠ 0 ∧ r.waitDoorbell = false
    ∧ s.canHost r.secure = true ∧ s.dma.chans[(10 : Fin 32)].stuck = false ∧ s.second = false
    ∧ ({ up with madc.refOn := true } : State).madc.refTick + 7500000 ≤ 7500000 ∧ 7499999 < up.madc.refTick + 7500000 := by decide +kernel

/-- A CAL_SHADING that measures its dark lines, then its lit ones. -/
def testCal (op num : Nat) (l : List Byte) : CalRun := CalRun.fresh 7 op num l .phase [0, 1] 0

theorem test_hyps_calibration :
    let l := bytesWith 64 [(8, 4), (12, 10), (16, 3)];
    let s : State := { up with trig.runs := [testCal 2 0 l] };
    let v : State := { up with trig.runs := [testCal 9 0 (bytesWith 16 [(4, 0xE8), (5, 3)])] };
    let conv : List Int := List.replicate 256 10000;
    s.portRun 0 = some (testCal 2 0 l) ∧ (testCal 2 0 l).stage = .phase
    ∧ (testCal 2 0 l).start + 1500000 * u16 l 14 + (testCal 2 0 l).lines * (if u8 l 3 = 1 then u32 l 4 else 0) ≤ 0
    ∧ s.docInWay 0 = false ∧ (testCal 2 0 l).phases = 0 :: [1] ∧ ({ s with tl.path := 1 } : State).docInWay 0 = true
    ∧ (testCal 2 0 l).lampBad true [] = false ∧ (testCal 2 0 l).lampBad true [1] = true
    ∧ (v.trig.runs.find? fun r => r.op = 9 && r.num = (0 : Fin 12).val) = some (testCal 9 0 (bytesWith 16 [(4, 0xE8), (5, 3)]))
    ∧ variance conv ≤ 9 ∧ mkRat 65535 10 ≤ intMean conv
    ∧ (((156 : Nat) : Int) - ratNearest (intMean conv * mkRat 1023 65535)).natAbs ≤ 32
    ∧ 32 < (((200 : Nat) : Int) - ratNearest (intMean conv * mkRat 1023 65535)).natAbs
    ∧ (upRun.sys.batchState ≠ .none) := by decide +kernel

theorem test_hyps_deferred :
    let x := CalRun.fresh 7 2 0 [] .deferred [0] 0;
    let s : State := { calPort with trig.runs := [x] };
    s.sys.batchState = .none ∧ (s.trig.runs.filter fun r => r.stage = .deferred) = [x] ∧ s.ports[(0 : Fin 8)].vid.ready = true
    ∧ s.ports[(0 : Fin 8)].line = none ∧ s.docInWay 0 = false := by decide +kernel

theorem test_hyps_stores :
    let x (k : Nat) : NvmStore := { item := .trig 48 false testMadc, job := none, step := k };
    let plan : PlanBody := { planTime := 0, planWall := 0, margin := 0, marginLow := false, ceilings := [], curve := [], slices := [], monitors := [], planMv := 800 };
    (∀ k ∈ [2, 3, 4], ({ up with trig.stores := [x k] } : State).trig.stores = x k :: [] ∧ (x k).step = k) ∧ up.secPaused = false
    ∧ ({ up with wea.due := true } : State).planIsDue = true ∧ up.wea.planning = false ∧ ({ up with wea.due := false } : State).planIsDue = false
    ∧ (upRecord planIndex (.weather plan)).planOf = some (testMadc.head, plan) ∧ 789 + 10 < plan.planMv ∧ plan.planMv ≤ 790 + 10 := by decide +kernel

set_option maxRecDepth 20000 in
/-- A duplicate whose original has ended; what digest its ACCEPT entry holds is the packet's own. -/
theorem test_hyps_duplicate :
    let p := secretly 0 [];
    let e : LedgerEntry := { LedgerEntry.blank .accept with seq := 5, tag := 7, ring := 0, digest := packetDigest p nopSpec.code };
    let d : LedgerEntry := { LedgerEntry.blank .done with seq := 6, tag := 7, ring := 0, ends := 5 };
    let s : State := { up with ldg.entries := [e, d] };
    (s.advance 5).takeable p = some testRing0 ∧ nopSpec.verdict (s.advance 5) p testRing0 = .duplicate e
      ∧ s.flight? e.seq = none ∧ s.doneOf e = some d :=
  by
  refine ⟨by decide +kernel, if_pos rfl, by decide +kernel, ?_⟩
  exact rfl

/-- Forms that the statements on ports, axes, pace groups and calibrations tell apart. -/
theorem test_hyps_waiting_forms :
    let scan := upScan id;
    let q := scan.ports[(0 : Fin 8)];
    let off : State := upPort (fun p => { p with st := .idle }) (upActs 832 0 up);
    let x : Axis := { idleAxis up.axes[(0 : Fin 12)] with st := .fault, waits.settle := some (9, .resume) };
    let cfg : Option PaceCfg := none;
    let g : PaceGroup := { PaceGroup.disabled with next := some cfg };
    ({ q with waits.reconfig := some (1, [], 2) } : Port).waits.reconfig = some (1, [], 2) ∧ q.st = .scan ∧ scan.trig.gaps = []
    ∧ (q.waits.reconfig = none ∧ q.line = none ∧ q.waits.slots = [] ∧ q.sides = []) ∧ ({ q with sides := [testSide] } : Port).sides ≠ []
    ∧ off.ports[(0 : Fin 8)].takesEdges = false ∧ q.takesEdges = true ∧ off.edgesIgnored 0 = false ∧ off.fittedBlock (.port 0) = true
    ∧ (off.evf.acts.find? fun y => y.task == { num := 13 * 64, inst := (0 : Fin 8).val } && decide (y.tick ≤ 5)).isSome = true
    ∧ x.waits.settle = some (9, .resume) ∧ x.st = .fault ∧ ({ x with drive.en := false } : Axis).drive.en = false
    ∧ g.next = some cfg ∧ g.sb = none ∧ g.gapStop = false ∧ ({ g with gapStop := true } : PaceGroup).gapStop = true
    ∧ ({ testCal 2 0 [] with expired := true } : CalRun).expired = true ∧ (testCal 2 0 []).expired = false
    ∧ ({ q with lvds.training := some 0 } : Port).waits.later = [] ∧ ({ q with lvds.resync := some 0 } : Port).lvds.training = none := by
  decide +kernel

theorem test_hyps_slice_forms :
    let good : SliceResult := { offset := 0, gain := 0, instant := 0, convTicks := 100, coeff := [] };
    let q := upVideo fun x => { x with up := true };
    let s : State := upPort (fun _ => q) (up.advance 3000);
    let l := q.vid.lanes[(0 : Fin 4)];
    let down := upVideo id;
    l.up = true ∧ down.laneDown 0 = true ∧ s.stepFree 0 l = true ∧ q.pxEnd ≤ s.ticks
    ∧ (initialOutcome (initialResult (List.replicate 36 (good, good)) 0 0) 0).2 = true := by decide +kernel

theorem test_hyps_doorbell_forms :
    DbHalf.whole ≠ .high ∧ ((DbHalf.whole ≠ DbHalf.whole || decide ((0x100000000 : BitVec 64).toNat < 2 ^ 32)) && testRing2.doorbellOk 0) = false
    ∧ testRing2.doorbellOk 200 = true ∧ testRing2.doorbellOk 256 = false := by decide +kernel

/-! ### One step -/

/-- The state after a step, if there is one. -/
def afterStep (c : Instr) (s : State) : Option State :=
  match step { s with pending := [c] } with
  | .next t => some t
  | _ => none

/-- 10 R236: NOP is answered OK, and its packet of one slot is taken. -/
theorem test_nop_answered : ((afterStep (.nop (openly 0 [])) up).map fun t => (t.cmd.replies.map fun r => (r.ring, r.status, r.tag), (t.ring? 2).map Ring.head))
    = some ([(3, 0, 7)], some 1) := by decide +kernel

/-- 10 R230: a doorbell is the new tail of its command ring; a value past the ring is counted. -/
theorem test_doorbell : ((afterStep (.doorbell 0 .pf0 2 .low 200) up).bind fun t => (t.ring? 2).map Ring.tail) = some 200
    ∧ ((afterStep (.doorbell 0 .pf0 2 .low 256) up).map fun t => t.cmd.badDoorbells) = some 1 := by decide +kernel

/-- 06 R137: an edge counts one up, and one down where the encoder is inverted. -/
theorem test_encoder_edge : ((afterStep (.encoderEdge 5 0 true false) up).map fun t => t.encs[(0 : Fin 8)].pos) = some 1
    ∧ ((afterStep (.encoderEdge 5 0 true false) { up with encs := up.encs.set 0 { Encoder.fresh with invert := true } }).map fun t => t.encs[(0 : Fin 8)].pos)
      = some (-1) := by decide +kernel

/-- 11 R272: a window write stores its bytes, the first at the lowest address. -/
theorem test_window_write : ((afterStep (.cellarWindowAccess 0 .pf0 16 (.write [1, 2, 3, 4])) upCellar).map fun t =>
    ((List.range 6).map fun i => Mem.get t.cel.mem (15 + i))) = some [0, 1, 2, 3, 4, 0] := by decide +kernel

/-- 16 R388: READ_MODE in READY: mode 1 in the low byte, no SAFE cause. -/
theorem test_smb_mode : ((afterStep (.smbReadMode 1500000) { up with ticks := 0 }).map fun t => t.board.smb.answer.take 2) = some [1, 0] := by decide +kernel

/-- 11 R264: a scrub past the capacity finds no such address. -/
theorem test_scrub_stops :
    (match exec (.patrolScrub 0 (4 * 2 ^ 30) .clean) upCellar with
      | .fault f => some f
      | _ => none) = some Fault.noSuchAddress := by decide +kernel

/-- 08, the worked example under Table 8.9: a lamp's sense voltage of 0.15 V reads 19,661, a die at 45 degrees 31,360. -/
theorem test_input_codes : madcInputCode 24 150000 = 19661 ∧ madcInputCode 48 45 = 31360 := by decide +kernel

/-- 10 R230: a whole write with a bit above its low half is counted and moves nothing. -/
theorem test_doorbell_whole : ((afterStep (.doorbell 0 .pf0 2 .whole 0x1000000C8) up).bind fun t => (t.ring? 2).map Ring.tail) = some 100
    ∧ ((afterStep (.doorbell 0 .pf0 2 .whole 0x1000000C8) up).map fun t => t.cmd.badDoorbells) = some 1 := by decide +kernel

/-- Forms that the statements on the Rope, the links, the SMBus, the Cellar and the calibrations tell apart. -/
theorem test_hyps_told_apart :
    let second : State := { upRope with rope.role := .second, rope.follow := .following };
    let ms : Nat := max up.ticks 5 / 1500000;
    let seen : State := { up with board.smb.sites := some (0, [1]), board.smb.power := some (0, 2), board.smb.rails := some (0, [3]) };
    let idle : Axis := idleAxis up.axes[(0 : Fin 12)];
    let chan : Channel := { up.dma.chans[(16 : Fin 32)] with chainHost := true, retried := false };
    linkShape 1 1 = true ∧ linkShape 0 3 = false ∧ up.board.smb.sites = none ∧ up.board.smb.power = none ∧ up.board.smb.rails = none
    ∧ seen.board.smb.sites = some (ms, [1]) ∧ seen.board.smb.power = some (ms, 2) ∧ seen.board.smb.rails = some (ms, [3])
    ∧ second.second = true ∧ up.second = false ∧ up.secPaused = false ∧ ({ up with sec.secStart := some { seq := 7, tick := 0, peer := false } } : State).secPaused = true
    ∧ (idle.waits.park = none ∧ idle.waits.settle = none) ∧ up.ports[(0 : Fin 8)].laneFailed = false ∧ (∀ q ∈ up.trig.runs, q.op = 9 → q.num ≠ 0)
    ∧ up.stopAsked 0 = true ∧ upRun.stopAsked 0 = false ∧ chan.chainHost = true ∧ chan.retried = false ∧ up.ldg.ckptWaiting = []
    ∧ ({ up with tl.lost := false } : State).tl.lastValid + 150000 ≤ max up.ticks 150000
    ∧ (∀ x ∈ up.trig.runs, x.stage ≠ .phase) ∧ ({ up with trig.runs := [testCal 2 0 []] } : State).portRun 0 = some (testCal 2 0 [])
    ∧ (testCal 2 0 []).stage = .phase := by decide +kernel

/-- 16 R374: the body of a board record is read as it is written. -/
theorem test_board_record : BoardRecord.ofBody BoardRecord.full.body = BoardRecord.full
    ∧ (BoardRecord.full.body).length = 32 := by decide +kernel

/-! ### Every packet command is accepted somewhere -/

theorem test_nop_accepted : Accepts nopSpec (secretly 0 [])
    (up) testRing0 :=
  ⟨⟨rfl, rfl⟩, by decide +kernel, by decide +kernel, by decide +kernel, by decide +kernel⟩
theorem test_identify_accepted : Accepts identifySpec (secretly 8 [])
    (up) testRing0 :=
  ⟨⟨rfl, rfl⟩, by decide +kernel, by decide +kernel, by decide +kernel, by decide +kernel⟩
theorem test_setMode_accepted : Accepts setModeSpec (secretly 8 [(0,4)])
    (up) testRing0 :=
  ⟨⟨rfl, rfl⟩, by decide +kernel, by decide +kernel, by decide +kernel, by decide +kernel⟩
theorem test_getStatus_accepted : Accepts getStatusSpec (secretly 8 [])
    (up) testRing0 :=
  ⟨⟨rfl, rfl⟩, by decide +kernel, by decide +kernel, by decide +kernel, by decide +kernel⟩
theorem test_resetBlock_accepted : Accepts resetBlockSpec (openly 8 [(0,13)])
    (up) testRing2 :=
  ⟨⟨rfl, rfl⟩, by decide +kernel, by decide +kernel, by decide +kernel, by decide +kernel⟩
theorem test_setTime_accepted : Accepts setTimeSpec (openly 24 [(0,1),(16,1)])
    (up) testRing2 :=
  ⟨⟨rfl, rfl⟩, by decide +kernel, by decide +kernel, by decide +kernel, by decide +kernel⟩
theorem test_selfTest_accepted : Accepts selfTestSpec (openly 16 [(0,4)])
    (up) testRing2 :=
  ⟨⟨rfl, rfl⟩, by decide +kernel, by decide +kernel, by decide +kernel, by decide +kernel⟩
theorem test_batchOpen_accepted : Accepts batchOpenSpec (openly 8 [])
    ({ up with sec.estateWords := [5] }) testRing2 :=
  ⟨⟨rfl, rfl⟩, by decide +kernel, by decide +kernel, by decide +kernel, by decide +kernel⟩
theorem test_batchClose_accepted : Accepts batchCloseSpec (openly 8 [])
    (upRun) testRing2 :=
  ⟨⟨rfl, rfl⟩, by decide +kernel, by decide +kernel, by decide +kernel, by decide +kernel⟩
theorem test_docBegin_accepted : Accepts docBeginSpec (openly 8 [(0,1)])
    (upPort (fun p => { p with st := .scan }) upRun) testRing2 :=
  ⟨⟨rfl, rfl⟩, by decide +kernel, by decide +kernel, by decide +kernel, by decide +kernel⟩
theorem test_docEnd_accepted : Accepts docEndSpec (openly 8 [(0,1)])
    (upRun) testRing2 :=
  ⟨⟨rfl, rfl⟩, by decide +kernel, by decide +kernel, by decide +kernel, by decide +kernel⟩
theorem test_batchAbort_accepted : Accepts batchAbortSpec (openly 8 [])
    (upRun) testRing2 :=
  ⟨⟨rfl, rfl⟩, by decide +kernel, by decide +kernel, by decide +kernel, by decide +kernel⟩
theorem test_portConfig_accepted : Accepts portConfigSpec (openly 88 [(1,1),(2,1),(5,255),(6,255),(7,255),(8,64),(12,8),(13,1),(16,240),(17,73),(18,2),(28,1),(36,2),(42,1),(44,2),(46,3),(60,1)])
    (up) testRing2 :=
  ⟨⟨rfl, rfl⟩, by decide +kernel, by decide +kernel, by decide +kernel, by decide +kernel⟩
theorem test_patternLoad_accepted : Accepts patternLoadSpec (openly 20 [(4,1)])
    (upPort (fun p => { p with st := .idle, cfg.pgMode := List.replicate 24 0 }) up) testRing2 :=
  ⟨⟨rfl, rfl⟩, by decide +kernel, by decide +kernel, by decide +kernel, by decide +kernel⟩
theorem test_portArm_accepted : Accepts portArmSpec (openly 8 [])
    (upImage (upPort (fun p => { p with st := .idle, cfg.digital := true, active := some false }) up)) testRing2 :=
  ⟨⟨rfl, rfl⟩, by decide +kernel, by decide +kernel, by decide +kernel, by decide +kernel⟩
theorem test_portDisarm_accepted : Accepts portDisarmSpec (openly 8 [])
    (up) testRing2 :=
  ⟨⟨rfl, rfl⟩, by decide +kernel, by decide +kernel, by decide +kernel, by decide +kernel⟩
theorem test_portReconfig_accepted : Accepts portReconfigSpec (openly 96 [(9,1),(10,1),(13,255),(14,255),(15,255),(16,64),(20,8),(21,1),(24,240),(25,73),(26,2),(36,1),(44,2),(50,1),(52,2),(54,3),(68,1)])
    (upPort (fun p => { p with st := .scan }) up) testRing2 :=
  ⟨⟨rfl, rfl⟩, by decide +kernel, by decide +kernel, by decide +kernel, by decide +kernel⟩
theorem test_alignSet_accepted : Accepts alignSetSpec (openly 16 [(1,1)])
    (upPort (fun p => { p with st := .idle }) up) testRing2 :=
  ⟨⟨rfl, rfl⟩, by decide +kernel, by decide +kernel, by decide +kernel, by decide +kernel⟩
theorem test_outputFormat_accepted : Accepts outputFormatSpec (openly 16 [(1,8),(4,1),(6,1)])
    (upImage (upPort (fun p => { p with st := .idle, cfg.colourCount := 1 }) up)) testRing2 :=
  ⟨⟨rfl, rfl⟩, by decide +kernel, by decide +kernel, by decide +kernel, by decide +kernel⟩
theorem test_axisConfig_accepted : Accepts axisConfigSpec (openly 32 [(0,1),(4,4)])
    (up) testRing2 :=
  ⟨⟨rfl, rfl⟩, by decide +kernel, by decide +kernel, by decide +kernel, by decide +kernel⟩
theorem test_moveTo_accepted : Accepts moveToSpec (openly 32 [(8,9)])
    (upAxis idleAxis up) testRing2 :=
  ⟨⟨rfl, rfl⟩, by decide +kernel, by decide +kernel, by decide +kernel, by decide +kernel⟩
theorem test_moveVelocity_accepted : Accepts moveVelocitySpec (openly 32 [(8,9)])
    (upAxis idleAxis up) testRing2 :=
  ⟨⟨rfl, rfl⟩, by decide +kernel, by decide +kernel, by decide +kernel, by decide +kernel⟩
theorem test_stop_accepted : Accepts stopSpec (openly 8 [])
    (up) testRing2 :=
  ⟨⟨rfl, rfl⟩, by decide +kernel, by decide +kernel, by decide +kernel, by decide +kernel⟩
theorem test_resume_accepted : Accepts resumeSpec (openly 8 [])
    (upAxis (fun a => { idleAxis a with kept := some { move := { Move.none with kind := .position, target := 9, v := 9, a := 9, j := 9 }, gear := none } }) up) testRing2 :=
  ⟨⟨rfl, rfl⟩, by decide +kernel, by decide +kernel, by decide +kernel, by decide +kernel⟩
theorem test_home_accepted : Accepts homeSpec (openly 32 [])
    (upAxis idleAxis up) testRing2 :=
  ⟨⟨rfl, rfl⟩, by decide +kernel, by decide +kernel, by decide +kernel, by decide +kernel⟩
theorem test_gearSet_accepted : Accepts gearSetSpec (openly 16 [(8,1)])
    (upAxis idleAxis up) testRing2 :=
  ⟨⟨rfl, rfl⟩, by decide +kernel, by decide +kernel, by decide +kernel, by decide +kernel⟩
theorem test_gearRatioAt_accepted : Accepts gearRatioAtSpec (openly 24 [])
    (upAxis (fun a => { a with st := .geared }) up) testRing2 :=
  ⟨⟨rfl, rfl⟩, by decide +kernel, by decide +kernel, by decide +kernel, by decide +kernel⟩
theorem test_axisLimits_accepted : Accepts axisLimitsSpec (openly 48 [(8,100),(12,100),(16,100),(20,100),(24,100),(40,1)])
    (up) testRing2 :=
  ⟨⟨rfl, rfl⟩, by decide +kernel, by decide +kernel, by decide +kernel, by decide +kernel⟩
theorem test_holdPark_accepted : Accepts holdParkSpec (openly 16 [(4,10)])
    (upAxis idleAxis up) testRing2 :=
  ⟨⟨rfl, rfl⟩, by decide +kernel, by decide +kernel, by decide +kernel, by decide +kernel⟩
theorem test_madcSequence_accepted : Accepts madcSequenceSpec (openly 24 [(3,1),(17,0),(18,1)])
    (up) testRing2 :=
  ⟨⟨rfl, rfl⟩, by decide +kernel, by decide +kernel, by decide +kernel, by decide +kernel⟩
theorem test_madcStart_accepted : Accepts madcStartSpec (openly 8 [])
    (up) testRing2 :=
  ⟨⟨rfl, rfl⟩, by decide +kernel, by decide +kernel, by decide +kernel, by decide +kernel⟩
theorem test_madcUrgent_accepted : Accepts madcUrgentSpec (openly 8 [])
    (up) testRing2 :=
  ⟨⟨rfl, rfl⟩, by decide +kernel, by decide +kernel, by decide +kernel, by decide +kernel⟩
theorem test_refbufEnable_accepted : Accepts refbufEnableSpec (openly 8 [(0,1)])
    (up) testRing2 :=
  ⟨⟨rfl, rfl⟩, by decide +kernel, by decide +kernel, by decide +kernel, by decide +kernel⟩
theorem test_calVideo_accepted : Accepts calVideoSpec (secretly 32 [(1,1),(8,4),(16,0xE8),(17,3),(20,1)])
    (calPort) testRing0 :=
  ⟨⟨rfl, rfl⟩, by decide +kernel, by decide +kernel, by decide +kernel, by decide +kernel⟩
theorem test_calShading_accepted : Accepts calShadingSpec (secretly 64 [(1,1),(8,4),(16,1),(34,1),(36,1),(42,64),(50,1)])
    (calPort) testRing0 :=
  ⟨⟨rfl, rfl⟩, by decide +kernel, by decide +kernel, by decide +kernel, by decide +kernel⟩
theorem test_calAlign_accepted : Accepts calAlignSpec (secretly 32 [(1,1),(8,4),(17,2),(18,64)])
    (calPort) testRing0 :=
  ⟨⟨rfl, rfl⟩, by decide +kernel, by decide +kernel, by decide +kernel, by decide +kernel⟩
theorem test_calMadcZero_accepted : Accepts calMadcZeroSpec (secretly 16 [(4,0x50),(5,0xC3),(8,8)])
    (up) testRing0 :=
  ⟨⟨rfl, rfl⟩, by decide +kernel, by decide +kernel, by decide +kernel, by decide +kernel⟩
theorem test_calMadcFull_accepted : Accepts calMadcFullSpec (secretly 16 [(4,0x40),(5,0x42),(6,0xF),(8,8)])
    (upCell 48 (fun c => { c with a := .valid testMadc, force := some false }) up) testRing0 :=
  ⟨⟨rfl, rfl⟩, by decide +kernel, by decide +kernel, by decide +kernel, by decide +kernel⟩
theorem test_calCommit_accepted : Accepts calCommitSpec (secretly 16 [(0,4)])
    (upCell 48 (fun c => { c with cand := some { body := testMadc.body, resid := 0, phases := 0, calTime := 0, wallTime := 0, colours := [], width := 0 } }) up) testRing0 :=
  ⟨⟨rfl, rfl⟩, by decide +kernel, by decide +kernel, by decide +kernel, by decide +kernel⟩
theorem test_calQuery_accepted : Accepts calQuerySpec (secretly 16 [(0,1)])
    (up) testRing0 :=
  ⟨⟨rfl, rfl⟩, by decide +kernel, by decide +kernel, by decide +kernel, by decide +kernel⟩
theorem test_calRevert_accepted : Accepts calRevertSpec (secretly 16 [(0,4)])
    (upCell 48 (fun c => { c with a := .valid testMadc, b := .valid testMadc, force := some false }) up) testRing0 :=
  ⟨⟨rfl, rfl⟩, by decide +kernel, by decide +kernel, by decide +kernel, by decide +kernel⟩
theorem test_calDrive_accepted : Accepts calDriveSpec (secretly 16 [(4,0xE8),(5,3)])
    (up) testRing0 :=
  ⟨⟨rfl, rfl⟩, by decide +kernel, by decide +kernel, by decide +kernel, by decide +kernel⟩
theorem test_ringCreate_accepted : Accepts ringCreateSpec (openly 32 [(0,24),(2,1),(3,7)])
    (up) testRing2 :=
  ⟨⟨rfl, rfl⟩, by decide +kernel, by decide +kernel, by decide +kernel, by decide +kernel⟩
theorem test_ringDestroy_accepted : Accepts ringDestroySpec (openly 8 [(0,16)])
    (upImage up) testRing2 :=
  ⟨⟨rfl, rfl⟩, by decide +kernel, by decide +kernel, by decide +kernel, by decide +kernel⟩
theorem test_dmaCopy_accepted : Accepts dmaCopySpec (secretly 48 [(0,24),(1,2)])
    (up) testRing0 :=
  ⟨⟨rfl, rfl⟩, by decide +kernel, by decide +kernel, by decide +kernel, by decide +kernel⟩
theorem test_dmaFence_accepted : Accepts dmaFenceSpec (secretly 8 [])
    (up) testRing0 :=
  ⟨⟨rfl, rfl⟩, by decide +kernel, by decide +kernel, by decide +kernel, by decide +kernel⟩
theorem test_regionSet_accepted : Accepts regionSetSpec (secretly 16 [(1,1),(8,1)])
    ({ up with cel.capGib := 4 }) testRing0 :=
  ⟨⟨rfl, rfl⟩, by decide +kernel, by decide +kernel, by decide +kernel, by decide +kernel⟩
theorem test_routeSet_accepted : Accepts routeSetSpec (openly 56 [(0,1),(10,0x40),(11,3),(12,1),(13,1),(24,0x40),(25,3)])
    (up) testRing2 :=
  ⟨⟨rfl, rfl⟩, by decide +kernel, by decide +kernel, by decide +kernel, by decide +kernel⟩
theorem test_routeClear_accepted : Accepts routeClearSpec (openly 32 [(0,1)])
    (up) testRing2 :=
  ⟨⟨rfl, rfl⟩, by decide +kernel, by decide +kernel, by decide +kernel, by decide +kernel⟩
theorem test_routeQuery_accepted : Accepts routeQuerySpec (openly 16 [])
    (up) testRing2 :=
  ⟨⟨rfl, rfl⟩, by decide +kernel, by decide +kernel, by decide +kernel, by decide +kernel⟩
theorem test_paceConfig_accepted : Accepts paceConfigSpec (openly 168 [(1,3)])
    (up) testRing2 :=
  ⟨⟨rfl, rfl⟩, by decide +kernel, by decide +kernel, by decide +kernel, by decide +kernel⟩
theorem test_paceQuery_accepted : Accepts paceQuerySpec (openly 16 [])
    (up) testRing2 :=
  ⟨⟨rfl, rfl⟩, by decide +kernel, by decide +kernel, by decide +kernel, by decide +kernel⟩
theorem test_seamPolicy_accepted : Accepts seamPolicySpec (openly 16 [(1,8),(4,1),(6,1),(8,16)])
    (up) testRing2 :=
  ⟨⟨rfl, rfl⟩, by decide +kernel, by decide +kernel, by decide +kernel, by decide +kernel⟩
theorem test_ropePair_accepted : Accepts ropePairSpec (openly 8 [(4,1)])
    (upRope) testRing2 :=
  ⟨⟨rfl, rfl⟩, by decide +kernel, by decide +kernel, by decide +kernel, by decide +kernel⟩
theorem test_ropeSwap_accepted : Accepts ropeSwapSpec (openly 8 [])
    ({ upRope with rope.role := .lead, rope.peer := upRope.rope.peer.map fun x => { x with role := 2, follow := 3 } }) testRing2 :=
  ⟨⟨rfl, rfl⟩, by decide +kernel, by decide +kernel, by decide +kernel, by decide +kernel⟩
theorem test_ropeRelease_accepted : Accepts ropeReleaseSpec (openly 8 [])
    ({ up with rope.role := .second, rope.follow := .following }) testRing2 :=
  ⟨⟨rfl, rfl⟩, by decide +kernel, by decide +kernel, by decide +kernel, by decide +kernel⟩
theorem test_ropeStatus_accepted : Accepts ropeStatusSpec (openly 8 [])
    (up) testRing2 :=
  ⟨⟨rfl, rfl⟩, by decide +kernel, by decide +kernel, by decide +kernel, by decide +kernel⟩
theorem test_worldAssign_accepted : Accepts worldAssignSpec (secretly 8 [])
    (up) testRing0 :=
  ⟨⟨rfl, rfl⟩, by decide +kernel, by decide +kernel, by decide +kernel, by decide +kernel⟩
theorem test_attest_accepted : Accepts attestSpec (secretly 56 [(49,16)])
    (up) testRing0 :=
  ⟨⟨rfl, rfl⟩, by decide +kernel, by decide +kernel, by decide +kernel, by decide +kernel⟩
theorem test_fwStage_accepted : Accepts fwStageSpec (secretly 16 [(0,1)])
    (up) testRing0 :=
  ⟨⟨rfl, rfl⟩, by decide +kernel, by decide +kernel, by decide +kernel, by decide +kernel⟩
theorem test_fwActivate_accepted : Accepts fwActivateSpec (secretly 8 [(0,1)])
    ({ up with sec.ctl := up.sec.ctl.set 1 (FwSlot.delivered true) }) testRing0 :=
  ⟨⟨rfl, rfl⟩, by decide +kernel, by decide +kernel, by decide +kernel, by decide +kernel⟩
theorem test_keyInfo_accepted : Accepts keyInfoSpec (secretly 8 [(1,16)])
    (up) testRing0 :=
  ⟨⟨rfl, rfl⟩, by decide +kernel, by decide +kernel, by decide +kernel, by decide +kernel⟩
theorem test_signPolicy_accepted : Accepts signPolicySpec (secretly 8 [(0,1)])
    ({ up with sec.worldPort := 1 }) testRing0 :=
  ⟨⟨rfl, rfl⟩, by decide +kernel, by decide +kernel, by decide +kernel, by decide +kernel⟩
theorem test_estateSet_accepted : Accepts estateSetSpec (secretly 8 [(0,5)])
    (up) testRing0 :=
  ⟨⟨rfl, rfl⟩, by decide +kernel, by decide +kernel, by decide +kernel, by decide +kernel⟩
theorem test_ledgerRead_accepted : Accepts ledgerReadSpec (openly 24 [(8,1)])
    (up) testRing2 :=
  ⟨⟨rfl, rfl⟩, by decide +kernel, by decide +kernel, by decide +kernel, by decide +kernel⟩
theorem test_ledgerCheckpoint_accepted : Accepts ledgerCheckpointSpec (openly 8 [])
    (up) testRing2 :=
  ⟨⟨rfl, rfl⟩, by decide +kernel, by decide +kernel, by decide +kernel, by decide +kernel⟩
theorem test_ledgerTrim_accepted : Accepts ledgerTrimSpec (openly 8 [])
    ({ up with ldg.ckpts := [{ seq := 9, time := 0, firstSeq := 0, estate := 0, reason := 1, batch := 0, chain := 0, signature := none }], ldg.sessionSeq := 9 }) testRing2 :=
  ⟨⟨rfl, rfl⟩, by decide +kernel, by decide +kernel, by decide +kernel, by decide +kernel⟩

/-! ### Other forms that the statements distinguish -/

def accepts (sp : PacketSpec) (p : Packet) (s : State) : Prop :=
  (s.advance p.tick).takeable p = some (if p.ring = 0 then testRing0 else testRing2)
    ∧ sp.verdict (s.advance p.tick) p (if p.ring = 0 then testRing0 else testRing2) = .accept

theorem test_setMode_other : accepts setModeSpec (secretly 8 [(0,5)])
      (up)
    ∧ accepts setModeSpec (secretly 8 [(0,2)])
      (up)
    ∧ accepts setModeSpec (secretly 8 [(0,1)])
      ({ up with sys.mode := .service }) := by
  unfold accepts
  decide +kernel
theorem test_selfTest_other : accepts selfTestSpec (secretly 16 [(0,0xFF)])
      ({ up with sys.mode := .service }) := by
  unfold accepts
  decide +kernel
theorem test_docBegin_other : accepts docBeginSpec (openly 8 [(0,1),(1,1)])
      (upPort (fun p => { p with st := .scan }) upRun) := by
  unfold accepts
  decide +kernel
theorem test_portArm_other : accepts portArmSpec (openly 8 [])
      (upImage (upPort (fun p => { p with st := .idle, cfg.digital := true, active := some false, vid.ready := true }) up)) := by
  unfold accepts
  decide +kernel
theorem test_portDisarm_other : accepts portDisarmSpec (openly 8 [])
      (upPort (fun p => { p with st := .scan }) up)
    ∧ accepts portDisarmSpec (openly 8 [])
      (upPort (fun p => { p with st := .scan, sides := [testSide] }) up) := by
  unfold accepts
  decide +kernel
theorem test_portReconfig_other : accepts portReconfigSpec (openly 96 [(9,1),(10,1),(13,255),(14,255),(15,255),(16,64),(20,8),(21,1),(24,240),(25,73),(26,2),(36,1),(44,2),(50,1),(52,2),(54,3),(68,1)])
      (upPort (fun p => { p with st := .scan, sides := [testSide] }) up) := by
  unfold accepts
  decide +kernel
theorem test_alignSet_other : accepts alignSetSpec (openly 16 [(1,1)])
      (upPort (fun p => { p with st := .scan, sides := [testSide] }) up) := by
  unfold accepts
  decide +kernel
theorem test_axisLimits_other : accepts axisLimitsSpec (openly 48 [(8,100),(12,100),(16,100),(20,100),(24,100),(40,1)])
      (upAxis movingAxis up) := by
  unfold accepts
  decide +kernel
theorem test_stop_other : accepts stopSpec (openly 8 [])
      (upAxis idleAxis up)
    ∧ accepts stopSpec (openly 8 [(1,1)])
      (upAxis movingAxis up) := by
  unfold accepts
  decide +kernel
theorem test_gearSet_other : accepts gearSetSpec (openly 16 [(1,1)])
      (upAxis (fun a => { a with st := .geared, gear := some testGear }) up) := by
  unfold accepts
  decide +kernel
theorem test_holdPark_other : accepts holdParkSpec (openly 16 [(1,1),(4,0xE8),(5,3)])
      (upAxis (fun a => { a with st := .parked }) up) := by
  unfold accepts
  decide +kernel
theorem test_madcStart_other : accepts madcStartSpec (openly 8 [(0,1)])
      (upSeq (fun x => { x with entries := [testSeqEntry] }) up)
    ∧ accepts madcStartSpec (openly 8 [(0,1),(2,1)])
      (upSeq (fun x => { x with armed := true }) upBusy)
    ∧ accepts madcStartSpec (openly 8 [(0,1),(2,2)])
      (up)
    ∧ accepts madcStartSpec (openly 8 [(0,1),(2,3)])
      (up)
    ∧ accepts madcStartSpec (openly 8 [(2,4),(6,1)])
      (up) := by
  unfold accepts
  decide +kernel
theorem test_refbufEnable_other : accepts refbufEnableSpec (openly 8 [(0,1)])
      ({ up with madc.refOn := true, madc.refSettled := true })
    ∧ accepts refbufEnableSpec (openly 8 [(1,1)])
      (up) := by
  unfold accepts
  decide +kernel
theorem test_calVideo_other : accepts calVideoSpec (secretly 32 [(1,1),(8,4),(16,0xE8),(17,3),(20,1)])
      ({ calPort with sys.mode := .run, sys.batchState := .opened, ports := calPort.ports.set 0 { calPort.ports[0] with st := .scan } }) := by
  unfold accepts
  decide +kernel
theorem test_calCommit_other : accepts calCommitSpec (secretly 16 [(0,4),(3,1)])
      (upCell 48 (fun c => { c with cand := some { body := testMadc.body, resid := 0, phases := 0, calTime := 0, wallTime := 0, colours := [], width := 0 } }) up) := by
  unfold accepts
  decide +kernel
theorem test_dmaFence_other : accepts dmaFenceSpec (openly 8 [(2,1),(4,1)])
      (upChan (fun c => { c with halted := true }) up)
    ∧ accepts dmaFenceSpec (openly 8 [(2,1)])
      (upChan (fun c => { c with wroteHost := true }) up)
    ∧ accepts dmaFenceSpec (openly 8 [(0,1),(4,2)])
      (upPort (fun p => { p with store := [testImage] }) (upImage up)) := by
  unfold accepts
  decide +kernel
theorem test_regionSet_other : accepts regionSetSpec (secretly 16 [])
      ({ up with cel.capGib := 4 }) := by
  unfold accepts
  decide +kernel
theorem test_routeQuery_other : accepts routeQuerySpec (openly 16 [(2,1),(4,0x40),(5,3)])
      (up) := by
  unfold accepts
  decide +kernel
theorem test_ropePair_other : accepts ropePairSpec (openly 8 [(4,1)])
      ({ upRope with sys.mode := .run, sys.batchState := .opened }) := by
  unfold accepts
  decide +kernel
theorem test_ropeRelease_other : accepts ropeReleaseSpec (openly 8 [(0,1)])
      ({ upRope with rope.role := .lead, rope.peer := some { testPeer with role := 2, follow := 3 } })
    ∧ accepts ropeReleaseSpec (openly 8 [])
      ({ upRope with rope.role := .lead }) := by
  unfold accepts
  decide +kernel
theorem test_signPolicy_other : accepts signPolicySpec (secretly 8 [(0,1),(1,1)])
      ({ up with sec.worldPort := 1 }) := by
  unfold accepts
  decide +kernel
theorem test_estateSet_other : accepts estateSetSpec (secretly 8 [(0,5),(4,1)])
      (up) := by
  unfold accepts
  decide +kernel
theorem test_fwActivate_other : accepts fwActivateSpec (secretly 8 [(0,2)])
      ({ up with sec.sec := up.sec.sec.set 1 (FwSlot.delivered true) }) := by
  unfold accepts
  decide +kernel
theorem test_ledgerRead_other : accepts ledgerReadSpec (openly 24 [(8,1),(12,1)])
      (up) := by
  unfold accepts
  decide +kernel
end

namespace Sys2Proof.Machine

/-! ## What the end of a step keeps of the functions and of the event registers -/

/-- The second function is the first, vectors sent or pending aside: the most that an interrupt changes (16 R369). -/
def PciFunction.Signalled (f g : PciFunction) : Prop :=
  ∃ sent pending, g = { f with msixSent := sent, msixPending := pending }

namespace PciFunction.Signalled

theorem refl (f : PciFunction) : f.Signalled f := ⟨f.msixSent, f.msixPending, rfl⟩

theorem trans {f g k : PciFunction} : f.Signalled g → g.Signalled k → f.Signalled k := by
  rintro ⟨_, _, rfl⟩ ⟨_, _, rfl⟩
  exact ⟨_, _, rfl⟩

section
variable {f g : PciFunction} (h : f.Signalled g)
include h

theorem lastRead_eq : g.lastRead = f.lastRead := by obtain ⟨_, _, rfl⟩ := h; rfl
theorem shadow_eq : g.shadow = f.shadow := by obtain ⟨_, _, rfl⟩ := h; rfl
theorem lrOff_eq : g.lrOff = f.lrOff := by obtain ⟨_, _, rfl⟩ := h; rfl
theorem aer_eq : g.aer = f.aer := by obtain ⟨_, _, rfl⟩ := h; rfl
theorem msixWord_eq (k : Nat) : g.msixWord k = f.msixWord k := by obtain ⟨_, _, rfl⟩ := h; rfl

end
end PciFunction.Signalled

@[simp] theorem pf_modPf_same (sec : Bool) (f : PciFunction → PciFunction) (s : State) :
    (s.modPf sec f).pf sec = f (s.pf sec) := by
  cases sec <;> rfl

theorem pf_modPf_other {sec sec' : Bool} (h : sec' ≠ sec) (f : PciFunction → PciFunction) (s : State) :
    (s.modPf sec f).pf sec' = s.pf sec' := by
  cases sec <;> cases sec' <;> simp_all [State.modPf, State.pf]

@[simp] theorem calm_modPf (x : State) (sec : Bool) (f : PciFunction → PciFunction) (s : State) :
    x.calm (s.modPf sec f) = x.calm s := by
  cases sec <;> rfl

/-- A change of one function that only signals leaves each function signalled at most. -/
theorem modPf_signalled {sec : Bool} {f : PciFunction → PciFunction} (s : State)
    (hf : (s.pf sec).Signalled (f (s.pf sec))) (sec' : Bool) : (s.pf sec').Signalled ((s.modPf sec f).pf sec') := by
  by_cases h : sec' = sec
  · subst h
    rwa [pf_modPf_same]
  · rw [pf_modPf_other h]
    exact .refl _

theorem raiseVector_signalled (sec : Bool) (v : Nat) (s : State) (sec' : Bool) :
    (s.pf sec').Signalled ((s.raiseVector sec v).pf sec') := by
  refine modPf_signalled s ?_ sec'
  split
  · exact ⟨_, _, rfl⟩
  · exact ⟨_, _, rfl⟩

theorem sumInterrupt_signalled (b : State) (sec : Bool) (s : State) (sec' : Bool) :
    (s.pf sec').Signalled ((b.sumInterrupt sec s).pf sec') := by
  unfold State.sumInterrupt
  split
  · exact raiseVector_signalled _ _ _ _
  · exact .refl _

theorem sendVectors_signalled (sec : Bool) (s : State) (sec' : Bool) :
    (s.pf sec').Signalled ((s.sendVectors sec).pf sec') := by
  unfold State.sendVectors
  split
  · exact .refl _
  · exact modPf_signalled s ⟨_, _, rfl⟩ sec'

@[simp] theorem calm_sendVectors (x : State) (sec : Bool) (s : State) : x.calm (s.sendVectors sec) = x.calm s := by
  unfold State.sendVectors
  split
  · rfl
  · exact calm_modPf _ _ _ _

theorem stallCheck_pf (s : State) (sec : Bool) : s.stallCheck.pf sec = s.pf sec := by
  obtain ⟨e, b, h⟩ := stallCheck_form s
  rw [h]
  rfl

/-- The end of a step signals a function at most. -/
theorem settle_signalled (s0 s : State) (sec : Bool) : (s.pf sec).Signalled ((s0.settle s).pf sec) := by
  rw [← stallCheck_pf s sec]
  exact (sumInterrupt_signalled s0 false _ sec).trans (sumInterrupt_signalled s0 true _ sec)

theorem act_signalled {s : State} (h : s.Live) (t : Nat) (f : State → State) (sec : Bool) :
    ((f (s.advance t)).pf sec).Signalled ((s.act t f).pf sec) := by
  rw [act_eq_settle h.running]
  exact settle_signalled _ _ sec

/-- Aside from the end of the step the answer is `v`, where the effect makes `v` and `v` keeps the queue's place, the
clock and the memories. -/
theorem act_calm_eq {s v : State} (h : s.Live) {t : Nat} {f : State → State} (hf : s.calm (f (s.advance t)) = v)
    (hv : { v with pending := s.pending, ticks := max s.ticks t, posted := s.posted, cel.mem := s.cel.mem
                   host0 := s.host0, host1 := s.host1 } = v) : s.calm (s.act t f) = v := by
  have hp : (f (s.advance t)).posted = [] := by
    rw [← h.posted, ← show v.posted = s.posted by rw [← hv], ← hf]
    rfl
  rw [act_calm h t f hp, ← hv, ← hf, h.posted, ← hp]
  rfl

theorem stallCheck_of_shown {s : State} (h : s.replyStall = true → s.cmd.stallShown = true) :
    s.stallCheck = { s with cmd.stallShown := s.replyStall } := by
  have hq : (s.replyStall && !s.cmd.stallShown) = false := by
    cases hr : s.replyStall
    · rfl
    · rw [h hr]; rfl
  simp [State.stallCheck, hq]

/-- Where a stall is shown already, the end of the step leaves every event register and its enables. -/
theorem settle_evtOf {s : State} (h : s.replyStall = true → s.cmd.stallShown = true) (s0 : State) (b : BlockId) :
    (s0.settle s).evtOf b = s.evtOf b := by
  unfold State.settle
  rw [stallCheck_of_shown h]
  obtain ⟨p, hp⟩ := sumInterrupt_form s0 false { s with cmd.stallShown := s.replyStall }
  rw [hp]
  obtain ⟨q, hq⟩ := sumInterrupt_form s0 true { s with cmd.stallShown := s.replyStall, pci := p }
  rw [hq]
  cases b <;> rfl

theorem settle_ldg (s0 s : State) : (s0.settle s).ldg = s.ldg := by
  obtain ⟨e, b, p, h⟩ := settle_form s0 s
  rw [h]

theorem settle_rings (s0 s : State) : (s0.settle s).rings = s.rings := by
  obtain ⟨e, b, p, h⟩ := settle_form s0 s
  rw [h]

/-! ## Reads of register pairs (00 R9, 08 R197) -/

section
variable {s : State} {pf : PF} {off : Nat}

theorem denied_advance (s : State) (t : Nat) (pf : PF) (off : Nat) :
    (s.advance t).denied pf off = s.denied pf off := rfl

theorem plainRead_of_reached (h : s.denied pf off = false) :
    s.plainRead pf off = (s.readBack pf (s.readWord (pfSecure pf) off)).readSpent off := by
  simp [State.plainRead, h]

theorem plainRead_of_denied (h : s.denied pf off = true) : s.plainRead pf off = (s.readBack pf 0).deny := by
  simp [State.plainRead, h]

theorem latchingRead_of_low (hl : isLow off = true) (hm : off ≠ madcResOff) (h : s.denied pf off = false) :
    s.latchingRead pf off = (s.plainRead pf off).latch64 pf off (s.readWord (pfSecure pf) (off + 4)) := by
  simp [State.latchingRead, hl, hm, h]

theorem latchingRead_of_denied (hm : off ≠ madcResOff) (h : s.denied pf off = true) :
    s.latchingRead pf off = (s.readBack pf 0).deny := by
  simp [State.latchingRead, hm, h, plainRead_of_denied]

theorem shadowRead_of_paired (hh : isHigh off = true) (h : s.denied pf off = false)
    (hp : (s.pf (pfSecure pf)).lrOff = some (off - 4)) :
    s.shadowRead pf off =
      (s.readBack pf (s.pf (pfSecure pf)).shadow).modPf (pfSecure pf) fun f => { f with lrOff := none } := by
  simp [State.shadowRead, hh, h, hp]

theorem shadowRead_of_unpaired (hh : isHigh off = true) (h : s.denied pf off = false)
    (hp : (s.pf (pfSecure pf)).lrOff ≠ some (off - 4)) (hm : off ≠ madcResOff + 4) :
    s.shadowRead pf off = (s.plainRead pf off).lrMissed pf off := by
  simp [State.shadowRead, hh, h, hp, hm]

/-- MADC_RES_LO takes the head of a queue that drains to registers (08 R197). -/
theorem resLo_of_registers (h : s.denied pf madcResOff = false) (hr : s.madc.q.ring = 0) :
    s.resLo pf =
      { (s.readBack pf (lowHalf s.madcHead)).latch64 pf madcResOff (highHalf s.madcHead) with
        madc.q.entries := s.madc.q.entries.drop 1, madc.q.times := s.madc.q.times.drop 1 } := by
  cases pf <;> simp [State.resLo, h, hr, State.readBack, State.returned, State.latch64, State.modPf, pfSecure]

/-- What a read may have used up is the free values alone (log entry 55). -/
theorem readSpent_form (off : Nat) (s : State) : ∃ n, s.readSpent off = { s with free := n } := by
  unfold State.readSpent
  split
  · exact ⟨_, rfl⟩
  · exact ⟨_, rfl⟩
  · exact ⟨s.free, rfl⟩

theorem pf_readSpent (off : Nat) (s : State) (sec : Bool) : (s.readSpent off).pf sec = s.pf sec := by
  obtain ⟨n, h⟩ := readSpent_form off s
  rw [h]
  rfl

@[simp] theorem calm_readBack (x : State) (pf : PF) (w : Word) (s : State) : x.calm (s.readBack pf w) = x.calm s :=
  calm_modPf _ _ _ _

@[simp] theorem calm_latch64 (x : State) (pf : PF) (off : Nat) (w : Word) (s : State) :
    x.calm (s.latch64 pf off w) = x.calm s := calm_modPf _ _ _ _

@[simp] theorem pf_readBack (pf : PF) (w : Word) (s : State) :
    (s.readBack pf w).pf (pfSecure pf) = { s.pf (pfSecure pf) with lastRead := w.setWidth 64 } := pf_modPf_same _ _ _

@[simp] theorem pf_latch64 (pf : PF) (off : Nat) (w : Word) (s : State) :
    (s.latch64 pf off w).pf (pfSecure pf) = { s.pf (pfSecure pf) with shadow := w, lrOff := some off } :=
  pf_modPf_same _ _ _

/-- A plain read that is not denied changes nothing but its function and the free values. -/
theorem calm_plainRead (h : s.denied pf off = false) (x : State) :
    ∃ n, x.calm (s.plainRead pf off) = { x.calm s with free := n } := by
  rw [plainRead_of_reached h]
  obtain ⟨n, hn⟩ := readSpent_form off (s.readBack pf (s.readWord (pfSecure pf) off))
  rw [hn]
  exact ⟨n, by rw [← calm_readBack x pf (s.readWord (pfSecure pf) off) s]; rfl⟩

theorem pf_plainRead (h : s.denied pf off = false) :
    (s.plainRead pf off).pf (pfSecure pf) =
      { s.pf (pfSecure pf) with lastRead := (s.readWord (pfSecure pf) off).setWidth 64 } := by
  rw [plainRead_of_reached h, pf_readSpent, pf_readBack]

end

@[simp] theorem pf_deny (s : State) (sec : Bool) : s.deny.pf sec = s.pf sec := rfl

/-- A denied access is counted and marked (15 R353). -/
theorem calm_deny (x s : State) : x.calm s.deny = { x.calm s with
    sec.denyCnt := satInc (x.calm s).sec.denyCnt, sec.evt := setBit (x.calm s).sec.evt 1 } := rfl

@[simp] theorem pf_lrMissed (pf : PF) (off : Nat) (s : State) (sec : Bool) :
    (s.lrMissed pf off).pf sec = s.pf sec := rfl

theorem calm_lrMissed (x : State) (pf : PF) (off : Nat) (s : State) :
    x.calm (s.lrMissed pf off) = { x.calm s with
      sys.lrMiss := packWord [(off % 2 ^ 24, 0), (b2n (pfSecure pf), 31)]
      sys.evt := setBit (x.calm s).sys.evt (if pfSecure pf then 7 else 6) } := rfl

/-! ### The five answers to a read of a half -/

section
variable {s : State} (live : s.Live) (t : Nat) (pf : PF)
include live

/-- A low half is returned, and the high half of the same instant goes to the function's shadow. -/
theorem latchingRead_returns_low_latches_high {off : Nat} (hl : isLow off = true) (hm : off ≠ madcResOff)
    (hd : s.denied pf off = false) :
    Answers (.latchingRead t pf off) s fun u =>
      (u.pf (pfSecure pf)).lastRead = ((s.advance t).readWord (pfSecure pf) off).setWidth 64
        ∧ (u.pf (pfSecure pf)).shadow = (s.advance t).readWord (pfSecure pf) (off + 4)
        ∧ (u.pf (pfSecure pf)).lrOff = some off ∧ s.calm { u with free := s.free } = s.advance t := by
  have hd' : (s.advance t).denied pf off = false := (denied_advance ..).trans hd
  have hf := latchingRead_of_low hl hm hd'
  have hs := act_signalled live t (State.latchingRead pf off) (pfSecure pf)
  rw [hf, pf_latch64, pf_plainRead hd'] at hs
  obtain ⟨n, hn⟩ := calm_plainRead hd' s
  have hc : s.calm (s.act t (State.latchingRead pf off)) = { s.advance t with free := n } :=
    act_calm_eq live (by rw [hf, calm_latch64, hn]; rfl) rfl
  refine ⟨_, rfl, hs.lastRead_eq, hs.shadow_eq, hs.lrOff_eq, ?_⟩
  exact congrArg (fun v : State => { v with free := s.free }) hc

/-- A high half after its own low half returns the shadow, once. -/
theorem shadowRead_returns_shadow {off : Nat} (hh : isHigh off = true) (hd : s.denied pf off = false)
    (hp : (s.pf (pfSecure pf)).lrOff = some (off - 4)) :
    Answers (.shadowRead t pf off) s fun u =>
      (u.pf (pfSecure pf)).lastRead = (s.pf (pfSecure pf)).shadow.setWidth 64 ∧ (u.pf (pfSecure pf)).lrOff = none
        ∧ s.calm u = s.advance t := by
  have hf := shadowRead_of_paired (s := s.advance t) hh hd hp
  have hs := act_signalled live t (State.shadowRead pf off) (pfSecure pf)
  rw [hf, pf_modPf_same, pf_readBack] at hs
  exact ⟨_, rfl, hs.lastRead_eq, hs.lrOff_eq, act_calm_eq live (by rw [hf, calm_modPf, calm_readBack]; rfl) rfl⟩

/-- A high half without its low half before it returns the live half, and the miss is recorded. -/
theorem shadowRead_records_miss {off : Nat} (hh : isHigh off = true) (hd : s.denied pf off = false)
    (hp : (s.pf (pfSecure pf)).lrOff ≠ some (off - 4)) (hm : off ≠ madcResOff + 4) :
    Answers (.shadowRead t pf off) s fun u =>
      (u.pf (pfSecure pf)).lastRead = ((s.advance t).readWord (pfSecure pf) off).setWidth 64
        ∧ s.calm { u with free := s.free } = { s.advance t with
            sys.lrMiss := packWord [(off % 2 ^ 24, 0), (b2n (pfSecure pf), 31)]
            sys.evt := setBit s.sys.evt (if pfSecure pf then 7 else 6) } := by
  have hd' : (s.advance t).denied pf off = false := (denied_advance ..).trans hd
  have hf := shadowRead_of_unpaired (s := s.advance t) hh hd' hp hm
  have hs := act_signalled live t (State.shadowRead pf off) (pfSecure pf)
  rw [hf, pf_lrMissed, pf_plainRead hd'] at hs
  obtain ⟨n, hn⟩ := calm_plainRead hd' s
  have hc := act_calm_eq live (f := State.shadowRead pf off) (by rw [hf, calm_lrMissed, hn]) rfl
  refine ⟨_, rfl, hs.lastRead_eq, ?_⟩
  exact congrArg (fun v : State => { v with free := s.free }) hc

/-- MADC_RES_LO returns the low half of the queue's head, latches its high half and removes it. -/
theorem madcResLo_takes_head (hd : s.denied pf madcResOff = false) (hr : s.madc.q.ring = 0) :
    Answers (.madcResLo t pf) s fun u =>
      (u.pf (pfSecure pf)).lastRead = (lowHalf s.madcHead).setWidth 64
        ∧ (u.pf (pfSecure pf)).shadow = highHalf s.madcHead
        ∧ u.madc.q.entries = s.madc.q.entries.drop 1
        ∧ s.calm { u with madc.q.entries := s.madc.q.entries, madc.q.times := s.madc.q.times } = s.advance t := by
  have hf := resLo_of_registers (s := s.advance t) hd hr
  have hs := act_signalled live t (State.resLo pf) (pfSecure pf)
  have hc : s.calm (s.act t (State.resLo pf)) = { s.advance t with
      madc.q.entries := s.madc.q.entries.drop 1, madc.q.times := s.madc.q.times.drop 1 } :=
    act_calm_eq live (by rw [hf]; cases pf <;> rfl) rfl
  rw [hf] at hs
  refine ⟨_, rfl, ?_, ?_, congrArg (fun v : State => v.madc.q.entries) hc, ?_⟩
  · rw [hs.lastRead_eq]
    cases pf <;> rfl
  · rw [hs.shadow_eq]
    cases pf <;> rfl
  · exact congrArg (fun v : State => { v with madc.q.entries := s.madc.q.entries, madc.q.times := s.madc.q.times }) hc

/-- A low half that the block's world keeps from the function reads zero and is counted. -/
theorem latchingRead_denied {off : Nat} (hm : off ≠ madcResOff) (hd : s.denied pf off = true) :
    Answers (.latchingRead t pf off) s fun u =>
      (u.pf (pfSecure pf)).lastRead = 0
        ∧ s.calm u = { s.advance t with sec.denyCnt := satInc s.sec.denyCnt, sec.evt := setBit s.sec.evt 1 } := by
  have hf := latchingRead_of_denied (s := s.advance t) hm hd
  have hs := act_signalled live t (State.latchingRead pf off) (pfSecure pf)
  rw [hf, pf_deny, pf_readBack] at hs
  exact ⟨_, rfl, hs.lastRead_eq, act_calm_eq live (by rw [hf, calm_deny, calm_readBack]; rfl) rfl⟩

end

/-- Settles O28: each clause is the answer of its own read. -/
theorem pairsAreReadAtOneInstant : Obligations.PairsAreReadAtOneInstant := by
  intro s t pf live
  refine ⟨fun off hl hm hd => latchingRead_returns_low_latches_high live t pf hl hm hd,
    fun off hh hd => ⟨fun hp => shadowRead_returns_shadow live t pf hh hd hp,
      fun hp hm => shadowRead_records_miss live t pf hh hd hp hm⟩,
    madcResLo_takes_head live t pf, fun hd hp => ?_, fun off _ hm hd => latchingRead_denied live t pf hm hd⟩
  have hh : isHigh (madcResOff + 4) = true := by decide
  obtain ⟨u, hu, hr, -, hc⟩ := shadowRead_returns_shadow live t pf hh hd hp
  exact ⟨u, hu, hr, hc⟩

/-! ## Writes (00 R9 and Table 0.3, 15 R353, 16 R368) -/

section
variable {s : State} {pf : PF} {b : BlockId} {o off : Nat}

theorem registerWrite_of_block (hr : regAt off = some (b, o)) (v : Word) :
    s.registerWrite pf off v = s.accessTo pf b (State.writeBlock (pfSecure pf) b o v) := by
  simp [State.registerWrite, hr]

theorem reaches_advance (s : State) (t : Nat) (pf : PF) (b : BlockId) :
    (s.advance t).reaches pf b = s.reaches pf b := rfl

theorem fittedBlock_advance (s : State) (t : Nat) (b : BlockId) :
    (s.advance t).fittedBlock b = s.fittedBlock b := rfl

theorem accessTo_of_reached (h : s.reaches pf b = true) (hb : s.fittedBlock b = true) (f : State → State) :
    s.accessTo pf b f = f s := by
  simp [State.accessTo, h, hb]

theorem accessTo_of_denied (h : s.reaches pf b = false) (f : State → State) : s.accessTo pf b f = s.deny := by
  simp [State.accessTo, h]

theorem inArray_above {o base stride n : Nat} (h : base + stride * n ≤ o) : inArray o base stride n = none :=
  if_neg fun hb => absurd hb.2 (Nat.not_lt.2 h)

/-- The MSI-X tables lie above every block of the map (16 Table 16.2). -/
theorem regAt_msix (k : Nat) : regAt (0x800000 + 4 * k) = none := by
  unfold regAt
  rw [if_neg (by omega), inArray_above (by omega), inArray_above (by omega), inArray_above (by omega)]

theorem registerWrite_outside (hr : regAt off = none) (h : off < 0x800000 ∨ 0x804000 ≤ off) (v : Word) :
    s.registerWrite pf off v = s := by
  have ha : inArray off 0x800000 4 4096 = none := by
    simp [inArray]
    omega
  simp [State.registerWrite, hr, ha]

theorem registerWrite_msix {k : Nat} (hk : k < 4096) (v : Word) :
    s.registerWrite pf (0x800000 + 4 * k) v = s.writeMsix (pfSecure pf) k v := by
  have ha : inArray (0x800000 + 4 * k) 0x800000 4 4096 = some (k, 0) := by
    simp [inArray]
    omega
  simp [State.registerWrite, regAt_msix, ha]

theorem writeBlock_at_event (sec : Bool) (b : BlockId) (v : Word) (s : State) :
    s.writeBlock sec b (evtPlace b).1 v = s.clearEvt b v := by
  simp [State.writeBlock]

theorem writeBlock_at_enables {b : BlockId} (h : (evtPlace b).2.1 ≠ (evtPlace b).1) (sec : Bool) (v : Word)
    (s : State) :
    s.writeBlock sec b (evtPlace b).2.1 v = s.setEnables b (v &&& (evtPlace b).2.2) := by
  simp [State.writeBlock, h]

theorem evtOf_clearEvt (b : BlockId) (v : Word) (s : State) :
    (s.clearEvt b v).evtOf b = (w1c (s.evtOf b).1 v, (s.evtOf b).2) := by
  cases b <;> simp [State.clearEvt, State.evtOf]

theorem evtOf_setEnables (b : BlockId) (v : Word) (s : State) :
    (s.setEnables b v).evtOf b = ((s.evtOf b).1, v) := by
  cases b <;> simp [State.setEnables, State.evtOf]

end

/-- The second state has the first one's Ledger entries, rings and waiting replies, and shows a stall as it does: what
a write to an event register or its enables leaves, and what the end of the step asks for reply_stall. -/
structure State.KeepsQueues (s u : State) : Prop where
  entries : u.ldg.entries = s.ldg.entries
  rings : u.rings = s.rings
  replies : u.cmd.replies = s.cmd.replies
  stallShown : u.cmd.stallShown = s.cmd.stallShown

theorem clearEvt_keepsQueues (b : BlockId) (v : Word) (s : State) : s.KeepsQueues (s.clearEvt b v) := by
  cases b <;> exact ⟨rfl, rfl, rfl, rfl⟩

theorem setEnables_keepsQueues (b : BlockId) (v : Word) (s : State) : s.KeepsQueues (s.setEnables b v) := by
  cases b <;> exact ⟨rfl, rfl, rfl, rfl⟩

theorem State.KeepsQueues.replyStall_eq {s u : State} (h : s.KeepsQueues u) : u.replyStall = s.replyStall := by
  simp only [State.replyStall, State.ring?, h.replies, h.rings]

/-- A word of the MSI-X table as it is stored, its reserved bits zero (16 R369). -/
def msixStored (k : Nat) (v : Word) : Word := if k % 4 = 3 then v &&& 1 else if k % 4 = 0 then v &&& 0xFFFFFFFC else v

/-- The reset value of a word of the MSI-X table: vector control masked (log entry 7). -/
def msixReset (k : Nat) : Word := if k % 4 = 3 then 1 else 0

/-- The words of the MSI-X table with word `k` as `v`: listed in order unless it is the reset value. -/
def msixPut (k : Nat) (v : Word) (f : PciFunction) : PciFunction :=
  let rest := f.msixTable.filter fun e => e.1 != k
  { f with msixTable := if v = msixReset k then rest
      else (rest.filter fun e => e.1 < k) ++ [(k, v)] ++ rest.filter fun e => k < e.1 }

theorem writeMsix_eq (sec : Bool) (k : Nat) (v : Word) (s : State) :
    s.writeMsix sec k v = (s.modPf sec (msixPut k (msixStored k v))).sendVectors sec := rfl

theorem msixWord_eq (f : PciFunction) (k : Nat) :
    f.msixWord k = ((f.msixTable.find? fun e => e.1 == k).map Prod.snd).getD (msixReset k) := rfl

/-- A word of the MSI-X table reads as it was put. -/
theorem msixWord_msixPut (k : Nat) (v : Word) (f : PciFunction) : (msixPut k v f).msixWord k = v := by
  by_cases hv : v = msixReset k
  · have unlisted : (f.msixTable.filter fun e => e.1 != k).find? (fun e => e.1 == k) = none := by simp
    simp [msixWord_eq, msixPut, hv, unlisted]
  · have below : (f.msixTable.filter fun a => decide (a.1 < k) && a.1 != k).find? (fun e => e.1 == k) = none := by simp
    simp [msixWord_eq, msixPut, hv, below]

/-! ### The answers to a write -/

section
variable {s : State} (live : s.Live) (t : Nat) (pf : PF) (v : Word)
include live

/-- A write that reaches a fitted block and keeps the queues is seen in the event register as it was made: with a stall
shown already the end of the step sets no event bit. -/
theorem registerWrite_keeps_queues (quiet : s.replyStall = true → s.cmd.stallShown = true) {b : BlockId} {o off : Nat}
    (hr : regAt off = some (b, o)) (hb : s.reaches pf b = true) (hfit : s.fittedBlock b = true)
    (hk : (s.advance t).KeepsQueues ((s.advance t).writeBlock (pfSecure pf) b o v)) :
    Answers (.registerWrite t pf off v) s fun u =>
      u.evtOf b = ((s.advance t).writeBlock (pfSecure pf) b o v).evtOf b
        ∧ u.ldg.entries = s.ldg.entries ∧ u.rings = s.rings := by
  have hf : (s.advance t).registerWrite pf off v = (s.advance t).writeBlock (pfSecure pf) b o v := by
    rw [registerWrite_of_block hr,
      accessTo_of_reached ((reaches_advance ..).trans hb) ((fittedBlock_advance ..).trans hfit)]
  have hq : ((s.advance t).writeBlock (pfSecure pf) b o v).replyStall = true →
      ((s.advance t).writeBlock (pfSecure pf) b o v).cmd.stallShown = true := by
    rw [hk.replyStall_eq, hk.stallShown]
    exact quiet
  refine ⟨s.act t (State.registerWrite pf off v), rfl, ?_⟩
  rw [act_eq_settle live.running, hf]
  exact ⟨settle_evtOf hq _ b, (congrArg _ (settle_ldg ..)).trans hk.entries, (settle_rings ..).trans hk.rings⟩

/-- A write of ones to an event register clears those bits (Table 0.3, W1C). -/
theorem registerWrite_clears_events (quiet : s.replyStall = true → s.cmd.stallShown = true) {b : BlockId} {off : Nat}
    (hr : regAt off = some (b, (evtPlace b).1)) (hb : s.reaches pf b = true) (hfit : s.fittedBlock b = true) :
    Answers (.registerWrite t pf off v) s fun u =>
      u.evtOf b = (w1c (s.evtOf b).1 v, (s.evtOf b).2) ∧ u.ldg.entries = s.ldg.entries ∧ u.rings = s.rings := by
  have h := registerWrite_keeps_queues live t pf v quiet hr hb hfit
  rw [writeBlock_at_event, evtOf_clearEvt] at h
  exact h (clearEvt_keepsQueues _ _ _)

/-- A write to a block's enables sets those that its event register has. -/
theorem registerWrite_sets_enables (quiet : s.replyStall = true → s.cmd.stallShown = true) {b : BlockId} {off : Nat}
    (hr : regAt off = some (b, (evtPlace b).2.1)) (ho : (evtPlace b).2.1 ≠ (evtPlace b).1)
    (hb : s.reaches pf b = true) (hfit : s.fittedBlock b = true) :
    Answers (.registerWrite t pf off v) s fun u =>
      u.evtOf b = ((s.evtOf b).1, v &&& (evtPlace b).2.2) ∧ u.ldg.entries = s.ldg.entries ∧ u.rings = s.rings := by
  have h := registerWrite_keeps_queues live t pf v quiet hr hb hfit
  rw [writeBlock_at_enables ho, evtOf_setEnables] at h
  exact h (setEnables_keepsQueues _ _ _)

/-- A write to a block that PF0 does not reach is counted and has no effect (15 R353). -/
theorem registerWrite_denied {b : BlockId} {o off : Nat} (hr : regAt off = some (b, o)) (hb : s.reaches pf b = false) :
    Answers (.registerWrite t pf off v) s fun u =>
      s.calm u = { s.advance t with sec.denyCnt := satInc s.sec.denyCnt, sec.evt := setBit s.sec.evt 1 } := by
  have hf : (s.advance t).registerWrite pf off v = (s.advance t).deny := by
    rw [registerWrite_of_block hr, accessTo_of_denied ((reaches_advance ..).trans hb)]
  exact ⟨_, rfl, act_calm_eq live (by rw [hf, calm_deny]; rfl) rfl⟩

/-- A write outside the map is ignored (16 R371). -/
theorem registerWrite_ignored {off : Nat} (hr : regAt off = none) (ho : off < 0x800000 ∨ 0x804000 ≤ off) :
    Answers (.registerWrite t pf off v) s fun u => s.calm u = s.advance t :=
  ⟨_, rfl, act_calm_eq live (by rw [registerWrite_outside hr ho]; rfl) rfl⟩

/-- A write to a function's MSI-X table is stored without its reserved bits and touches nothing else (16 R369). -/
theorem registerWrite_stores_msix {k : Nat} (hk : k < 4096) :
    Answers (.registerWrite t pf (0x800000 + 4 * k) v) s fun u =>
      s.calm u = s.advance t ∧ (u.pf (pfSecure pf)).msixWord k = msixStored k v := by
  have hf : (s.advance t).registerWrite pf (0x800000 + 4 * k) v = _ := (registerWrite_msix hk v).trans (writeMsix_eq ..)
  have hs := act_signalled live t (State.registerWrite pf (0x800000 + 4 * k) v) (pfSecure pf)
  rw [hf] at hs
  refine ⟨_, rfl, act_calm_eq live (by rw [hf, calm_sendVectors, calm_modPf]; rfl) rfl, ?_⟩
  rw [((sendVectors_signalled ..).trans hs).msixWord_eq, pf_modPf_same, msixWord_msixPut]

/-- An access of a bad size is counted and marked (16 R368). -/
theorem badAccess_counted :
    Answers (.badAccess t ⟨pf, false⟩) s fun u =>
      s.calm u = { s.advance t with sys.badAcc := satInc s.sys.badAcc, sys.evt := setBit s.sys.evt 3 } :=
  ⟨_, rfl, act_calm_eq live rfl rfl⟩

/-- A poisoned write is discarded and reported (16 R368). -/
theorem badAccess_poisoned :
    Answers (.badAccess t ⟨pf, true⟩) s fun u => s.calm u = s.advance t ∧ (u.pf (pfSecure pf)).aer = true := by
  have hf : (s.advance t).badAccess pf true = (s.advance t).modPf (pfSecure pf) fun f => { f with aer := true } := rfl
  have hs := act_signalled live t (State.badAccess pf true) (pfSecure pf)
  rw [hf, pf_modPf_same] at hs
  exact ⟨_, rfl, act_calm_eq live (by rw [hf, calm_modPf]; rfl) rfl, hs.aer_eq⟩

end

/-- Settles O29: each clause is the answer of its own write. -/
theorem registerWritesFollowAccessCodes : Obligations.RegisterWritesFollowAccessCodes := by
  intro s t pf off v live quiet
  refine ⟨fun b o hr hb hfit => ⟨?_, ?_⟩, fun b o hr hb => registerWrite_denied live t pf v hr hb,
    registerWrite_ignored live t pf v, fun k hk => registerWrite_stores_msix live t pf v hk,
    badAccess_counted live t pf, badAccess_poisoned live t pf⟩
  · rintro rfl
    exact registerWrite_clears_events live t pf v quiet hr hb hfit
  · rintro ho rfl
    exact registerWrite_sets_enables live t pf v quiet hr ho hb hfit

end Sys2Proof.Machine

namespace Sys2Proof.Machine

/-! ## What a DEVICE entry, the end of a command and a new mode keep -/

/-- What every application of `f` keeps, doing it for each entry of a list keeps. -/
theorem each_keeps {α β : Type} {f : α → State → State} {g : State → β} (hf : ∀ x s, g (f x s) = g s) (l : List α)
    (s : State) : g (s.each l f) = g s := by
  induction l generalizing s with
  | nil => rfl
  | cons x l ih => exact (ih (f x s)).trans (hf x s)

/-- Two states that differ at most in the Ledger and the posted writes, with the same open faults and next fault number:
what an entry can change, its copies spilled to the Cellar included. -/
def State.Logged (s u : State) : Prop :=
  ∃ l w, u = { s with ldg := l, posted := w } ∧ l.faults = s.ldg.faults ∧ l.faultNext = s.ldg.faultNext

theorem each_post_form {α : Type} (sp : Space) (addr : α → State → Nat) (data : α → List Byte) (l : List α)
    (s : State) : ∃ w, s.each l (fun x s => s.post sp (addr x s) (data x)) = { s with posted := w } := by
  induction l generalizing s with
  | nil => exact ⟨s.posted, rfl⟩
  | cons x l ih => exact ih (s.post sp (addr x s) (data x))

theorem spill_logged (s : State) : s.Logged s.spill := by
  unfold State.spill
  split
  · split
    · exact ⟨s.ldg, s.posted, rfl, rfl, rfl⟩
    · dsimp only
      obtain ⟨w, hw⟩ := each_post_form .cellar _ LedgerEntry.bytes ((s.ldg.entries.drop s.ldg.spilled).take 1024) s
      rw [hw]
      exact ⟨_, w, rfl, rfl, rfl⟩
  · exact ⟨s.ldg, s.posted, rfl, rfl, rfl⟩

theorem appendEntry_logged (e : LedgerEntry) (s : State) : s.Logged (s.appendEntry e) := by
  obtain ⟨l, w, hu, hf, hn⟩ := spill_logged _
  exact ⟨l, w, hu, hf, hn⟩

theorem device_logged (sec : Bool) (st : BitVec 16) (d r f : BitVec 32) (ev : List Byte) (s : State) :
    s.Logged (s.device sec st d r f ev) := by
  unfold State.device
  split
  · exact ⟨s.ldg, s.posted, rfl, rfl, rfl⟩
  · split
    · exact ⟨_, s.posted, rfl, rfl, rfl⟩
    · dsimp only
      split
      · exact appendEntry_logged _ _
      · obtain ⟨l, w, hu, hf, hn⟩ := appendEntry_logged _ _
        exact ⟨l, w, hu, hf, hn⟩

section
variable (sec : Bool) (st : BitVec 16) (d r f : BitVec 32) (ev : List Byte) (s : State)

@[simp] theorem device_sys : (s.device sec st d r f ev).sys = s.sys := by
  obtain ⟨_, _, h, -, -⟩ := device_logged sec st d r f ev s
  rw [h]
@[simp] theorem device_cmd : (s.device sec st d r f ev).cmd = s.cmd := by
  obtain ⟨_, _, h, -, -⟩ := device_logged sec st d r f ev s
  rw [h]
@[simp] theorem device_rope : (s.device sec st d r f ev).rope = s.rope := by
  obtain ⟨_, _, h, -, -⟩ := device_logged sec st d r f ev s
  rw [h]
@[simp] theorem device_ports : (s.device sec st d r f ev).ports = s.ports := by
  obtain ⟨_, _, h, -, -⟩ := device_logged sec st d r f ev s
  rw [h]
@[simp] theorem device_axes : (s.device sec st d r f ev).axes = s.axes := by
  obtain ⟨_, _, h, -, -⟩ := device_logged sec st d r f ev s
  rw [h]
@[simp] theorem device_faults : (s.device sec st d r f ev).ldg.faults = s.ldg.faults := by
  obtain ⟨_, _, h, hf, -⟩ := device_logged sec st d r f ev s
  rw [h]
  exact hf
@[simp] theorem device_faultNext : (s.device sec st d r f ev).ldg.faultNext = s.ldg.faultNext := by
  obtain ⟨_, _, h, -, hn⟩ := device_logged sec st d r f ev s
  rw [h]
  exact hn

end

@[simp] theorem appendEntry_sys (e : LedgerEntry) (s : State) : (s.appendEntry e).sys = s.sys := by
  obtain ⟨_, _, h, -, -⟩ := appendEntry_logged e s
  rw [h]

/-- The end of a command leaves the device's mode and its system unit. -/
@[simp] theorem finish_sys (q : DWord) (st : BitVec 16) (d r : BitVec 32) (s : State) (f : BitVec 32)
    (b : List (Nat × List Byte)) : (s.finish q st d r f b).sys = s.sys := by
  unfold State.finish
  cases s.flight? q with
  | none => rfl
  | some fl => simp [apply_ite State.sys]

@[simp] theorem cutShort_sys (l : List DWord) (s : State) : (s.cutShort l).sys = s.sys :=
  each_keeps (g := State.sys) (fun q s => by simp) l s

@[simp] theorem sysRoutes_sys (s : State) : s.sysRoutes.sys = s.sys := by
  unfold State.sysRoutes
  refine each_keeps (g := State.sys) (fun e s => ?_) _ s
  rfl

@[simp] theorem sendGate_sys (s : State) : s.sendGate.sys = s.sys := by
  unfold State.sendGate State.sendOwn State.sendFrame
  split
  · rfl
  · split <;> rfl

@[simp] theorem fire_sys (b : BlockId) (off : Nat) (s : State) : (s.fire b off).sys = s.sys := by
  obtain ⟨_, _, _, _, h⟩ := fire_stirred b off s
  rw [h]

/-- A mode comes into force, a second's RUN as SHADOW, and only its event bit comes with it. -/
theorem enterMode_sys (m : Mode) (s : State) : ∃ e, (s.enterMode m).sys =
    { s.sys with mode := if s.second && m = .run then .shadow else m, evt := e } := by
  unfold State.enterMode
  generalize (if s.second && m = .run then Mode.shadow else m) = m'
  by_cases h : s.sys.mode = m'
  · exact ⟨s.sys.evt, by simp [← h]⟩
  · by_cases hd : m' = .dormant
    · subst hd
      exact ⟨setBit s.sys.evt 0, by simp [h, State.setEvt]⟩
    · exact ⟨setBit s.sys.evt 0, by simp [h, hd, State.setEvt]⟩

@[simp] theorem enterMode_safeCause (m : Mode) (s : State) : (s.enterMode m).sys.safeCause = s.sys.safeCause := by
  obtain ⟨_, h⟩ := enterMode_sys m s
  rw [h]

theorem enterMode_mode (m : Mode) (s : State) :
    (s.enterMode m).sys.mode = if s.second && m = .run then .shadow else m := by
  obtain ⟨_, h⟩ := enterMode_sys m s
  rw [h]

/-- Entry to SAFE ends in SAFE with its cause (13 R322). -/
theorem enterSafe_mode_cause {s : State} (h : s.sys.mode ≠ .safe) (cause : Nat) (no : BitVec 32) :
    (s.enterSafe cause no).sys.mode = .safe ∧ (s.enterSafe cause no).sys.safeCause = cause := by
  simp [State.enterSafe, h, enterMode_mode]

/-! ## What the end of a step keeps -/

@[simp] theorem settle_sys (s0 s : State) : (s0.settle s).sys = s.sys := by
  obtain ⟨_, _, _, h⟩ := settle_form s0 s
  rw [h]
@[simp] theorem settle_ports (s0 s : State) : (s0.settle s).ports = s.ports := by
  obtain ⟨_, _, _, h⟩ := settle_form s0 s
  rw [h]
@[simp] theorem settle_axes (s0 s : State) : (s0.settle s).axes = s.axes := by
  obtain ⟨_, _, _, h⟩ := settle_form s0 s
  rw [h]
@[simp] theorem settle_coreWait (s0 s : State) : (s0.settle s).cmd.coreWait = s.cmd.coreWait := by
  obtain ⟨_, _, _, h⟩ := settle_form s0 s
  rw [h]

/-- A running block answers with its effect settled: what holds then is answered. -/
theorem answers_of_settled {s : State} (live : s.Live) {c : Instr} {t : Nat} {f : State → State} {P : State → Prop}
    (hc : exec c s = .next (s.act t f)) (h : P ((s.advance t).settle (f (s.advance t)))) : Answers c s P :=
  ⟨_, hc, by rwa [act_eq_settle live.running]⟩

/-! ## The recovery levels (01 R22; 10 R257 to R259) -/

@[simp] theorem takeFault_sys (s : State) : s.takeFault.sys = s.sys := rfl
@[simp] theorem takeFault_rope (s : State) : s.takeFault.rope = s.rope := rfl
@[simp] theorem takeFault_ports (s : State) : s.takeFault.ports = s.ports := rfl
@[simp] theorem takeFault_axes (s : State) : s.takeFault.axes = s.axes := rfl
@[simp] theorem takeFault_faults (s : State) : s.takeFault.ldg.faults = s.ldg.faults := rfl
@[simp] theorem takeFault_advance_faultNext (s : State) (t : Nat) :
    (s.advance t).takeFault.ldg.faultNext = s.takeFault.ldg.faultNext := rfl

section
variable {s : State}

/-- The failures of restarts that still count at the state's tick: those of the last second, 1,500,000,000 ticks. -/
def State.recentFailures (s : State) : List Nat := s.sys.watchdog.filter fun x => s.ticks ≤ x + 1500000000

/-- A failed restart has been noted: its fault number taken, its DEVICE entry written, its tick kept. -/
def State.restartFailed (s : State) : State :=
  (State.device (s.secureBlock .cmd) (Config.free16 s.free) (Config.free32 s.free) 0 s.ldg.faultNext []
    { s.takeFault with sys.watchdog := s.ticks :: s.recentFailures, cmd.coreWait := true }).drawn

/-- A fault passes on to the level that takes it: L3 on a lead, which gives up the pair, and L4 elsewhere. -/
def State.passFault (no : BitVec 32) (s : State) : State :=
  if s.rope.role = .lead then { s.ropeStops with ldg.faults := s.ldg.faults ++ [(no, 3)] }
  else { s with ldg.faults := s.ldg.faults ++ [(no, 4)] }

theorem passFault_form (no : BitVec 32) (s : State) : ∃ r, s.passFault no =
    { s with rope := r, ldg.faults := s.ldg.faults ++ [(no, if s.rope.role = .lead then 3 else 4)] } := by
  unfold State.passFault
  split
  · exact ⟨s.ropeStops.rope, rfl⟩
  · exact ⟨s.rope, rfl⟩

theorem watchdog_succeeded (h : s.sys.mode ≠ .safe) : s.watchdog true =
    State.device (s.secureBlock .cmd) 0 0 0 s.ldg.faultNext []
      { s.takeFault with cmd.coreWait := s.sec.ctlStart.any fun x => !x.peer } := by
  rw [State.watchdog, if_neg h]
  rfl

theorem watchdog_failed (h : s.sys.mode ≠ .safe) : s.watchdog false =
    if 3 ≤ s.recentFailures.length + 1 then s.restartFailed.enterSafe 1 s.ldg.faultNext
    else s.restartFailed.passFault s.ldg.faultNext := by
  rw [State.watchdog, if_neg h]
  rfl

/-- A restart that succeeded takes a fault number and settles the fault (10 R258); nothing of the machine moves. -/
theorem watchdogRecovery_succeeded (live : s.Live) (h : s.sys.mode ≠ .safe) (t : Nat) (core : Fin 4) :
    Answers (.watchdogRecovery t core true) s fun u =>
      u.cmd.coreWait = (s.sec.ctlStart.any fun x => !x.peer) ∧ u.ldg.faultNext = s.takeFault.ldg.faultNext ∧ u.sys = s.sys
        ∧ u.ports = s.ports ∧ u.axes = s.axes := by
  refine answers_of_settled live rfl ?_
  rw [watchdog_succeeded (s := s.advance t) h]
  simp [settle_ldg]

/-- A failed restart, not the third within a second, passes its fault on (10 R258, R259). -/
theorem watchdogRecovery_passes_fault (live : s.Live) (h : s.sys.mode ≠ .safe) (t : Nat) (core : Fin 4)
    (few : (s.advance t).recentFailures.length < 2) :
    Answers (.watchdogRecovery t core false) s fun u =>
      u.cmd.coreWait = true ∧ u.ldg.faults = s.ldg.faults ++ [(s.ldg.faultNext, if s.rope.role = .lead then 3 else 4)]
        ∧ u.sys.mode = s.sys.mode ∧ u.ports = s.ports ∧ u.axes = s.axes := by
  refine answers_of_settled live rfl ?_
  rw [watchdog_failed (s := s.advance t) h, if_neg (by omega)]
  obtain ⟨_, passed⟩ := passFault_form (s.advance t).ldg.faultNext (s.advance t).restartFailed
  rw [passed]
  simp [settle_ldg, State.restartFailed]

/-- The third failed restart within a second leads to SAFE for cause 1 (13 Table 13.9). -/
theorem watchdogRecovery_enters_safe (live : s.Live) (h : s.sys.mode ≠ .safe) (t : Nat) (core : Fin 4)
    (third : 2 ≤ (s.advance t).recentFailures.length) :
    Answers (.watchdogRecovery t core false) s fun u => u.sys.mode = .safe ∧ u.sys.safeCause = 1 := by
  refine answers_of_settled live rfl ?_
  have running : (s.advance t).restartFailed.sys.mode ≠ .safe := by simpa [State.restartFailed] using h
  rw [watchdog_failed (s := s.advance t) h, if_pos (by omega)]
  simpa using enterSafe_mode_cause running 1 _

/-- A fault that a level owns is no descriptor retry still to be entered. -/
theorem retryOpens_of_owned {level : Nat} {no : BitVec 32} (h : s.ldg.faults.contains (no, level) = true) :
    s.retryOpens level no = s := by
  unfold State.retryOpens
  split
  · rfl
  · next hl =>
    obtain rfl : level = 1 := by simpa using hl
    have none_retried : (findFin fun c : Fin 32 => s.dma.chans[c].retried && s.dma.chans[c].retryFault = no
        && !s.ldg.faults.contains (no, 1)) = none := by simp [findFin, -List.contains_eq_mem, h]
    rw [none_retried]

/-- The level that takes a fault over from one whose budget has ended: the next, where L3 is a lead's only. -/
def State.levelAfter (level : Nat) (s : State) : Nat :=
  if level < 2 then level + 1 else if level = 2 && s.rope.role = .lead then 3 else 4

@[simp] theorem levelAfter_advance (t level : Nat) (s : State) : (s.advance t).levelAfter level = s.levelAfter level := rfl

/-- The end of a level's budget has been noted: its DEVICE entry is written. -/
def State.budgetNoted (no : BitVec 32) (s : State) : State :=
  (s.device (s.secureBlock .cmd) (Config.free16 s.free) (Config.free32 s.free) 0 no []).drawn

/-- A fault changes its level, where the level still owns it. -/
def State.moveFault (no : BitVec 32) (level next : Nat) (s : State) : State :=
  { s with ldg.faults := s.ldg.faults.map fun f => if f = (no, level) then (no, next) else f }

/-- The budget of a level that owns a fault has ended: noted, the fault is the next level's. -/
theorem budgetOut_of_owned {level : Nat} {no : BitVec 32} (hn : no ≠ 0)
    (h : s.ldg.faults.contains (no, level) = true) (hl : level < 4) : s.budgetOut level no =
      ((s.budgetNoted no).moveFault no level (s.levelAfter level)).when (s.levelAfter level = 3) State.ropeStops := by
  have owned : (s.ldg.faults.contains (no, level) && level < 4) = true := by simpa [hl] using h
  rw [State.budgetOut, if_neg hn, retryOpens_of_owned h, if_pos owned]
  rfl

theorem when_ropeStops_form (c : Bool) (s : State) : ∃ r, s.when c State.ropeStops = { s with rope := r } := by
  cases c
  · exact ⟨s.rope, rfl⟩
  · exact ⟨s.ropeStops.rope, rfl⟩

/-- A level whose budget ends hands its fault on (10 R257 to R259); nothing of the machine moves. -/
theorem recoveryBudgetExpiry_passes_fault (live : s.Live) (t : Nat) (level : Fin 5) {no : BitVec 32} (hn : no ≠ 0)
    (h : s.ldg.faults.contains (no, level.val) = true) (hl : level.val < 4) :
    Answers (.recoveryBudgetExpiry t level no) s fun u =>
      u.ldg.faults = s.ldg.faults.map (fun f => if f = (no, level.val) then (no, s.levelAfter level.val) else f)
        ∧ u.ports = s.ports ∧ u.axes = s.axes := by
  refine answers_of_settled live rfl ?_
  rw [budgetOut_of_owned (s := s.advance t) hn h hl]
  obtain ⟨_, stopped⟩ := when_ropeStops_form ((s.advance t).levelAfter level.val = 3)
    (((s.advance t).budgetNoted no).moveFault no level.val ((s.advance t).levelAfter level.val))
  rw [stopped]
  simp [settle_ldg, State.moveFault, State.budgetNoted]

end

/-- Settles O21: a restart's three ends and the end of a level's budget. -/
theorem recoveryLevelsPassFaultsOn : Obligations.RecoveryLevelsPassFaultsOn := by
  intro s t core live awake
  refine ⟨watchdogRecovery_succeeded live awake t core, watchdogRecovery_passes_fault live awake t core,
    watchdogRecovery_enters_safe live awake t core, fun level no hn owned below => ?_⟩
  simpa [State.levelAfter] using recoveryBudgetExpiry_passes_fault live t level hn owned below

end Sys2Proof.Machine

namespace Sys2Proof.Machine

/-! ## What leaves every port and the clock as they were -/

/-- The ports and the clock. -/
def State.scene (s : State) : Vector Port 8 × Nat := (s.ports, s.ticks)

theorem ports_of_scene {s u : State} (h : u.scene = s.scene) : u.ports = s.ports := congrArg Prod.fst h
theorem ticks_of_scene {s u : State} (h : u.scene = s.scene) : u.ticks = s.ticks := congrArg Prod.snd h

/-- What `f` keeps of a state it keeps where a condition holds, too. -/
theorem when_keeps {β : Type} {g : State → β} {f : State → State} {s : State} (h : g (f s) = g s) (c : Bool) :
    g (s.when c f) = g s := by
  cases c
  · rfl
  · exact h

/-- The second state is the first with entries in the Ledger, their copies spilled to the Cellar included. -/
def State.Noted (s u : State) : Prop :=
  ∃ l w, u = { s with ldg := l, posted := s.posted ++ w } ∧ ∀ x ∈ w, x.space = Space.cellar

theorem Noted_refl (s : State) : s.Noted s := ⟨s.ldg, [], by simp, by simp⟩

theorem each_post_noted {α : Type} (addr : α → State → Nat) (data : α → List Byte) (l : List α) (s : State) :
    s.Noted (s.each l fun x s => s.post .cellar (addr x s) (data x)) := by
  induction l generalizing s with
  | nil => exact Noted_refl s
  | cons x l ih =>
    obtain ⟨l', w, h, hw⟩ := ih (s.post .cellar (addr x s) (data x))
    refine ⟨l', { space := .cellar, addr := addr x s, zero := 0, data := data x } :: w, h.trans ?_, ?_⟩
    · simp [State.post]
    · simpa using hw

theorem spill_noted (s : State) : s.Noted s.spill := by
  unfold State.spill
  split
  · split
    · exact Noted_refl s
    · obtain ⟨l, w, h, hw⟩ := each_post_noted _ LedgerEntry.bytes ((s.ldg.entries.drop s.ldg.spilled).take 1024) s
      dsimp only
      rw [h]
      exact ⟨_, w, rfl, hw⟩
  · exact Noted_refl s

theorem appendEntry_noted (e : LedgerEntry) (s : State) : s.Noted (s.appendEntry e) := by
  obtain ⟨l, w, h, hw⟩ := spill_noted _
  exact ⟨l, w, h, hw⟩

/-- All that the end of a command can change. -/
theorem finish_form (q : DWord) (st : BitVec 16) (d r : BitVec 32) (s : State) (f : BitVec 32)
    (b : List (Nat × List Byte)) : ∃ fl re l w o, s.finish q st d r f b =
      { s with cmd.flights := fl, cmd.replies := re, ldg := l, posted := w, rope.outcomes := o } := by
  unfold State.finish
  split
  · exact ⟨_, _, _, _, _, rfl⟩
  · next x _ =>
    split
    · exact ⟨_, _, _, _, _, rfl⟩
    · dsimp only
      split
      · exact ⟨_, _, _, _, _, rfl⟩
      · generalize hu : (if x.kind = .unledgered then _ else State.appendEntry _ _ : State) = u
        have noted : State.Noted (s.modFlight q fun f => { f with finished := true }) u := by
          rw [← hu]
          split
          · exact Noted_refl _
          · exact appendEntry_noted _ _
        obtain ⟨l, w, rfl, -⟩ := noted
        split
        · split <;> exact ⟨_, _, _, _, _, rfl⟩
        · exact ⟨_, _, _, _, _, rfl⟩

/-- An accepted command that no reply has been formed for ends with its DONE entry and its reply (10 R247). -/
theorem finish_of_flight {s : State} {q : DWord} {x : Flight} (hx : s.flight? q = some x) (running : x.finished = false)
    (own : x.kind ≠ .mirrored) (unanswered : x.queuedReply = false) (st : BitVec 16) (d r : BitVec 32) :
    ∃ fl l w, s.finish q st d r = { s with
      cmd.flights := fl, ldg := l, posted := s.posted ++ w
      cmd.replies := s.cmd.replies ++ [{
        ring := x.replyRing, cmdRing := x.ring, status := st, opcode := x.opcode, tag := x.tag
        seq := if x.kind = .unledgered then -1 else q, cookie := x.cookie, detail := d, result := r, time := s.time, fault := 0
        flight := some q, buffers := [] }] } ∧ ∀ y ∈ w, y.space = Space.cellar := by
  unfold State.finish
  simp only [hx, running, own, unanswered, Bool.false_eq_true, if_false]
  generalize hu : (if x.kind = .unledgered then _ else State.appendEntry _ _ : State) = u
  have noted : State.Noted (s.modFlight q fun f => { f with finished := true }) u := by
    rw [← hu]
    split
    · exact Noted_refl _
    · exact appendEntry_noted _ _
  obtain ⟨l, w, rfl, hw⟩ := noted
  exact ⟨_, l, w, rfl, hw⟩

theorem sysRoutes_stirred (s : State) : s.Stirred s.sysRoutes :=
  foldl_stirred _ (fun s _ => ⟨_, s.rings, s.dma.evt, s.dma.evtLost, rfl⟩) _ s

theorem each_modCell_form (f : TrigCell → TrigCell) (l : List (Fin 64)) (s : State) :
    ∃ c, s.each l (fun i s => s.modCell i f) = { s with trig.cells := c } := by
  induction l generalizing s with
  | nil => exact ⟨s.trig.cells, rfl⟩
  | cons i l ih => exact ih (s.modCell i f)

theorem dropCandidates_form (n : Fin 8) (s : State) : ∃ c, s.dropCandidates n = { s with trig.cells := c } :=
  each_modCell_form _ _ s

theorem scene_stirred {s u : State} (h : s.Stirred u) : u.scene = s.scene := by
  obtain ⟨_, _, _, _, rfl⟩ := h
  rfl

theorem scene_logged {s u : State} (h : s.Logged u) : u.scene = s.scene := by
  obtain ⟨_, _, rfl, -, -⟩ := h
  rfl

section
variable (s : State)

@[simp] theorem scene_fire (b : BlockId) (off : Nat) : (s.fire b off).scene = s.scene := scene_stirred (fire_stirred b off s)

@[simp] theorem scene_eventIn (sec : Bool) (e : EventRecord) : (s.eventIn sec e).scene = s.scene :=
  scene_stirred (eventIn_stirred sec e s)

@[simp] theorem scene_event (b : BlockId) (st : BitVec 16) (d : BitVec 32) (f : BitVec 32) (q a : DWord) (l : List Byte) :
    (s.event b st d f q a l).scene = s.scene := scene_stirred (event_stirred b st d s f q a l)

@[simp] theorem scene_device (sec : Bool) (st : BitVec 16) (d r f : BitVec 32) (ev : List Byte) :
    (s.device sec st d r f ev).scene = s.scene := scene_logged (device_logged sec st d r f ev s)

@[simp] theorem scene_deviceEvent (b : BlockId) (st : BitVec 16) (d r f : BitVec 32) (a : DWord) (l : List Byte) :
    (s.deviceEvent b st d r f a l).scene = s.scene := (scene_eventIn _ _ _).trans (scene_device _ _ _ _ _ _ _)

@[simp] theorem scene_finish (q : DWord) (st : BitVec 16) (d r f : BitVec 32) (b : List (Nat × List Byte)) :
    (s.finish q st d r f b).scene = s.scene := by
  obtain ⟨_, _, _, _, _, h⟩ := finish_form q st d r s f b
  rw [h]
  rfl

@[simp] theorem scene_finishOk (q : DWord) (r : BitVec 32) : (s.finishOk q r).scene = s.scene := scene_finish _ _ _ _ _ _ _

@[simp] theorem scene_finishAll (l : List DWord) (st : BitVec 16) (d r : BitVec 32) :
    (s.finishAll l st d r).scene = s.scene := each_keeps (g := State.scene) (fun q s => scene_finish s q st d r 0 []) l s

@[simp] theorem scene_docEnds (l : List DWord) : (s.docEnds l).scene = s.scene :=
  each_keeps (g := State.scene) (fun q s => by split <;> simp) l s

@[simp] theorem scene_sysRoutes : s.sysRoutes.scene = s.scene := scene_stirred (sysRoutes_stirred s)

@[simp] theorem scene_sendFrame (typ seq : BitVec 8) (l : List Byte) : (s.sendFrame typ seq l).scene = s.scene := by
  unfold State.sendFrame
  split <;> rfl

@[simp] theorem scene_sendOwn (typ : BitVec 8) (l : List Byte) : (s.sendOwn typ l).scene = s.scene := by
  unfold State.sendOwn
  split
  · rfl
  · exact scene_sendFrame s typ s.tl.txSeq l

@[simp] theorem scene_sendGate : s.sendGate.scene = s.scene := by
  unfold State.sendGate
  split
  · rfl
  · exact scene_sendOwn _ _ _

@[simp] theorem scene_sendReject (doc : BitVec 32) (mask reason : Nat) : (s.sendReject doc mask reason).scene = s.scene := by
  unfold State.sendReject
  split
  · rfl
  · dsimp only
    split
    · rfl
    · exact scene_sendOwn s 0x85 _

@[simp] theorem scene_backlogCheck : s.backlogCheck.scene = s.scene := by
  unfold State.backlogCheck
  dsimp only
  split <;> rfl

@[simp] theorem scene_governAxis (g : Fin 4) (ax : Fin 12) (v : Rat) : (s.governAxis g ax v).scene = s.scene := by
  unfold State.governAxis
  split
  · rfl
  · dsimp only
    split
    · rfl
    · split <;> rfl

@[simp] theorem scene_stopGroup (g : Fin 4) : (s.stopGroup g).scene = s.scene := by
  unfold State.stopGroup
  split
  · rfl
  · dsimp only
    split
    · simp
    · simp

@[simp] theorem scene_modSb (g : Fin 4) (f : Switchback → Switchback) : (s.modSb g f).scene = s.scene := rfl

@[simp] theorem scene_noteResume (n : Fin 8) (k instant : Nat) : (s.noteResume n k instant).scene = s.scene := by
  unfold State.noteResume
  split
  · rfl
  · split
    · split <;> rfl
    · rfl

@[simp] theorem scene_passLine (n : Fin 8) : (s.passLine n).scene = s.scene := by
  unfold State.passLine
  split <;> rfl

@[simp] theorem scene_cellarFail (a : DWord) : (s.cellarFail a).scene = s.scene := scene_fire _ _ _

@[simp] theorem scene_post (sp : Space) (a : Nat) (l : List Byte) : (s.post sp a l).scene = s.scene := rfl

@[simp] theorem scene_storeBytes (base size off : Nat) (b : List Byte) : (s.storeBytes base size off b).scene = s.scene := by
  unfold State.storeBytes
  dsimp only
  split <;> rfl

@[simp] theorem scene_dropCandidates (n : Fin 8) : (s.dropCandidates n).scene = s.scene := by
  obtain ⟨_, h⟩ := dropCandidates_form n s
  rw [h]
  rfl

@[simp] theorem scene_calLast (op idx : Nat) (st : BitVec 16) (d : BitVec 32) (r : Int) :
    (s.calLast op idx st d r).scene = s.scene := by
  unfold State.calLast
  refine (when_keeps (g := State.scene) rfl _).trans ((when_keeps (g := State.scene) rfl _).trans
    ((when_keeps (g := State.scene) ?_ _).trans rfl))
  exact scene_fire _ _ _

@[simp] theorem scene_gapEnd (j : GapJob) (st : BitVec 16) (d : BitVec 32) (r : Int) (f : BitVec 32) :
    (s.gapEnd j st d r f).scene = s.scene := by
  unfold State.gapEnd
  refine (scene_finish _ _ _ _ _ _ _).trans ((scene_event _ _ _ _ _ _ _ _).trans ?_)
  exact scene_calLast _ _ _ _ _ _

@[simp] theorem scene_dropGaps (n : Fin 8) : (s.dropGaps n).scene = s.scene :=
  each_keeps (g := State.scene) (fun j s => scene_gapEnd s j _ _ _ _) _ s

@[simp] theorem scene_askUrgent (u : Urgent) : (s.askUrgent u).scene = s.scene := by
  unfold State.askUrgent
  dsimp only
  split
  · rfl
  · refine (each_keeps (g := State.scene) (fun q s => ?_) _ _).trans rfl
    exact scene_finish s q _ _ _ 0 []

@[simp] theorem scene_gapBacking (n : Fin 8) (o x : Bool) (y : List (List Nat)) : (s.gapBacking n o x y).scene = s.scene := by
  unfold State.gapBacking
  split
  · rfl
  · split
    · rfl
    · dsimp only
      split
      · split
        · rfl
        · exact scene_askUrgent _ _
      · exact scene_askUrgent _ _

@[simp] theorem scene_openNext : s.openNext.scene = s.scene := by
  unfold State.openNext
  split
  · rfl
  · split <;> rfl

end

@[simp] theorem fire_ports (b : BlockId) (off : Nat) (s : State) : (s.fire b off).ports = s.ports :=
  ports_of_scene (scene_fire s b off)
@[simp] theorem event_ports (b : BlockId) (st : BitVec 16) (d : BitVec 32) (s : State) (f : BitVec 32) (q a : DWord)
    (l : List Byte) : (s.event b st d f q a l).ports = s.ports := ports_of_scene (scene_event s b st d f q a l)
@[simp] theorem finishOk_ports (q : DWord) (r : BitVec 32) (s : State) : (s.finishOk q r).ports = s.ports :=
  ports_of_scene (scene_finishOk s q r)
@[simp] theorem finishAll_ports (l : List DWord) (st : BitVec 16) (d r : BitVec 32) (s : State) :
    (s.finishAll l st d r).ports = s.ports := ports_of_scene (scene_finishAll s l st d r)
@[simp] theorem sysRoutes_ports (s : State) : s.sysRoutes.ports = s.ports := ports_of_scene (scene_sysRoutes s)

/-- A bit of PORTn_STAT comes up; nothing else of any port changes. -/
@[simp] theorem portFlag_ports (n : Fin 8) (bit : Nat) (s : State) :
    (s.portFlag n bit).ports = s.ports.set n { s.ports[n] with stat := setBit s.ports[n].stat bit } := by
  unfold State.portFlag
  dsimp only
  split
  · rw [event_ports]
    rfl
  · rfl

end Sys2Proof.Machine

namespace Sys2Proof.Machine

/-! ## A packet that is accepted (10 R238, R247) -/

/-- Taking a packet moves its ring's head and names the world that the command unit's channel serves. -/
theorem takePacket_form (p : Packet) (s : State) :
    ∃ d, s.takePacket p = { (s.modRing p.ring fun r => { r with head := (r.head + packetSlots p) % r.size }) with dma.served := d } := by
  unfold State.takePacket State.serves
  dsimp only
  split
  · split <;> exact ⟨_, rfl⟩
  · exact ⟨_, rfl⟩

theorem ring?_modRing_head (s : State) (id id' : Nat) (f : Ring → Nat) :
    (s.modRing id fun r => { r with head := f r }).ring? id' =
      (s.ring? id').map fun r => if r.id == id then { r with head := f r } else r := by
  unfold State.ring?
  rw [State.modRing_rings, List.find?_map]
  congr 2
  funext r
  by_cases h : r.id = id <;> simp [h]

/-- The head of a ring has no part in the choice of the reply ring. -/
theorem replyRingOf_takePacket (s : State) (p : Packet) (r : Ring) :
    replyRingOf (s.takePacket p) p r = replyRingOf s p r := by
  obtain ⟨d, h⟩ := takePacket_form p s
  have same (id : Nat) : (s.takePacket p).ring? id =
      (s.ring? id).map fun r => if r.id == p.ring then { r with head := (r.head + packetSlots p) % r.size } else r := by
    rw [h]
    exact ring?_modRing_head s p.ring id _
  unfold replyRingOf
  rw [same]
  cases s.ring? p.replyRing.toNat with
  | none => rfl
  | some q => by_cases hq : q.id = p.ring <;> simp [hq]

/-- The flight of a packet that is accepted (10 R238). -/
def State.flightOf (p : Packet) (r : Ring) (code : BitVec 16) (s : State) : Flight :=
  { seq := s.acceptSeq, ring := p.ring, replyRing := replyRingOf s p r, secure := r.secure, opcode := code, flags := p.flags
    tag := p.tag, cookie := p.cookie, digest := packetDigest p code, params := p.params, hostData := p.hostData
    deadline := if p.deadlineUs = 0 then none else some (s.ns + 1000 * p.deadlineUs.toNat), begun := false
    finished := false, queuedReply := false, replied := false, dups := []
    kind := if s.second then .unledgered else .host }

/-- The ACCEPT entry of a packet, or on a second a free value (log entry 32). -/
theorem accept_entry_form (s : State) (e : LedgerEntry) (reserve : Nat) :
    ∃ l w k, (if s.second = true then s.drawn
        else (if s.generalRoom ≥ 2 then s else { s with ldg.ledgerDrawn := reserve }).appendEntry e) =
      { s with ldg := l, posted := s.posted ++ w, free := k } ∧ ∀ x ∈ w, x.space = Space.cellar := by
  split
  · exact ⟨s.ldg, [], s.free + 1, by simp [State.drawn], by simp⟩
  · split
    · obtain ⟨l, w, h, hw⟩ := appendEntry_noted e s
      exact ⟨l, w, s.free, h, hw⟩
    · obtain ⟨l, w, h, hw⟩ := appendEntry_noted e { s with ldg.ledgerDrawn := reserve }
      exact ⟨l, w, s.free, h, hw⟩

/-- All that acceptance changes. -/
theorem accept_form (p : Packet) (r : Ring) (code : BitVec 16) (s : State) : ∃ rs l w k, s.accept p r code =
    { s with
      rings := rs, ldg := l, posted := s.posted ++ w, free := k
      cmd.flights := s.cmd.flights ++ [s.flightOf p r code], cmd.accepted := s.cmd.accepted + 1 }
    ∧ ∀ x ∈ w, x.space = Space.cellar := by
  unfold State.accept
  dsimp only
  generalize hu : (if s.second = true then s.drawn else State.appendEntry _ _) = u
  obtain ⟨l, w, k, rfl, hw⟩ : ∃ l w k, u = { s with ldg := l, posted := s.posted ++ w, free := k }
      ∧ ∀ x ∈ w, x.space = Space.cellar := by
    rw [← hu]
    exact accept_entry_form s _ _
  split
  · exact ⟨_, l, w, k, rfl, hw⟩
  · exact ⟨_, l, w, k, rfl, hw⟩

/-- All that taking a packet and accepting it change. -/
theorem entered_form (sp : PacketSpec) (p : Packet) (r : Ring) (s : State) : ∃ rs d l w k, s.entered sp p r =
    { s.advance p.tick with
      rings := rs, dma.served := d, ldg := l, posted := s.posted ++ w, free := k
      cmd.flights := s.cmd.flights ++ [(s.advance p.tick).flightOf p r sp.code], cmd.accepted := s.cmd.accepted + 1 }
    ∧ ∀ x ∈ w, x.space = Space.cellar := by
  obtain ⟨d, taken⟩ := takePacket_form p (s.advance p.tick)
  obtain ⟨rs, l, w, k, h, hw⟩ := accept_form p r sp.code ((s.advance p.tick).takePacket p)
  have flight : ((s.advance p.tick).takePacket p).flightOf p r sp.code = (s.advance p.tick).flightOf p r sp.code := by
    unfold State.flightOf
    rw [replyRingOf_takePacket, taken]
    rfl
  refine ⟨rs, d, l, w, k, ?_, hw⟩
  unfold State.entered
  rw [h, flight, taken]
  rfl

section
variable {sp : PacketSpec} {p : Packet} {s : State} {r : Ring}

@[simp] theorem entered_ports : (s.entered sp p r).ports = s.ports := by
  obtain ⟨_, _, _, _, _, h, -⟩ := entered_form sp p r s
  rw [h]
  rfl
@[simp] theorem entered_ticks : (s.entered sp p r).ticks = (s.advance p.tick).ticks := by
  obtain ⟨_, _, _, _, _, h, -⟩ := entered_form sp p r s
  rw [h]
@[simp] theorem entered_encs : (s.entered sp p r).encs = s.encs := by
  obtain ⟨_, _, _, _, _, h, -⟩ := entered_form sp p r s
  rw [h]
  rfl
@[simp] theorem entered_trig : (s.entered sp p r).trig = s.trig := by
  obtain ⟨_, _, _, _, _, h, -⟩ := entered_form sp p r s
  rw [h]
  rfl
@[simp] theorem entered_cel : (s.entered sp p r).cel = s.cel := by
  obtain ⟨_, _, _, _, _, h, -⟩ := entered_form sp p r s
  rw [h]
  rfl
@[simp] theorem entered_sec : (s.entered sp p r).sec = s.sec := by
  obtain ⟨_, _, _, _, _, h, -⟩ := entered_form sp p r s
  rw [h]
  rfl
@[simp] theorem entered_replies : (s.entered sp p r).cmd.replies = s.cmd.replies := by
  obtain ⟨_, _, _, _, _, h, -⟩ := entered_form sp p r s
  rw [h]
  rfl

@[simp] theorem settle_replies (s0 s : State) : (s0.settle s).cmd.replies = s.cmd.replies := by
  obtain ⟨_, _, _, h⟩ := settle_form s0 s
  rw [h]

/-- What an accepted packet's own effect and its reply depend on besides the units: the command unit, the clock and the
mode. -/
def State.desk (s : State) : CmdUnit × Nat × SysUnit := (s.cmd, s.ticks, s.sys)

theorem cmd_of_desk {u v : State} (h : u.desk = v.desk) : u.cmd = v.cmd := congrArg Prod.fst h

theorem time_of_desk {u v : State} (h : u.desk = v.desk) : u.time = v.time := by
  have ticks : u.ticks = v.ticks := congrArg (fun d => d.2.1) h
  have sys : u.sys = v.sys := congrArg (fun d => d.2.2) h
  unfold State.time State.ns
  rw [ticks, sys]

theorem desk_stirred {u v : State} (h : u.Stirred v) : v.desk = u.desk := by
  obtain ⟨_, _, _, _, rfl⟩ := h
  rfl

theorem Accepts.checked (h : Accepts sp p s r) : sp.check (s.advance p.tick) p r.secure = none := by
  have hv := h.passes
  cases hc : sp.check (s.advance p.tick) p r.secure with
  | none => rfl
  | some j =>
    simp only [PacketSpec.verdict, hc] at hv
    repeat' split at hv
    all_goals cases hv

/-- An accepted packet is run from the state in which it has been entered. -/
theorem Accepts.packet_eq (h : Accepts sp p s r) :
    State.packet sp p (s.advance p.tick) = sp.run p r.secure s.acceptSeq (s.entered sp p r) := by
  have short : ¬ 4064 < p.paramLen.toNat := not_lt.2 h.short
  simp only [State.packet, h.taken, h.passes, gt_iff_lt, short, if_false]
  rfl

theorem Accepts.flight_entered (h : Accepts sp p s r) :
    (s.entered sp p r).flight? s.acceptSeq = some ((s.advance p.tick).flightOf p r sp.code) := by
  have fresh : s.cmd.flights.find? (fun f => f.seq == s.acceptSeq) = none := h.fresh
  obtain ⟨_, _, _, _, _, he, -⟩ := entered_form sp p r s
  rw [he]
  simp only [State.flight?, List.find?_append, fresh, Option.none_or]
  exact List.find?_cons_of_pos (beq_iff_eq.2 rfl)

/-- An accepted packet answers what its settled effect answers. -/
theorem Accepts.answers (h : Accepts sp p s r) {c : Instr} {v : State} {P : State → Prop}
    (hc : exec c s = .next (s.act p.tick (State.packet sp p)))
    (hv : sp.run p r.secure s.acceptSeq (s.entered sp p r) = v) (hP : P ((s.advance p.tick).settle v)) : Answers c s P :=
  answers_of_settled h.live hc (by rwa [h.packet_eq, hv])

/-- The end of an accepted command, in a state with the desk of its acceptance: its DONE entry, and its reply. -/
theorem Accepts.finish_form (h : Accepts sp p s r) {v : State} (hv : v.desk = (s.entered sp p r).desk) (res : BitVec 32) :
    ∃ fl l w, v.finish s.acceptSeq 0 0 res = { v with
      cmd.flights := fl, ldg := l, posted := v.posted ++ w
      cmd.replies := s.cmd.replies ++ [replyOf sp p r s 0 0 res] } ∧ ∀ y ∈ w, y.space = Space.cellar := by
  have flights : v.flight? s.acceptSeq = some ((s.advance p.tick).flightOf p r sp.code) := by
    rw [← h.flight_entered]
    unfold State.flight?
    rw [cmd_of_desk hv]
  have own : ((s.advance p.tick).flightOf p r sp.code).kind ≠ .mirrored := by
    unfold State.flightOf
    cases (s.advance p.tick).second <;> simp
  have replies : v.cmd.replies = s.cmd.replies := by rw [cmd_of_desk hv, entered_replies]
  have time : v.time = (s.advance p.tick).time := by
    rw [time_of_desk hv]
    obtain ⟨_, _, _, _, _, he, -⟩ := entered_form sp p r s
    rw [he]
    rfl
  obtain ⟨fl, l, w, hf, hw⟩ := finish_of_flight flights rfl own rfl 0 0 res
  refine ⟨fl, l, w, ?_, hw⟩
  rw [hf, replies, time]
  have seq : (if (if s.second = true then FlightKind.unledgered else .host) = .unledgered then -1 else s.acceptSeq) =
      if s.second = true then -1 else s.ldg.nextSeq := by
    cases hs : s.second <;> simp [State.acceptSeq, hs]
  unfold replyOf
  rw [← seq]
  rfl

theorem Accepts.finish_replies (h : Accepts sp p s r) {v : State} (hv : v.desk = (s.entered sp p r).desk)
    (res : BitVec 32) : (v.finish s.acceptSeq 0 0 res).cmd.replies = s.cmd.replies ++ [replyOf sp p r s 0 0 res] := by
  obtain ⟨_, _, _, hf, -⟩ := h.finish_form hv res
  rw [hf]

theorem Accepts.repliesOk (h : Accepts sp p s r) {v : State} (hv : v.desk = (s.entered sp p r).desk) (res : BitVec 32) :
    RepliesOk sp p r s ((s.advance p.tick).settle (v.finishOk s.acceptSeq res)) res :=
  (settle_replies _ _).trans (h.finish_replies hv res)

end

/-! ## What an accepted command leaves as it was -/

theorem commitWrites_of_cellar {sp : Space} (hsp : sp ≠ .cellar) (d : Option Byte) {l : List PostedWrite}
    (hl : ∀ x ∈ l, x.space = Space.cellar) (m : List Host.Cell) : commitWrites sp d l m = m := by
  unfold commitWrites
  induction l with
  | nil => rfl
  | cons x l ih =>
    have hx : x.space ≠ sp := by rw [hl x (List.mem_cons_self ..)]; exact hsp.symm
    rw [List.foldl_cons, if_neg hx]
    exact ih fun y hy => hl y (List.mem_cons_of_mem _ hy)

/-- Aside from what answering a packet touches, a running block's answer is the effect, when it writes to the Cellar alone. -/
theorem act_ordered {s : State} (h : s.Live) (t : Nat) (f : State → State)
    (hp : ∀ x ∈ (f (s.advance t)).posted, x.space = Space.cellar) :
    s.ordered (s.act t f) = s.ordered { f (s.advance t) with
      pending := s.pending, ticks := max s.ticks t, posted := [], host0 := s.host0, host1 := s.host1 } := by
  have hc := act_calm_posted h t f
  rw [commitWrites_of_cellar (by decide) none hp, commitWrites_of_cellar (by decide) none hp] at hc
  unfold State.ordered State.hush
  rw [hc]
  rfl

/-- An accepted command that does `g` to the units and is then answered leaves the rest as it was. -/
theorem Accepts.ordered_finish {sp : PacketSpec} {p : Packet} {s : State} {r : Ring} (h : Accepts sp p s r) (q : Vector Port 8)
    (hrun : sp.run p r.secure s.acceptSeq (s.entered sp p r) =
      State.finish s.acceptSeq 0 0 0 { s.entered sp p r with ports := q }) :
    s.ordered ((s.advance p.tick).settle (sp.run p r.secure s.acceptSeq (s.entered sp p r))) =
      s.ordered { s.advance p.tick with ports := q } := by
  obtain ⟨fl, l, w, hf, hw⟩ := h.finish_form (v := { s.entered sp p r with ports := q }) rfl 0
  obtain ⟨rs, d, l', w', k, he, hw'⟩ := entered_form sp p r s
  have key := act_ordered h.live p.tick (State.packet sp p)
  rw [act_eq_settle h.live.running, h.packet_eq, hrun, hf, he] at key
  rw [hrun, hf, he, key]
  · rw [show ({ s.advance p.tick with ports := q } : State) = { s.advance p.tick with ports := q, posted := [] } from by
      rw [← h.live.posted]; rfl]
    rfl
  · intro x hx
    rw [show ∀ a b : List PostedWrite, s.posted ++ a ++ b = a ++ b by rw [h.live.posted]; simp] at hx
    exact (List.mem_append.1 hx).elim (hw' x) (hw x)

end Sys2Proof.Machine

namespace Sys2Proof.Machine

/-! ## One port at work -/

theorem ports_set_same (v : Vector Port 8) (n : Fin 8) (q : Port) : (v.set n q)[n] = q := by simp

theorem ports_set_other {n k : Fin 8} (h : k ≠ n) (v : Vector Port 8) (q : Port) : (v.set n q)[k] = v[k] := by
  have : (n : Nat) ≠ k := fun e => h (Fin.ext e.symm)
  simp [this]

/-- Every port but one. -/
def State.around (n : Fin 8) (s : State) : Vector Port 8 := s.ports.set n (Port.fresh n)

theorem other_of_around {n : Fin 8} {s u : State} (h : u.around n = s.around n) {k : Fin 8} (hk : k ≠ n) :
    u.ports[k] = s.ports[k] := by
  rw [← ports_set_other hk u.ports (Port.fresh n), ← ports_set_other hk s.ports (Port.fresh n)]
  exact congrArg (fun v : Vector Port 8 => v[k]) h

/-- What a configuration sets of a port and what it leaves: its state and what waits on it. -/
def Port.stance (p : Port) : PortCfg × Bool × PortState × PortWaits := (p.cfg, p.configured, p.st, p.waits)

/-- Every port but one, and the stance of that one. -/
def State.bearing (n : Fin 8) (s : State) : Vector Port 8 × PortCfg × Bool × PortState × PortWaits :=
  (s.around n, s.ports[n].stance)

theorem bearing_of_scene {s u : State} (h : u.scene = s.scene) (n : Fin 8) : u.bearing n = s.bearing n := by
  unfold State.bearing State.around
  rw [ports_of_scene h]

theorem bearing_set {n : Fin 8} {s u : State} {q : Port} (h : u.ports = s.ports.set n q) :
    u.bearing n = (s.around n, q.stance) := by
  unfold State.bearing State.around
  rw [h, ports_set_same, Vector.set_set]

/-- A change of the port that keeps its stance. -/
theorem bearing_modPort (n : Fin 8) (f : Port → Port) (s : State) (h : (f s.ports[n]).stance = s.ports[n].stance) :
    (s.modPort n f).bearing n = s.bearing n := (bearing_set rfl).trans (by rw [h]; rfl)

theorem bearing_portFlag (n : Fin 8) (bit : Nat) (s : State) : (s.portFlag n bit).bearing n = s.bearing n :=
  (bearing_set (portFlag_ports n bit s)).trans rfl

/-- What a new configuration keeps besides its port's own fields: what neither a change of them that keeps the stance, nor a bit
of PORTn_STAT, nor the defaults of 04 R92, nor the end of the port's candidates touches. -/
theorem applyPortCfg_keeps {β : Type} {g : State → β} (n : Fin 8) (c : PortCfg) (s : State)
    (port : ∀ f : Port → Port, (∀ q, (f q).stance = q.stance) → ∀ u, g (u.modPort n f) = g u)
    (flag : ∀ u, g (u.portFlag n 6) = g u) (candidates : ∀ u, g (u.dropCandidates n) = g u)
    (defaults : ∀ u : State, u.ports[n].alignPending = s.ports[n].alignPending → g (u.portDefaults n c) = g u) :
    g (s.applyPortCfg n c) = g (s.modPort n fun p => { p with cfg := c, configured := true }) := by
  have w {f : State → State} (h : ∀ u, g (f u) = g u) (b : Bool) (u : State) : g (u.when b f) = g u := when_keeps (h u) b
  have video (u : State) : g (u.applyVideo n) = g u := by
    unfold State.applyVideo
    exact port _ (fun _ => by rfl) _
  have calNeeded (u : State) : g (u.setCalNeeded n) = g u := by
    unfold State.setCalNeeded
    exact Eq.trans (w flag _ _) (port _ (fun _ => by rfl) _)
  unfold State.applyPortCfg
  refine Eq.trans (calNeeded _) ?_
  refine Eq.trans (w video _ _) ?_
  refine Eq.trans (w (fun u => port _ (fun _ => by rfl) u) _ _) ?_
  refine Eq.trans (port _ (fun _ => by rfl) _) ?_
  refine Eq.trans (w (fun u => port _ (fun _ => by rfl) u) _ _) ?_
  refine Eq.trans (w candidates _ _) ?_
  refine Eq.trans (when_keeps (g := g) (defaults _ ?_) _) ?_
  · generalize (s.ports[n].cfg.pgMode != c.pgMode) = b
    cases b <;> simp [State.when]
  · exact w (fun u => port _ (fun _ => by rfl) u) _ _

/-- A configuration in force: the port's own state and what waits on it stay as they were. -/
theorem bearing_applyPortCfg (n : Fin 8) (c : PortCfg) (s : State) : (s.applyPortCfg n c).bearing n =
    (s.around n, c, true, s.ports[n].st, s.ports[n].waits) := by
  refine Eq.trans (applyPortCfg_keeps (g := State.bearing n) n c s (fun f h u => bearing_modPort n f u (h _))
    (bearing_portFlag n 6) (fun u => bearing_of_scene (scene_dropCandidates u n) n) fun u _ => ?_)
    (Eq.trans (bearing_set rfl) rfl)
  exact Eq.trans (bearing_of_scene (scene_finishAll _ _ _ _ _) n) (Eq.trans (bearing_set rfl) rfl)

theorem desk_portFlag (n : Fin 8) (bit : Nat) (s : State) : (s.portFlag n bit).desk = s.desk := by
  unfold State.portFlag
  dsimp only
  split
  · exact (desk_stirred (event_stirred _ _ _ _ _ _ _ _)).trans rfl
  · rfl

/-- Where no alignment waits a configuration answers no command. -/
theorem desk_applyPortCfg {n : Fin 8} {s : State} (h : s.ports[n].alignPending = []) (c : PortCfg) :
    (s.applyPortCfg n c).desk = s.desk := by
  refine Eq.trans (applyPortCfg_keeps (g := State.desk) n c s (fun _ _ _ => rfl) (desk_portFlag n 6) (fun u => ?_)
    fun u hu => ?_) rfl
  · obtain ⟨_, hc⟩ := dropCandidates_form n u
    rw [hc]
    rfl
  · unfold State.portDefaults
    rw [hu, h]
    rfl

end Sys2Proof.Machine

namespace Sys2Proof.Machine

/-! ## PORT_CONFIG (02 R30) -/

/-- Every port but one, and the configuration of that one. -/
def State.setup (n : Fin 8) (s : State) : Vector Port 8 × PortCfg × Bool :=
  (s.around n, s.ports[n].cfg, s.ports[n].configured)

theorem setup_of_scene {s u : State} (h : u.scene = s.scene) (n : Fin 8) : u.setup n = s.setup n := by
  unfold State.setup State.around
  rw [ports_of_scene h]

theorem setup_modPort (n : Fin 8) (f : Port → Port) (s : State) (cfg : (f s.ports[n]).cfg = s.ports[n].cfg)
    (configured : (f s.ports[n]).configured = s.ports[n].configured) : (s.modPort n f).setup n = s.setup n := by
  unfold State.setup State.around
  rw [State.modPort_ports, ports_set_same, Vector.set_set, cfg, configured]

theorem setup_armNow (n : Fin 8) (s : State) : (s.armNow n).setup n = s.setup n := by
  unfold State.armNow
  refine Eq.trans (setup_of_scene ((scene_finishAll _ _ _ _ _).trans (scene_sysRoutes _)) n) ?_
  exact Eq.trans (setup_modPort n _ _ (by rfl) (by rfl)) (setup_modPort n _ s (by rfl) (by rfl))

theorem setup_armBegin (n : Fin 8) (seq : DWord) (s : State) : (s.armBegin n seq).setup n = s.setup n := by
  have wait : (s.modPort n fun p => { p with waits.arm := p.waits.arm ++ [seq] }).setup n = s.setup n :=
    setup_modPort n _ s rfl rfl
  unfold State.armBegin
  dsimp only
  split
  · exact Eq.trans (when_keeps (g := State.setup n) (setup_modPort n _ _ (by rfl) (by rfl)) _) wait
  · split
    · exact setup_of_scene (scene_finish _ _ _ _ _ _ _) n
    · split
      · exact wait
      · exact Eq.trans (setup_of_scene (scene_finishOk _ _ _) n) (setup_armNow n s)

theorem setup_armAgain (n : Fin 8) (seq : DWord) (s : State) : (s.armAgain n seq).setup n = s.setup n := by
  unfold State.armAgain
  split
  · exact setup_of_scene (scene_finishOk _ _ _) n
  · split
    · exact setup_of_scene (scene_finish _ _ _ _ _ _ _) n
    · exact setup_armBegin n seq s

/-- A configuration taken outside SCAN is in force, whatever the commands that wait to arm the port do then. -/
theorem setup_takeCfg (n : Fin 8) (c : PortCfg) (arms : List DWord) {f : State → State}
    (hf : ∀ u, (f u).setup n = u.setup n) (s : State) : (s.takeCfg n c arms f).setup n = (s.around n, c, true) := by
  unfold State.takeCfg
  refine Eq.trans (each_keeps (g := State.setup n) (fun q u => setup_armAgain n q u) _ _) (Eq.trans (hf _) ?_)
  refine Eq.trans (congrArg (fun b : Vector Port 8 × PortCfg × Bool × PortState × PortWaits => (b.1, b.2.1, b.2.2.1))
    (bearing_applyPortCfg n c _)) ?_
  simp [State.around]

theorem other_of_setup {n : Fin 8} {s u : State} {c : PortCfg} {b : Bool} (h : u.setup n = (s.around n, c, b)) {k : Fin 8}
    (hk : k ≠ n) : u.ports[k] = s.ports[k] := other_of_around (congrArg Prod.fst h) hk

section
variable {p : Packet} {s : State} {r : Ring} {n : Fin 8}

theorem portConfig_run (hn : portAt p 0 = some n) (secure : Bool) (seq : DWord) (u : State) :
    portConfigSpec.run p secure seq u = (u.takeCfg n (PortCfg.parse p.params 0) []
      (State.modPort n fun q => { q with st := .idle, waits.ready := true })).finishOk seq 0 := by
  simp only [portConfigSpec, State.configPort, hn]

/-- With no command that waits to arm the port, a configuration is all that is taken. -/
theorem takeCfg_of_unarmed {u : State} (h : u.ports[n].waits.arm = []) (c : PortCfg) (f : State → State) :
    u.takeCfg n c [] f = f ((u.modPort n fun p => { p with waits.arm := [], lvds.training := none }).applyPortCfg n c) := by
  simp only [State.takeCfg, h, List.append_nil]
  rfl

/-- PORT_CONFIG puts its block in force; with nothing waiting on the port it ends in IDLE and is answered at once. -/
theorem portConfig_configures (h : Accepts portConfigSpec p s r) (hn : portAt p 0 = some n) :
    Answers (.portConfig p) s fun u =>
      u.ports[n].cfg = PortCfg.parse p.params 0 ∧ u.ports[n].configured = true ∧ (∀ k, k ≠ n → u.ports[k] = s.ports[k])
        ∧ (s.ports[n].waits.arm = [] → u.ports[n].st = .idle
          ∧ (s.ports[n].alignPending = [] → RepliesOk portConfigSpec p r s u 0)) := by
  have setup := setup_takeCfg n (PortCfg.parse p.params 0) []
    (f := State.modPort n fun q => { q with st := .idle, waits.ready := true })
    (fun v => setup_modPort n _ v rfl rfl) (s.entered portConfigSpec p r)
  refine h.answers rfl (portConfig_run hn _ _ _) ?_
  rw [settle_ports, finishOk_ports]
  refine ⟨congrArg (fun b => b.2.1) setup, congrArg (fun b => b.2.2) setup, fun k hk => ?_, fun idle => ⟨?_, fun quiet => ?_⟩⟩
  · rw [other_of_setup setup hk, entered_ports]
  · rw [takeCfg_of_unarmed (by rwa [entered_ports]), State.modPort_ports, ports_set_same]
  · refine h.repliesOk ?_ 0
    rw [takeCfg_of_unarmed (by rwa [entered_ports])]
    refine Eq.trans (desk_applyPortCfg ?_ _) rfl
    rwa [State.modPort_ports, ports_set_same, entered_ports]

end

end Sys2Proof.Machine

namespace Sys2Proof.Machine

/-! ## PATTERN_LOAD (02 R31, R32, R35) -/

theorem firstFail_cons {c : Bool} {j : Reject} {l : List (Bool × Option Reject)} :
    firstFail ((c, some j) :: l) = none ↔ c = false ∧ firstFail l = none := by
  cases c <;> simp [firstFail]

/-- The port after PATTERN_LOAD: the table named, active at once where it may be (02 R31, R35). -/
def Port.loadTable (p : Packet) (q : Port) : Port :=
  let b : Bool := u8 p.params 1 = 1
  let q := q.setTab b { edges := patternEdges p, shift := u8 p.params 3, pending := u8 p.params 2 };
  if u8 p.params 2 ≠ 0 && (q.active.isNone || q.st = .idle) then q.activate b else q

theorem loadTable_edges (p : Packet) (q : Port) : ((q.loadTable p).tab (u8 p.params 1 == 1)).edges = patternEdges p := by
  by_cases h : u8 p.params 1 = 1 <;> simp [Port.loadTable, Port.setTab, Port.activate, Port.tab, apply_ite, h]

theorem loadTable_shift (p : Packet) (q : Port) : ((q.loadTable p).tab (u8 p.params 1 == 1)).shift = u8 p.params 3 := by
  by_cases h : u8 p.params 1 = 1 <;> simp [Port.loadTable, Port.setTab, Port.activate, Port.tab, apply_ite, h]

theorem loadTable_other_edges (p : Packet) (q : Port) :
    ((q.loadTable p).tab (!(u8 p.params 1 == 1))).edges = (q.tab (!(u8 p.params 1 == 1))).edges := by
  by_cases h : u8 p.params 1 = 1 <;> simp [Port.loadTable, Port.setTab, Port.activate, Port.tab, apply_ite, h]

theorem setTab_active (q : Port) (b : Bool) (t : EdgeTable) : (q.setTab b t).active = q.active := by cases b <;> rfl

theorem setTab_st (q : Port) (b : Bool) (t : EdgeTable) : (q.setTab b t).st = q.st := by cases b <;> rfl

theorem loadTable_active (p : Packet) (q : Port) : (q.loadTable p).active =
    if u8 p.params 2 ≠ 0 ∧ (q.active = none ∨ q.st = .idle) then some (u8 p.params 1 == 1) else q.active := by
  unfold Port.loadTable
  dsimp only
  rw [setTab_active, setTab_st]
  split
  case isTrue h => rw [if_pos (by simpa using h)]; rfl
  case isFalse h => rw [if_neg (by simpa using h), setTab_active]

section
variable {p : Packet} {s : State} {r : Ring} {n : Fin 8}

/-- A command that changes one port and is answered at once leaves the other ports and units as they were. -/
theorem Accepts.ordered_port {sp : PacketSpec} (h : Accepts sp p s r) {f : Port → Port}
    (hrun : sp.run p r.secure s.acceptSeq (s.entered sp p r) =
      ((s.entered sp p r).modPort n f).finishOk s.acceptSeq 0) :
    s.ordered ((s.advance p.tick).settle (((s.entered sp p r).modPort n f).finishOk s.acceptSeq 0)) =
      s.ordered { s.advance p.tick with ports := s.ports.set n (f s.ports[n]) } := by
  rw [← hrun]
  refine h.ordered_finish _ (hrun.trans ?_)
  unfold State.modPort
  rw [entered_ports]
  rfl

theorem patternLoad_run (hn : portAt p 0 = some n) (secure : Bool) (seq : DWord) (u : State) :
    patternLoadSpec.run p secure seq u = (u.modPort n (Port.loadTable p)).finishOk seq 0 := by
  simp only [patternLoadSpec, State.loadPattern, hn]
  rfl

/-- PATTERN_LOAD loads the table that it names, and switches to it at once where it may. -/
theorem patternLoad_loads (h : Accepts patternLoadSpec p s r) (hn : portAt p 0 = some n) :
    Answers (.patternLoad p) s fun u => RepliesOk patternLoadSpec p r s u 0 ∧ (∀ k, k ≠ n → u.ports[k] = s.ports[k])
      ∧ (u.ports[n].tab (u8 p.params 1 == 1)).edges = patternEdges p
      ∧ (u.ports[n].tab (u8 p.params 1 == 1)).shift = u8 p.params 3
      ∧ (u.ports[n].tab (!(u8 p.params 1 == 1))).edges = (s.ports[n].tab (!(u8 p.params 1 == 1))).edges
      ∧ u.ports[n].active = (if u8 p.params 2 ≠ 0 ∧ (s.ports[n].active = none ∨ s.ports[n].st = .idle)
        then some (u8 p.params 1 == 1) else s.ports[n].active)
      ∧ s.ordered { u with ports := s.ports } = s.ordered (s.advance p.tick) := by
  have hrun := patternLoad_run hn r.secure s.acceptSeq (s.entered patternLoadSpec p r)
  refine h.answers rfl hrun ?_
  rw [settle_ports, finishOk_ports, State.modPort_ports, ports_set_same, entered_ports]
  refine ⟨h.repliesOk (by rfl) 0, fun k hk => ports_set_other hk _ _, loadTable_edges p _, loadTable_shift p _,
    loadTable_other_edges p _, loadTable_active p _, ?_⟩
  exact congrArg (fun v : State => { v with ports := s.ports }) (h.ordered_port hrun)

end

end Sys2Proof.Machine

namespace Sys2Proof.Machine

section
variable {p : Packet} {s : State} {r : Ring} {n : Fin 8}

/-! ## PORT_ARM (02 R37, R42, R48) -/

theorem portArm_run (hn : portAt p 0 = some n) (secure : Bool) (seq : DWord) (u : State) :
    portArmSpec.run p secure seq u = u.armBegin n seq := by
  simp only [portArmSpec, hn]

/-- A port that an arming is accepted for has no failed lane. -/
theorem laneFailed_of_portArm (h : Accepts portArmSpec p s r) (hn : portAt p 0 = some n) : s.ports[n].laneFailed = false := by
  have checked := h.checked
  simp only [portArmSpec, hn, State.armCheck, badState] at checked
  split at checked
  · cases checked
  · rename_i e
    cases e
  · rename_i e
    cases e
    split at checked
    · cases checked
    · exact (firstFail_cons.1 (firstFail_cons.1 checked).2).1

theorem armBegin_digital {u : State} (hd : u.ports[n].cfg.digital = true) (seq : DWord) : u.armBegin n seq =
    (u.modPort n fun p => { p with waits.arm := p.waits.arm ++ [seq] }).when u.ports[n].lvds.training.isNone
      (State.trainStart n) := by
  simp only [State.armBegin, hd, if_true]

theorem armBegin_ready {u : State} (hd : u.ports[n].cfg.digital = false) (hl : u.ports[n].laneFailed = false)
    (hr : u.ports[n].vid.ready = true) (seq : DWord) : u.armBegin n seq = (u.armNow n).finishOk seq 0 := by
  simp [State.armBegin, -Fin.getElem_fin, hd, hl, hr]

theorem armBegin_unready {u : State} (hd : u.ports[n].cfg.digital = false) (hl : u.ports[n].laneFailed = false)
    (hr : u.ports[n].vid.ready = false) (seq : DWord) :
    u.armBegin n seq = u.modPort n fun p => { p with waits.arm := p.waits.arm ++ [seq] } := by
  simp [State.armBegin, -Fin.getElem_fin, hd, hl, hr]

/-- A port that enters SCAN: its grid, and nothing else that waits (02 R37). -/
theorem armNow_ports (n : Fin 8) (u : State) : (u.armNow n).ports = u.ports.set n
    { ((u.freshGrid n).ports[n]) with st := .scan, waits.ready := true, waits.arm := [] } := by
  unfold State.armNow
  rw [finishAll_ports, sysRoutes_ports, State.modPort_ports]
  exact Vector.set_set ..

theorem finishAll_nil (st : BitVec 16) (d r : BitVec 32) (u : State) : u.finishAll [] st d r = u := rfl

theorem finishAll_one (q : DWord) (st : BitVec 16) (d r : BitVec 32) (u : State) :
    u.finishAll [q] st d r = u.finish q st d r := rfl

theorem desk_armNow {u : State} (h : u.ports[n].waits.arm = []) : (u.armNow n).desk = u.desk := by
  unfold State.armNow
  rw [h, finishAll_nil]
  exact (desk_stirred (sysRoutes_stirred _)).trans rfl

/-- On a digital port PORT_ARM waits for the training of the receiver (02 R42). -/
theorem portArm_digital (h : Accepts portArmSpec p s r) (hn : portAt p 0 = some n) (hd : s.ports[n].cfg.digital = true) :
    Answers (.portArm p) s fun u => (u.cmd.replies = s.cmd.replies ∧ ∀ k, k ≠ n → u.ports[k] = s.ports[k])
      ∧ u.ports[n].waits.arm = s.ports[n].waits.arm ++ [s.acceptSeq]
      ∧ u.ports[n].lvds.training = some (s.ports[n].lvds.training.getD (s.advance p.tick).ticks) := by
  have hrun := (portArm_run hn r.secure s.acceptSeq (s.entered portArmSpec p r)).trans
    (armBegin_digital (by rwa [entered_ports]) _)
  refine h.answers rfl hrun ?_
  rw [settle_replies, settle_ports, entered_ports]
  cases training : s.ports[n].lvds.training with
  | some start =>
    simp only [Option.isNone_some, State.when, Bool.false_eq_true, if_false, State.modPort_ports, ports_set_same]
    refine ⟨⟨entered_replies, fun k hk => ?_⟩, ?_, ?_⟩
    · rw [ports_set_other hk, entered_ports]
    · rw [entered_ports]
    · rw [entered_ports, training]
      rfl
  | none =>
    simp only [Option.isNone_none, State.when, if_true, State.trainStart, State.modPort_ports, ports_set_same]
    refine ⟨⟨entered_replies, fun k hk => ?_⟩, ?_, ?_⟩
    · rw [ports_set_other hk, ports_set_other hk, entered_ports]
    · rw [entered_ports]
    · exact congrArg some entered_ticks

/-- With its lanes ready an analogue port enters SCAN at once, on a fresh line grid (02 R37, R48). -/
theorem portArm_ready (h : Accepts portArmSpec p s r) (hn : portAt p 0 = some n) (hd : s.ports[n].cfg.digital = false)
    (hr : s.ports[n].vid.ready = true) :
    Answers (.portArm p) s fun u => (∀ k, k ≠ n → u.ports[k] = s.ports[k])
      ∧ (s.ports[n].waits.arm = [] → RepliesOk portArmSpec p r s u 0) ∧ u.ports[n].st = .scan ∧ u.ports[n].grid.next = 0
      ∧ u.ports[n].grid.x0 = s.count n * 2 ^ 32 ∧ u.ports[n].grid.pitch = s.ports[n].cfg.pitch := by
  have hrun := (portArm_run hn r.secure s.acceptSeq (s.entered portArmSpec p r)).trans
    (armBegin_ready (by rwa [entered_ports]) (by rw [entered_ports]; exact laneFailed_of_portArm h hn) (by rwa [entered_ports]) _)
  have count : (s.entered portArmSpec p r).count n = s.count n := by
    simp only [State.count, entered_ports, entered_encs]
  refine h.answers rfl hrun ?_
  rw [settle_ports, finishOk_ports, armNow_ports, ports_set_same]
  unfold State.freshGrid
  dsimp only
  rw [State.modPort_ports, ports_set_same, count, entered_ports]
  exact ⟨fun k hk => ports_set_other hk _ _, fun idle => h.repliesOk (desk_armNow (by rwa [entered_ports])) 0,
    by rfl, by rfl, by rfl, by rfl⟩

/-- Without its lanes an analogue port waits (03 R56). -/
theorem portArm_unready (h : Accepts portArmSpec p s r) (hn : portAt p 0 = some n) (hd : s.ports[n].cfg.digital = false)
    (hr : s.ports[n].vid.ready = false) :
    Answers (.portArm p) s fun u => (u.cmd.replies = s.cmd.replies ∧ ∀ k, k ≠ n → u.ports[k] = s.ports[k])
      ∧ u.ports[n] = { s.ports[n] with waits.arm := s.ports[n].waits.arm ++ [s.acceptSeq] } := by
  have hrun := (portArm_run hn r.secure s.acceptSeq (s.entered portArmSpec p r)).trans
    (armBegin_unready (by rwa [entered_ports]) (by rw [entered_ports]; exact laneFailed_of_portArm h hn) (by rwa [entered_ports]) _)
  refine h.answers rfl hrun ?_
  rw [settle_replies, settle_ports, State.modPort_ports, ports_set_same, entered_ports]
  exact ⟨⟨entered_replies, fun k hk => ports_set_other hk _ _⟩, rfl⟩

/-! ## PORT_DISARM (02 R49) -/

theorem desk_modPort (n : Fin 8) (f : Port → Port) (u : State) : (u.modPort n f).desk = u.desk := rfl

theorem dropGaps_of_none {u : State} (h : ∀ j ∈ u.trig.gaps, j.port ≠ n) : u.dropGaps n = u := by
  have none : (u.trig.gaps.filter fun j => j.port = n) = [] :=
    List.filter_eq_nil_iff.2 fun j hj => by simpa using h j hj
  unfold State.dropGaps
  rw [none]
  rfl

/-- A port that scans and is free stops, and the commands that waited for it are answered. -/
theorem disarmEffect_stops {u : State} (waiting : u.ports[n].waits.disarm ≠ []) (scan : u.ports[n].st = .scan)
    (free : u.ports[n].line = none) (shut : u.ports[n].sides = []) : u.disarmEffect n =
      ((u.disarmNow n).modPort n fun p => { p with waits.disarm := [] }).finishAll u.ports[n].waits.disarm 0 0 0 := by
  simp [State.disarmEffect, -Fin.getElem_fin, waiting, scan, free, shut, State.when, Port.noSide]

/-- A port that scans and is not free goes on. -/
theorem disarmEffect_busy {u : State} (scan : u.ports[n].st = .scan)
    (busy : u.ports[n].line.isSome = true ∨ u.ports[n].sides ≠ []) : u.disarmEffect n = u := by
  have stops : (u.ports[n].line.isNone && u.ports[n].noSide) = false := by
    rcases busy with h | h
    · cases hl : u.ports[n].line <;> simp_all
    · simp [Port.noSide, -Fin.getElem_fin, h]
  simp [State.disarmEffect, -Fin.getElem_fin, scan, stops]

theorem disarmNow_ports (n : Fin 8) (u : State) : (u.disarmNow n).ports = u.ports.set n
    { u.ports[n] with st := .idle, waiting := [], grid.sched := [], inbuf := [], caps := [], signatures := [] } :=
  sysRoutes_ports _

theorem portDisarm_run (hn : portAt p 0 = some n) {u : State} (noGap : ∀ j ∈ u.trig.gaps, j.port ≠ n) (secure : Bool)
    (seq : DWord) : portDisarmSpec.run p secure seq u = if u.ports[n].st = .off ∨ u.ports[n].st = .idle then u.finishOk seq 0
      else (u.modPort n fun p => { p with waits.disarm := p.waits.disarm ++ [seq] }).disarmEffect n := by
  simp only [portDisarmSpec, hn, dropGaps_of_none noGap]
  cases u.ports[n].st <;> rfl

theorem with_own_ports (u : State) : ({ u with ports := u.ports } : State) = u := rfl

/-- A port that does not scan has nothing to stop. -/
theorem portDisarm_still (h : Accepts portDisarmSpec p s r) (hn : portAt p 0 = some n) (noGap : ∀ j ∈ s.trig.gaps, j.port ≠ n)
    (still : s.ports[n].st = .off ∨ s.ports[n].st = .idle) : Answers (.portDisarm p) s fun u =>
      RepliesOk portDisarmSpec p r s u 0 ∧ s.ordered u = s.ordered (s.advance p.tick) := by
  have hrun : portDisarmSpec.run p r.secure s.acceptSeq (s.entered portDisarmSpec p r) =
      (s.entered portDisarmSpec p r).finishOk s.acceptSeq 0 := by
    rw [portDisarm_run hn (by rwa [entered_trig]), entered_ports, if_pos still]
  have same : ({ s.entered portDisarmSpec p r with ports := s.ports } : State) = s.entered portDisarmSpec p r :=
    (congrArg (fun v => { s.entered portDisarmSpec p r with ports := v }) entered_ports.symm).trans (with_own_ports _)
  refine h.answers rfl hrun ⟨h.repliesOk (v := s.entered portDisarmSpec p r) rfl 0, ?_⟩
  rw [← hrun]
  refine h.ordered_finish s.ports ?_
  rw [hrun, same]
  rfl

/-- A port that scans with no line and no side stops at once. -/
theorem portDisarm_free (h : Accepts portDisarmSpec p s r) (hn : portAt p 0 = some n) (noGap : ∀ j ∈ s.trig.gaps, j.port ≠ n)
    (scan : s.ports[n].st = .scan) (free : s.ports[n].line = none) (shut : s.ports[n].sides = [])
    (alone : s.ports[n].waits.disarm = []) : Answers (.portDisarm p) s fun u =>
      RepliesOk portDisarmSpec p r s u 0 ∧ (∀ k, k ≠ n → u.ports[k] = s.ports[k]) ∧ u.ports[n].st = .idle
        ∧ u.ports[n].waiting = [] ∧ u.ports[n].inbuf = [] := by
  have hrun := portDisarm_run hn (u := s.entered portDisarmSpec p r) (by rwa [entered_trig]) r.secure s.acceptSeq
  rw [entered_ports, scan, if_neg (by decide)] at hrun
  generalize hv : ((s.entered portDisarmSpec p r).modPort n fun p => _) = v at hrun
  have waited : v.ports[n] = { s.ports[n] with waits.disarm := [s.acceptSeq] } := by
    rw [← hv, State.modPort_ports, ports_set_same, entered_ports, alone]
    rfl
  have others (k : Fin 8) (hk : k ≠ n) : v.ports[k] = s.ports[k] := by
    rw [← hv, State.modPort_ports, ports_set_other hk, entered_ports]
  have entered : v.desk = (s.entered portDisarmSpec p r).desk := by
    rw [← hv]
    exact desk_modPort n _ _
  have desk : ((v.disarmNow n).modPort n fun p => { p with waits.disarm := [] }).desk = (s.entered portDisarmSpec p r).desk :=
    (desk_modPort n _ _).trans ((desk_stirred (sysRoutes_stirred _)).trans entered)
  refine h.answers rfl (hrun.trans (disarmEffect_stops ?_ ?_ ?_ ?_)) ?_
  · rw [waited]
    exact List.cons_ne_nil _ _
  · rw [waited]
    exact scan
  · rw [waited]
    exact free
  · rw [waited]
    exact shut
  · rw [settle_ports, finishAll_ports, State.modPort_ports, ports_set_same, disarmNow_ports, ports_set_same, waited]
    dsimp only
    rw [finishAll_one]
    refine ⟨h.repliesOk desk 0, fun k hk => ?_, rfl, rfl, rfl⟩
    rw [ports_set_other hk, ports_set_other hk, others k hk]

/-- A port with a line in progress or a side open goes on, and the command waits. -/
theorem portDisarm_busy (h : Accepts portDisarmSpec p s r) (hn : portAt p 0 = some n) (noGap : ∀ j ∈ s.trig.gaps, j.port ≠ n)
    (scan : s.ports[n].st = .scan) (busy : s.ports[n].line.isSome = true ∨ s.ports[n].sides ≠ []) :
    Answers (.portDisarm p) s fun u => (u.cmd.replies = s.cmd.replies ∧ ∀ k, k ≠ n → u.ports[k] = s.ports[k])
      ∧ u.ports[n] = { s.ports[n] with waits.disarm := s.ports[n].waits.disarm ++ [s.acceptSeq] } := by
  have hrun := portDisarm_run hn (u := s.entered portDisarmSpec p r) (by rwa [entered_trig]) r.secure s.acceptSeq
  rw [entered_ports, scan, if_neg (by decide)] at hrun
  refine h.answers rfl (hrun.trans (disarmEffect_busy ?_ ?_)) ?_
  · rw [State.modPort_ports, ports_set_same, entered_ports]
    exact scan
  · rw [State.modPort_ports, ports_set_same, entered_ports]
    exact busy
  · rw [settle_replies, settle_ports, State.modPort_ports, ports_set_same, entered_ports]
    exact ⟨⟨entered_replies, fun k hk => ports_set_other hk _ _⟩, rfl⟩

end

end Sys2Proof.Machine

namespace Sys2Proof.Machine

/-! ## PORT_RECONFIG (02 R50, Table 2.10) -/

section
variable {p : Packet} {s : State} {r : Ring} {n : Fin 8}

theorem setup_selectTable (n : Fin 8) (l : List Byte) (s : State) : (s.selectTable n l).setup n = s.setup n := by
  unfold State.selectTable
  split
  · split
    · exact setup_modPort n _ s (by rfl) (by rfl)
    · rfl
  · rfl

/-- What a PORT_RECONFIG does to a port: in IDLE it acts as PORT_CONFIG and PORT_ARM; behind another it waits for it; else it
begins. -/
theorem portReconfig_run (hn : portAt p 8 = some n) (secure : Bool) (seq : DWord) (u : State) :
    portReconfigSpec.run p secure seq u =
      if (u.dropGaps n).ports[n].st = .idle then
        (u.dropGaps n).takeCfg n (PortCfg.parse p.params 8) [seq] (State.selectTable n p.params)
      else if (u.dropGaps n).ports[n].waits.reconfig.isSome then
        (u.dropGaps n).modPort n fun q => { q with waits.later := q.waits.later ++ [(seq, p.params)] }
      else (u.dropGaps n).reconfigStart n seq p.params := by
  simp only [portReconfigSpec, hn]

/-- In IDLE the configuration takes effect at once. -/
theorem portReconfig_idle (h : Accepts portReconfigSpec p s r) (hn : portAt p 8 = some n) (idle : s.ports[n].st = .idle) :
    Answers (.portReconfig p) s fun u =>
      u.ports[n].cfg = PortCfg.parse p.params 8 ∧ ∀ k, k ≠ n → u.ports[k] = s.ports[k] := by
  have ports : ((s.entered portReconfigSpec p r).dropGaps n).ports = s.ports :=
    (ports_of_scene (scene_dropGaps _ n)).trans entered_ports
  have hrun := portReconfig_run hn r.secure s.acceptSeq (s.entered portReconfigSpec p r)
  rw [ports, if_pos idle] at hrun
  have setup := setup_takeCfg n (PortCfg.parse p.params 8) [s.acceptSeq] (fun u => setup_selectTable n p.params u)
    ((s.entered portReconfigSpec p r).dropGaps n)
  refine h.answers rfl hrun ?_
  rw [settle_ports]
  refine ⟨congrArg (fun b => b.2.1) setup, fun k hk => ?_⟩
  rw [other_of_setup setup hk, ports]

section
variable (h : Accepts portReconfigSpec p s r) (hn : portAt p 8 = some n) (scan : s.ports[n].st = .scan)
  (noGap : ∀ j ∈ s.trig.gaps, j.port ≠ n)
include h hn scan noGap

/-- A second PORT_RECONFIG waits for the first (02 R50). -/
theorem portReconfig_later (first : s.ports[n].waits.reconfig.isSome = true) : Answers (.portReconfig p) s fun u =>
    (u.cmd.replies = s.cmd.replies ∧ ∀ k, k ≠ n → u.ports[k] = s.ports[k])
      ∧ u.ports[n] = { s.ports[n] with waits.later := s.ports[n].waits.later ++ [(s.acceptSeq, p.params)] } := by
  have hrun := portReconfig_run hn r.secure s.acceptSeq (s.entered portReconfigSpec p r)
  rw [dropGaps_of_none (by rwa [entered_trig]), entered_ports, scan, if_neg (by decide), if_pos first] at hrun
  refine h.answers rfl hrun ?_
  rw [settle_replies, settle_ports, State.modPort_ports, ports_set_same, entered_ports]
  exact ⟨⟨entered_replies, fun k hk => ports_set_other hk _ _⟩, rfl⟩

end

/-- RECONFIG_ENTER at a boundary with no side latched and no document asked for (Table 2.10 step 3). -/
theorem reconfigEnter_enters {u : State} {seq : DWord} {l : List Byte} (waiting : u.ports[n].waits.reconfig = some (seq, l, 2))
    (scan : u.ports[n].st = .scan) (free : u.ports[n].line = none) (shut : u.ports[n].sides = [])
    (none : u.ports[n].waits.slots = []) : u.reconfigEnter n = u.modPort n fun p =>
      { p with st := .reconfig, keepLamp := u8 l 1 = 1, waits.reconfig := some (seq, l, 3)
               waiting := [], grid.sched := [], caps := [] } := by
  simp [State.reconfigEnter, -Fin.getElem_fin, waiting, scan, free, Port.noSide, shut, none]

/-- Without the boundary a PORT_RECONFIG waits. -/
theorem reconfigEnter_waits {u : State}
    (busy : u.ports[n].line.isSome = true ∨ u.ports[n].sides ≠ [] ∨ u.ports[n].waits.slots ≠ []) : u.reconfigEnter n = u := by
  have waits : (decide (u.ports[n].st = .scan) && u.ports[n].line.isNone && u.ports[n].noSide
      && u.ports[n].waits.slots.isEmpty) = false := by
    rcases busy with h | h | h
    · rw [← Option.not_isSome, h]
      simp
    · simp [-Fin.getElem_fin, Port.noSide, h]
    · simp [-Fin.getElem_fin, h]
  simp only [State.reconfigEnter, waits]
  split <;> rfl

/-- The port once a PORT_RECONFIG waits at step 2 of Table 2.10. -/
def Port.reconfigAsked (seq : DWord) (l : List Byte) (q : Port) : Port :=
  { q with waits.ready := false, waits.reconfig := some (seq, l, 2) }

section
variable (h : Accepts portReconfigSpec p s r) (hn : portAt p 8 = some n) (first : s.ports[n].waits.reconfig = none)
  (scan : s.ports[n].st = .scan) (noGap : ∀ j ∈ s.trig.gaps, j.port ≠ n)
include h hn first scan noGap

/-- The first PORT_RECONFIG in SCAN asks for step 3, and the rest follows from whether the port may take it. -/
theorem portReconfig_starts {P : State → Prop}
    (hP : ∀ u : State, u.ports[n] = s.ports[n].reconfigAsked s.acceptSeq p.params → u.cmd.replies = s.cmd.replies →
      (∀ k, k ≠ n → u.ports[k] = s.ports[k]) → P ((s.advance p.tick).settle (u.reconfigEnter n))) :
    Answers (.portReconfig p) s P := by
  have hrun := portReconfig_run hn r.secure s.acceptSeq (s.entered portReconfigSpec p r)
  rw [dropGaps_of_none (by rwa [entered_trig]), entered_ports, scan, if_neg (by decide), first, if_neg (by decide)] at hrun
  refine h.answers rfl hrun (hP _ ?_ entered_replies fun k hk => ?_)
  · rw [State.modPort_ports, ports_set_same, entered_ports]
    rfl
  · rw [State.modPort_ports, ports_set_other hk, entered_ports]

theorem portReconfig_waits (busy : s.ports[n].line.isSome = true ∨ s.ports[n].sides ≠ [] ∨ s.ports[n].waits.slots ≠ []) :
    Answers (.portReconfig p) s fun u => (u.cmd.replies = s.cmd.replies ∧ ∀ k, k ≠ n → u.ports[k] = s.ports[k])
      ∧ u.ports[n] = { s.ports[n] with waits.ready := false, waits.reconfig := some (s.acceptSeq, p.params, 2) } := by
  refine portReconfig_starts h hn first scan noGap fun u asked replies others => ?_
  rw [reconfigEnter_waits (by rw [asked]; exact busy), settle_replies, settle_ports]
  exact ⟨⟨replies, others⟩, asked⟩

theorem portReconfig_enters (free : s.ports[n].line = none) (shut : s.ports[n].sides = [])
    (none : s.ports[n].waits.slots = []) : Answers (.portReconfig p) s fun u =>
      (u.cmd.replies = s.cmd.replies ∧ ∀ k, k ≠ n → u.ports[k] = s.ports[k]) ∧ u.ports[n].st = .reconfig
        ∧ u.ports[n].waits.reconfig = some (s.acceptSeq, p.params, 3) ∧ u.ports[n].cfg = s.ports[n].cfg := by
  refine portReconfig_starts h hn first scan noGap fun u asked replies others => ?_
  rw [reconfigEnter_enters (seq := s.acceptSeq) (l := p.params) (by rw [asked]; rfl) (by rw [asked]; exact scan)
    (by rw [asked]; exact free) (by rw [asked]; exact shut) (by rw [asked]; exact none),
    settle_replies, settle_ports, State.modPort_ports, ports_set_same, asked]
  exact ⟨⟨replies, fun k hk => (ports_set_other hk _ _).trans (others k hk)⟩, rfl, rfl, rfl⟩

end

/-! ## ALIGN_SET and OUTPUT_FORMAT (04 R90, R91, R93) -/

theorem each_one {α : Type} (x : α) (f : α → State → State) (s : State) : s.each [x] f = f x s := rfl

theorem modPort_modPort (n : Fin 8) (f g : Port → Port) (s : State) :
    (s.modPort n f).modPort n g = s.modPort n fun p => g (f p) := by
  simp [State.modPort]

theorem othersIn_same {u v : State} (cel : u.cel = v.cel) (r : Nat) : u.othersIn n r = v.othersIn n r := by
  unfold State.othersIn
  rw [cel]

theorem placeIn_same {u v : State} (cel : u.cel = v.cel) (r : Fin 64) (k : Nat) : u.placeIn n r k = v.placeIn n r k := by
  unfold State.placeIn
  rw [othersIn_same cel, cel]

theorem delayPlace_same {u v : State} (cel : u.cel = v.cel) (sec : u.sec = v.sec) (b : Nat) :
    u.delayPlace n b = v.delayPlace n b := by
  have world : u.secureBlock (.port n) = v.secureBlock (.port n) := by simp only [State.secureBlock, sec]
  have place : u.placeIn n = v.placeIn n := funext fun r => funext fun k => placeIn_same cel r k
  unfold State.delayPlace
  rw [world, cel, place]

theorem alignMatches_same {u v : State} (colours : u.ports[n].cfg.colours = v.ports[n].cfg.colours) (trig : u.trig = v.trig) :
    u.alignMatches n = v.alignMatches n := by
  unfold State.alignMatches State.alignOf State.trigRec
  rw [colours, trig]

/-- An alignment that ALIGN_SET takes from a record is that of the record. -/
theorem alignAsked_own {l : List Byte} {a : Align} (h : s.alignAsked n l = some a) (own : a.fromRecord = true) :
    ((s.alignMatches n).map fun r => Align.ofRecord r.1 r.2) = some a := by
  unfold State.alignAsked at h
  split at h
  · exact h
  · cases h
    cases own

/-- An alignment that its record and the port allow takes effect, with its delay store, and its command is answered. -/
theorem alignTake_takes {u : State} {a : AlignPending} {d : Option DelayStore} (phases : u.ports[n].cfg.phasesOk a.align = true)
    (own : a.align.fromRecord = true → ((u.alignMatches n).map fun r => Align.ofRecord r.1 r.2) = some a.align)
    (follows : a.seq = none → u.ports[n].align.fromRecord = true)
    (place : u.delayPlace n (u.ports[n].delayBytes a.align) = some d) : u.alignTake n a = State.finishAll a.seq.toList 0 0 0
      { (u.modPort n fun p => { p with align := a.align, caps := [] }) with cel.delays := u.cel.delays.set n d } := by
  have kept : (a.seq.isNone && !u.ports[n].followsAlign) = false := by
    cases hs : a.seq with
    | some q => rfl
    | none => simp [-Fin.getElem_fin, Port.followsAlign, follows hs]
  have want : (if a.seq.isNone && !u.ports[n].followsAlign then none
      else if a.align.fromRecord then (u.alignMatches n).map fun r => Align.ofRecord r.1 r.2 else some a.align) = some a.align := by
    rw [kept]
    cases ho : a.align.fromRecord with
    | true => exact own ho
    | false => rfl
  unfold State.alignTake
  rw [want]
  dsimp only
  rw [phases, place]
  rfl

/-- The one alignment that waits takes effect at a boundary with no side latched (04 R78). -/
theorem alignEffect_takes {u : State} {a : AlignPending} {d : Option DelayStore} (pending : u.ports[n].alignPending = [a])
    (phases : u.ports[n].cfg.phasesOk a.align = true)
    (own : a.align.fromRecord = true → ((u.alignMatches n).map fun r => Align.ofRecord r.1 r.2) = some a.align)
    (follows : a.seq = none → u.ports[n].align.fromRecord = true) (shut : u.ports[n].sides = [])
    (free : u.ports[n].st = .idle ∨ u.ports[n].st = .scan ∧ u.ports[n].line = none)
    (place : u.delayPlace n (u.ports[n].delayBytes a.align) = some d) : u.alignEffect n = State.finishAll a.seq.toList 0 0 0
      { (u.modPort n fun p => { p with align := a.align, alignPending := [], caps := [] }) with
        cel.delays := u.cel.delays.set n d } := by
  have now : (u.ports[n].noSide && (u.ports[n].st = .idle || (u.ports[n].st = .scan && u.ports[n].line.isNone))) = true := by
    rcases free with h | ⟨h, hl⟩
    · simp [-Fin.getElem_fin, Port.noSide, h, shut]
    · simp [-Fin.getElem_fin, Port.noSide, h, shut, hl]
  have taken : u.alignEffect n = (u.modPort n fun p => { p with alignPending := [] }).alignTake n a := by
    unfold State.alignEffect State.alignNow
    rw [pending, each_one]
    exact if_pos now
  have port : (u.modPort n fun p => { p with alignPending := [] }).ports[n] = { u.ports[n] with alignPending := [] } :=
    ports_set_same _ _ _
  have record : (u.modPort n fun p => { p with alignPending := [] }).alignMatches n = u.alignMatches n :=
    alignMatches_same (by rw [port]) rfl
  rw [taken, alignTake_takes (d := d) (by rwa [port]) (by rwa [record]) (by rwa [port]), modPort_modPort]
  · rfl
  · rw [port]
    exact Eq.trans (delayPlace_same (by rfl) (by rfl) _) place

theorem alignSet_run (hn : portAt p 0 = some n) {u : State} {a : Align} (asked : u.alignAsked n p.params = some a)
    (secure : Bool) (seq : DWord) : alignSetSpec.run p secure seq u =
      (u.modPort n fun q => { q with alignPending := q.alignPending ++ [{ align := a, seq := some seq }] }).alignEffect n := by
  simp only [alignSetSpec, hn, asked]

theorem alignAsked_entered {sp : PacketSpec} (l : List Byte) : (s.entered sp p r).alignAsked n l = s.alignAsked n l := by
  have record : (s.entered sp p r).alignMatches n = s.alignMatches n := alignMatches_same (by rw [entered_ports]) entered_trig
  unfold State.alignAsked
  rw [record]

/-- An accepted ALIGN_SET keeps R89 and has a place for its delay store (04 R88 to R90). -/
theorem placed_of_alignSet (h : Accepts alignSetSpec p s r) (hn : portAt p 0 = some n) {a : Align}
    (asked : s.alignAsked n p.params = some a) : s.ports[n].cfg.phasesOk a = true
      ∧ ∃ d, s.delayPlace n (s.ports[n].delayBytes a) = some d := by
  have checked := h.checked
  have asked' : (s.advance p.tick).alignAsked n p.params = some a := asked
  simp only [alignSetSpec, hn, asked', badParam, noResource] at checked
  split at checked
  · cases checked
  · obtain ⟨phases, place⟩ := firstFail_cons.1 checked
    refine ⟨by simpa using phases, Option.ne_none_iff_exists'.1 fun full => ?_⟩
    have noPlace : (s.advance p.tick).delayPlace n ((s.advance p.tick).ports[n].delayBytes a) = none :=
      Eq.trans (delayPlace_same (by rfl) (by rfl) _) full
    have := (firstFail_cons.1 place).1
    rw [noPlace] at this
    cases this

/-- An ALIGN_SET waits on its port, and what follows is the port's boundary rule. -/
theorem alignSet_asks (h : Accepts alignSetSpec p s r) (hn : portAt p 0 = some n) {a : Align}
    (asked : s.alignAsked n p.params = some a) {P : State → Prop}
    (hP : ∀ u : State, u.ports = s.ports.set n { s.ports[n] with
        alignPending := s.ports[n].alignPending ++ [{ align := a, seq := some s.acceptSeq }] } →
      u.desk = (s.entered alignSetSpec p r).desk → u.cel = s.cel → u.sec = s.sec → u.trig = s.trig →
      P ((s.advance p.tick).settle (u.alignEffect n))) : Answers (.alignSet p) s P := by
  refine h.answers rfl (alignSet_run hn (by rwa [alignAsked_entered]) _ _)
    (hP _ ?_ rfl entered_cel entered_sec entered_trig)
  rw [State.modPort_ports, entered_ports]

/-- With a side latched or open an ALIGN_SET waits (04 R78). -/
theorem alignSet_waits (h : Accepts alignSetSpec p s r) (hn : portAt p 0 = some n) {a : Align}
    (asked : s.alignAsked n p.params = some a) (side : s.ports[n].sides ≠ []) : Answers (.alignSet p) s fun u =>
      (u.cmd.replies = s.cmd.replies ∧ ∀ k, k ≠ n → u.ports[k] = s.ports[k]) ∧ u.ports[n] = { s.ports[n] with
        alignPending := s.ports[n].alignPending ++ [{ align := a, seq := some s.acceptSeq }] } := by
  refine alignSet_asks h hn asked fun u ports desk _ _ _ => ?_
  have noSide : u.ports[n].noSide = false := by
    rw [ports, ports_set_same]
    simpa [-Fin.getElem_fin, Port.noSide] using side
  have waits : u.alignEffect n = u := by
    unfold State.alignEffect
    dsimp only
    rw [noSide]
    rfl
  rw [waits, settle_replies, settle_ports, ports, ports_set_same, cmd_of_desk desk]
  exact ⟨⟨entered_replies, fun k hk => ports_set_other hk _ _⟩, rfl⟩

/-- In IDLE with no side and nothing before it an ALIGN_SET takes effect at once, and is answered. -/
theorem alignSet_takes (h : Accepts alignSetSpec p s r) (hn : portAt p 0 = some n) {a : Align}
    (asked : s.alignAsked n p.params = some a) (shut : s.ports[n].sides = []) (idle : s.ports[n].st = .idle)
    (first : s.ports[n].alignPending = []) : Answers (.alignSet p) s fun u => RepliesOk alignSetSpec p r s u 0
      ∧ (∀ k, k ≠ n → u.ports[k] = s.ports[k]) ∧ u.ports[n] = { s.ports[n] with align := a, caps := [] } := by
  obtain ⟨phases, d, place⟩ := placed_of_alignSet h hn asked
  refine alignSet_asks h hn asked fun u ports desk cel sec trig => ?_
  have port : u.ports[n] = { s.ports[n] with alignPending := [{ align := a, seq := some s.acceptSeq }] } := by
    rw [ports, ports_set_same, first]
    rfl
  have record : u.alignMatches n = s.alignMatches n := alignMatches_same (by rw [port]) trig
  have takes := alignEffect_takes (u := u) (d := d) (by rw [port]) (by rw [port]; exact phases)
    (fun own => by rw [record]; exact alignAsked_own asked own) (fun none => by cases none) (by rw [port]; exact shut)
    (.inl (by rw [port]; exact idle)) (by rw [port]; exact (delayPlace_same cel sec _).trans place)
  rw [takes, settle_ports, finishAll_ports]
  refine ⟨h.repliesOk (by exact desk) 0, fun k hk => ?_, ?_⟩
  · rw [State.modPort_ports, ports_set_other hk, ports, ports_set_other hk]
  · rw [State.modPort_ports, ports_set_same, port]
    exact (by rw [← first] : ({ s.ports[n] with align := a, alignPending := [], caps := [] } : Port) = _)

theorem outputFormat_run (hn : portAt p 0 = some n) (secure : Bool) (seq : DWord) (u : State) :
    outputFormatSpec.run p secure seq u =
      (u.modPort n fun q => { q with fmtPending := some (OutFmt.parse n p.params) }).finishOk seq 0 := by
  simp only [outputFormatSpec, hn]

/-- OUTPUT_FORMAT waits for its boundary and is answered at once (04 R93). -/
theorem outputFormat_waits (h : Accepts outputFormatSpec p s r) (hn : portAt p 0 = some n) :
    Answers (.outputFormat p) s fun u => RepliesOk outputFormatSpec p r s u 0 ∧ s.ordered u = s.ordered
      { s.advance p.tick with
        ports := s.ports.set n { s.ports[n] with fmtPending := some (OutFmt.parse n p.params) } } := by
  have hrun := outputFormat_run hn r.secure s.acceptSeq (s.entered outputFormatSpec p r)
  exact h.answers rfl hrun ⟨h.repliesOk (by rfl) 0, h.ordered_port hrun⟩

end

/-- Settles O49: each port command is run from the state in which its packet has been entered, and changes its port alone. -/
theorem portCommandsTakeEffect : Obligations.PortCommandsTakeEffect := by
  intro p s r n
  refine ⟨portConfig_configures, patternLoad_loads, fun h hn => ⟨portArm_digital h hn, portArm_ready h hn, portArm_unready h hn⟩,
    fun h hn noGap => ⟨portDisarm_still h hn noGap, portDisarm_free h hn noGap, portDisarm_busy h hn noGap⟩,
    fun h hn => ⟨portReconfig_idle h hn, fun x first scan noGap => ?_, portReconfig_waits h hn, portReconfig_enters h hn⟩,
    fun h hn a asked => ⟨alignSet_waits h hn asked, alignSet_takes h hn asked⟩, outputFormat_waits⟩
  exact portReconfig_later h hn scan noGap (by rw [first]; rfl)

end Sys2Proof.Machine

namespace Sys2Proof.Machine

/-! ## What the units around a port's line engine leave of it -/

/-- A part of every port, and the clock. -/
def State.view {β : Type} (g : Port → β) (s : State) : Vector β 8 × Nat := (s.ports.map g, s.ticks)

section
variable {β : Type} {g : Port → β} {s u : State}

theorem port_of_view (h : u.view g = s.view g) (n : Fin 8) : g u.ports[n] = g s.ports[n] := by
  have := congrArg (fun v : Vector β 8 × Nat => v.1[n]) h
  simpa [State.view] using this

theorem ticks_of_view (h : u.view g = s.view g) : u.ticks = s.ticks := congrArg Prod.snd h

theorem view_of_scene (h : u.scene = s.scene) : u.view g = s.view g := by
  unfold State.view
  rw [ports_of_scene h, ticks_of_scene h]

/-- A change of a port that keeps a part of it keeps that part of every port. -/
theorem view_modPort (n : Fin 8) (f : Port → Port) (s : State) (h : g (f s.ports[n]) = g s.ports[n]) :
    (s.modPort n f).view g = s.view g := by
  have same : (s.ports.set n (f s.ports[n])).map g = s.ports.map g := by
    ext k hk
    by_cases e : (n : Nat) = k
    · subst e
      simpa using h
    · simp [e]
  exact congrArg (fun v => (v, s.ticks)) same

theorem view_modPort_of {n : Fin 8} {f : Port → Port} {v : State} (h : ∀ p, g (f p) = g p)
    (hv : v.view g = s.view g) : (v.modPort n f).view g = s.view g := (view_modPort n f v (h _)).trans hv

/-- What is seen of a part is seen of what the part tells. -/
theorem view_of_finer {γ : Type} (k : β → γ) (h : u.view g = s.view g) : (u.view fun p => k (g p)) = s.view fun p => k (g p) := by
  have := congrArg (fun v : Vector β 8 × Nat => (v.1.map k, v.2)) h
  simpa [State.view, Function.comp_def] using this

theorem view_portFlag (n : Fin 8) (bit : Nat) (s : State) (h : ∀ (p : Port) x, g { p with stat := x } = g p) :
    (s.portFlag n bit).view g = s.view g := by
  unfold State.portFlag
  dsimp only
  split
  · exact (view_of_scene (scene_event _ _ _ _ _ _ _ _)).trans (view_modPort n _ s (h _ _))
  · exact view_modPort n _ s (h _ _)

end

/-- What the trigger engine, the pattern generator, the receiver and the commands of a port make of it; what is not in it the
image path and the pace groups may change. -/
structure Engine where
  st : PortState
  cfg : PortCfg
  waits : PortWaits
  lvds : Lvds
  grid : Grid
  lastInstant : Option Nat
  line : Option LineRun
  waiting : List WaitLine
  inbuf : List RawLine
  busyTicks : Word
  lockLoss : Word

def Port.engine (p : Port) : Engine :=
  { st := p.st, cfg := p.cfg, waits := p.waits, lvds := p.lvds, grid := p.grid, lastInstant := p.lastInstant, line := p.line
    waiting := p.waiting, inbuf := p.inbuf, busyTicks := p.cnt.busyTicks, lockLoss := p.cnt.lockLoss }

/-- The engines of the ports, and the clock. -/
abbrev State.engines (s : State) := s.view Port.engine

theorem engines_modSide (n : Fin 8) (doc : BitVec 32) (f : Side → Side) (s : State) :
    (s.modPort n fun p => p.modSide doc f).engines = s.engines := view_modPort n _ s (by rfl)

theorem engines_portFlag (n : Fin 8) (bit : Nat) (s : State) : (s.portFlag n bit).engines = s.engines :=
  view_portFlag n bit s fun _ _ => rfl

theorem engines_flag_fire (n : Fin 8) (bit off : Nat) (s : State) :
    ((s.portFlag n bit).fire (.port n) off).engines = s.engines :=
  (view_of_scene (scene_fire _ _ _)).trans (engines_portFlag n bit s)

/-! ### Records and strips -/

theorem engines_flushRecords (n : Fin 8) (k : Nat) (s : State) : (s.flushRecords n k).engines = s.engines := by
  induction k generalizing s with
  | zero => rfl
  | succ k ih =>
    unfold State.flushRecords
    split
    · rfl
    · split
      · rfl
      · dsimp only
        split
        · rfl
        · refine (ih _).trans ((view_of_scene (scene_docEnds _ _)).trans ?_)
          exact view_modPort_of (fun _ => by rfl) (view_of_scene (scene_storeBytes _ _ _ _ _))

theorem engines_writeRecord (n : Fin 8) (typ ring : Nat) (dig : Bool) (cid body : List Byte) (keep : Bool) (s : State) :
    (s.writeRecord n typ ring dig cid body keep).engines = s.engines :=
  (engines_flushRecords n _ _).trans (view_modPort_of (fun _ => by rfl) rfl)

theorem engines_sideRecord (n : Fin 8) (d : Side) (typ : Nat) (body : List Byte) (s : State) :
    (s.sideRecord n d typ body).engines = s.engines :=
  (engines_modSide n _ _ _).trans (engines_writeRecord n _ _ _ _ _ _ s)

theorem engines_closeStrip (n : Fin 8) (doc : BitVec 32) (s : State) : (s.closeStrip n doc).engines = s.engines := by
  unfold State.closeStrip
  split
  · rfl
  · split
    · rfl
    · refine view_modPort_of (fun _ => by rfl) ?_
      refine Eq.trans (engines_sideRecord n _ _ _ _) ?_
      exact engines_sideRecord n _ _ _ s

/-! ### The end of a side -/

theorem engines_sideHeld (n : Fin 8) (doc : BitVec 32) (s : State) : (s.sideHeld n doc).engines = s.engines := by
  unfold State.sideHeld
  split
  · split
    · exact engines_modSide n _ _ s
    · rfl
  · rfl

theorem engines_sideGone (n : Fin 8) (cid : List Byte) (d : Side) (s : State) : (s.sideGone n cid d).engines = s.engines := by
  unfold State.sideGone
  split
  · exact view_modPort n _ s (by rfl)
  · exact view_of_scene (scene_docEnds _ _)

theorem engines_closeSide (n : Fin 8) (doc : BitVec 32) (s : State) : (s.closeSide n doc).engines = s.engines := by
  have start : ((s.closeStrip n doc).sideHeld n doc).engines = s.engines :=
    (engines_sideHeld n doc _).trans (engines_closeStrip n doc s)
  unfold State.closeSide
  dsimp only
  split
  · exact start
  · refine (view_of_scene (scene_sendGate _)).trans ((engines_sideGone n _ _ _).trans ?_)
    refine (when_keeps (g := State.engines) (view_of_scene (scene_sendReject _ _ _ _)) _).trans ?_
    refine Eq.trans (view_of_scene ((scene_fire _ _ _).trans (scene_backlogCheck _))) ?_
    refine view_modPort_of (fun _ => by rfl) ?_
    exact Eq.trans (engines_sideRecord n _ _ _ _) start

theorem scene_takeFault (s : State) : s.takeFault.scene = s.scene := rfl

theorem engines_delayReadFailed (n : Fin 8) (a : Nat) (s : State) : (s.delayReadFailed n a).engines = s.engines :=
  view_of_scene ((scene_deviceEvent _ _ _ _ _ _ _ _).trans ((scene_cellarFail _ _).trans (scene_takeFault s)))

theorem engines_missLine (n : Fin 8) (d : Side) (s : State) : (s.missLine n d).engines = s.engines :=
  view_modPort_of (fun _ => by rfl) (engines_closeStrip n d.doc s)

theorem engines_releaseLine (n : Fin 8) (d : Side) (asRead : Option (List (List Nat))) (s : State) :
    (s.releaseLine n d asRead).engines = s.engines := by
  have strip (b : Bool) (u : State) : (u.when b fun s => s.closeStrip n d.doc).engines = u.engines :=
    when_keeps (g := State.engines) (engines_closeStrip n d.doc u) b
  unfold State.releaseLine
  dsimp only
  split
  · rfl
  · split
    · exact engines_missLine n d s
    · refine (strip _ _).trans ((when_keeps (g := State.engines) (engines_delayReadFailed n _ _) _).trans ?_)
      exact view_modPort_of (fun _ => by rfl) (strip _ s)

theorem engines_releaseUpTo (n : Fin 8) (doc : BitVec 32) (k : Nat) (s : State) :
    (s.releaseUpTo n doc k).engines = s.engines := by
  induction k generalizing s with
  | zero => rfl
  | succ k ih =>
    unfold State.releaseUpTo
    split
    · rfl
    · split
      · exact (ih _).trans (engines_releaseLine n _ _ s)
      · rfl

theorem engines_closeNow (n : Fin 8) (doc : BitVec 32) (f : Side → Side) (s : State) :
    (s.closeNow n doc f).engines = s.engines := by
  have start := engines_modSide n doc f s
  unfold State.closeNow
  dsimp only
  split
  · exact start
  · split
    · refine (engines_closeSide n doc _).trans ((engines_modSide n _ _ _).trans ?_)
      exact (engines_releaseUpTo n doc _ _).trans start
    · exact (view_of_scene (scene_docEnds _ _)).trans (view_modPort_of (fun _ => by rfl) start)

theorem engines_closeAll (n : Fin 8) (f : Side → Side) (s : State) : (s.closeAll n f).engines = s.engines :=
  each_keeps (g := State.engines) (fun doc u => engines_closeNow n doc f u) _ s

/-! ### Switchbacks and splices (05 R117 to R125) -/

theorem scene_modGroup (g : Fin 4) (f : PaceGroup → PaceGroup) (s : State) : (s.modGroup g f).scene = s.scene := rfl

theorem scene_setEvt_pace (bit : Nat) (s : State) : (s.setEvt .pace bit).scene = s.scene := rfl

theorem engines_endHold (g : Fin 4) (s : State) : (s.endHold g).engines = s.engines := by
  unfold State.endHold
  split
  · rfl
  · exact each_keeps (g := State.engines) (fun (m : Seam) u => engines_modSide m.port m.doc _ u) _ s

theorem engines_sbAgain (g : Fin 4) (s : State) : (s.sbAgain g).engines = s.engines :=
  (view_of_scene (scene_stopGroup _ _)).trans (engines_endHold g s)

theorem engines_switchback (g : Fin 4) (cause : Nat) (ax : Option (Fin 12 × Bool)) (s : State) :
    (s.switchback g cause ax).engines = s.engines := by
  unfold State.switchback
  dsimp only
  split
  · rfl
  · split
    · rfl
    · split
      · split
        · rfl
        · split
          · rfl
          · split
            · exact engines_sbAgain g _
            · rfl
      · refine (view_of_scene ((scene_sendGate _).trans ((scene_stopGroup _ _).trans (scene_fire _ _ _)))).trans ?_
        rfl

theorem engines_spliceRecord (n : Fin 8) (doc : BitVec 32) (b : Switchback) (m : Seam) (resumeNs result : Nat) (best : Int)
    (errs : List Nat) (texture nb : Nat) (s : State) :
    (s.spliceRecord n doc b m resumeNs result best errs texture nb).engines = s.engines := by
  have start := engines_modSide n doc (fun d => { d with splices := d.splices + 1, pace.seams := d.pace.seams + 1 }) s
  unfold State.spliceRecord
  dsimp only
  split
  · exact start
  · exact (engines_sideRecord n _ _ _ _).trans start

theorem engines_commitSeam (g : Fin 4) (b : Switchback) (m : Seam) (c : SpliceCheck) (s : State) :
    (s.commitSeam g b m c).engines = s.engines := by
  unfold State.commitSeam
  dsimp only
  split
  · rfl
  · generalize hu : State.when _ _ _ = u
    have start : u.engines = s.engines := by
      rw [← hu]
      refine (when_keeps (g := State.engines) ?_ _).trans (engines_spliceRecord _ _ _ _ _ _ _ _ _ _ s)
      refine (engines_modSide _ _ _ _).trans ((view_of_scene (scene_modGroup _ _ _)).trans ?_)
      refine (view_of_scene ((scene_fire _ _ _).trans (scene_setEvt_pace _ _))).trans ?_
      exact view_of_scene (scene_event _ _ _ _ _ _ _ _)
    split
    · exact (engines_closeNow _ _ _ _).trans (view_modPort_of (fun _ => by rfl) start)
    · exact start

theorem engines_applyVerdict (g : Fin 4) (b : Switchback) (checks : List (Seam × SpliceCheck)) (s : State) :
    (s.applyVerdict g b checks).engines = s.engines := by
  unfold State.applyVerdict
  dsimp only
  generalize hu : State.endHold g _ = u
  have start : u.engines = s.engines := by
    rw [← hu]
    exact (engines_endHold g _).trans (each_keeps (g := State.engines) (fun _ _ => by rfl) checks s)
  split
  · exact (engines_sbAgain g _).trans start
  · refine (view_of_scene (scene_sendGate _)).trans ?_
    exact (each_keeps (g := State.engines) (fun c u => engines_commitSeam g b c.1 c.2 u) checks u).trans start

theorem engines_spliceVerdict (g : Fin 4) (s : State) : (s.spliceVerdict g).engines = s.engines := by
  unfold State.spliceVerdict
  split
  · rfl
  · split
    · exact engines_applyVerdict g _ _ s
    · rfl

theorem engines_verdictOf (n : Fin 8) (s : State) : (s.verdictOf n).engines = s.engines := by
  unfold State.verdictOf
  split
  · exact engines_spliceVerdict _ s
  · rfl

/-! ### The first and the last line of a side, late and lost lines -/

theorem engines_loseLine (n : Fin 8) (doc : BitVec 32) (i : Int) (s : State) : (s.loseLine n doc i).engines = s.engines := by
  have reject (u : State) : (u.modPort n fun p => p.modSide doc fun d => d.rejected 1).engines = u.engines :=
    engines_modSide n doc _ u
  unfold State.loseLine
  dsimp only
  generalize hu : State.fire _ _ _ = u
  have start : u.engines = s.engines := by
    rw [← hu]
    exact (engines_flag_fire n 1 5 _).trans (engines_modSide n doc _ s)
  split
  · exact (reject u).trans start
  · split
    · split
      · split
        · exact (engines_switchback _ 2 none u).trans start
        · exact (engines_switchback _ 2 none u).trans start
      · exact (reject u).trans start
    · exact (reject u).trans start

theorem engines_lostFor (n : Fin 8) (k : Nat) (d : Option Side) (s : State) : (s.lostFor n k d).engines = s.engines := by
  unfold State.lostFor
  split
  · exact engines_loseLine n _ _ s
  · rfl

theorem engines_overrunNow (n : Fin 8) (s : State) : (s.overrunNow n).engines = s.engines := by
  unfold State.overrunNow
  refine (when_keeps (g := State.engines) (by rfl) _).trans ((engines_flag_fire n 0 4 _).trans ?_)
  exact view_modPort n _ s (by rfl)

theorem engines_openSideNow (n : Fin 8) (doc : BitVec 32) (instant : Nat) (s : State) :
    (s.openSideNow n doc instant).engines = s.engines := by
  unfold State.openSideNow
  dsimp only
  generalize hu : State.modPort n _ s = u
  have start : u.engines = s.engines := by
    rw [← hu]
    exact view_modPort n _ s (by rfl)
  split
  · exact start
  · exact (view_of_scene (scene_fire _ _ _)).trans ((engines_sideRecord n _ _ _ u).trans start)

theorem engines_openSide (n : Fin 8) (doc : BitVec 32) (instant : Nat) (s : State) :
    (s.openSide n doc instant).engines = s.engines := by
  unfold State.openSide
  split
  · exact engines_modSide n doc _ s
  · exact engines_openSideNow n doc instant s

theorem engines_longSide (n : Fin 8) (k : Nat) (s : State) : (s.longSide n k).engines = s.engines := by
  unfold State.longSide
  dsimp only
  split
  · rfl
  · exact (engines_portFlag n 5 _).trans (engines_modSide n _ _ s)

end Sys2Proof.Machine

namespace Sys2Proof.Machine

/-! ## Count edges, triggers and starts of lines (02 R37 to R39) -/

section
variable {s u : State} {n : Fin 8} {t : Nat}

/-- An activation that is due is taken off the list. -/
theorem takeAct_due {x : Activation} {num inst : Nat}
    (due : (u.evf.acts.find? fun x => x.task == { num, inst } && decide (x.tick ≤ u.ticks)) = some x) :
    u.takeAct num inst = some (x, { u with evf.acts := u.evf.acts.erase x }) := by
  unfold State.takeAct
  rw [due]

/-- A port in SCAN takes its encoder's count edges, while the encoder's position is valid. -/
theorem encCount_takes (live : s.Live) {x : Activation}
    (due : (s.evf.acts.find? fun x => x.task == { num := 13 * 64 + 2, inst := n.val } &&
      decide (x.tick ≤ (s.advance t).ticks)) = some x)
    (scan : s.ports[n].st = .scan) (valid : s.encs[s.ports[n].cfg.encoder].posInvalid = false) :
    Answers (.encCount t n) s fun u => s.calm u = { s.advance t with
      evf.acts := s.evf.acts.erase x, ports := s.ports.set n (x.edges.foldl Port.takeEdge s.ports[n]) } := by
  have taken : (s.advance t).encCount n = State.modPort n (fun p => x.edges.foldl Port.takeEdge p)
      { s.advance t with evf.acts := s.evf.acts.erase x } := by
    unfold State.encCount
    rw [takeAct_due (u := s.advance t) due]
    have takes : (decide (s.ports[n].st = .scan) && !s.encs[s.ports[n].cfg.encoder].posInvalid) = true := by
      rw [scan, valid]
      rfl
    exact if_pos takes
  exact ⟨_, rfl, act_calm_eq live (by rw [taken]; rfl) rfl⟩

theorem canStart_of_engine {p q : Port} (h : p.engine = q.engine) : p.canStart = q.canStart := by
  have line : p.line = q.line := congrArg Engine.line h
  have inbuf : p.inbuf = q.inbuf := congrArg Engine.inbuf h
  have cfg : p.cfg = q.cfg := congrArg Engine.cfg h
  unfold Port.canStart Port.hasRoom Port.inbufUsed
  rw [line, inbuf, cfg]

/-- A line starts now; the rest of the port's engine goes on as it was. -/
theorem startLine_starts (n : Fin 8) (w : WaitLine) (u : State) : ∃ v, v.k = w.k ∧ v.start = u.ticks ∧ v.instant = w.instant
    ∧ (u.startLine n w).ports[n].engine = { u.ports[n].engine with line := some v } := by
  unfold State.startLine
  dsimp only
  generalize hr : (LineRun.mk _ _ _ _ _ _ _ _ _ _ _ _) = r
  generalize hm : State.modPort n _ u = m
  have port : m.ports[n].engine = { u.ports[n].engine with line := some r } := by
    rw [← hm, State.modPort_ports, ports_set_same]
    rfl
  have begun (b : Bool) : ((m.when b fun s => s.overrunNow n).passLine n).engines = m.engines :=
    (view_of_scene (scene_passLine _ _)).trans (when_keeps (g := State.engines) (engines_overrunNow n m) b)
  refine ⟨r, by rw [← hr], by rw [← hr], by rw [← hr], Eq.trans ?_ port⟩
  split
  · exact port_of_view ((engines_lostFor n _ _ _).trans (begun _)) n
  · exact port_of_view ((when_keeps (g := State.engines) (engines_lostFor n _ _ _) _).trans (begun _)) n

/-- The port as its next grid line is triggered at an instant. -/
def Port.triggered (instant : Nat) (p : Port) : Port :=
  { p with grid.next := p.grid.next + 1, grid.sched := p.grid.sched.filter fun e => e.1 ≠ p.grid.next
           lastInstant := some instant, lampFrom := some instant }

/-- A line that is due is triggered: what else its trigger does leaves the engines as they are, up to its start or its wait. -/
theorem triggerLine_form {instant : Nat} (scan : u.ports[n].st = .scan)
    (due : (u.ports[n].grid.sched.find? fun e => e.1 = u.ports[n].grid.next && decide (e.2 ≤ u.ticks)) =
      some (u.ports[n].grid.next, instant)) :
    ∃ (v : State) (w : WaitLine), v.engines = (u.modPort n (Port.triggered instant)).engines ∧ w.k = u.ports[n].grid.next
      ∧ w.instant = (if v.ports[n].waiting.length < 16 then some instant else none)
      ∧ u.triggerLine n = (if v.ports[n].waiting.isEmpty && v.ports[n].canStart then v.startLine n w
        else v.modPort n fun p => { p with waiting := p.waiting ++ [w] }).verdictOf n := by
  unfold State.triggerLine
  dsimp only
  rw [due]
  dsimp only
  rw [if_neg (not_not.2 scan)]
  refine ⟨_, _, ?_, ?_, ?_, rfl⟩
  · refine (view_of_scene (scene_fire _ _ _)).trans ((engines_longSide n _ _).trans ?_)
    refine Eq.trans (view_of_scene (scene_noteResume _ _ _ _)) ?_
    split
    · exact engines_openSide n _ _ _
    · rfl
  · rfl
  · rfl

/-- LINE_TRIGGER: the next line of the grid starts at its instant if the generator is free and no line waits before it; else it
waits (02 R38, R39). -/
theorem lineTrigger_triggers (live : s.Live) {instant : Nat} (scan : s.ports[n].st = .scan)
    (due : (s.ports[n].grid.sched.find? fun e => e.1 = s.ports[n].grid.next && decide (e.2 ≤ (s.advance t).ticks)) =
      some (s.ports[n].grid.next, instant)) :
    Answers (.lineTrigger t n) s fun u => u.ports[n].grid.next = s.ports[n].grid.next + 1
      ∧ u.ports[n].lastInstant = some instant
      ∧ if s.ports[n].waiting = [] ∧ s.ports[n].canStart = true then
          ∃ v, u.ports[n].line = some v ∧ v.k = s.ports[n].grid.next ∧ v.start = (s.advance t).ticks ∧ v.instant = some instant
        else u.ports[n].line = s.ports[n].line ∧ u.ports[n].waiting.length = s.ports[n].waiting.length + 1 := by
  obtain ⟨v, w, hv, hk, hi, form⟩ := triggerLine_form (u := s.advance t) scan due
  refine answers_of_settled live rfl ?_
  rw [settle_ports, form]
  have triggered : v.ports[n].engine = (s.ports[n].triggered instant).engine :=
    (port_of_view hv n).trans (by rw [State.modPort_ports, ports_set_same]; rfl)
  have ticks : v.ticks = (s.advance t).ticks := (ticks_of_view hv).trans rfl
  have waiting : v.ports[n].waiting = s.ports[n].waiting := congrArg Engine.waiting triggered
  have canStart : v.ports[n].canStart = s.ports[n].canStart :=
    (canStart_of_engine triggered).trans rfl
  rw [waiting] at hi
  rw [waiting, canStart]
  by_cases free : s.ports[n].waiting = [] ∧ s.ports[n].canStart = true
  · obtain ⟨r, rk, rt, ri, started⟩ := startLine_starts n w v
    have engine := (port_of_view (engines_verdictOf n (v.startLine n w)) n).trans started
    rw [triggered] at engine
    rw [free.1, List.length_nil, if_pos (by decide)] at hi
    rw [if_pos free, free.1, free.2, List.isEmpty_nil, Bool.and_self, if_pos rfl]
    exact ⟨congrArg (fun e => e.grid.next) engine, congrArg Engine.lastInstant engine, r, congrArg Engine.line engine,
      rk.trans hk, rt.trans ticks, ri.trans hi⟩
  · have waits : ¬ (s.ports[n].waiting.isEmpty && s.ports[n].canStart) = true := by
      simpa [-Fin.getElem_fin] using free
    have engine := port_of_view (engines_verdictOf n (v.modPort n fun p => { p with waiting := p.waiting ++ [w] })) n
    rw [State.modPort_ports, ports_set_same] at engine
    rw [if_neg free, if_neg waits]
    refine ⟨(congrArg (fun e => e.grid.next) engine).trans (congrArg (fun e => e.grid.next) triggered),
      (congrArg Engine.lastInstant engine).trans (congrArg Engine.lastInstant triggered),
      (congrArg Engine.line engine).trans (congrArg Engine.line triggered), ?_⟩
    refine (congrArg (fun e => e.waiting.length) engine).trans (List.length_append.trans ?_)
    rw [waiting]
    rfl

/-- With an empty input buffer the pipeline has nothing to run: only captures that no side needs go. -/
theorem engines_drainPort_empty (empty : u.ports[n].inbuf = []) : (u.drainPort n).engines = u.engines := by
  unfold State.drainPort
  dsimp only
  rw [State.modPort_ports, ports_set_same, empty]
  exact view_modPort n _ u (by rfl)

/-- LATE_LINE_START: the oldest waiting line starts once it can (02 R39). -/
theorem lateLineStart_starts (live : s.Live) {w : WaitLine} {rest : List WaitLine} (waiting : s.ports[n].waiting = w :: rest)
    (empty : s.ports[n].inbuf = []) (scan : s.ports[n].st = .scan) (free : s.ports[n].canStart = true) :
    Answers (.lateLineStart t n) s fun u => u.ports[n].waiting = rest
      ∧ ∃ v, u.ports[n].line = some v ∧ v.k = w.k ∧ v.start = (s.advance t).ticks ∧ v.instant = w.instant := by
  have drained := engines_drainPort_empty (u := s.advance t) (n := n) empty
  have engine : ((s.advance t).drainPort n).ports[n].engine = s.ports[n].engine := port_of_view drained n
  have st : ((s.advance t).drainPort n).ports[n].st = .scan := (congrArg Engine.st engine).trans scan
  have first : ((s.advance t).drainPort n).ports[n].waiting = w :: rest := (congrArg Engine.waiting engine).trans waiting
  have starts : (s.advance t).lateStart n =
      (((s.advance t).drainPort n).modPort n fun p => { p with waiting := rest }).startLine n w := by
    have can : (decide (((s.advance t).drainPort n).ports[n].st = .scan) && ((s.advance t).drainPort n).ports[n].canStart) = true := by
      rw [canStart_of_engine engine, free, st]
      rfl
    unfold State.lateStart
    dsimp only
    rw [first]
    exact if_pos can
  obtain ⟨v, vk, vt, vi, started⟩ := startLine_starts n w
    (((s.advance t).drainPort n).modPort n fun p => { p with waiting := rest })
  rw [State.modPort_ports, ports_set_same] at started
  have ticks : ((s.advance t).drainPort n).ticks = (s.advance t).ticks := ticks_of_view drained
  refine answers_of_settled live rfl ?_
  rw [settle_ports, starts]
  exact ⟨congrArg Engine.waiting started, v, congrArg Engine.line started, vk, vt.trans ticks, vi⟩

/-! ## Document edges (02 R46, R47) -/

/-- An edge that does not fit is counted; the sides stay as they were. -/
theorem edgeError_port (n : Fin 8) (u : State) : (u.edgeError n).ports[n].sides = u.ports[n].sides
    ∧ (u.edgeError n).ports[n].cnt.edgeErr = satInc u.ports[n].cnt.edgeErr := by
  unfold State.edgeError
  rw [fire_ports, portFlag_ports, ports_set_same, State.modPort_ports, ports_set_same]
  exact ⟨rfl, rfl⟩

/-- What DOC_LEAD and DOC_TRAIL do alike: the edge is latched at its task's instant, on a port that takes edges. -/
def State.documentEdge (num : Nat) (edge : Fin 8 → Int → State → State) (n : Fin 8) (s : State) : State :=
  match s.takeAct num n.val with
  | none => s
  | some (x, s) =>
    let s := s.uncover n
    if s.edgesIgnored n || !s.fittedBlock (.port n) then s
    else if !s.ports[n].takesEdges then s.edgeError n
    else edge n (s.encs[s.ports[n].cfg.encoder].posAt x.latch) s

theorem docLead_eq (n : Fin 8) (s : State) : s.docLead n = s.documentEdge (13 * 64 + 0) State.leadEdge n := rfl

theorem docTrail_eq (n : Fin 8) (s : State) : s.docTrail n = s.documentEdge (13 * 64 + 1) State.trailEdge n := rfl

/-- The state in which a document edge is taken: its activation is gone, and what was open at the join is no more. -/
def State.edgeTaken (n : Fin 8) (x : Activation) (s : State) : State :=
  State.uncover n { s with evf.acts := s.evf.acts.erase x }

section
variable {num : Nat} {edge : Fin 8 → Int → State → State} {x : Activation}
  (due : (u.evf.acts.find? fun x => x.task == { num, inst := n.val } && decide (x.tick ≤ u.ticks)) = some x)
  (seen : u.edgesIgnored n = false) (fitted : u.fittedBlock (.port n) = true)
include due seen fitted

theorem documentEdge_takes : u.documentEdge num edge n =
    if u.ports[n].takesEdges then edge n (u.encs[u.ports[n].cfg.encoder].posAt x.latch) (u.edgeTaken n x)
    else (u.edgeTaken n x).edgeError n := by
  have taken : ¬ (u.edgesIgnored n || !u.fittedBlock (.port n)) = true := by simp [seen, fitted]
  unfold State.documentEdge
  rw [takeAct_due due]
  refine Eq.trans (if_neg taken) ?_
  cases edges : u.ports[n].takesEdges with
  | true => exact if_neg (by simpa using edges : ¬ (!u.ports[n].takesEdges) = true)
  | false => exact if_pos (by simpa using edges : (!u.ports[n].takesEdges) = true)

/-- A port that takes no edges counts one as an error (log entry 115). -/
theorem documentEdge_refused (closed : u.ports[n].takesEdges = false) :
    (u.documentEdge num edge n).ports[n].sides = u.ports[n].sides
      ∧ (u.documentEdge num edge n).ports[n].cnt.edgeErr = satInc u.ports[n].cnt.edgeErr := by
  rw [documentEdge_takes due seen fitted, closed]
  exact edgeError_port n _

end

/-- The document that the next leading edge opens: the DOC_BEGIN before the slot queue (log entry 31). -/
def Port.nextDoc (p : Port) : Option (BitVec 32) :=
  match p.waits.docBegin with
  | some d => some d
  | none => p.waits.slots.head?

/-- A side has just been latched behind so many others: no line of it is triggered, and its trailing edge is to come. -/
def Port.Latched (k : Nat) (doc : BitVec 32) (lead : Int) (p : Port) : Prop :=
  p.sides.length = k + 1 ∧ ∃ e, p.sides.getLast? = some e ∧ e.doc = doc ∧ e.opened = false ∧ e.last = none ∧ e.lead = lead

theorem latched_modSide {k : Nat} {doc : BitVec 32} {lead : Int} {p : Port} (h : p.Latched k doc lead) {f : Side → Side}
    (hf : ∀ d, (f d).doc = d.doc ∧ (f d).opened = d.opened ∧ (f d).last = d.last ∧ (f d).lead = d.lead) :
    (p.modSide doc f).Latched k doc lead := by
  obtain ⟨length, e, last, hd, ho, hl, he⟩ := h
  refine ⟨by simpa [Port.modSide] using length, f e, ?_, (hf e).1.trans hd, (hf e).2.1.trans ho, (hf e).2.2.1.trans hl,
    (hf e).2.2.2.trans he⟩
  simp [Port.modSide, List.getLast?_map, last, hd]

/-- What is found out about a side as it is latched leaves it latched. -/
theorem latched_reported {k : Nat} {doc : BitVec 32} {lead : Int} (h : u.ports[n].Latched k doc lead) (reason : Nat) (b : Bool) :
    Port.Latched k doc lead (u.when b fun s => ((s.modPort n fun p => p.modSide doc fun d =>
      { d.rejected reason with lineLoss := true }).portFlag n 1).fire (.port n) 5).ports[n] := by
  cases b with
  | false => exact h
  | true =>
    unfold State.when
    rw [if_pos rfl, fire_ports, portFlag_ports, ports_set_same, State.modPort_ports, ports_set_same]
    exact latched_modSide h fun d => ⟨rfl, rfl, rfl, rfl⟩

theorem latchSide_latched (n : Fin 8) (doc : BitVec 32) (lead : Int) (first : Nat) (b : Bool) (u : State) :
    Port.Latched u.ports[n].sides.length doc lead (u.latchSide n doc lead first b).ports[n] := by
  unfold State.latchSide
  refine latched_reported (latched_reported ?_ 4 _) 1 b
  rw [State.modPort_ports, ports_set_same]
  exact ⟨List.length_append, _, List.getLast?_concat, rfl, rfl, rfl, rfl⟩

/-- A leading edge with a document to open latches its side. -/
theorem leadEdge_latches {d : BitVec 32} (next : u.ports[n].nextDoc = some d)
    (told : ∀ e ∈ u.ports[n].sides, e.last.isSome = true) (room : u.quota n ≠ 0) (runs : u.batchRuns = true) (lead : Int) :
    Port.Latched u.ports[n].sides.length d lead (u.leadEdge n lead).ports[n] := by
  have fits : ¬ (((u.ports[n].sides.any fun d => d.last.isNone) || u.quota n = 0 || !u.batchRuns) = true) := by
    simpa [room, runs, Option.isSome_iff_ne_none] using told
  have kept (doc : BitVec 32) (first : Nat) (b : Bool) : Port.Latched u.ports[n].sides.length doc lead (State.latchSide n doc lead
      first b (u.modPort n fun p => if p.waits.docBegin.isSome then { p with waits.docBegin := none }
        else { p with waits.slots := p.waits.slots.tail })).ports[n] := by
    have latched := latchSide_latched n doc lead first b (u.modPort n fun p =>
      if p.waits.docBegin.isSome then { p with waits.docBegin := none } else { p with waits.slots := p.waits.slots.tail })
    rwa [State.modPort_ports, ports_set_same, apply_ite Port.sides, ite_self] at latched
  unfold Port.nextDoc at next
  unfold State.leadEdge
  dsimp only
  cases begun : u.ports[n].waits.docBegin with
  | some b =>
    rw [begun] at next
    cases next
    dsimp only
    rw [if_neg fits]
    exact kept d _ _
  | none =>
    rw [begun] at next
    dsimp only at next ⊢
    rw [next]
    dsimp only
    rw [if_neg fits]
    exact kept d _ _

/-- Without a document to open a leading edge is an error. -/
theorem leadEdge_without_doc (next : u.ports[n].nextDoc = none) (lead : Int) : u.leadEdge n lead = u.edgeError n := by
  unfold Port.nextDoc at next
  unfold State.leadEdge
  dsimp only
  cases begun : u.ports[n].waits.docBegin with
  | some b =>
    rw [begun] at next
    cases next
  | none =>
    rw [begun] at next
    dsimp only at next ⊢
    rw [next]

/-- Where every side has its trailing edge another is an error. -/
theorem trailEdge_without_side (told : ∀ e ∈ u.ports[n].sides, e.last.isSome = true) (trail : Int) :
    u.trailEdge n trail = u.edgeError n := by
  have noSide : (u.ports[n].sides.find? fun d => d.last.isNone) = none :=
    List.find?_eq_none.2 fun e he => by simpa [Option.isSome_iff_ne_none] using told e he
  unfold State.trailEdge
  dsimp only
  rw [noSide]

/-- The side after its trailing edge: its last line, where it is none beyond `max_lines` (02 R47). -/
def Side.trailed (trail : Int) (last longest : Nat) (d : Side) : Side :=
  { d with trail := some trail, last := if longest < last then none else some last }

theorem sideOf_modSide {doc : BitVec 32} {d : Side} (h : u.sideOf n doc = some d) {f : Side → Side}
    (hf : ∀ d, (f d).doc = d.doc) : (u.modPort n fun p => p.modSide doc f).sideOf n doc = some (f d) := by
  have hd : d.doc = doc := by simpa using List.find?_some h
  have same : (fun x : Side => decide ((if x.doc = doc then f x else x).doc = doc)) = fun x => decide (x.doc = doc) := by
    funext x
    split
    · rw [hf]
    · rfl
  unfold State.sideOf at h ⊢
  rw [State.modPort_ports, ports_set_same]
  unfold Port.modSide
  rw [List.find?_map]
  unfold Function.comp
  rw [same, h]
  simp [hd]

/-- A side that has not opened does not close. -/
theorem closeIfDone_unopened {doc : BitVec 32} {d : Side} (h : u.sideOf n doc = some d) (unopened : d.opened = false) :
    u.closeIfDone n doc = u := by
  unfold State.closeIfDone
  rw [h]
  dsimp only
  rw [unopened]
  split <;> rfl

/-- A trailing edge fixes the last line of the side that awaits it; a side of which no line is triggered does not close yet. -/
theorem trailEdge_fixes {d : Side} (waits : (u.ports[n].sides.find? fun d => d.last.isNone) = some d)
    (first : u.sideOf n d.doc = some d) (unopened : d.opened = false) (trail : Int) :
    ∃ last, d.first ≤ last ∧ u.trailEdge n trail = u.modPort n fun p =>
      p.modSide d.doc (Side.trailed trail last (d.first + u.ports[n].cfg.maxLines - 1)) := by
  unfold State.trailEdge
  dsimp only
  rw [waits]
  dsimp only
  rw [unopened]
  refine ⟨_, ?_, closeIfDone_unopened (sideOf_modSide first fun _ => rfl) unopened⟩
  exact (le_max_right _ _).trans (le_max_left _ _)

/-- DOC_TRAIL: the side that awaits its trailing edge has it, with a last line that is none before its first and none beyond
`max_lines` (02 R47). -/
theorem docTrail_fixes (live : s.Live) {x : Activation}
    (due : (s.evf.acts.find? fun x => x.task == { num := 13 * 64 + 1, inst := n.val } &&
      decide (x.tick ≤ (s.advance t).ticks)) = some x)
    (seen : s.edgesIgnored n = false) (fitted : s.fittedBlock (.port n) = true) (takes : s.ports[n].takesEdges = true) {d : Side}
    (waits : (s.ports[n].sides.find? fun d => d.last.isNone) = some d) (first : s.sideOf n d.doc = some d)
    (unopened : d.opened = false) (lines : 0 < s.ports[n].cfg.maxLines) : Answers (.docTrail t n) s fun u =>
      u.ports[n].sides.length = s.ports[n].sides.length
        ∧ ∃ e, u.sideOf n d.doc = some e ∧ e.trail = some (s.encs[s.ports[n].cfg.encoder].posAt x.latch) ∧ e.first = d.first
          ∧ ∀ last, e.last = some last → d.first ≤ last ∧ last < d.first + s.ports[n].cfg.maxLines := by
  have taken := (docTrail_eq n (s.advance t)).trans (documentEdge_takes (u := s.advance t) due seen fitted)
  rw [show (s.advance t).ports[n].takesEdges = true from takes, if_pos rfl] at taken
  obtain ⟨last, low, fixed⟩ := trailEdge_fixes (u := (s.advance t).edgeTaken n x) waits first unopened
    (s.encs[s.ports[n].cfg.encoder].posAt x.latch)
  have side := sideOf_modSide (u := (s.advance t).edgeTaken n x) first
    (f := Side.trailed (s.encs[s.ports[n].cfg.encoder].posAt x.latch) last (d.first + s.ports[n].cfg.maxLines - 1)) fun _ => rfl
  refine answers_of_settled live rfl ?_
  rw [settle_ports, taken]
  refine ⟨?_, d.trailed (s.encs[s.ports[n].cfg.encoder].posAt x.latch) last (d.first + s.ports[n].cfg.maxLines - 1), ?_, rfl, rfl,
    fun l hl => ?_⟩
  · refine (congrArg (fun v : State => v.ports[n].sides.length) fixed).trans ?_
    rw [State.modPort_ports, ports_set_same]
    exact List.length_map ..
  · refine Eq.trans ?_ ((congrArg (fun v : State => v.sideOf n d.doc) fixed).trans side)
    unfold State.sideOf
    rw [settle_ports]
    rfl
  · unfold Side.trailed at hl
    dsimp only at hl
    split at hl
    · cases hl
    · cases hl
      omega

/-- DOC_LEAD with a document to open and its predecessor's trailing edge latched: a new side (02 R46). -/
theorem docLead_latches (live : s.Live) {x : Activation}
    (due : (s.evf.acts.find? fun x => x.task == { num := 13 * 64 + 0, inst := n.val } &&
      decide (x.tick ≤ (s.advance t).ticks)) = some x)
    (seen : s.edgesIgnored n = false) (fitted : s.fittedBlock (.port n) = true) (takes : s.ports[n].takesEdges = true)
    {d : BitVec 32} (next : s.ports[n].nextDoc = some d) (told : ∀ e ∈ s.ports[n].sides, e.last.isSome = true)
    (room : s.quota n ≠ 0) (runs : s.batchRuns = true) : Answers (.docLead t n) s fun u =>
      u.ports[n].sides.length = s.ports[n].sides.length + 1
        ∧ ∃ e, u.ports[n].sides.getLast? = some e ∧ e.doc = d ∧ e.opened = false ∧ e.last = none
          ∧ e.lead = s.encs[s.ports[n].cfg.encoder].posAt x.latch := by
  have taken := (docLead_eq n (s.advance t)).trans (documentEdge_takes (u := s.advance t) due seen fitted)
  rw [show (s.advance t).ports[n].takesEdges = true from takes, if_pos rfl] at taken
  refine answers_of_settled live rfl ?_
  rw [settle_ports, taken]
  exact leadEdge_latches (u := (s.advance t).edgeTaken n x) next told room runs _

theorem docLead_without_doc (live : s.Live) {x : Activation}
    (due : (s.evf.acts.find? fun x => x.task == { num := 13 * 64 + 0, inst := n.val } &&
      decide (x.tick ≤ (s.advance t).ticks)) = some x)
    (seen : s.edgesIgnored n = false) (fitted : s.fittedBlock (.port n) = true) (takes : s.ports[n].takesEdges = true)
    (next : s.ports[n].nextDoc = none) : Answers (.docLead t n) s fun u =>
      u.ports[n].sides = s.ports[n].sides ∧ u.ports[n].cnt.edgeErr = satInc s.ports[n].cnt.edgeErr := by
  have taken := (docLead_eq n (s.advance t)).trans (documentEdge_takes (u := s.advance t) due seen fitted)
  rw [show (s.advance t).ports[n].takesEdges = true from takes, if_pos rfl,
    leadEdge_without_doc (u := (s.advance t).edgeTaken n x) next] at taken
  refine answers_of_settled live rfl ?_
  rw [settle_ports, taken]
  exact edgeError_port n _

theorem docTrail_without_side (live : s.Live) {x : Activation}
    (due : (s.evf.acts.find? fun x => x.task == { num := 13 * 64 + 1, inst := n.val } &&
      decide (x.tick ≤ (s.advance t).ticks)) = some x)
    (seen : s.edgesIgnored n = false) (fitted : s.fittedBlock (.port n) = true) (takes : s.ports[n].takesEdges = true)
    (told : ∀ e ∈ s.ports[n].sides, e.last.isSome = true) : Answers (.docTrail t n) s fun u =>
      u.ports[n].sides = s.ports[n].sides ∧ u.ports[n].cnt.edgeErr = satInc s.ports[n].cnt.edgeErr := by
  have taken := (docTrail_eq n (s.advance t)).trans (documentEdge_takes (u := s.advance t) due seen fitted)
  rw [show (s.advance t).ports[n].takesEdges = true from takes, if_pos rfl,
    trailEdge_without_side (u := (s.advance t).edgeTaken n x) told] at taken
  refine answers_of_settled live rfl ?_
  rw [settle_ports, taken]
  exact edgeError_port n _

end

end Sys2Proof.Machine

namespace Sys2Proof.Machine

/-! ## The end of a line (02 R38, R45) -/

/-- The line in progress of every port and the time of its last one, and the clock: what the end of a line leaves to itself. -/
def Port.lineUse (p : Port) : Option LineRun × Word := (p.line, p.cnt.busyTicks)

abbrev State.lines (s : State) := s.view Port.lineUse

theorem lines_of_engines {s u : State} (h : u.engines = s.engines) : u.lines = s.lines :=
  view_of_finer (fun e : Engine => (e.line, e.busyTicks)) h

theorem scene_drawn (s : State) : s.drawn.scene = s.scene := rfl

/-! ### The pipeline -/

theorem engine_accumulate (p : Port) (b : RefreshBlock) (y : List (List Nat)) : (p.accumulate b y).engine = p.engine := by
  unfold Port.accumulate
  dsimp only
  split
  · rfl
  · split <;> rfl

theorem engine_learn (p : Port) (gap ovr excluded : Bool) (open_ : Int) (y : List (List Nat)) :
    (p.learn gap ovr excluded open_ y).engine = p.engine := by
  unfold Port.learn
  split
  · rfl
  · dsimp only
    split
    · rfl
    · split
      · rfl
      · exact engine_accumulate _ _ _

theorem engine_receive (p : Port) (data : LineData) : (p.receive data).2.2.2.engine = p.engine := by
  unfold Port.receive
  split <;> rfl

section
variable {s u : State} {n : Fin 8} {t : Nat}

theorem engines_delayTurn (n : Fin 8) (k : Nat) (y : List (List Nat)) (s : State) : (s.delayTurn n k y).engines = s.engines :=
  each_keeps (g := State.engines) (fun c u => by
    dsimp only
    split
    · rfl
    · exact (view_of_scene (scene_post _ _ _ _)).trans (view_modPort n _ u (by rfl))) _ s

theorem engines_correctLine (n : Fin 8) (l : RawLine) (s : State) : (s.correctLine n l).engines = s.engines := by
  unfold State.correctLine
  dsimp only
  generalize hu : State.drawn _ = u
  have start : u.engines = s.engines := by
    rw [← hu]
    refine (view_of_scene (scene_drawn _)).trans ?_
    refine view_modPort_of (fun p => ?_) (when_keeps (g := State.engines) (engines_delayTurn n _ _ s) _)
    exact engine_learn p _ _ _ _ _
  split
  · split
    · exact start
    · exact start
  · exact start

theorem lines_drainLines (n : Fin 8) (k : Nat) (s : State) : (s.drainLines n k).lines = s.lines := by
  induction k generalizing s with
  | zero => rfl
  | succ k ih =>
    unfold State.drainLines
    split
    · rfl
    · split
      · rfl
      · exact (ih _).trans ((lines_of_engines (engines_correctLine n _ _)).trans (view_modPort n _ s (by rfl)))

theorem lines_drainPort (n : Fin 8) (s : State) : (s.drainPort n).lines = s.lines :=
  (lines_drainLines n _ _).trans (view_modPort n _ s (by rfl))

theorem lines_takeLine (n : Fin 8) (r : LineRun) (gap : Bool) (data : LineData) (s : State) :
    (s.takeLine n r gap data).lines = s.lines := by
  have received : (s.ports[n].receive data).2.2.2.lineUse = s.ports[n].lineUse :=
    congrArg (fun e : Engine => (e.line, e.busyTicks)) (engine_receive s.ports[n] data)
  unfold State.takeLine
  dsimp only
  refine (when_keeps (g := State.lines) (view_of_scene (scene_gapBacking _ _ _ _ _)) _).trans ((lines_drainPort n _).trans ?_)
  exact view_modPort n _ s received

theorem lines_dropLine (n : Fin 8) (r : LineRun) (overlap : Bool) (s : State) : (s.dropLine n r overlap).lines = s.lines := by
  unfold State.dropLine
  refine view_modPort n _ s ?_
  split <;> rfl

/-! ### What goes on at a boundary -/

theorem view_laneIdle {β : Type} {g : Port → β} (n : Fin 8) (s : State)
    (h : ∀ p : Port, g { p with st := .idle, waiting := [], grid.sched := [], inbuf := [], caps := [] } = g p) :
    (s.laneIdle n).view g = s.view g := by
  unfold State.laneIdle
  dsimp only
  split
  · exact (view_of_scene (scene_sysRoutes _)).trans (view_modPort n _ s (h _))
  · rfl

theorem view_disarmEffect {β : Type} {g : Port → β} (n : Fin 8) (s : State)
    (stop : ∀ p : Port, g { p with st := .idle, waiting := [], grid.sched := [], inbuf := [], caps := [], signatures := [] } = g p)
    (told : ∀ p : Port, g { p with waits.disarm := [] } = g p) : (s.disarmEffect n).view g = s.view g := by
  unfold State.disarmEffect
  dsimp only
  split
  · refine (view_of_scene (scene_finishAll _ _ _ _ _)).trans (view_modPort_of told (when_keeps (g := State.view g) ?_ _))
    exact (view_of_scene (scene_sysRoutes _)).trans (view_modPort n _ s (stop _))
  · rfl

theorem lines_disarmEffect (n : Fin 8) (s : State) : (s.disarmEffect n).lines = s.lines :=
  view_disarmEffect n s (fun _ => rfl) fun _ => rfl

theorem lines_laneIdle (n : Fin 8) (s : State) : (s.laneIdle n).lines = s.lines := view_laneIdle n s fun _ => rfl

/-- A port without a line in progress that stops keeps its lack of one. -/
theorem lines_trainIdle (free : s.ports[n].line = none) : (s.trainIdle n).lines = s.lines := by
  unfold State.trainIdle
  dsimp only
  generalize hu : State.closeAll n _ s = u
  have closed : u.engines = s.engines := by
    rw [← hu]
    exact engines_closeAll n _ s
  refine (view_of_scene (scene_sysRoutes _)).trans ((lines_disarmEffect n _).trans ?_)
  refine (view_modPort n _ u ?_).trans (lines_of_engines closed)
  have line : u.ports[n].line = none := (congrArg Engine.line (port_of_view closed n)).trans free
  exact congrArg (fun l => (l, u.ports[n].cnt.busyTicks)) line.symm

/-! ### Calibrations (09 R212, R214) -/

theorem lines_skipPassed (n : Fin 8) (s : State) : (s.skipPassed n).lines = s.lines := view_modPort n _ s (by rfl)

theorem lines_leaveCal (r : CalRun) (s : State) : (s.leaveCal r).lines = s.lines := by
  unfold State.leaveCal
  dsimp only
  generalize hu : State.modPort r.port _ s = u
  have start : u.lines = s.lines := by
    rw [← hu]
    exact view_modPort r.port _ s (by rfl)
  split
  · refine (lines_disarmEffect _ _).trans ((lines_laneIdle _ _).trans ?_)
    exact (when_keeps (g := State.lines) (lines_skipPassed _ _) _).trans (view_modPort_of (fun _ => by rfl) start)
  · exact view_modPort_of (fun _ => by rfl) start

theorem lines_dropRun (r : CalRun) (s : State) : (s.dropRun r).lines = s.lines := by
  unfold State.dropRun
  refine (when_keeps (g := State.lines) (by rfl) _).trans ?_
  unfold State.leaveRun
  dsimp only
  split
  · exact lines_leaveCal r _
  · rfl

theorem lines_calEnd (r : CalRun) (st : BitVec 16) (d : BitVec 32) (resid : Int) (s : State) :
    (s.calEnd r st d resid).lines = s.lines := by
  unfold State.calEnd
  refine (view_of_scene ((scene_openNext _).trans (scene_finish _ _ _ _ _ _ _))).trans ?_
  exact (view_of_scene (scene_calLast _ _ _ _ _ _)).trans (lines_dropRun r s)

theorem lines_calAbandon (r : CalRun) (st : BitVec 16) (d : BitVec 32) (s : State) (f : BitVec 32) :
    (s.calAbandon r st d f).lines = s.lines := by
  unfold State.calAbandon
  refine (view_of_scene ((scene_openNext _).trans (scene_finish _ _ _ _ _ _ _))).trans ?_
  exact (view_of_scene (scene_calLast _ _ _ _ _ _)).trans (lines_dropRun r s)

theorem lines_beginPhase (r : CalRun) (s : State) : (s.beginPhase r).lines = s.lines := by
  unfold State.beginPhase
  dsimp only
  split
  · rfl
  · exact (view_of_scene (scene_askUrgent _ _)).trans (view_modPort_of (fun _ => by rfl) rfl)

theorem lines_calBegins (n : Fin 8) (r : CalRun) (s : State) :
    (if s.docInWay n then s.calEnd r 0x0201 0x0501 0 else s.beginPhase r).lines = s.lines := by
  split
  · exact lines_calEnd r _ _ _ s
  · exact lines_beginPhase r s

theorem lines_enterCal (r : CalRun) (s : State) : (s.enterCal r).lines = s.lines := by
  unfold State.enterCal
  dsimp only
  split
  · split
    · exact lines_calEnd r _ _ _ s
    · rfl
  · split
    · exact view_modPort_of (fun _ => by rfl) rfl
    · exact Eq.trans (lines_calBegins _ _ _) (view_modPort_of (fun _ => by rfl) rfl)

theorem lines_calResume (n : Fin 8) (s : State) : (s.calResume n).lines = s.lines := by
  unfold State.calResume
  split
  · split
    · exact when_keeps (g := State.lines) (lines_calAbandon _ _ _ s _) _
    · split
      · exact lines_enterCal _ s
      · rfl
  · rfl

/-! ### Switchbacks (05 R118) -/

theorem lines_sbStopped (g : Fin 4) (s : State) : (s.sbStopped g).lines = s.lines := by
  unfold State.sbStopped
  split
  · split
    · unfold State.sbStop
      split
      · exact (each_keeps (g := State.lines) (fun _ _ => by rfl) _ _).trans rfl
      · rfl
    · rfl
  · rfl

theorem lines_sbHold (g : Fin 4) (s : State) : (s.sbHold g).lines = s.lines := by
  have hold (b : Switchback) : (s.each (s.groupPorts g) fun n s =>
      s.modPort n fun p => if p.st = .scan then p.enterHold (s.lastHeld b n) else p).lines = s.lines :=
    each_keeps (g := State.lines) (fun n u => view_modPort n _ u (by
      split
      · unfold Port.enterHold
        dsimp only
        split <;> rfl
      · rfl)) _ s
  unfold State.sbHold
  split
  · split
    · dsimp only
      split
      · exact hold _
      · exact hold _
    · rfl
  · rfl

theorem lines_sbBack (g : Fin 4) (s : State) : (s.sbBack g).lines = s.lines := by
  unfold State.sbBack
  split
  · split
    · unfold State.sbRewind
      split
      · dsimp only
        generalize hu : State.modGroup g _ _ = u
        have start : u.lines = s.lines := by
          rw [← hu]
          refine (view_of_scene (scene_modGroup _ _ _)).trans ?_
          exact each_keeps (g := State.lines) (fun (m : Seam) v => view_modPort m.port _ v (by
            split <;> rfl)) _ s
        split
        · exact start
        · exact start
      · rfl
    · rfl
  · rfl

theorem lines_sbForward (g : Fin 4) (s : State) : (s.sbForward g).lines = s.lines := by
  unfold State.sbForward
  split
  · split
    · unfold State.sbScan
      refine (view_of_scene (scene_modSb _ _ _)).trans ?_
      exact each_keeps (g := State.lines) (fun m v => view_modPort m _ v (by
        split <;> rfl)) _ s
    · rfl
  · rfl

theorem lines_sbAdvanceAll (s : State) : s.sbAdvanceAll.lines = s.lines := by
  refine each_keeps (g := State.lines) (fun g u => ?_) _ s
  unfold State.sbAdvance
  split
  · exact lines_sbHold g u
  · exact (lines_sbForward g _).trans ((lines_sbBack g _).trans ((lines_sbHold g _).trans (lines_sbStopped g u)))

/-! ### LINE_END -/

/-- A line that is over ends: its port has none in progress, and the time it took is kept (02 R38). -/
theorem lineEnd_ends (live : s.Live) {v : LineRun} {data : LineData} (line : s.ports[n].line = some v)
    (past : (s.advance t).lineOver n v data = true) : Answers (.lineEnd t n data) s fun u =>
      u.ports[n].line = none ∧ u.ports[n].cnt.busyTicks = sat32 ((s.advance t).ticks - v.start) := by
  have ended : ((s.advance t).lineEnd n data).ports[n].lineUse = (none, sat32 ((s.advance t).ticks - v.start)) := by
    unfold State.lineEnd
    dsimp only
    rw [show (s.advance t).ports[n].line = some v from line]
    dsimp only
    rw [past, if_neg (by decide)]
    generalize hm : State.modPort n _ (s.advance t) = m
    have free : m.ports[n].lineUse = (none, sat32 ((s.advance t).ticks - v.start)) := by
      rw [← hm, State.modPort_ports, ports_set_same]
      rfl
    generalize hl : (if v.lost = true then _ else _ : State) = l
    have read : l.lines = m.lines := by
      rw [← hl]
      split
      · exact lines_dropLine n _ _ m
      · exact lines_takeLine n _ _ _ m
    generalize hi : State.laneIdle n _ = i
    have resumed : i.lines = m.lines := by
      rw [← hi]
      exact (lines_laneIdle n _).trans ((lines_calResume n _).trans ((view_of_scene (scene_fire _ _ _)).trans read))
    have none : i.ports[n].line = none := congrArg Prod.fst ((port_of_view resumed n).trans free)
    refine (port_of_view ?_ n).trans free
    refine (lines_of_engines (engines_verdictOf n _)).trans ((lines_sbAdvanceAll _).trans ?_)
    exact (when_keeps (g := State.lines) (lines_trainIdle none) _).trans resumed
  refine answers_of_settled live rfl ?_
  rw [settle_ports]
  exact ⟨congrArg Prod.fst ended, congrArg Prod.snd ended⟩

end

/-- Settles O50: what a trigger, a start, the end of a line or a document edge leads to beyond its port's engine leaves that
engine as it is. -/
theorem linesAreTriggeredInTurn : Obligations.LinesAreTriggeredInTurn := by
  intro s t n live
  refine ⟨fun x due scan valid => encCount_takes live due scan valid, fun instant scan due => lineTrigger_triggers live scan due,
    fun w rest waiting empty scan free => lateLineStart_starts live waiting empty scan free,
    fun v data line past => lineEnd_ends live line past, fun k x due seen fitted closed => ⟨?_, ?_⟩,
    fun x due seen fitted takes => ⟨fun d next told room runs => docLead_latches live due seen fitted takes next told room runs,
      fun next => docLead_without_doc live due seen fitted takes next⟩,
    fun x due seen fitted takes => ⟨fun told => docTrail_without_side live due seen fitted takes told,
      fun d waits first unopened lines => docTrail_fixes live due seen fitted takes waits first unopened lines⟩⟩
  · rintro rfl
    refine answers_of_settled live rfl ?_
    rw [settle_ports]
    exact documentEdge_refused (u := s.advance t) (edge := State.leadEdge) due seen fitted closed
  · rintro rfl
    refine answers_of_settled live rfl ?_
    rw [settle_ports]
    exact documentEdge_refused (u := s.advance t) (edge := State.trailEdge) due seen fitted closed

end Sys2Proof.Machine

namespace Sys2Proof.Machine

/-! ## What takes effect at a boundary (02 R35, R49, R50; 04 R90) -/

section
variable {s u : State} {n : Fin 8} {t : Nat}

theorem tableSwitch_switches (live : s.Live) (free : s.ports[n].line = none) (on : s.ports[n].st ≠ .off) {b : Bool}
    (first : (s.ports[n].tab b).pending = 1) (other : b = true → s.ports[n].tabA.pending = 0) :
    Answers (.tableSwitch t n) s fun u => s.calm u = { s.advance t with ports := s.ports.set n (s.ports[n].activate b) } := by
  have switched : (s.advance t).tableSwitch n = (s.advance t).modPort n fun p => p.activate b := by
    have port : (s.advance t).ports[n] = s.ports[n] := rfl
    unfold State.tableSwitch
    dsimp only
    rw [port, free, if_neg (by simpa [-Fin.getElem_fin] using on)]
    cases b with
    | false =>
      have : s.ports[n].tabA.pending = 1 := first
      simp [-Fin.getElem_fin, this]
    | true =>
      have : s.ports[n].tabB.pending = 1 := first
      simp [-Fin.getElem_fin, this, other rfl]
  exact ⟨_, rfl, act_calm_eq live (by rw [switched]; rfl) rfl⟩

theorem disarmEffect_disarms (live : s.Live) (waiting : s.ports[n].waits.disarm ≠ []) (scan : s.ports[n].st = .scan)
    (free : s.ports[n].line = none) (shut : s.ports[n].sides = []) : Answers (.disarmEffect t n) s fun u =>
      u.ports[n].st = .idle ∧ u.ports[n].waits.disarm = [] ∧ u.ports[n].waiting = [] ∧ u.ports[n].grid.sched = [] := by
  refine answers_of_settled live rfl ?_
  rw [settle_ports, disarmEffect_stops (u := s.advance t) waiting scan free shut, finishAll_ports, State.modPort_ports,
    disarmNow_ports, ports_set_same, ports_set_same]
  exact ⟨rfl, rfl, rfl, rfl⟩

theorem reconfigEnter_answers (live : s.Live) {seq : DWord} {l : List Byte}
    (waiting : s.ports[n].waits.reconfig = some (seq, l, 2)) (scan : s.ports[n].st = .scan) (free : s.ports[n].line = none)
    (shut : s.ports[n].sides = []) (none : s.ports[n].waits.slots = []) : Answers (.reconfigEnter t n) s fun u =>
      u.ports[n].st = .reconfig ∧ u.ports[n].waits.reconfig = some (seq, l, 3) ∧ u.ports[n].keepLamp = (u8 l 1 == 1)
        ∧ ∀ k, k ≠ n → u.ports[k] = s.ports[k] := by
  refine answers_of_settled live rfl ?_
  rw [settle_ports, reconfigEnter_enters (u := s.advance t) waiting scan free shut none, State.modPort_ports, ports_set_same]
  exact ⟨rfl, rfl, rfl, fun k hk => ports_set_other hk _ _⟩

/-! ### The last step of a reconfiguration (02 Table 2.10) -/

theorem laneIdle_ports (n : Fin 8) (u : State) : (u.laneIdle n).ports = u.ports ∨ (u.laneIdle n).ports = u.ports.set n
    { u.ports[n] with st := .idle, waiting := [], grid.sched := [], inbuf := [], caps := [] } := by
  unfold State.laneIdle
  dsimp only
  split
  · exact .inr (sysRoutes_ports _)
  · exact .inl rfl

theorem disarmEffect_ports (n : Fin 8) (u : State) : (u.disarmEffect n).ports = u.ports ∨ ∃ b, (u.disarmEffect n).ports =
    ((u.when b fun s => s.disarmNow n).modPort n fun p => { p with waits.disarm := [] }).ports := by
  unfold State.disarmEffect
  dsimp only
  split
  · exact .inr ⟨_, finishAll_ports _ _ _ _ _⟩
  · exact .inl rfl

/-- What holds of a port holds after `laneIdle` where stopping in IDLE keeps it. -/
theorem laneIdle_keeps {P : Port → Prop} (h : P u.ports[n])
    (stop : ∀ p : Port, P p → P { p with st := .idle, waiting := [], grid.sched := [], inbuf := [], caps := [] }) :
    P (u.laneIdle n).ports[n] := by
  rcases laneIdle_ports n u with same | stopped
  · rw [same]
    exact h
  · rw [stopped, ports_set_same]
    exact stop _ h

theorem disarmEffect_keeps {P : Port → Prop} (h : P u.ports[n])
    (stop : ∀ p : Port, P p →
      P { p with st := .idle, waiting := [], grid.sched := [], inbuf := [], caps := [], signatures := [] })
    (told : ∀ p : Port, P p → P { p with waits.disarm := [] }) : P (u.disarmEffect n).ports[n] := by
  have stopped (b : Bool) : P (u.when b fun s => s.disarmNow n).ports[n] := by
    cases b with
    | false => exact h
    | true =>
      unfold State.when
      rw [if_pos rfl, disarmNow_ports, ports_set_same]
      exact stop _ h
  rcases disarmEffect_ports n u with same | ⟨b, ended⟩
  · rw [same]
    exact h
  · rw [ended, State.modPort_ports, ports_set_same]
    exact told _ (stopped b)

/-- A port back from a reconfiguration: with a configuration and a receiver, and none that waits. -/
def Port.Rejoined (c : PortCfg) (l : Lvds) (p : Port) : Prop :=
  p.cfg = c ∧ p.lvds = l ∧ p.waits.reconfig = none ∧ p.waits.later = [] ∧ (p.st = .scan ∨ p.st = .idle)

theorem rejoined_portFlag {c : PortCfg} {l : Lvds} (h : u.ports[n].Rejoined c l) (bit : Nat) :
    (u.portFlag n bit).ports[n].Rejoined c l := by
  rw [portFlag_ports, ports_set_same]
  exact h

/-- With none behind it a reconfiguration ends in SCAN or IDLE. -/
theorem reconfigDone_rejoins (later : u.ports[n].waits.later = []) (seq : DWord) (toIdle keepGrid : Bool) :
    (u.reconfigDone n seq toIdle keepGrid).ports[n].Rejoined u.ports[n].cfg u.ports[n].lvds := by
  unfold State.reconfigDone
  dsimp only
  generalize hm : State.modPort n _ u = m
  have left : m.ports[n].cfg = u.ports[n].cfg ∧ m.ports[n].lvds = u.ports[n].lvds ∧ m.ports[n].waits.reconfig = none
      ∧ m.ports[n].waits.later = [] := by
    rw [← hm, State.modPort_ports, ports_set_same]
    exact ⟨rfl, rfl, rfl, later⟩
  obtain ⟨cfg, lvds, reconfig, later'⟩ := left
  generalize hv : (if toIdle = true then _ else _ : State) = v
  have back : v.ports[n].Rejoined u.ports[n].cfg u.ports[n].lvds := by
    rw [← hv]
    by_cases hi : toIdle = true
    · rw [if_pos hi]
      have idle : (m.modPort n fun p => { p with st := .idle, calNeeded := true, waits.ready := false }).ports[n].Rejoined
          u.ports[n].cfg u.ports[n].lvds := by
        rw [State.modPort_ports, ports_set_same]
        exact ⟨cfg, lvds, reconfig, later', .inr rfl⟩
      cases (!m.ports[n].calNeeded) with
      | false => exact idle
      | true => exact rejoined_portFlag idle 6
    · have grid : ∃ g : Port, (if keepGrid = true then m.skipPassed n else m.freshGrid n).ports[n] = g ∧ g.cfg = m.ports[n].cfg
          ∧ g.lvds = m.ports[n].lvds ∧ g.waits = m.ports[n].waits := by
        cases keepGrid with
        | true => exact ⟨_, ports_set_same _ _ _, rfl, rfl, rfl⟩
        | false => exact ⟨_, ports_set_same _ _ _, rfl, rfl, rfl⟩
      obtain ⟨g, hg, gc, gl, gw⟩ := grid
      rw [if_neg hi, State.modPort_ports, ports_set_same, hg]
      exact ⟨gc.trans cfg, gl.trans lvds, (congrArg PortWaits.reconfig gw).trans reconfig,
        (congrArg PortWaits.later gw).trans later', .inl rfl⟩
  generalize hw : State.finishOk seq 0 _ = w
  have told : w.ports[n].Rejoined u.ports[n].cfg u.ports[n].lvds := by
    rw [← hw, finishOk_ports, sysRoutes_ports]
    exact rejoined_portFlag back 7
  rw [told.2.2.2.1]
  refine disarmEffect_keeps (laneIdle_keeps told ?_) ?_ ?_
  · rintro p ⟨hc, hl, hr, hq, -⟩
    exact ⟨hc, hl, hr, hq, .inr rfl⟩
  · rintro p ⟨hc, hl, hr, hq, -⟩
    exact ⟨hc, hl, hr, hq, .inr rfl⟩
  · rintro p ⟨hc, hl, hr, hq, hs⟩
    exact ⟨hc, hl, hr, hq, hs⟩

end

end Sys2Proof.Machine

namespace Sys2Proof.Machine

section
variable {s u : State} {n : Fin 8} {t : Nat}

/-! ### RECONFIG_DRAINED and ALIGN_EFFECT -/

theorem bearing_selectTable (n : Fin 8) (l : List Byte) (s : State) : (s.selectTable n l).bearing n = s.bearing n := by
  unfold State.selectTable
  split
  · split
    · exact bearing_modPort n _ s (by rfl)
    · rfl
  · rfl

/-- A port that has drained takes its new configuration, and trains its receiver or ends the reconfiguration. -/
theorem reconfigDrained_takes {d : State} (drained : u.drainPort n = d) {seq : DWord} {l : List Byte}
    (waiting : d.ports[n].waits.reconfig = some (seq, l, 3)) (st : d.ports[n].st = .reconfig) (empty : d.ports[n].inbuf = []) :
    ∃ w toIdle keepGrid, u.reconfigDrained n =
      let v := ((d.modPort n fun p => { p with vid := p.vid.dropCals }).applyPortCfg n (PortCfg.parse l 8)).selectTable n l
      if trainAgain d.ports[n].cfg (PortCfg.parse l 8) then (v.modPort n fun p => { p with waits.reconfig := some w }).trainStart n
      else v.reconfigDone n seq toIdle keepGrid := by
  have ready : (decide (d.ports[n].st = .reconfig) && d.ports[n].inbuf.isEmpty) = true := by
    rw [st, empty]
    rfl
  simp only [State.reconfigDrained, drained, waiting, ready, if_true]
  exact ⟨_, _, _, rfl⟩

/-- RECONFIG_DRAINED: the new configuration is in force; without a new training the port is back from its reconfiguration. -/
theorem reconfigDrained_configures (live : s.Live) {seq : DWord} {l : List Byte}
    (waiting : s.ports[n].waits.reconfig = some (seq, l, 3)) (later : s.ports[n].waits.later = [])
    (st : s.ports[n].st = .reconfig) (empty : s.ports[n].inbuf = []) : Answers (.reconfigDrained t n) s fun u =>
      u.ports[n].cfg = PortCfg.parse l 8 ∧ (trainAgain s.ports[n].cfg (PortCfg.parse l 8) = false →
        u.ports[n].waits.reconfig = none ∧ (u.ports[n].st = .scan ∨ u.ports[n].st = .idle)) := by
  have drained := engines_drainPort_empty (u := s.advance t) (n := n) empty
  generalize hd : State.drainPort n (s.advance t) = d at drained
  have engine : d.ports[n].engine = s.ports[n].engine := port_of_view drained n
  have cfg : d.ports[n].cfg = s.ports[n].cfg := congrArg Engine.cfg engine
  have waits : d.ports[n].waits = s.ports[n].waits := congrArg Engine.waits engine
  obtain ⟨w, toIdle, keepGrid, takes⟩ := reconfigDrained_takes hd ((congrArg PortWaits.reconfig waits).trans waiting)
    ((congrArg Engine.st engine).trans st) ((congrArg Engine.inbuf engine).trans empty)
  refine answers_of_settled live rfl ?_
  rw [settle_ports, takes, cfg]
  dsimp only
  generalize hv : State.selectTable n l _ = v
  have stance : v.ports[n].stance = (PortCfg.parse l 8, true, d.ports[n].st, d.ports[n].waits) := by
    have bearing := (bearing_selectTable n l _).trans (bearing_applyPortCfg n (PortCfg.parse l 8)
      (d.modPort n fun p => { p with vid := p.vid.dropCals }))
    rw [hv, State.modPort_ports, ports_set_same] at bearing
    exact congrArg Prod.snd bearing
  have vcfg : v.ports[n].cfg = PortCfg.parse l 8 := congrArg Prod.fst stance
  have vlater : v.ports[n].waits.later = [] :=
    (congrArg (fun b : PortCfg × Bool × PortState × PortWaits => b.2.2.2.later) stance).trans (by rw [waits]; exact later)
  by_cases train : trainAgain s.ports[n].cfg (PortCfg.parse l 8) = true
  · rw [if_pos train]
    unfold State.trainStart
    rw [State.modPort_ports, ports_set_same, State.modPort_ports, ports_set_same]
    exact ⟨vcfg, fun same => absurd train (by rw [same]; decide)⟩
  · rw [if_neg train]
    obtain ⟨hc, -, hr, -, hs⟩ := reconfigDone_rejoins vlater seq toIdle keepGrid
    exact ⟨hc.trans vcfg, fun _ => ⟨hr, hs⟩⟩

theorem settle_delays (s0 s : State) : (s0.settle s).cel.delays = s.cel.delays := by
  obtain ⟨_, _, _, h⟩ := settle_form s0 s
  rw [h]

theorem finishAll_cel (l : List DWord) (st : BitVec 16) (d r : BitVec 32) (s : State) :
    (s.finishAll l st d r).cel = s.cel :=
  each_keeps (g := State.cel) (fun q u => by
    obtain ⟨_, _, _, _, _, h⟩ := finish_form q st d r u 0 []
    rw [h]) l s

/-- ALIGN_EFFECT: the alignment that waits is in force, with its delay store (04 R88, R90). -/
theorem alignEffect_aligns (live : s.Live) {a : AlignPending} {d : Option DelayStore} (pending : s.ports[n].alignPending = [a])
    (phases : s.ports[n].cfg.phasesOk a.align = true)
    (own : a.align.fromRecord = true → ((s.alignMatches n).map fun r => Align.ofRecord r.1 r.2) = some a.align)
    (follows : a.seq = none → s.ports[n].align.fromRecord = true) (shut : s.ports[n].sides = [])
    (free : s.ports[n].st = .idle ∨ s.ports[n].st = .scan ∧ s.ports[n].line = none)
    (place : s.delayPlace n (s.ports[n].delayBytes a.align) = some d) : Answers (.alignEffect t n) s fun u =>
      u.ports[n] = { s.ports[n] with align := a.align, alignPending := [], caps := [] } ∧ u.cel.delays[n] = d
        ∧ ∀ k, k ≠ n → u.ports[k] = s.ports[k] := by
  have takes := alignEffect_takes (u := s.advance t) pending phases own follows shut free
    (Eq.trans (delayPlace_same (by rfl) (by rfl) _) place)
  refine answers_of_settled live rfl ?_
  rw [settle_ports, settle_delays, takes, finishAll_ports, finishAll_cel, State.modPort_ports, ports_set_same]
  exact ⟨rfl, by simp, fun k hk => ports_set_other hk _ _⟩

/-! ## The receiver: training and loss of lock (02 R42 to R45) -/

/-- The port once a training has passed: its receiver is locked, with the delays found. -/
def Port.lockedBy (r : TrainResult) (p : Port) : Port :=
  { p with lvds := { p.lvds.cleared with
      locked := true, clock := true, taps := r.taps.take p.cfg.lanes, offsets := r.offsets.take p.cfg.lanes, ckKhz := r.ckKhz } }

theorem lvdsLocked_ports (n : Fin 8) (r : TrainResult) (u : State) :
    (u.lvdsLocked n r).ports = u.ports.set n (u.ports[n].lockedBy r) := by
  unfold State.lvdsLocked
  dsimp only
  refine (when_keeps (g := State.ports) ?_ _).trans rfl
  exact device_ports _ _ _ _ _ _ _

/-- A training that has passed in time locks the receiver, whatever the port then goes on with. -/
theorem trainDone_lvds {start : Nat} {res : TrainResult} (training : u.ports[n].lvds.training = some start)
    (later : u.ports[n].st = .reconfig → u.ports[n].waits.later = []) (good : trainOk res u.ports[n].cfg = true)
    (soon : u.ticks ≤ start + 15000000) :
    (u.trainDone n res).ports[n].lvds = (u.ports[n].lockedBy res).lvds := by
  have inTime : ¬ ((!trainOk res u.ports[n].cfg || decide (start + 15000000 < u.ticks)) = true) := by
    rw [good]
    simpa using soon
  have ports := lvdsLocked_ports n res u
  unfold State.trainDone
  dsimp only
  rw [training]
  dsimp only
  rw [if_neg inTime]
  generalize u.lvdsLocked n res = v at ports ⊢
  have locked : v.ports[n] = u.ports[n].lockedBy res := by rw [ports, ports_set_same]
  refine Eq.trans ?_ (congrArg Port.lvds locked)
  split
  · next st _ =>
    refine (reconfigDone_rejoins ?_ _ _ _).2.1
    rw [locked]
    exact later st
  · cases (!u.ports[n].waits.arm.isEmpty) with
    | false => rfl
    | true =>
      refine (congrArg (fun w : Vector Port 8 => w[n].lvds) (armNow_ports n v)).trans ?_
      dsimp only
      rw [ports_set_same]
      unfold State.freshGrid
      dsimp only
      rw [State.modPort_ports, ports_set_same]
  · rfl

/-- LVDS_TRAIN_DONE (02 R42). -/
theorem lvdsTrainDone_locks (live : s.Live) {start : Nat} {res : TrainResult} (training : s.ports[n].lvds.training = some start)
    (later : s.ports[n].st = .reconfig → s.ports[n].waits.later = []) (good : trainOk res s.ports[n].cfg = true)
    (soon : (s.advance t).ticks ≤ start + 15000000) : Answers (.lvdsTrainDone t n res) s fun u =>
      u.ports[n].lvds.locked = true ∧ u.ports[n].lvds.training = none
        ∧ u.ports[n].lvds.taps = res.taps.take s.ports[n].cfg.lanes ∧ u.ports[n].lvds.ckKhz = res.ckKhz := by
  refine answers_of_settled live rfl ?_
  rw [settle_ports, trainDone_lvds (u := s.advance t) training later good soon]
  exact ⟨rfl, rfl, rfl, rfl⟩

end

end Sys2Proof.Machine

namespace Sys2Proof.Machine

section
variable {s u : State} {n : Fin 8} {t : Nat}

/-! ### A training that fails -/

/-- A port that has failed to train, or that does, as it stops: without a receiver or a command that waits for it, in IDLE once
no line is in progress (02 R35, R43). -/
def Port.Stopped (before p : Port) : Prop :=
  (p.lvds.locked = false ∧ p.lvds.training = none ∧ p.lvds.stopping = before.line.isSome ∧ (before.line = none → p.st = .idle)
    ∧ (before.line.isSome = true → p.st = before.st))
  ∧ p.waits.arm = [] ∧ p.waits.reconfig = none ∧ p.waits.later = []

/-- A port that stops in IDLE: its receiver begins anew, and the commands that wait to arm or reconfigure it stay. -/
theorem trainIdle_idles (n : Fin 8) (u : State) : (u.trainIdle n).ports[n].st = .idle
    ∧ (u.trainIdle n).ports[n].lvds = u.ports[n].lvds.cleared ∧ (u.trainIdle n).ports[n].waits.arm = u.ports[n].waits.arm
    ∧ (u.trainIdle n).ports[n].waits.reconfig = u.ports[n].waits.reconfig
    ∧ (u.trainIdle n).ports[n].waits.later = u.ports[n].waits.later := by
  unfold State.trainIdle
  dsimp only
  generalize hv : State.closeAll n _ u = v
  have closed : v.engines = u.engines := by
    rw [← hv]
    exact engines_closeAll n _ u
  have engine : v.ports[n].engine = u.ports[n].engine := port_of_view closed n
  rw [sysRoutes_ports]
  refine disarmEffect_keeps (P := fun p : Port => p.st = .idle ∧ p.lvds = u.ports[n].lvds.cleared
    ∧ p.waits.arm = u.ports[n].waits.arm ∧ p.waits.reconfig = u.ports[n].waits.reconfig
    ∧ p.waits.later = u.ports[n].waits.later) ?_ ?_ ?_
  · rw [State.modPort_ports, ports_set_same]
    exact ⟨rfl, congrArg (fun e : Engine => e.lvds.cleared) engine, congrArg (fun e : Engine => e.waits.arm) engine,
      congrArg (fun e : Engine => e.waits.reconfig) engine, congrArg (fun e : Engine => e.waits.later) engine⟩
  · rintro p ⟨-, h⟩
    exact ⟨rfl, h⟩
  · rintro p ⟨hs, h⟩
    exact ⟨hs, h⟩

theorem trainStop_stops (n : Fin 8) (lanes : BitVec 32) (u : State) :
    u.ports[n].Stopped (u.trainStop n lanes).ports[n] := by
  unfold State.trainStop
  dsimp only
  generalize hv : State.finishAll _ _ _ _ _ = v
  have engine : v.ports[n].engine = { u.ports[n].engine with
      waits := { u.ports[n].waits with arm := [], reconfig := none, later := [] }
      lvds := { u.ports[n].lvds.cleared with stopping := u.ports[n].line.isSome } } := by
    rw [← hv, finishAll_ports, portFlag_ports, ports_set_same, State.modPort_ports, ports_set_same]
    rfl
  have line : v.ports[n].line = u.ports[n].line := congrArg Engine.line engine
  have lvds : v.ports[n].lvds = { u.ports[n].lvds.cleared with stopping := u.ports[n].line.isSome } :=
    congrArg Engine.lvds engine
  have waits : v.ports[n].waits = { u.ports[n].waits with arm := [], reconfig := none, later := [] } :=
    congrArg Engine.waits engine
  rw [line]
  cases hl : u.ports[n].line with
  | none =>
    obtain ⟨st, cleared, arm, reconfig, later⟩ := trainIdle_idles n v
    refine ⟨⟨congrArg Lvds.locked cleared, congrArg Lvds.training cleared, ?_, fun _ => st, fun busy => ?_⟩,
      arm.trans (congrArg PortWaits.arm waits), reconfig.trans (congrArg PortWaits.reconfig waits),
      later.trans (congrArg PortWaits.later waits)⟩
    · rw [hl]
      exact congrArg Lvds.stopping cleared
    · rw [hl] at busy
      cases busy
  | some r =>
    refine ⟨⟨congrArg Lvds.locked lvds, congrArg Lvds.training lvds, congrArg Lvds.stopping lvds, fun free => ?_,
      fun _ => congrArg Engine.st engine⟩, congrArg PortWaits.arm waits, congrArg PortWaits.reconfig waits,
      congrArg PortWaits.later waits⟩
    rw [hl] at free
    cases free

/-- LVDS_TRAIN_TIMEOUT (02 R43). -/
theorem trainFailed_stops {start : Nat} (training : u.ports[n].lvds.training = some start) (lanes : BitVec 9) :
    u.ports[n].Stopped (u.trainFailed n lanes).ports[n] := by
  unfold State.trainFailed
  rw [training]
  dsimp only
  cases (u.ports[n].lvds.resyncFault != 0) with
  | false => exact trainStop_stops n _ u
  | true =>
    unfold State.when
    rw [if_pos rfl, device_ports]
    exact trainStop_stops n _ u

/-! ### A receiver that loses its lock -/

/-- The port as its receiver has lost lock: its line in progress is lost (02 R44, R45). -/
theorem lockLoss_loses (cause : LockCause) (digital : u.ports[n].cfg.digital = true) (locked : u.ports[n].lvds.locked = true)
    (on : u.ports[n].st ≠ .off) : (u.lockLoss n cause).ports[n].lvds.locked = false
      ∧ (u.lockLoss n cause).ports[n].lvds.resync = some u.ticks
      ∧ (u.lockLoss n cause).ports[n].cnt.lockLoss = satInc u.ports[n].cnt.lockLoss
      ∧ ∀ v, (u.lockLoss n cause).ports[n].line = some v → v.lost = true := by
  unfold State.lockLoss
  dsimp only
  rw [digital, locked, if_neg (by simpa [-Fin.getElem_fin] using on)]
  generalize hm : State.modPort n _ u = m
  have lost {p : Port} (h : p.engine = m.ports[n].engine) : p.lvds.locked = false ∧ p.lvds.resync = some u.ticks
      ∧ p.cnt.lockLoss = satInc u.ports[n].cnt.lockLoss ∧ ∀ v, p.line = some v → v.lost = true := by
    rw [← hm, State.modPort_ports, ports_set_same] at h
    refine ⟨congrArg (fun e : Engine => e.lvds.locked) h, congrArg (fun e : Engine => e.lvds.resync) h,
      congrArg Engine.lockLoss h, fun v hv => ?_⟩
    obtain ⟨r, -, rfl⟩ := Option.map_eq_some_iff.1 ((congrArg Engine.line h).symm.trans hv)
    rfl
  have told : ((m.portFlag n 2).fire (.port n) 6).engines = m.engines := engines_flag_fire n 2 6 m
  cases u.ports[n].line with
  | none => exact lost (port_of_view told n)
  | some r =>
    refine lost (port_of_view ((engines_lostFor n _ _ _).trans (Eq.trans ?_ told)) n)
    exact when_keeps (g := State.engines) (engines_overrunNow n _) _

/-- LVDS_RESYNC_DONE: L1 has settled the fault, and the receiver is locked again. -/
theorem resyncDone_locks {since : Nat} (resync : u.ports[n].lvds.resync = some since) (soon : u.ticks ≤ since + 75000)
    (idle : u.ports[n].lvds.training = none) : (u.resyncDone n).ports[n].lvds.locked = true
      ∧ (u.resyncDone n).ports[n].lvds.resync = none ∧ (u.resyncDone n).ldg.faultNext = u.takeFault.ldg.faultNext := by
  have inTime : ¬ ((decide (since + 75000 < u.ticks) || u.ports[n].lvds.training.isSome) = true) := by
    rw [idle]
    simpa using soon
  unfold State.resyncDone
  dsimp only
  rw [resync]
  dsimp only
  rw [if_neg inTime, device_ports, device_faultNext, State.modPort_ports, ports_set_same]
  exact ⟨rfl, rfl, rfl⟩

section
variable {since : Nat} (resync : u.ports[n].lvds.resync = some since) (late : since + 75000 ≤ u.ticks)
include resync late

/-- LVDS_RESYNC_TIMEOUT on a port that may train: L2 trains it (02 R45). -/
theorem resyncTimeout_trains : (u.resyncTimeout n true).ports[n].lvds.training = some u.ticks
    ∧ (u.resyncTimeout n true).ports[n].st = u.ports[n].st ∧ (u.resyncTimeout n true).ports[n].lvds.locked = false := by
  have scene := scene_device u.takeFault (u.secureBlock (.port n)) 0x0900 0 0 u.ldg.faultNext []
  have ticks : (u.takeFault.device (u.secureBlock (.port n)) 0x0900 0 0 u.ldg.faultNext []).ticks = u.ticks :=
    ticks_of_scene scene
  have ports : (u.takeFault.device (u.secureBlock (.port n)) 0x0900 0 0 u.ldg.faultNext []).ports = u.ports :=
    ports_of_scene scene
  unfold State.resyncTimeout
  dsimp only
  rw [resync]
  dsimp only
  rw [if_neg (not_lt.2 late), if_pos rfl]
  generalize u.takeFault.device (u.secureBlock (.port n)) 0x0900 0 0 u.ldg.faultNext [] = v at ticks ports ⊢
  unfold State.trainStart
  rw [State.modPort_ports, ports_set_same, State.modPort_ports, ports_set_same]
  exact ⟨congrArg some ticks, congrArg (fun v : Vector Port 8 => v[n].st) ports, rfl⟩

/-- LVDS_RESYNC_TIMEOUT on one that may not: it stops. -/
theorem resyncTimeout_stops : u.ports[n].Stopped (u.resyncTimeout n false).ports[n] := by
  have ports : (u.takeFault.device (u.secureBlock (.port n)) 0x0900 0 0 u.ldg.faultNext []).ports = u.ports :=
    device_ports _ _ _ _ _ _ u.takeFault
  unfold State.resyncTimeout
  dsimp only
  rw [resync]
  dsimp only
  rw [if_neg (not_lt.2 late), if_neg (by decide), device_ports]
  generalize u.takeFault.device (u.secureBlock (.port n)) 0x0900 0 0 u.ldg.faultNext [] = v at ports ⊢
  have stops := trainStop_stops n 0 v
  rw [ports] at stops
  exact stops

end

end

/-- Settles O51: each boundary takes up what waits on its port, and what else its effect sets going leaves the port's receiver and
its engine as they are. -/
theorem boundariesAndReceiversFollowTheirRules : Obligations.BoundariesAndReceiversFollowTheirRules := by
  intro s t n live
  refine ⟨fun free on => ⟨fun first => tableSwitch_switches live free on first fun h => absurd h Bool.false_ne_true,
      fun other first => tableSwitch_switches (b := true) live free on first fun _ => other⟩,
    disarmEffect_disarms live, fun seq l => reconfigEnter_answers live, fun seq l => reconfigDrained_configures live,
    fun a d => alignEffect_aligns live, fun start res => lvdsTrainDone_locks live, fun start k lanes training => ?_,
    fun cause digital locked on => ?_, fun since resync => ⟨fun soon idle => ?_, fun late => ⟨?_, ?_⟩⟩⟩
  · refine answers_of_settled live rfl ?_
    dsimp only
    rw [settle_ports]
    exact trainFailed_stops (u := s.advance t) training lanes
  · refine answers_of_settled live rfl ?_
    rw [settle_ports]
    exact lockLoss_loses (u := s.advance t) cause digital locked on
  · refine answers_of_settled live rfl ?_
    rw [settle_ports, settle_ldg]
    exact resyncDone_locks (u := s.advance t) resync soon idle
  · refine answers_of_settled live rfl ?_
    rw [settle_ports]
    exact resyncTimeout_trains (u := s.advance t) resync late
  · refine answers_of_settled live rfl ?_
    rw [settle_ports]
    exact (resyncTimeout_stops (u := s.advance t) resync late).1

end Sys2Proof.Machine

namespace Sys2Proof.Machine

/-! ## The slices of a lane (03 R56, R61 to R68) -/

/-- Lane c of port n is replaced. -/
def State.withLane (n : Fin 8) (c : Fin 4) (l : VideoLane) (s : State) : State := s.modPort n fun p => p.modLane c fun _ => l

/-- Aside from the end of its step, all that an answer changes is lane c of port n. -/
def State.OnlyLane (t : Nat) (n : Fin 8) (c : Fin 4) (l : VideoLane) (s u : State) : Prop :=
  s.calm u = { s.advance t with ports := s.ports.set n (s.ports[n].modLane c fun _ => l) }

section
variable {s u : State} {n : Fin 8} {c : Fin 4} {t : Nat}

theorem modPort_modLane (f : VideoLane → VideoLane) :
    (u.modPort n fun p => p.modLane c f) = u.withLane n c (f u.ports[n].vid.lanes[c]) := rfl

theorem modLane_modLane (f g : VideoLane → VideoLane) (p : Port) :
    (p.modLane c f).modLane c g = p.modLane c fun l => g (f l) := by
  simp [Port.modLane]

theorem lane_modLane_same (f : VideoLane → VideoLane) (p : Port) : (p.modLane c f).vid.lanes[c] = f p.vid.lanes[c] := by
  simp [Port.modLane]

theorem lane_modLane_other {k : Fin 4} (h : k ≠ c) (f : VideoLane → VideoLane) (p : Port) :
    (p.modLane c f).vid.lanes[k] = p.vid.lanes[k] := by
  simp [Port.modLane, Vector.getElem_set_ne, Fin.val_ne_of_ne h.symm]

theorem withLane_withLane (l m : VideoLane) : (u.withLane n c l).withLane n c m = u.withLane n c m := by
  unfold State.withLane
  rw [modPort_modPort]
  simp only [modLane_modLane]

theorem lane_withLane (l : VideoLane) : (u.withLane n c l).ports[n].vid.lanes[c] = l := by
  simp [State.withLane, Port.modLane]

/-- A change of a lane that depends on whether the port has a line in progress. -/
theorem withLane_modLane_line (l : VideoLane) (f : Option LineRun → VideoLane → VideoLane) :
    ((u.withLane n c l).modPort n fun p => p.modLane c (f p.line)) = u.withLane n c (f u.ports[n].line l) := by
  refine (modPort_modPort n _ _ u).trans ?_
  change u.modPort n (fun p => (p.modLane c fun _ => l).modLane c (f p.line)) = _
  simp only [modLane_modLane]
  rfl

/-- The answer of an effect that changes one port alone. -/
theorem answers_modPort (live : s.Live) {cmd : Instr} {f : State → State} {g : Port → Port}
    (hc : exec cmd s = .next (s.act t f)) (hf : f (s.advance t) = (s.advance t).modPort n g) :
    Answers cmd s fun u => s.calm u = { s.advance t with ports := s.ports.set n (g s.ports[n]) } :=
  ⟨_, hc, act_calm_eq live (by rw [hf]; rfl) rfl⟩

/-- The answer of an effect that changes one lane alone. -/
theorem answers_onlyLane (live : s.Live) {cmd : Instr} {f : State → State} {l : VideoLane}
    (hc : exec cmd s = .next (s.act t f)) (hf : f (s.advance t) = (s.advance t).withLane n c l) :
    Answers cmd s (s.OnlyLane t n c l) := answers_modPort live hc hf

theorem vrefSettled_settles (live : s.Live) (on : s.ports[n].vid.on = true) : Answers (.vrefSettled t n) s fun u =>
    s.calm u = { s.advance t with ports := s.ports.set n { s.ports[n] with vid.settled := true } } :=
  answers_modPort (g := fun p => { p with vid.settled := true }) live rfl (if_pos on)

section
variable {l : VideoLane} (lane : s.ports[n].vid.lanes[c] = l)
include lane

/-- SLICE_CAL_START: the spare is calibrated. -/
theorem sliceCalStart_begins (live : s.Live) (on : s.ports[n].laneOn c = true) (up : l.up = true) (good : l.fail = false)
    (free : l.calSlice = none) (swapped : l.swapReady = false) (spare : l.spare.isSome = true) :
    Answers (.sliceCalStart t n c) s (s.OnlyLane t n c { l with
      calSlice := l.spare, calStart := (s.advance t).ticks, calTiming := s.sliceTiming n c, retry := false }) := by
  subst lane
  refine answers_onlyLane live rfl (if_pos ?_)
  rw [State.advance_ports, on, up, good, free, swapped, spare]
  rfl

theorem calOverdue_marks (live : s.Live) (on : s.ports[n].laneOn c = true) (up : l.up = true)
    (late : l.isOverdue (s.advance t).ticks = true) :
    Answers (.calOverdue t n c) s (s.OnlyLane t n c { l with overdue := true }) := by
  subst lane
  refine answers_onlyLane live rfl (if_pos ?_)
  rw [State.advance_ports, on, up, late]
  rfl

end

/-! ### SLICE_CAL_DONE (R63, R65, R66) -/

section
variable {l : VideoLane} {k : Fin 9} {res : SliceResult}

/-- A spare that has been measured passes, is calibrated once more, or is retired. -/
theorem sliceDone_eq (lane : u.ports[n].vid.lanes[c] = l) (cal : l.calSlice = some k) (spare : l.spare = some k) :
    u.sliceDone n c res =
      if sliceOk res l.calTiming (u.ticks - l.calStart) then
        u.withLane n c { (l.measured k res).passed k u.ticks res.coeff with swapReady := true }
      else if !l.retry then
        u.withLane n c { l.measured k res with retry := true, calStart := u.ticks, calTiming := u.sliceTiming n c }
      else
        (u.withLane n c { (l.measured k res).retired k u.ticks with spare := none, noSpare := true }).laneDegraded n c k.val
          res := by
  unfold State.sliceDone
  dsimp only
  simp only [lane, cal, spare, ne_eq, not_true_eq_false, if_false, modPort_modLane, withLane_withLane, lane_withLane]
  rfl

theorem laneDegraded_ports (n : Fin 8) (c : Fin 4) (k : Nat) (res : SliceResult) (u : State) :
    (u.laneDegraded n c k res).ports = u.ports := by
  unfold State.laneDegraded
  rw [fire_ports, event_ports]

variable (live : s.Live) (lane : s.ports[n].vid.lanes[c] = l) (cal : l.calSlice = some k) (spare : l.spare = some k)
include live lane cal spare

theorem sliceCalDone_passes (ok : sliceOk res l.calTiming ((s.advance t).ticks - l.calStart) = true) :
    Answers (.sliceCalDone t n c res) s (s.OnlyLane t n c
      { (l.measured k res).passed k (s.advance t).ticks res.coeff with swapReady := true }) :=
  answers_onlyLane live rfl ((sliceDone_eq (u := s.advance t) lane cal spare).trans (if_pos ok))

theorem sliceCalDone_repeats (bad : sliceOk res l.calTiming ((s.advance t).ticks - l.calStart) = false)
    (first : l.retry = false) : Answers (.sliceCalDone t n c res) s (s.OnlyLane t n c
      { l.measured k res with retry := true, calStart := (s.advance t).ticks, calTiming := s.sliceTiming n c }) := by
  refine answers_onlyLane live rfl ((sliceDone_eq (u := s.advance t) lane cal spare).trans ?_)
  rw [bad, first]
  rfl

theorem sliceCalDone_retires (bad : sliceOk res l.calTiming ((s.advance t).ticks - l.calStart) = false)
    (again : l.retry = true) : Answers (.sliceCalDone t n c res) s fun u =>
      (u.ports[n].vid.lanes[c].slices[k]).retired = true ∧ u.ports[n].vid.lanes[c].spare = none
        ∧ u.ports[n].vid.lanes[c].noSpare = true ∧ u.ports[n].vid.lanes[c].order = l.order := by
  refine answers_of_settled live rfl ?_
  rw [settle_ports, sliceDone_eq (u := s.advance t) lane cal spare, bad, again, if_neg (by decide), if_neg (by decide),
    laneDegraded_ports, lane_withLane]
  refine ⟨?_, rfl, rfl, rfl⟩
  simp [VideoLane.retired, VideoLane.recheck, VideoLane.setSlice]

end

/-! ### SLICE_SWAP (R63) -/

theorem sliceSwap_swaps {l : VideoLane} {spare old : Fin 9} (live : s.Live) (lane : s.ports[n].vid.lanes[c] = l)
    (ready : l.swapReady = true) (free : s.ports[n].line = none) (flushed : s.ports[n].pxEnd ≤ (s.advance t).ticks)
    (hspare : l.spare = some spare) (oldest : l.oldest = some old) :
    Answers (.sliceSwap t n c) s (s.OnlyLane t n c { l.setSlice spare l.slices[spare].settled with
      order := l.order.map (fun k => if k = old then spare else k), spare := some old, swapReady := false }) := by
  have idle : (s.advance t).lanesIdle n = true := by
    rw [State.lanesIdle, State.advance_ports, free, decide_eq_true flushed]
    rfl
  refine answers_onlyLane live rfl ?_
  unfold State.sliceSwap
  dsimp only
  rw [State.advance_ports, lane, ready, idle, hspare, oldest]
  subst lane
  rfl

/-! ### SLICE_CAL_STEP (R67) -/

/-- The lane as a step of the calibration of slice k in place runs: the first step takes the slice timing of the plan in force. -/
def VideoLane.stepped (l : VideoLane) (k : Fin 9) (timing now : Nat) : VideoLane :=
  { l with calSlice := some k, calTiming := if l.steps = 0 then timing else l.calTiming, stepTick := now }

theorem stepped_of_cal {l : VideoLane} {k : Fin 9} (cal : l.calSlice = some k) (timing now : Nat) :
    l.stepped k timing now =
      { l with calTiming := if l.steps = 0 then timing else l.calTiming, stepTick := now } := by
  unfold VideoLane.stepped
  rw [← cal]

section
variable {l : VideoLane} {k : Fin 9} {res : SliceResult}

section
variable (lane : u.ports[n].vid.lanes[c] = l) (alone : l.noSpare = true) (good : l.fail = false)
  (on : u.ports[n].laneOn c = true) (free : u.stepFree n l = true) (cal : l.calSlice = some k)
include lane alone good on free cal

/-- A step is one more of the 2,048, or the last of a slice, which then passes or not. -/
theorem sliceStep_eq : u.sliceStep n c res =
    let timing := if l.steps = 0 then u.sliceTiming n c else l.calTiming
    let v := u.modPort n fun p => p.modLane c fun x => { x with calSlice := some k, calTiming := timing, stepTick := u.ticks }
    if l.steps + 1 < 2048 then v.modPort n fun p => p.modLane c fun x => { x with steps := x.steps + 1 }
    else
      let w := v.modPort n fun p => p.modLane c fun x => { x.measured k res with steps := 0 }
      if sliceOk res timing (2048 * 3000) then
        w.modPort n fun p => p.modLane c fun x =>
          if p.line.isNone then (x.passed k u.ticks res.coeff).settleCoeffs else x.passed k u.ticks res.coeff
      else if !l.retry then w.modPort n fun p => p.modLane c fun x => { x with retry := true }
      else (w.modPort n fun p => p.modLane c fun x => x.retired k u.ticks).laneFails n c := by
  have guard : ¬ (!l.noSpare || l.fail || !u.ports[n].laneOn c || !u.stepFree n l) = true := by
    rw [alone, good, on, free]
    decide
  subst lane
  unfold State.sliceStep
  dsimp only
  rw [if_neg guard, cal]
  rfl

theorem sliceStep_more (more : l.steps + 1 < 2048) : u.sliceStep n c res =
    u.withLane n c { l.stepped k (u.sliceTiming n c) u.ticks with steps := l.steps + 1 } := by
  rw [sliceStep_eq lane alone good on free cal]
  dsimp only
  rw [if_pos more, modPort_modLane, modPort_modLane, withLane_withLane, lane_withLane, lane]
  rfl

theorem sliceStep_last (last : 2048 ≤ l.steps + 1)
    (ok : sliceOk res (l.stepped k (u.sliceTiming n c) u.ticks).calTiming (2048 * 3000) = true) : u.sliceStep n c res =
      let y := ({ (l.stepped k (u.sliceTiming n c) u.ticks).measured k res with steps := 0 } : VideoLane).passed k u.ticks res.coeff
      u.withLane n c (if u.ports[n].line.isNone then y.settleCoeffs else y) := by
  rw [sliceStep_eq lane alone good on free cal]
  dsimp only
  rw [if_neg (not_lt.2 last), if_pos (by exact ok), modPort_modLane, modPort_modLane, withLane_withLane, lane_withLane, lane]
  exact withLane_modLane_line _ fun r x =>
    if r.isNone then (x.passed k u.ticks res.coeff).settleCoeffs else x.passed k u.ticks res.coeff

end

variable (live : s.Live) (lane : s.ports[n].vid.lanes[c] = l)
  (alone : l.noSpare = true) (good : l.fail = false) (on : s.ports[n].laneOn c = true)
  (free : (s.advance t).stepFree n l = true) (cal : l.calSlice = some k)
include live lane alone good on free cal

theorem sliceCalStep_goes_on (more : l.steps + 1 < 2048) : Answers (.sliceCalStep t n c res) s (s.OnlyLane t n c
    { l with
      calTiming := if l.steps = 0 then s.sliceTiming n c else l.calTiming, stepTick := (s.advance t).ticks
      steps := l.steps + 1 }) := by
  refine answers_onlyLane live rfl ((sliceStep_more (u := s.advance t) lane alone good on free cal more).trans ?_)
  rw [stepped_of_cal cal]
  rfl

theorem sliceCalStep_passes {x : VideoLane} (hx : { l with
      calTiming := if l.steps = 0 then s.sliceTiming n c else l.calTiming, stepTick := (s.advance t).ticks } = x)
    (last : 2048 ≤ l.steps + 1) (ok : sliceOk res x.calTiming (2048 * 3000) = true) :
    let y := ({ x.measured k res with steps := 0 } : VideoLane).passed k (s.advance t).ticks res.coeff
    Answers (.sliceCalStep t n c res) s (s.OnlyLane t n c (if s.ports[n].line = none then y.settleCoeffs else y)) := by
  have stepped : l.stepped k ((s.advance t).sliceTiming n c) (s.advance t).ticks = x := (stepped_of_cal cal _ _).trans hx
  refine answers_onlyLane live rfl
    ((sliceStep_last (u := s.advance t) lane alone good on free cal last (by rw [stepped]; exact ok)).trans ?_)
  rw [stepped]
  simp only [Option.isNone_iff_eq_none]
  rfl

end

end

end Sys2Proof.Machine

namespace Sys2Proof.Machine

/-! ## The initial calibration of the lanes (03 R56, R65) -/

/-! ### What arming and the calibrations of a port leave of it -/

/-- A part of a port that arming and calibrations leave as it is: they move its engine and the codes of its lanes. -/
structure Port.Steady {β : Type} (g : Port → β) : Prop where
  moves : ∀ (p : Port) st waits grid waiting inbuf caps signatures recent lastInstant lastFree darkPhase,
    g { p with st, waits, grid, waiting, inbuf, caps, signatures, recent, lastInstant, lastFree, darkPhase } = g p
  codes : ∀ (p : Port) (l : Fin 4 → VideoLane),
    (∀ k, ∃ x y, l k = { p.vid.lanes[k] with pga := x, offset := y }) → g { p with vid.lanes := Vector.ofFn l } = g p

section
variable {β : Type} {g : Port → β} (h : Port.Steady g)
include h

theorem view_armNow (n : Fin 8) (s : State) : (s.armNow n).view g = s.view g := by
  unfold State.armNow
  refine (view_of_scene ((scene_finishAll _ _ _ _ _).trans (scene_sysRoutes _))).trans ?_
  exact view_modPort_of (fun p => h.moves p _ _ _ _ _ _ _ _ _ _ _) (view_modPort n _ s (h.moves _ _ _ _ _ _ _ _ _ _ _ _))

theorem view_skipPassed (n : Fin 8) (s : State) : (s.skipPassed n).view g = s.view g :=
  view_modPort n _ s (h.moves _ _ _ _ _ _ _ _ _ _ _ _)

/-- New codes for some of the lanes, with the lamps' phase. -/
theorem Port.Steady.recoded (dark : Bool) (p : Port) (l : Fin 4 → VideoLane)
    (hl : ∀ k, ∃ x y, l k = { p.vid.lanes[k] with pga := x, offset := y }) :
    g { p with darkPhase := dark, vid.lanes := Vector.ofFn l } = g p :=
  (h.moves { p with vid.lanes := Vector.ofFn l } _ _ _ _ _ _ _ _ _ _ _).trans
    (h.codes p l hl)

theorem view_leaveCal (r : CalRun) (s : State) : (s.leaveCal r).view g = s.view g := by
  unfold State.leaveCal
  dsimp only
  generalize hu : State.modPort r.port _ s = u
  have start : u.view g = s.view g := by
    rw [← hu]
    refine view_modPort r.port _ s (h.recoded _ _ _ fun k => ?_)
    split
    · exact ⟨_, _, rfl⟩
    · exact ⟨_, _, rfl⟩
  split
  · refine (view_disarmEffect _ _ (fun p => h.moves p _ _ _ _ _ _ _ _ _ _ _) fun p => h.moves p _ _ _ _ _ _ _ _ _ _ _).trans ?_
    refine (view_laneIdle _ _ fun p => h.moves p _ _ _ _ _ _ _ _ _ _ _).trans ?_
    refine (when_keeps (g := State.view g) (view_skipPassed h _ _) _).trans ?_
    exact view_modPort_of (fun p => h.moves p _ _ _ _ _ _ _ _ _ _ _) start
  · exact view_modPort_of (fun p => h.moves p _ _ _ _ _ _ _ _ _ _ _) start

theorem view_dropRun (r : CalRun) (s : State) : (s.dropRun r).view g = s.view g := by
  unfold State.dropRun
  refine (when_keeps (g := State.view g) (by rfl) _).trans ?_
  unfold State.leaveRun
  dsimp only
  split
  · exact view_leaveCal h r _
  · rfl

theorem view_calEnd (r : CalRun) (st : BitVec 16) (d : BitVec 32) (resid : Int) (s : State) :
    (s.calEnd r st d resid).view g = s.view g := by
  unfold State.calEnd
  refine (view_of_scene ((scene_openNext _).trans (scene_finish _ _ _ _ _ _ _))).trans ?_
  exact (view_of_scene (scene_calLast _ _ _ _ _ _)).trans (view_dropRun h r s)

theorem view_calAbandon (r : CalRun) (st : BitVec 16) (d : BitVec 32) (s : State) (f : BitVec 32) :
    (s.calAbandon r st d f).view g = s.view g := by
  unfold State.calAbandon
  refine (view_of_scene ((scene_openNext _).trans (scene_finish _ _ _ _ _ _ _))).trans ?_
  exact (view_of_scene (scene_calLast _ _ _ _ _ _)).trans (view_dropRun h r s)

theorem view_beginPhase (r : CalRun) (s : State) : (s.beginPhase r).view g = s.view g := by
  unfold State.beginPhase
  dsimp only
  split
  · rfl
  · refine (view_of_scene (scene_askUrgent _ _)).trans (view_modPort_of (fun p => ?_) rfl)
    refine h.recoded _ _ _ fun k => ?_
    split
    · exact ⟨_, _, rfl⟩
    · exact ⟨_, _, rfl⟩

theorem view_calBegins (n : Fin 8) (r : CalRun) (s : State) :
    (if s.docInWay n then s.calEnd r 0x0201 0x0501 0 else s.beginPhase r).view g = s.view g := by
  split
  · exact view_calEnd h r _ _ _ s
  · exact view_beginPhase h r s

theorem view_enterCal (r : CalRun) (s : State) : (s.enterCal r).view g = s.view g := by
  unfold State.enterCal
  dsimp only
  split
  · split
    · exact view_calEnd h r _ _ _ s
    · rfl
  · split
    · exact view_modPort_of (fun p => h.moves p _ _ _ _ _ _ _ _ _ _ _) rfl
    · exact Eq.trans (view_calBegins h _ _ _) (view_modPort_of (fun p => h.moves p _ _ _ _ _ _ _ _ _ _ _) rfl)

theorem view_calResume (n : Fin 8) (s : State) : (s.calResume n).view g = s.view g := by
  unfold State.calResume
  split
  · split
    · exact when_keeps (g := State.view g) (view_calAbandon h _ _ _ s _) _
    · split
      · exact view_enterCal h _ s
      · rfl
  · rfl

end

/-! ### The lanes after VID_READY -/

/-- A lane whose initial calibration has passed: eight slices in its positions and a spare. -/
def VideoLane.Whole (l : VideoLane) : Prop := l.up = true ∧ l.order.length = 8 ∧ l.spare.isSome = true

/-- What the initial calibration brings a port: `vid_ready`, and of each lane what makes it whole. -/
def Port.readiness (p : Port) : Bool × Vector (Bool × List (Fin 9) × Option (Fin 9)) 4 :=
  (p.vid.ready, p.vid.lanes.map fun l => (l.up, l.order, l.spare))

theorem steady_readiness : Port.Steady Port.readiness where
  moves _ _ _ _ _ _ _ _ _ _ _ _ := rfl
  codes p l hl := by
    refine congrArg (Prod.mk p.vid.ready) (Vector.ext fun k hk => ?_)
    obtain ⟨x, y, e⟩ := hl ⟨k, hk⟩
    simp [e]

theorem whole_of_readiness {p q : Port} {c : Fin 4} (h : p.readiness = q.readiness) (whole : q.vid.lanes[c].Whole) :
    p.vid.lanes[c].Whole := by
  have lane := congrArg (fun r : Bool × Vector (Bool × List (Fin 9) × Option (Fin 9)) 4 => r.2[c]) h
  simp only [Port.readiness, Fin.getElem_fin, Vector.getElem_map, Prod.mk.injEq] at lane
  obtain ⟨up, order, spare⟩ := lane
  unfold VideoLane.Whole at whole ⊢
  simp only [Fin.getElem_fin] at whole ⊢
  rwa [up, order, spare]

section
variable {x : Fin 9 → SliceResult × SliceResult} {timing : Nat} (pass : ∀ k, (initialOutcome (x k) timing).2 = true)
include pass

theorem started_whole (l : VideoLane) (now : Nat) : (l.started now timing x).Whole := by
  have all : ((List.finRange 9).filter fun k => (initialOutcome (x k) timing).2) = List.finRange 9 :=
    List.filter_eq_self.2 fun k _ => pass k
  unfold VideoLane.started VideoLane.Whole
  dsimp only
  rw [all]
  decide

end

section
variable {s u : State} {n : Fin 8} {t : Nat} {res : List (SliceResult × SliceResult)}

/-- A lane all of whose slices pass has started, and nothing else comes of it. -/
theorem laneStarted_passes {m : Fin 4} (pass : ∀ k, (initialOutcome (initialResult res m k) (u.sliceTiming n m)).2 = true) :
    u.laneStarted n res m =
      u.modPort n fun p => p.modLane m fun l => l.started u.ticks (u.sliceTiming n m) (initialResult res m) := by
  have none_fails : ((List.finRange 9).filter fun k => !(initialOutcome (initialResult res m k) (u.sliceTiming n m)).2) = [] :=
    List.filter_eq_nil_iff.2 fun k _ => by simp [pass k]
  unfold State.laneStarted
  dsimp only
  rw [none_fails]

theorem laneFailed_modLane {p : Port} {m : Fin 4} {f : VideoLane → VideoLane} (sound : p.laneFailed = false)
    (good : (f p.vid.lanes[m]).fail = false) : (p.modLane m f).laneFailed = false := by
  unfold Port.laneFailed at sound ⊢
  rw [Bool.and_eq_false_iff, List.any_eq_false] at sound ⊢
  refine sound.imp id fun none_fails k hk => ?_
  by_cases e : k = m
  · subst e
    rw [lane_modLane_same, good, Bool.and_false]
    decide
  · rw [lane_modLane_other e]
    exact none_fails k hk

/-- The lanes of a list start one after the other, where all their slices pass: none fails, and they are whole with those that were. -/
theorem each_laneStarted (todo : List (Fin 4)) {u : State}
    (pass : ∀ m ∈ todo, ∀ k, (initialOutcome (initialResult res m k) (u.sliceTiming n m)).2 = true)
    (sound : u.ports[n].laneFailed = false) :
    (u.each todo (State.laneStarted n res)).ports[n].laneFailed = false ∧ ∀ c : Fin 4,
      (u.ports[n].vid.lanes[c].Whole ∨ c ∈ todo) → (u.each todo (State.laneStarted n res)).ports[n].vid.lanes[c].Whole := by
  induction todo generalizing u with
  | nil => exact ⟨sound, fun c whole => whole.resolve_right List.not_mem_nil⟩
  | cons m todo ih =>
    have here := pass m List.mem_cons_self
    have first := laneStarted_passes here
    have port : (u.laneStarted n res m).ports[n] =
        u.ports[n].modLane m fun l => l.started u.ticks (u.sliceTiming n m) (initialResult res m) := by
      rw [first, State.modPort_ports, ports_set_same]
    obtain ⟨none_fails, whole⟩ := ih (u := u.laneStarted n res m)
      (fun k hk => by rw [first]; exact pass k (List.mem_cons_of_mem m hk)) (by rw [port]; exact laneFailed_modLane sound rfl)
    refine ⟨none_fails, fun c hc => whole c ?_⟩
    rw [port]
    by_cases e : c = m
    · subst e
      rw [lane_modLane_same]
      exact .inl (started_whole here _ _)
    · rw [lane_modLane_other e]
      exact hc.imp id fun mem => (List.mem_cons.1 mem).resolve_left e

/-- VID_READY with every slice good: `vid_ready`, whatever then goes on with the port. -/
theorem vidReady_readies (live : s.Live) {c : Fin 4} (settled : s.ports[n].vid.settled = true)
    (down : s.ports[n].laneDown c = true) (sound : s.ports[n].laneFailed = false)
    (pass : ∀ m : Fin 4, s.ports[n].laneDown m = true →
      ∀ k, (initialOutcome (initialResult res m k) (s.sliceTiming n m)).2 = true) :
    Answers (.vidReady t n res) s fun u => u.ports[n].vid.ready = true ∧ u.ports[n].vid.lanes[c].Whole := by
  have todo : c ∈ (List.finRange 4).filter s.ports[n].laneDown := List.mem_filter.2 ⟨List.mem_finRange c, down⟩
  have goes_on : ¬ (!s.ports[n].vid.settled || ((List.finRange 4).filter s.ports[n].laneDown).isEmpty) = true := by
    rw [settled]
    simpa using List.ne_nil_of_mem todo
  obtain ⟨none_fails, whole⟩ := each_laneStarted (u := s.advance t) ((List.finRange 4).filter s.ports[n].laneDown)
    (fun m hm => pass m (List.mem_filter.1 hm).2) sound
  replace whole := whole c (.inr todo)
  refine answers_of_settled live rfl ?_
  unfold State.vidReady
  dsimp only
  rw [settle_ports, State.advance_ports, if_neg goes_on, none_fails, if_neg Bool.false_ne_true]
  generalize (s.advance t).each _ _ = v at whole ⊢
  generalize hw : (v.modPort n fun p => { p with vid.ready := true }) = w
  have ready : w.ports[n] = { v.ports[n] with vid.ready := true } := by rw [← hw, State.modPort_ports, ports_set_same]
  have rest := port_of_view ((view_calResume steady_readiness n _).trans
    (when_keeps (g := State.view Port.readiness) (view_armNow steady_readiness n w) (!w.ports[n].waits.arm.isEmpty))) n
  refine ⟨(congrArg Prod.fst rest).trans ?_, whole_of_readiness rest ?_⟩
  · change w.ports[n].vid.ready = true
    rw [ready]
  · rw [ready]
    exact whole

end

end Sys2Proof.Machine

namespace Sys2Proof.Machine

section
variable {s u : State} {n : Fin 8} {t : Nat}

/-! ## What takes effect where no side is open (03 R55, 04 R79, R84, 09 R210) -/

theorem noSide_of_shut {p : Port} (shut : p.sides = []) : p.noSide = true := by
  rw [Port.noSide, shut]
  rfl

/-- Codes that take effect leave no lane with codes that wait. -/
theorem applyVideo_unchanged (n : Fin 8) (u : State) (k : Fin 4) : (u.applyVideo n).ports[n].vid.lanes[k].changed = false := by
  unfold State.applyVideo
  rw [State.modPort_ports, ports_set_same]
  simp only [Fin.getElem_fin, Vector.getElem_ofFn]
  split <;> rfl

theorem videoEffect_takes (live : s.Live) {c : Fin 4} (changed : s.ports[n].vid.lanes[c].changed = true)
    (free : s.ports[n].line = none) (shut : s.ports[n].sides = []) (other : s.ports[n].st ≠ .cal) :
    Answers (.videoEffect t n) s fun u =>
      u.ports[n].shade.excludeNext = true ∧ ∀ k : Fin 4, u.ports[n].vid.lanes[k].changed = false := by
  have waits : ((List.finRange 4).any fun k => s.ports[n].vid.lanes[k].changed) = true :=
    List.any_eq_true.2 ⟨c, List.mem_finRange c, changed⟩
  have takes : (s.advance t).videoEffect n =
      ((s.advance t).applyVideo n).modPort n fun p => { p with shade.excludeNext := true } := by
    refine if_pos ?_
    rw [State.advance_ports, waits, free, noSide_of_shut shut, decide_eq_true other]
    rfl
  refine answers_of_settled live rfl ?_
  rw [settle_ports, takes, State.modPort_ports, ports_set_same]
  exact ⟨rfl, applyVideo_unchanged n _⟩

theorem timeEffect_takes (live : s.Live) {h : TrigHead} {tabs : List (List Nat)} (pending : s.ports[n].timePending = true)
    (free : s.ports[n].line = none) (shut : s.ports[n].sides = []) (record : s.timeOf = some (h, tabs)) :
    Answers (.timeEffect t n) s fun u =>
      u.ports[n].timePending = false ∧ u.ports[n].timeGen = BitVec.ofNat 32 h.gen
        ∧ u.ports[n].timeTables = (tabs.getD n.val []) :: (List.range 4).map fun c => tabs.getD (8 + 4 * n.val + c) [] := by
  have inForce : (s.advance t).timeOf = some (h, tabs) := record
  have due : (s.ports[n].timePending && s.ports[n].line.isNone && s.ports[n].noSide) = true := by
    rw [pending, free, noSide_of_shut shut]
    rfl
  refine answers_of_settled live rfl ?_
  unfold State.timeEffect
  dsimp only
  rw [settle_ports, State.advance_ports, if_pos due, inForce, State.modPort_ports, ports_set_same]
  exact ⟨rfl, rfl, rfl⟩

/-! ### REFRESH_SEGMENT -/

section
variable {g : List (List Nat)} (live : s.Live) (writing : s.ports[n].shade.newGain = some g) (shut : s.ports[n].sides = [])
include live writing shut

theorem refreshSegment_writes (more : 1024 * s.ports[n].shade.segNext + 1024 < s.ports[n].cfg.samples) :
    Answers (.refreshSegment t n) s fun u =>
      u.ports[n].shade.segNext = s.ports[n].shade.segNext + 1 ∧ u.ports[n].shade.newGain = some g := by
  refine answers_of_settled live rfl ?_
  unfold State.refreshSegment
  dsimp only
  rw [settle_ports, State.advance_ports, writing, noSide_of_shut shut]
  dsimp only
  rw [if_neg (by decide), if_pos more, State.modPort_ports, ports_set_same]
  exact ⟨rfl, writing⟩

theorem refreshSegment_completes (last : s.ports[n].cfg.samples ≤ 1024 * s.ports[n].shade.segNext + 1024) :
    Answers (.refreshSegment t n) s fun u =>
      u.ports[n].shade.newGain = none ∧ u.ports[n].shade.epoch = s.ports[n].shade.epoch + 1 ∧ u.ports[n].shade.segNext = 0 := by
  refine answers_of_settled live rfl ?_
  unfold State.refreshSegment
  dsimp only
  rw [settle_ports, State.advance_ports, writing, noSide_of_shut shut]
  dsimp only
  rw [if_neg (by decide), if_neg (not_lt.2 last), State.modPort_ports, ports_set_same, State.modPort_ports, ports_set_same]
  exact ⟨rfl, rfl, rfl⟩

end

/-- PIPE_CAP_UPDATE: the rate joins those of the last 100 us (04 R75). -/
theorem pipeCapUpdate_notes (live : s.Live) (rate : Nat) : Answers (.pipeCapUpdate t n rate) s fun u =>
    u.ports[n].cnt.capHistory = ((s.advance t).ticks, if s.ports[n].st = .off then 0 else rate)
      :: s.ports[n].cnt.capHistory.filter fun x => (s.advance t).ticks < x.1 + 150000 := by
  refine answers_of_settled live rfl ?_
  unfold State.pipeCap
  rw [settle_ports, State.modPort_ports, ports_set_same]
  rfl

/-! ### SHADE_LOAD -/

/-- A part of a port that the pipeline leaves as it is: the lines that run through it move its captures, its counters and what
it has learnt. -/
structure Port.Undrained {β : Type} (g : Port → β) : Prop where
  lines : ∀ (p : Port) caps inbuf, g { p with caps, inbuf } = g p
  taken : ∀ (p : Port) cnt signatures recent caps sides, g { p with cnt, signatures, recent, caps, sides } = g p
  learns : ∀ (p : Port) gap ovr excluded open_ y, g (p.learn gap ovr excluded open_ y) = g p

section
variable {β : Type} {g : Port → β} (h : Port.Undrained g)
include h

theorem view_delayTurn (n : Fin 8) (k : Nat) (y : List (List Nat)) (s : State) : (s.delayTurn n k y).view g = s.view g :=
  each_keeps (g := State.view g) (fun c u => by
    dsimp only
    split
    · rfl
    · exact (view_of_scene (scene_post _ _ _ _)).trans (view_modPort n _ u (h.lines _ _ _))) _ s

theorem view_correctLine (n : Fin 8) (l : RawLine) (s : State) : (s.correctLine n l).view g = s.view g := by
  unfold State.correctLine
  dsimp only
  generalize hu : State.drawn _ = u
  have start : u.view g = s.view g := by
    rw [← hu]
    refine (view_of_scene (scene_drawn _)).trans ?_
    refine view_modPort_of (fun p => ?_) (when_keeps (g := State.view g) (view_delayTurn h n _ _ s) _)
    exact (h.taken _ _ _ _ _ _).trans (h.learns p _ _ _ _ _)
  split
  · split
    · exact start
    · exact start
  · exact start

theorem view_drainLines (n : Fin 8) (k : Nat) (s : State) : (s.drainLines n k).view g = s.view g := by
  induction k generalizing s with
  | zero => rfl
  | succ k ih =>
    unfold State.drainLines
    split
    · rfl
    · split
      · rfl
      · exact (ih _).trans ((view_correctLine h n _ _).trans (view_modPort n _ s (h.lines _ _ _)))

theorem view_drainPort (n : Fin 8) (s : State) : (s.drainPort n).view g = s.view g :=
  (view_drainLines h n _ _).trans (view_modPort n _ s (h.lines _ _ _))

end

/-- What a SHADE record gives the shading store, and whether one waits for its load. -/
def Port.loaded (p : Port) : BitVec 32 × List (List Nat) × List (List Nat) × Bool :=
  (p.shade.gen, p.shade.dark, p.shade.gain, p.shade.loadPending)

theorem loaded_accumulate (p : Port) (b : RefreshBlock) (y : List (List Nat)) : (p.accumulate b y).loaded = p.loaded := by
  unfold Port.accumulate
  dsimp only
  split
  · rfl
  · split <;> rfl

theorem loaded_learn (p : Port) (gap ovr excluded : Bool) (open_ : Int) (y : List (List Nat)) :
    (p.learn gap ovr excluded open_ y).loaded = p.loaded := by
  unfold Port.learn
  split
  · rfl
  · dsimp only
    split
    · rfl
    · split
      · rfl
      · exact loaded_accumulate _ _ _

theorem undrained_loaded : Port.Undrained Port.loaded :=
  ⟨fun _ _ _ => rfl, fun _ _ _ _ _ _ => rfl, loaded_learn⟩

theorem openDue_of_shut (shut : u.ports[n].sides = []) : u.openDue n = u := by
  unfold State.openDue
  rw [shut]
  rfl

/-- SHADE_LOAD takes the record that matches (R79). -/
theorem shadeLoad_loads (live : s.Live) {h : TrigHead} {b : ShadeBody} (pending : s.ports[n].shade.loadPending = true)
    (shut : s.ports[n].sides = []) (fits : s.shadeMatches n s.ports[n].cfg.colours s.ports[n].cfg.width = true)
    (record : s.shadeOf n = some (h, b)) : Answers (.shadeLoad t n) s fun u =>
      u.ports[n].shade.gen = BitVec.ofNat 32 h.gen ∧ u.ports[n].shade.dark = b.dark ∧ u.ports[n].shade.gain = b.gain
        ∧ u.ports[n].shade.loadPending = false := by
  have inForce : (s.advance t).shadeMatch n = some (h, b) := (if_pos fits).trans record
  have due : (s.ports[n].shade.loadPending && (s.ports[n].noSide || s.ports[n].shade.loading)) = true := by
    rw [pending, noSide_of_shut shut]
    rfl
  have loads : ((s.advance t).shadeLoad n).ports[n].loaded = (BitVec.ofNat 32 h.gen, b.dark, b.gain, false) := by
    unfold State.shadeLoad
    dsimp only
    rw [State.advance_ports, if_pos due, inForce, openDue_of_shut (by rw [State.modPort_ports, ports_set_same]; exact shut),
      port_of_view (view_drainPort undrained_loaded n _) n, State.modPort_ports, ports_set_same]
    rfl
  refine answers_of_settled live rfl ?_
  rw [settle_ports]
  simpa [Port.loaded, -Fin.getElem_fin] using loads

end

/-- Settles O52: each clause is the answer of its own instruction. -/
theorem videoLanesFollowTheirRules : Obligations.VideoLanesFollowTheirRules := by
  intro s t n c live
  refine ⟨vrefSettled_settles live, fun res settled down sound pass => vidReady_readies live settled down sound pass,
    fun on up => ⟨sliceCalStart_begins rfl live on up, calOverdue_marks rfl live on up⟩,
    fun k res cal spare => ⟨sliceCalDone_passes live rfl cal spare, sliceCalDone_repeats live rfl cal spare,
      sliceCalDone_retires live rfl cal spare⟩,
    fun spare old ready free flushed found oldest => sliceSwap_swaps live rfl ready free flushed found oldest,
    fun k res alone good on free cal => ⟨sliceCalStep_goes_on live rfl alone good on free cal,
      sliceCalStep_passes live rfl alone good on free cal rfl⟩,
    videoEffect_takes live, fun h tabs => timeEffect_takes live, fun h b => shadeLoad_loads live,
    fun g writing shut => ⟨refreshSegment_writes live writing shut, refreshSegment_completes live writing shut⟩,
    pipeCapUpdate_notes live⟩

end Sys2Proof.Machine

namespace Sys2Proof.Machine

/-! ## A PROVENANCE record behind a DOC_CLOSE (15 R361, 13 R318)

Records enter the store in their order (11 R276). So the record that PROVENANCE_SIGN forms takes every DOC_CLOSE that stands
before it and now has room along into the store, and the DOC_END commands that waited for one of these are answered: their DONE
entries change the Ledger. -/

/-- A DOC_END in flight on RING2, which waits for the DOC_CLOSE of document 2. -/
def waitingDocEnd : Flight := { testFlight with opcode := docEndSpec.code }

/-- The DOC_CLOSE of document 2, complete and not yet in the store. -/
def waitingClose : ImageRec :=
  { typ := 5, ring := 16, recSeq := 0, bytes := recordBytes 5 0 true (captureId 0 0 2 0 0) 0 (List.replicate 64 0), addr := 0
    delivered := false, slotsLeft := 2, keep := false, ends := [waitingDocEnd.seq] }

/-- The closed side of document 1, whose own DOC_CLOSE is in the Cellar. -/
def closedSide : ProvJob := { testProv with body := captureId 0 0 1 0 0 }

/-- Port 0 has a closed side to sign and, before its store, the DOC_CLOSE of the next; its IMAGE region has room for both. -/
def closeBeforeProvenance : State :=
  upPort (fun p => { p with provs := [closedSide], held := [waitingClose] })
    { upRun with
      sec.capReady := true, cmd.flights := [waitingDocEnd]
      cel.regions := up.cel.regions.set 0 { testRegion with purpose := .image } }

theorem closeBeforeProvenance_live : closeBeforeProvenance.Live := ⟨rfl, rfl⟩

/-- The closed side can be signed: the DOC_CLOSE that waits is not its own. -/
theorem closeBeforeProvenance_signable : closeBeforeProvenance.signs = true ∧ closeBeforeProvenance.cel.selfRefresh = false
    ∧ closeBeforeProvenance.ports[(0 : Fin 8)].closeHeld closedSide = false := by decide +kernel

/-- PROVENANCE_SIGN there puts both records into the store, in their order, and answers the DOC_END, with one entry in the
Ledger. -/
theorem provenanceSign_answers_docEnd :
    let u := closeBeforeProvenance.act 0 (State.provenance 0);
    u.ports[(0 : Fin 8)].store.map ImageRec.typ = [5, 6]
      ∧ u.cmd.replies.map (fun r => (r.opcode, r.flight)) = [(docEndSpec.code, some waitingDocEnd.seq)]
      ∧ u.ldg.nextSeq = closeBeforeProvenance.ldg.nextSeq + 1 := by decide +kernel

/-- Refutes O44: the clause of PROVENANCE_SIGN says that the Ledger stays as it was, and the DOC_END of a later side, answered
in that step, adds its DONE entry. -/
theorem not_linesAndProvenanceGoOut : ¬ Obligations.LinesAndProvenanceGoOut := by
  unfold Obligations.LinesAndProvenanceGoOut
  intro holds
  obtain ⟨signs, awake, own⟩ := closeBeforeProvenance_signable
  obtain ⟨u, answered, -, -, -, ledger, -⟩ :=
    (holds closeBeforeProvenance 0 0 closeBeforeProvenance_live).2 closedSide [] rfl signs awake own
  obtain rfl : closeBeforeProvenance.act 0 (State.provenance 0) = u := by
    injection answered
  obtain ⟨-, -, grown⟩ := provenanceSign_answers_docEnd
  rw [ledger] at grown
  exact absurd grown (by decide +kernel)

end Sys2Proof.Machine

namespace Sys2Proof.Machine

/-! ## The pace commands (05 R130 to R132) -/

/-- The end of an accepted command that no reply has been formed for puts its reply, the buffers in it, behind all else. -/
theorem finish_pushes {s : State} {q : DWord} {x : Flight} (hx : s.flight? q = some x) (running : x.finished = false)
    (own : x.kind ≠ .mirrored) (unanswered : x.queuedReply = false) (st : BitVec 16) (d r f : BitVec 32) :
    ∃ (u : State) (y : Reply), ∀ b, s.finish q st d r f b = State.pushReply { y with buffers := b } u := by
  simp only [State.finish, hx, running, own, unanswered, Bool.false_eq_true, if_false]
  generalize (if x.kind = .unledgered then _ else State.appendEntry _ _ : State) = u
  exact ⟨u, { ring := x.replyRing, cmdRing := x.ring, status := st, opcode := x.opcode, tag := x.tag
              seq := if x.kind = .unledgered then -1 else q, cookie := x.cookie, detail := d, result := r
              time := u.time, fault := f, flight := some q, buffers := [] }, fun _ => rfl⟩

section
variable {sp : PacketSpec} {p : Packet} {s : State} {r : Ring} {g : Fin 4}

/-- The end of an accepted command with buffers, in a state with the desk of its acceptance. -/
theorem Accepts.finish_buffers_form (h : Accepts sp p s r) {v : State} (hv : v.desk = (s.entered sp p r).desk)
    (res : BitVec 32) (b : List (Nat × List Byte)) : ∃ fl l w, v.finish s.acceptSeq 0 0 res 0 b = { v with
      cmd.flights := fl, ldg := l, posted := v.posted ++ w
      cmd.replies := s.cmd.replies ++ [replyOf sp p r s 0 0 res b] } ∧ ∀ y ∈ w, y.space = Space.cellar := by
  have flight : v.flight? s.acceptSeq = some ((s.advance p.tick).flightOf p r sp.code) := by
    rw [← h.flight_entered]
    unfold State.flight?
    rw [cmd_of_desk hv]
  have own : ((s.advance p.tick).flightOf p r sp.code).kind ≠ .mirrored := by
    unfold State.flightOf
    cases (s.advance p.tick).second <;> simp
  obtain ⟨u, y, pushes⟩ := finish_pushes flight rfl own rfl 0 0 res 0
  obtain ⟨fl, l, w, plain, hw⟩ := h.finish_form hv res
  have pushed := (pushes []).symm.trans plain
  have replies : u.cmd.replies ++ [{ y with buffers := [] }] = s.cmd.replies ++ [replyOf sp p r s 0 0 res] :=
    congrArg (fun z => z.cmd.replies) pushed
  obtain ⟨before, reply⟩ := List.append_inj' replies rfl
  have same : { y with buffers := b } = replyOf sp p r s 0 0 res b :=
    congrArg (fun z : Reply => { z with buffers := b }) (List.singleton_inj.1 reply)
  refine ⟨fl, l, w, ?_, hw⟩
  have swapped : State.pushReply { y with buffers := b } u = { State.pushReply { y with buffers := [] } u with
      cmd.replies := u.cmd.replies ++ [{ y with buffers := b }] } := rfl
  rw [pushes b, swapped, pushed, before, same]

/-- An accepted command that makes the governor `P` and is then answered leaves the rest as it was. -/
theorem Accepts.answers_pace (h : Accepts sp p s r) {c : Instr} (hc : exec c s = .next (s.act p.tick (State.packet sp p)))
    (P : Pace) (res : BitVec 32) (b : List (Nat × List Byte))
    (run : sp.run p r.secure s.acceptSeq (s.entered sp p r) =
      State.finish s.acceptSeq 0 0 res { s.entered sp p r with pace := P } 0 b) :
    Answers c s fun u => RepliesOk sp p r s u res b ∧ s.ordered u = s.ordered { s.advance p.tick with pace := P } := by
  obtain ⟨fl, l, w, finished, hw⟩ := h.finish_buffers_form (v := { s.entered sp p r with pace := P }) rfl res b
  refine h.answers hc (run.trans finished) ⟨settle_replies _ _, ?_⟩
  obtain ⟨rs, d, l', w', k, entered, hw'⟩ := entered_form sp p r s
  have key := act_ordered h.live p.tick (State.packet sp p)
  rw [act_eq_settle h.live.running, h.packet_eq, run, finished, entered] at key
  rw [entered, key]
  · rw [show ({ s.advance p.tick with pace := P } : State) = { s.advance p.tick with pace := P, posted := [] } from by
      rw [← h.live.posted]; rfl]
    rfl
  · intro x hx
    rw [show ∀ a b : List PostedWrite, s.posted ++ a ++ b = a ++ b by rw [h.live.posted]; simp] at hx
    exact (List.mem_append.1 hx).elim (hw' x) (hw x)

@[simp] theorem entered_pace : (s.entered sp p r).pace = s.pace := by
  obtain ⟨_, _, _, _, _, h, -⟩ := entered_form sp p r s
  rw [h]
  rfl

theorem modGroup_entered (f : PaceGroup → PaceGroup) : (s.entered sp p r).modGroup g f =
    { s.entered sp p r with pace := { s.pace with groups := s.pace.groups.set g (f s.pace.groups[g]) } } := by
  unfold State.modGroup
  rw [entered_pace]

/-- A command that sets something of its group and is answered at once. -/
theorem Accepts.answers_group (h : Accepts sp p s r) {c : Instr} (hc : exec c s = .next (s.act p.tick (State.packet sp p)))
    {f : PaceGroup → PaceGroup}
    (run : sp.run p r.secure s.acceptSeq (s.entered sp p r) = ((s.entered sp p r).modGroup g f).finishOk s.acceptSeq 0) :
    Answers c s fun u => RepliesOk sp p r s u 0
      ∧ s.ordered u = s.ordered { s.advance p.tick with pace.groups := s.pace.groups.set g (f s.pace.groups[g]) } :=
  h.answers_pace hc _ 0 [] (run.trans (by rw [modGroup_entered]; rfl))

/-- PACE_CONFIG leaves its configuration for the next update (R130). -/
theorem paceConfig_waits (hg : groupAt p.params = some g) (h : Accepts paceConfigSpec p s r) :
    Answers (.paceConfig p) s fun u => RepliesOk paceConfigSpec p r s u 0
      ∧ s.ordered u = s.ordered { s.advance p.tick with pace.groups := s.pace.groups.set g { s.pace.groups[g] with
          next := some (if u8 p.params 1 = 3 then none else PaceCfg.parse p.params), nextOld := false } } :=
  h.answers_group rfl (f := fun x => { x with
    next := some (if u8 p.params 1 = 3 then none else PaceCfg.parse p.params), nextOld := false })
    (by simp only [paceConfigSpec, hg])

/-- PACE_QUERY answers with the state word of its group and the figures of the last update (R132). -/
theorem paceQuery_tells (hg : groupAt p.params = some g) (h : Accepts paceQuerySpec p s r) :
    Answers (.paceQuery p) s fun u => s.ordered u = s.ordered (s.advance p.tick)
      ∧ RepliesOk paceQuerySpec p r s u ((s.entered paceQuerySpec p r).paceStateWord g &&& 0xFFFF)
          (bufferAt (u64 p.params 8) s.pace.groups[g].shot) := by
  have run : paceQuerySpec.run p r.secure s.acceptSeq (s.entered paceQuerySpec p r) =
      State.finish s.acceptSeq 0 0 ((s.entered paceQuerySpec p r).paceStateWord g &&& 0xFFFF)
        { s.entered paceQuerySpec p r with pace := s.pace } 0 (bufferAt (u64 p.params 8) s.pace.groups[g].shot) := by
    rw [← entered_pace (sp := paceQuerySpec) (p := p) (s := s) (r := r)]
    simp only [paceQuerySpec, hg]
    rfl
  obtain ⟨u, answered, reply, rest⟩ := h.answers_pace (c := .paceQuery p) rfl s.pace _ _ run
  exact ⟨u, answered, rest, reply⟩

/-- SEAM_POLICY sets the policy of its group (R131). -/
theorem seamPolicy_sets (hg : groupAt p.params = some g) (h : Accepts seamPolicySpec p s r) :
    Answers (.seamPolicy p) s fun u => RepliesOk seamPolicySpec p r s u 0
      ∧ s.ordered u = s.ordered { s.advance p.tick with pace.groups := s.pace.groups.set g { s.pace.groups[g] with
          policy := { overlap := u8 p.params 1, retries := u8 p.params 2, closeOnFail := u8 p.params 3 == 1
                      limit := u16 p.params 4, maxSplices := u16 p.params 6, backExtra := u32 p.params 8 } } } :=
  h.answers_group rfl (f := fun x => { x with
    policy := { overlap := u8 p.params 1, retries := u8 p.params 2, closeOnFail := u8 p.params 3 == 1
                limit := u16 p.params 4, maxSplices := u16 p.params 6, backExtra := u32 p.params 8 } })
    (by simp only [seamPolicySpec, hg])

end

end Sys2Proof.Machine

namespace Sys2Proof.Machine

/-! ## The law of the governor (05 R104 to R108) -/

/-- A fold that only lowers the first part of its value ends at or below where it starts. (Each value has a name of its own,
for a check that meets `State.portLimits` below a projection evaluates its rationals.) -/
theorem foldl_fst_le {α β : Type} {top : Rat} {f : Rat × β → α → Rat × β} (lowers : ∀ a x v, f a x = v → v.1 ≤ a.1) {b : β}
    {l : List α} {v : Rat × β} (h : l.foldl f (top, b) = v) : v.1 ≤ top := by
  subst h
  exact List.foldlRecOn (motive := fun a => a.1 ≤ top) l f (b := (top, b)) le_rfl fun a ha x _ => (lowers a x _ rfl).trans ha

/-- The law as it decides: from `v_max` each port's input can only lower the cap, and where no stop is asked for, the least of
the cap and of the drain law, the latter no lower than the floor, is the target. -/
theorem aim_form (s : State) (g : Fin 4) (c : PaceCfg) : ∃ (cap law : Rat) (code port lawPort : Nat),
    cap ≤ (c.vMax : Rat) ∧ s.aim g c =
      if s.stopAsked g then { cap, target := 0, limit := 6, port := 0 }
      else if cap ≤ (if law < c.vFloor then (c.vFloor : Rat) else law) then { cap, target := cap, limit := code, port }
      else if law < c.vFloor then { cap, target := c.vFloor, limit := 5, port := lawPort }
      else { cap, target := law, limit := 4, port := lawPort } := by
  unfold State.aim
  extract_lets vm
  generalize scan : List.foldl _ _ _ = a
  refine ⟨a.1, _, _, _, _, ?_, rfl⟩
  refine foldl_fst_le (fun a n v weighed => ?_) scan
  obtain ⟨cap, cc, cp, law, lp⟩ := a
  generalize s.portLimits c n = limits at weighed
  obtain ⟨own, code, l⟩ := limits
  subst weighed
  dsimp only
  split
  · next lower => exact lower.le
  · exact le_rfl

theorem aim_cap_le (s : State) (g : Fin 4) (c : PaceCfg) : (s.aim g c).cap ≤ (c.vMax : Rat) := by
  obtain ⟨cap, law, code, port, lawPort, below, form⟩ := aim_form s g c
  rw [form]
  repeat' split
  all_goals exact below

section
variable {s : State} {g : Fin 4} {c : PaceCfg}

/-- Where a stop is asked for, the target is zero. -/
theorem aim_of_stopAsked (h : s.stopAsked g = true) : (s.aim g c).target = 0 ∧ (s.aim g c).limit = 6 := by
  obtain ⟨cap, law, code, port, lawPort, -, form⟩ := aim_form s g c
  rw [form, if_pos h]
  exact ⟨rfl, rfl⟩

theorem aim_target_le (h : s.stopAsked g = false) : (s.aim g c).target ≤ (s.aim g c).cap := by
  obtain ⟨cap, law, code, port, lawPort, -, form⟩ := aim_form s g c
  rw [form, h, if_neg Bool.false_ne_true]
  generalize hw : (if law < c.vFloor then (c.vFloor : Rat) else law) = wish
  split
  · exact le_rfl
  · next above =>
    have below : wish ≤ cap := (not_le.1 above).le
    split
    · next slow => rwa [← hw, if_pos slow] at below
    · next fast => rwa [← hw, if_neg fast] at below

/-- A group in WAIT, or without a batch that runs, is asked to stop (R104). -/
theorem stopAsked_of_idle (h : s.pace.groups[g].wait = true ∨ s.groupRuns = false) : s.stopAsked g = true := by
  unfold State.stopAsked
  rcases h with h | h <;> simp [-Fin.getElem_fin, h]

end

/-- The cap that a group shows, in whole counts/s. -/
def PaceAim.capShown (a : PaceAim) : Nat := (max 0 a.cap.floor).toNat

theorem capShown_aim_le (s : State) (g : Fin 4) (c : PaceCfg) : (s.aim g c).capShown ≤ c.vMax := by
  have floor : (s.aim g c).cap.floor ≤ c.vMax := by
    have := Int.floor_le_floor (aim_cap_le s g c)
    rwa [Int.floor_natCast] at this
  unfold PaceAim.capShown
  omega

end Sys2Proof.Machine

namespace Sys2Proof.Machine

/-! ## What acting on a group leaves as it was (05 R104 to R127) -/

theorem groups_set_same (v : Vector PaceGroup 4) (g : Fin 4) (x : PaceGroup) : (v.set g x)[g] = x := by simp

theorem groups_set_other {g h : Fin 4} (ne : h ≠ g) (v : Vector PaceGroup 4) (x : PaceGroup) : (v.set g x)[h] = v[h] := by
  have : (g : Nat) ≠ h := fun e => ne (Fin.ext e.symm)
  simp [this]

/-- The terms on which a group is governed: its configurations, whether it waits, and what its last update decided. -/
structure PaceTerms where
  cfg : Option PaceCfg
  next : Option (Option PaceCfg)
  wait : Bool
  vCap : Nat
  limit : Nat

def PaceGroup.terms (x : PaceGroup) : PaceTerms :=
  { cfg := x.cfg, next := x.next, wait := x.wait, vCap := x.vCap, limit := x.limit }

/-- What no update of a group changes: which ports hold a side, the clock, the mode with the batch, and the count of updates. -/
abbrev Setting := (Vector Bool 8 × Nat) × SysUnit × Word

def State.setting (s : State) : Setting := (s.view Port.noSide, s.sys, s.pace.updates)

/-- The setting, and every group but one. -/
def State.beside (g : Fin 4) (s : State) : Setting × Vector PaceGroup 4 :=
  (s.setting, s.pace.groups.set g PaceGroup.disabled)

/-- What acting on a group leaves: the terms of the group, and all that is beside it. -/
def State.footing (g : Fin 4) (s : State) : (Setting × Vector PaceGroup 4) × PaceTerms :=
  (s.beside g, s.pace.groups[g].terms)

section
variable {s u : State} {g h : Fin 4}

theorem setting_of_beside (same : u.beside g = s.beside g) : u.setting = s.setting := congrArg Prod.fst same

theorem group_of_beside (same : u.beside g = s.beside g) (ne : h ≠ g) : u.pace.groups[h] = s.pace.groups[h] := by
  rw [← groups_set_other ne u.pace.groups PaceGroup.disabled, ← groups_set_other ne s.pace.groups PaceGroup.disabled]
  exact congrArg (fun x : _ × Vector PaceGroup 4 => x.2[h]) same

theorem beside_of_footing (same : u.footing g = s.footing g) : u.beside g = s.beside g := congrArg Prod.fst same

theorem terms_of_footing (same : u.footing g = s.footing g) : u.pace.groups[g].terms = s.pace.groups[g].terms :=
  congrArg Prod.snd same

/-- Whether the groups run is part of the setting. -/
theorem groupRuns_of_setting (same : u.setting = s.setting) : u.groupRuns = s.groupRuns := by
  have sys : u.sys = s.sys := congrArg (fun x => x.2.1) same
  have side (n : Fin 8) : u.ports[n].noSide = s.ports[n].noSide := port_of_view (congrArg Prod.fst same) n
  have anySide : u.anySide = s.anySide := congrArg (fun f : Fin 8 → Bool => (List.finRange 8).any fun n => !f n) (funext side)
  unfold State.groupRuns
  rw [sys, anySide]

theorem modGroup_same (g : Fin 4) (f : PaceGroup → PaceGroup) (s : State) :
    (s.modGroup g f).pace.groups[g] = f s.pace.groups[g] := groups_set_same ..

theorem modGroup_other (ne : h ≠ g) (f : PaceGroup → PaceGroup) (s : State) :
    (s.modGroup g f).pace.groups[h] = s.pace.groups[h] := groups_set_other ne ..

theorem beside_modGroup (g : Fin 4) (f : PaceGroup → PaceGroup) (s : State) : (s.modGroup g f).beside g = s.beside g :=
  congrArg (fun v => (s.setting, v)) (Vector.set_set ..)

theorem footing_modGroup (g : Fin 4) (f : PaceGroup → PaceGroup) (s : State) :
    (s.modGroup g f).footing g = (s.beside g, (f s.pace.groups[g]).terms) :=
  Prod.ext (beside_modGroup g f s) (congrArg PaceGroup.terms (modGroup_same g f s))

/-- A change of the group that keeps its terms. -/
theorem footing_modGroup_of (f : PaceGroup → PaceGroup) (s : State) (keeps : ∀ x, (f x).terms = x.terms := by intro _; rfl) :
    (s.modGroup g f).footing g = s.footing g := by
  rw [footing_modGroup, keeps]
  rfl

/-- A change of a port that leaves it with a side, or without one. -/
theorem footing_modPort (n : Fin 8) (f : Port → Port) (s : State) (keeps : (f s.ports[n]).noSide = s.ports[n].noSide) :
    (s.modPort n f).footing g = s.footing g := by
  have view : (s.modPort n f).view Port.noSide = s.view Port.noSide := view_modPort n f s keeps
  unfold State.footing State.beside State.setting
  rw [view]
  rfl

theorem noSide_map (p : Port) (f : Side → Side) : ({ p with sides := p.sides.map f } : Port).noSide = p.noSide :=
  List.isEmpty_map

theorem footing_modSides (n : Fin 8) (f : Side → Side) (s : State) :
    (s.modPort n fun p => { p with sides := p.sides.map f }).footing g = s.footing g := footing_modPort n _ s (noSide_map _ f)

theorem footing_stirred (stirred : s.Stirred u) : u.footing g = s.footing g := by
  obtain ⟨_, _, _, _, rfl⟩ := stirred
  rfl

theorem footing_notice (bit off : Nat) (s : State) : ((s.setEvt .pace bit).fire .pace off).footing g = s.footing g :=
  (footing_stirred (fire_stirred _ _ _)).trans rfl

end

/-! ### The axes and the feed gate -/

theorem governAxis_form (g : Fin 4) (ax : Fin 12) (v : Rat) (s : State) : ∃ a, s.governAxis g ax v = { s with axes := a } := by
  unfold State.governAxis
  split
  · exact ⟨s.axes, rfl⟩
  · dsimp only
    split
    · exact ⟨s.axes, rfl⟩
    · split
      · exact ⟨s.axes, rfl⟩
      · exact ⟨_, rfl⟩

theorem stopGroup_form (g : Fin 4) (s : State) : ∃ a, s.stopGroup g = { s with axes := a } := by
  unfold State.stopGroup
  split
  · exact ⟨s.axes, rfl⟩
  · next c _ =>
    obtain ⟨a, master⟩ := governAxis_form g c.master 0 s
    dsimp only
    rw [master]
    split
    · next f _ =>
      obtain ⟨a', feeder⟩ := governAxis_form g f 0 { s with axes := a }
      exact ⟨a', feeder⟩
    · exact ⟨a, rfl⟩

theorem sendOwn_form (typ : BitVec 8) (l : List Byte) (s : State) : ∃ t, s.sendOwn typ l = { s with tl := t } := by
  unfold State.sendOwn State.sendFrame
  split
  · exact ⟨s.tl, rfl⟩
  · exact ⟨_, rfl⟩

theorem sendGate_form (s : State) : ∃ t, s.sendGate = { s with tl := t } := by
  unfold State.sendGate
  split
  · exact ⟨s.tl, rfl⟩
  · obtain ⟨t, sent⟩ := sendOwn_form 0x83 (leBytes 1 s.gateMask.toNat) { s with tl.gateSent := s.gateMask }
    exact ⟨t, sent⟩

section
variable {g h : Fin 4}

theorem footing_governAxis (ax : Fin 12) (v : Rat) (s : State) : (s.governAxis h ax v).footing g = s.footing g := by
  obtain ⟨_, form⟩ := governAxis_form h ax v s
  rw [form]
  rfl

theorem footing_stopGroup (s : State) : (s.stopGroup h).footing g = s.footing g := by
  obtain ⟨_, form⟩ := stopGroup_form h s
  rw [form]
  rfl

theorem footing_sendGate (s : State) : s.sendGate.footing g = s.footing g := by
  obtain ⟨_, form⟩ := sendGate_form s
  rw [form]
  rfl

theorem footing_driveGroup (c : PaceCfg) (target : Rat) (s : State) : (s.driveGroup g c target).footing g = s.footing g := by
  unfold State.driveGroup
  split
  · rfl
  · dsimp only
    split
    · exact footing_governAxis _ _ s
    · exact (footing_governAxis _ _ _).trans (footing_governAxis _ _ s)

/-! ### Switchbacks and gap stops -/

theorem footing_modSb (f : Switchback → Switchback) (s : State) : (s.modSb g f).footing g = s.footing g :=
  footing_modGroup_of _ s

theorem footing_endHold (s : State) : (s.endHold g).footing g = s.footing g := by
  unfold State.endHold
  split
  · rfl
  · dsimp only
    refine (footing_modGroup_of _ _).trans (each_keeps (g := State.footing g) (fun m u => ?_) _ s)
    exact footing_modSides m.port _ u

theorem footing_sbAgain (s : State) : (s.sbAgain g).footing g = s.footing g :=
  (footing_stopGroup _).trans ((footing_modSb _ _).trans (footing_endHold s))

theorem footing_switchback (cause : Nat) (ax : Option (Fin 12 × Bool)) (s : State) :
    (s.switchback g cause ax).footing g = s.footing g := by
  unfold State.switchback
  dsimp only
  split
  · rfl
  · split
    · rfl
    · split
      · split
        · exact footing_modSb _ s
        · split
          · exact footing_modSb _ s
          · split
            · exact (footing_sbAgain _).trans (footing_modSb _ s)
            · exact footing_modSb _ s
      · refine (footing_sendGate _).trans ((footing_stopGroup _).trans ((footing_notice _ _ _).trans ?_))
        exact footing_modGroup_of _ s

theorem footing_sbStop (s : State) : (s.sbStop g).footing g = s.footing g := by
  unfold State.sbStop
  split
  · refine (each_keeps (g := State.footing g) (fun _ _ => by rfl) _ _).trans ?_
    exact footing_modGroup_of _ s
  · rfl

theorem footing_sbStopped (s : State) : (s.sbStopped g).footing g = s.footing g := by
  unfold State.sbStopped
  split
  · split
    · exact footing_sbStop s
    · rfl
  · rfl

theorem noSide_enterHold (p : Port) (last : Option Int) : (p.enterHold last).noSide = p.noSide := by
  unfold Port.enterHold
  dsimp only
  split <;> rfl

theorem footing_sbHold (s : State) : (s.sbHold g).footing g = s.footing g := by
  unfold State.sbHold
  split
  · next b _ =>
    split
    · generalize held : State.each _ _ s = u
      have same : u.footing g = s.footing g := by
        rw [← held]
        refine each_keeps (g := State.footing g) (fun n v => footing_modPort n _ v ?_) _ s
        split
        · exact noSide_enterHold _ _
        · rfl
      dsimp only
      split
      · exact (footing_modSb _ u).trans same
      · exact same
    · rfl
  · rfl

theorem footing_sbRewind (s : State) : (s.sbRewind g).footing g = s.footing g := by
  unfold State.sbRewind
  split
  · extract_lets down here pb marked ignoring ax ramp v
    have same : ignoring.footing g = s.footing g := by
      refine (footing_modGroup_of _ marked).trans ?_
      refine each_keeps (g := State.footing g) (fun (m : Seam) u => footing_modPort m.port _ u ?_) _ s
      split <;> rfl
    split
    · exact same
    · exact same
  · rfl

theorem footing_sbBack (s : State) : (s.sbBack g).footing g = s.footing g := by
  unfold State.sbBack
  split
  · split
    · exact footing_sbRewind s
    · rfl
  · rfl

theorem footing_sbScan (s : State) : (s.sbScan g).footing g = s.footing g := by
  refine (footing_modSb _ _).trans (each_keeps (g := State.footing g) (fun n u => footing_modPort n _ u ?_) _ s)
  split <;> rfl

theorem footing_sbForward (s : State) : (s.sbForward g).footing g = s.footing g := by
  unfold State.sbForward
  split
  · split
    · exact footing_sbScan s
    · rfl
  · rfl

theorem footing_sbAdvance (s : State) : (s.sbAdvance g).footing g = s.footing g := by
  unfold State.sbAdvance
  split
  · exact footing_sbHold s
  · exact (footing_sbForward _).trans ((footing_sbBack _).trans ((footing_sbHold _).trans (footing_sbStopped s)))

theorem footing_gapStopCheck (s : State) : (s.gapStopCheck g).footing g = s.footing g := by
  unfold State.gapStopCheck
  split
  · rfl
  · split
    · exact footing_switchback _ _ s
    · rfl

end

end Sys2Proof.Machine

namespace Sys2Proof.Machine

/-! ## One group at an update (05 R105 to R116) -/

section
variable {g h : Fin 4} {c : PaceCfg}

theorem footing_samplePort (n : Fin 8) (s : State) : (s.samplePort g c n).footing g = s.footing g := by
  unfold State.samplePort
  extract_lets old sampled lev shown told
  have same : told.footing g = s.footing g := by
    refine (when_keeps (g := State.footing g) ?_ _).trans ((when_keeps (g := State.footing g) ?_ _).trans ?_)
    · rfl
    · exact footing_notice _ _ _
    · rfl
  split
  · split
    · exact same
    · split
      · exact (footing_switchback _ _ _).trans same
      · exact (footing_stopGroup _).trans ((footing_modGroup_of _ _).trans same)
  · exact same

theorem footing_overrunCap (n : Fin 8) (s : State) : (s.overrunCap c n).footing g = s.footing g := by
  unfold State.overrunCap
  split
  · exact footing_modSides n _ _
  · rfl

theorem footing_holdGate (s : State) : (s.holdGate g c).footing g = s.footing g := footing_modGroup_of _ s

theorem footing_paceRecords (v : Nat) (stop breach low : Bool) (s : State) :
    (s.paceRecords c v stop breach low).footing g = s.footing g :=
  each_keeps (g := State.footing g) (fun n u => footing_modSides n _ u) _ s

/-- What a decision shows of itself is the cap. -/
theorem footing_showAim (a : PaceAim) (s : State) :
    (s.showAim g c a).footing g = (s.beside g, { s.pace.groups[g].terms with vCap := a.capShown }) := by
  unfold State.showAim
  refine (each_keeps (g := State.footing g) (fun n u => ?_) _ _).trans (footing_modGroup g _ s)
  generalize u.portLimits c n = limits
  obtain ⟨cap, code, law⟩ := limits
  rfl

theorem updateGroup_of_off {s : State} (dns : Nat) (off : s.paceCfg g = none) : s.updateGroup g dns = s := by
  unfold State.updateGroup
  rw [off]

/-- An update of a group decides its cap and its limit, on the group's terms as they are; nothing beside the group changes. -/
theorem footing_updateGroup {s : State} (dns : Nat) (hc : s.paceCfg g = some c) : ∃ v : State, v.footing g = s.footing g ∧
    (s.updateGroup g dns).footing g = (s.beside g, { s.pace.groups[g].terms with
      vCap := (v.aim g c).capShown, limit := (v.aim g c).limit }) := by
  unfold State.updateGroup
  split
  · next off => cases hc.symm.trans off
  · next c' hc' =>
    obtain rfl : c' = c := Option.some.inj (hc'.symm.trans hc)
    extract_lets sampled gated a was slowed breach v decided slow breached recorded
    have inputs : gated.footing g = s.footing g := by
      refine (footing_holdGate _).trans (each_keeps (g := State.footing g) (fun n u => ?_) _ s)
      exact (footing_overrunCap n _).trans (footing_samplePort n u)
    have decision : decided.footing g = (s.beside g, { s.pace.groups[g].terms with vCap := a.capShown, limit := a.limit }) := by
      have shown := footing_showAim (g := g) (c := c') a gated
      rw [beside_of_footing inputs, terms_of_footing inputs] at shown
      have beside := congrArg Prod.fst shown
      have terms := congrArg (fun x => ({ Prod.snd x with limit := a.limit } : PaceTerms)) shown
      exact (footing_modGroup g _ _).trans (Prod.ext beside terms)
    have told : breached.footing g = decided.footing g := by
      refine (when_keeps (g := State.footing g) ?_ _).trans (when_keeps (g := State.footing g) ?_ _)
      · exact footing_notice _ _ _
      · exact footing_notice _ _ _
    refine ⟨gated, inputs, Eq.trans ?_ (told.trans decision)⟩
    refine (footing_sbAdvance _).trans ((footing_gapStopCheck _).trans ((footing_driveGroup _ _ _).trans ?_))
    exact footing_paceRecords _ _ _ _ _

/-- An update decides a group by the law: its cap is at most `v_max`, and where the group waits or no batch runs the limit says
that zero is asked for (R104, R106). -/
theorem updateGroup_decides {s u : State} (dns : Nat) (hu : s.updateGroup g dns = u) (hc : u.pace.groups[g].cfg = some c) :
    u.pace.groups[g].vCap ≤ c.vMax ∧ (u.pace.groups[g].wait = true ∨ s.groupRuns = false → u.pace.groups[g].limit = 6) := by
  subst hu
  cases off : s.paceCfg g with
  | none =>
    rw [updateGroup_of_off dns off] at hc
    cases off.symm.trans hc
  | some c' =>
    obtain ⟨v, before, after⟩ := footing_updateGroup dns off
    have terms := congrArg Prod.snd after
    have cfg : (s.updateGroup g dns).pace.groups[g].cfg = s.paceCfg g := congrArg PaceTerms.cfg terms
    have wait : (s.updateGroup g dns).pace.groups[g].wait = s.pace.groups[g].wait := congrArg PaceTerms.wait terms
    have cap : (s.updateGroup g dns).pace.groups[g].vCap = (v.aim g c').capShown := congrArg PaceTerms.vCap terms
    have limit : (s.updateGroup g dns).pace.groups[g].limit = (v.aim g c').limit := congrArg PaceTerms.limit terms
    obtain rfl : c' = c := Option.some.inj (off.symm.trans (cfg.symm.trans hc))
    refine ⟨cap ▸ capShown_aim_le v g c', fun idle => limit.trans (aim_of_stopAsked (stopAsked_of_idle ?_)).2⟩
    rw [groupRuns_of_setting (setting_of_beside (beside_of_footing before)),
      show v.pace.groups[g].wait = s.pace.groups[g].wait from congrArg PaceTerms.wait (terms_of_footing before), ← wait]
    exact idle

theorem beside_updateGroup (dns : Nat) (s : State) : (s.updateGroup g dns).beside g = s.beside g := by
  cases hc : s.paceCfg g with
  | none => rw [updateGroup_of_off dns hc]
  | some c =>
    obtain ⟨v, -, updated⟩ := footing_updateGroup dns hc
    exact congrArg Prod.fst updated

end

end Sys2Proof.Machine

namespace Sys2Proof.Machine

/-! ## A configuration that waits (05 R130) -/

section
variable {g h : Fin 4} {s : State}

theorem paceTake_of_settled (settled : s.pace.groups[g].next = none) : s.paceTake g = s := by
  unfold State.paceTake
  dsimp only
  rw [settled]

/-- In a switchback or a gap stop a configuration goes on waiting (log entry 69). -/
theorem paceTake_of_held (held : s.pace.groups[g].sb.isSome = true ∨ s.pace.groups[g].gapStop = true) : s.paceTake g = s := by
  unfold State.paceTake
  dsimp only
  split
  · rfl
  · exact if_pos (Bool.or_eq_true_iff.2 held)

/-- Outside them it takes effect; nothing beside the group changes. -/
theorem footing_paceTake {c : Option PaceCfg} (next : s.pace.groups[g].next = some c)
    (free : ¬ (s.pace.groups[g].sb.isSome = true ∨ s.pace.groups[g].gapStop = true)) :
    ∃ x : PaceTerms, (s.paceTake g).footing g = (s.beside g, x) ∧ x.cfg = c ∧ x.next = none := by
  generalize result : s.paceTake g = u
  unfold State.paceTake at result
  extract_lets x at result
  split at result
  · next settled => cases next.symm.trans settled
  · next c' next' =>
    obtain rfl : c' = c := Option.some.inj (next'.symm.trans next)
    rw [if_neg (fun held => free (Bool.or_eq_true_iff.1 held))] at result
    extract_lets driven taken at result
    have moved : driven.footing g = s.footing g := by
      dsimp only [driven]
      split
      · exact footing_governAxis ..
      · rfl
    have joined : u.footing g = taken.footing g := by
      rw [← result]
      exact each_keeps (g := State.footing g) (fun _ _ => by rfl) _ _
    refine ⟨_, joined.trans ((footing_modGroup g _ driven).trans (Prod.ext (beside_of_footing moved) rfl)), ?_, ?_⟩
    · rfl
    · rfl

theorem beside_paceTake (g : Fin 4) (s : State) : (s.paceTake g).beside g = s.beside g := by
  cases next : s.pace.groups[g].next with
  | none => rw [paceTake_of_settled next]
  | some c =>
    by_cases held : s.pace.groups[g].sb.isSome = true ∨ s.pace.groups[g].gapStop = true
    · rw [paceTake_of_held held]
    · obtain ⟨x, taken, -, -⟩ := footing_paceTake next held
      exact congrArg Prod.fst taken

/-- A configuration that waits is in effect from the next update, but in a switchback or a gap stop. -/
theorem paceTake_takes {c : Option PaceCfg} (next : s.pace.groups[g].next = some c) :
    (s.paceTake g).pace.groups[g].cfg = (if s.pace.groups[g].sb.isSome ∨ s.pace.groups[g].gapStop = true
        then s.pace.groups[g].cfg else c)
      ∧ (s.paceTake g).pace.groups[g].next = (if s.pace.groups[g].sb.isSome ∨ s.pace.groups[g].gapStop = true
        then s.pace.groups[g].next else none) := by
  by_cases held : s.pace.groups[g].sb.isSome = true ∨ s.pace.groups[g].gapStop = true
  · rw [paceTake_of_held held, if_pos held, if_pos held]
    exact ⟨rfl, rfl⟩
  · obtain ⟨x, taken, cfg, settled⟩ := footing_paceTake next held
    have terms := congrArg Prod.snd taken
    rw [if_neg held, if_neg held]
    exact ⟨(congrArg PaceTerms.cfg terms).trans cfg, (congrArg PaceTerms.next terms).trans settled⟩

/-! ## The four groups at an update -/

/-- The setting, and one group. -/
def State.watch (g : Fin 4) (s : State) : Setting × PaceGroup := (s.setting, s.pace.groups[g])

theorem watch_of_beside {u : State} (same : u.beside h = s.beside h) (ne : g ≠ h) : u.watch g = s.watch g :=
  Prod.ext (setting_of_beside same) (group_of_beside same ne)

theorem setting_of_watch {u : State} (same : u.watch g = s.watch g) : u.setting = s.setting := congrArg Prod.fst same

theorem group_of_watch {u : State} (same : u.watch g = s.watch g) : u.pace.groups[g] = s.pace.groups[g] :=
  congrArg Prod.snd same

theorem each_keeps_on {α β : Type} {f : α → State → State} {k : State → β} {l : List α}
    (keeps : ∀ x ∈ l, ∀ s, k (f x s) = k s) (s : State) : k (s.each l f) = k s := by
  induction l generalizing s with
  | nil => rfl
  | cons x l ih =>
    exact (ih (fun y hy => keeps y (List.mem_cons_of_mem _ hy)) _).trans (keeps x List.mem_cons_self s)

/-- What work on the other groups keeps comes of a group's own turn. -/
theorem each_turn {β : Type} {f : Fin 4 → State → State} {k : State → β} (others : ∀ h, g ≠ h → ∀ s, k (f h s) = k s)
    (s : State) : ∃ v, k v = k s ∧ k (s.each allGroups f) = k (f g v) := by
  obtain ⟨l, l', turns⟩ := List.append_of_mem (List.mem_finRange g)
  have once : g ∉ l ++ l' := (List.nodup_cons.1 (List.nodup_middle.1 (turns ▸ List.nodup_finRange 4))).1
  rw [List.mem_append, not_or] at once
  refine ⟨s.each l f, each_keeps_on (fun h hh => others h ?_) s, ?_⟩
  · rintro rfl
    exact once.1 hh
  · have cut : s.each allGroups f = (f g (s.each l f)).each l' f := by
      unfold State.each allGroups
      rw [turns, List.foldl_append]
      rfl
    rw [cut]
    refine each_keeps_on (fun h hh => others h ?_) _
    rintro rfl
    exact once.2 hh

/-- Configurations take effect, and each group is governed. -/
def State.governGroups (dns : Nat) (s : State) : State :=
  (s.each allGroups State.paceTake).each allGroups fun g s => s.updateGroup g dns

theorem governGroups_watch (dns : Nat) (g : Fin 4) (s : State) : ∃ v w : State, v.watch g = s.watch g ∧
    w.watch g = (v.paceTake g).watch g ∧ (s.governGroups dns).watch g = (w.updateGroup g dns).watch g := by
  obtain ⟨v, before, took⟩ := each_turn (f := State.paceTake) (k := State.watch g)
    (fun h ne u => watch_of_beside (beside_paceTake h u) ne) s
  obtain ⟨w, between, updated⟩ := each_turn (f := fun g s => s.updateGroup g dns) (k := State.watch g)
    (fun h ne u => watch_of_beside (beside_updateGroup dns u) ne) (s.each allGroups State.paceTake)
  exact ⟨v, w, before, between.trans took, updated⟩

theorem governGroups_setting (dns : Nat) (s : State) : (s.governGroups dns).setting = s.setting := by
  refine (each_keeps (g := State.setting) (fun g u => ?_) _ _).trans (each_keeps (g := State.setting) (fun g u => ?_) _ _)
  · exact setting_of_beside (beside_updateGroup dns u)
  · exact setting_of_beside (beside_paceTake g u)

end

end Sys2Proof.Machine

namespace Sys2Proof.Machine

/-! ## GOVERNOR_UPDATE (05 R105, R106, R130) -/

section
variable {s : State} {g : Fin 4}

/-- An update of a group leaves its configurations and whether it waits. -/
theorem updateGroup_keeps (dns : Nat) (s : State) : (s.updateGroup g dns).pace.groups[g].cfg = s.pace.groups[g].cfg
    ∧ (s.updateGroup g dns).pace.groups[g].next = s.pace.groups[g].next
    ∧ (s.updateGroup g dns).pace.groups[g].wait = s.pace.groups[g].wait := by
  cases hc : s.paceCfg g with
  | none =>
    rw [updateGroup_of_off dns hc]
    exact ⟨rfl, rfl, rfl⟩
  | some c =>
    obtain ⟨v, -, updated⟩ := footing_updateGroup dns hc
    have terms := congrArg Prod.snd updated
    exact ⟨congrArg PaceTerms.cfg terms, congrArg PaceTerms.next terms, congrArg PaceTerms.wait terms⟩

/-- A group that no configuration waits for keeps its own, and one that is disabled stays as it is. -/
theorem governGroups_unchanged (dns : Nat) (next : s.pace.groups[g].next = none) :
    (s.governGroups dns).pace.groups[g].cfg = s.pace.groups[g].cfg
      ∧ (s.governGroups dns).pace.groups[g].wait = s.pace.groups[g].wait
      ∧ (s.pace.groups[g].cfg = none → (s.governGroups dns).pace.groups[g] = s.pace.groups[g]) := by
  obtain ⟨v, w, before, between, after⟩ := governGroups_watch dns g s
  have before' := group_of_watch before
  have after' := group_of_watch after
  have between' : w.pace.groups[g] = s.pace.groups[g] := by
    rw [paceTake_of_settled (before' ▸ next)] at between
    exact (group_of_watch between).trans before'
  obtain ⟨cfg, -, wait⟩ := updateGroup_keeps (g := g) dns w
  refine ⟨?_, ?_, fun off => ?_⟩
  · rw [after', cfg, between']
  · rw [after', wait, between']
  · rw [after', updateGroup_of_off dns (show w.paceCfg g = none from (congrArg PaceGroup.cfg between').trans off), between']

/-- A configuration that waits takes effect (R130), but in a switchback or a gap stop. -/
theorem governGroups_takes (dns : Nat) {c : Option PaceCfg} (next : s.pace.groups[g].next = some c) :
    (s.governGroups dns).pace.groups[g].cfg = (if s.pace.groups[g].sb.isSome ∨ s.pace.groups[g].gapStop = true
        then s.pace.groups[g].cfg else c)
      ∧ (s.governGroups dns).pace.groups[g].next = (if s.pace.groups[g].sb.isSome ∨ s.pace.groups[g].gapStop = true
        then s.pace.groups[g].next else none) := by
  obtain ⟨v, w, before, between, after⟩ := governGroups_watch dns g s
  have before' := group_of_watch before
  have between' := group_of_watch between
  have after' := group_of_watch after
  obtain ⟨cfg, next', -⟩ := updateGroup_keeps (g := g) dns w
  have takes := paceTake_takes (s := v) (g := g) (c := c) (before' ▸ next)
  rw [before'] at takes
  rw [after', cfg, next', between']
  exact takes

/-- Each group with a configuration in effect is governed by the law. -/
theorem governGroups_decides (dns : Nat) {c : PaceCfg} (hc : (s.governGroups dns).pace.groups[g].cfg = some c) :
    (s.governGroups dns).pace.groups[g].vCap ≤ c.vMax
      ∧ ((s.governGroups dns).pace.groups[g].wait = true ∨ s.groupRuns = false →
        (s.governGroups dns).pace.groups[g].limit = 6) := by
  obtain ⟨v, w, before, between, after⟩ := governGroups_watch dns g s
  have after' := group_of_watch after
  have runs : w.groupRuns = s.groupRuns := groupRuns_of_setting
    ((setting_of_watch between).trans ((setting_of_beside (beside_paceTake g v)).trans (setting_of_watch before)))
  rw [after'] at hc ⊢
  rw [← runs]
  exact updateGroup_decides dns rfl hc

/-- A group without the figures that PACE_QUERY shows of it. -/
def PaceGroup.unshown (x : PaceGroup) : PaceGroup := { x with shot := [] }

section
variable {x y : PaceGroup} (same : y.unshown = x.unshown)
include same

theorem cfg_of_unshown : y.cfg = x.cfg := congrArg (fun z => z.cfg) same
theorem next_of_unshown : y.next = x.next := congrArg (fun z => z.next) same
theorem wait_of_unshown : y.wait = x.wait := congrArg (fun z => z.wait) same
theorem vCap_of_unshown : y.vCap = x.vCap := congrArg (fun z => z.vCap) same
theorem limit_of_unshown : y.limit = x.limit := congrArg (fun z => z.limit) same
theorem eq_of_unshown : { y with shot := x.shot } = x := congrArg (fun z => { z with shot := x.shot }) same

end

/-- The figures of PACE_QUERY follow the update and change nothing else. -/
theorem shots_keep (g : Fin 4) (s : State) :
    let u := s.each allGroups fun g s => s.modGroup g fun x => { x with shot := s.paceBuffer g };
    u.pace.updates = s.pace.updates ∧ u.pace.lastUpdate = s.pace.lastUpdate
      ∧ u.pace.groups[g].unshown = s.pace.groups[g].unshown := by
  refine ⟨each_keeps (g := fun u : State => u.pace.updates) (fun _ _ => by rfl) _ s,
    each_keeps (g := fun u : State => u.pace.lastUpdate) (fun _ _ => by rfl) _ s,
    each_keeps (g := fun u : State => u.pace.groups[g].unshown) (fun h u => ?_) _ s⟩
  by_cases own : g = h
  · subst own
    rw [modGroup_same]
    rfl
  · rw [modGroup_other own]

/-- An update of a device that is no second, when it is due. -/
theorem governorUpdate_governs (due : s.pace.lastUpdate + 15000 ≤ s.ticks) (lead : s.second = false) :
    ∃ dns, s.governorUpdate.pace.updates = s.pace.updates + 1 ∧ s.governorUpdate.pace.lastUpdate = s.ticks
      ∧ ∀ g : Fin 4, s.governorUpdate.pace.groups[g].unshown = (s.governGroups dns).pace.groups[g].unshown := by
  refine ⟨(s.ticks - s.pace.lastUpdate) * 2 / 3, ?_⟩
  unfold State.governorUpdate
  rw [if_neg (not_lt.2 due)]
  extract_lets dns governed pace counted
  have governed_eq : governed = s.governGroups dns := if_neg (by rw [lead]; exact Bool.false_ne_true)
  obtain ⟨tl, counted_eq⟩ : ∃ tl, counted = { governed with tl := tl, pace := { governed.pace with
      updates := governed.pace.updates + 1, lastUpdate := governed.ticks } } := sendGate_form _
  have setting : governed.setting = s.setting := governed_eq ▸ governGroups_setting dns s
  have updates : governed.pace.updates = s.pace.updates := congrArg (fun x => x.2.2) setting
  have ticks : governed.ticks = s.ticks := congrArg (fun x => x.1.2) setting
  refine ⟨?_, ?_, fun g => ?_⟩
  · rw [(shots_keep 0 counted).1, counted_eq, ← updates]
  · rw [(shots_keep 0 counted).2.1, counted_eq, ← ticks]
  · rw [(shots_keep g counted).2.2, counted_eq, ← governed_eq]

@[simp] theorem settle_pace (s0 s : State) : (s0.settle s).pace = s.pace := by
  obtain ⟨_, _, _, h⟩ := settle_form s0 s
  rw [h]

/-- GOVERNOR_UPDATE: what waits takes effect, and each group is governed. -/
theorem governorUpdate_updates (live : s.Live) {t : Nat} (due : s.pace.lastUpdate + 15000 ≤ max s.ticks t)
    (lead : s.second = false) : Answers (.governorUpdate t) s fun u =>
      u.pace.updates = s.pace.updates + 1 ∧ u.pace.lastUpdate = max s.ticks t
      ∧ ∀ g : Fin 4, let x := s.pace.groups[g]; let y := u.pace.groups[g];
        (x.next = none → y.cfg = x.cfg ∧ y.wait = x.wait ∧ (x.cfg = none → { y with shot := x.shot } = x))
        ∧ (∀ c, x.next = some c → y.cfg = (if x.sb.isSome ∨ x.gapStop = true then x.cfg else c)
          ∧ y.next = (if x.sb.isSome ∨ x.gapStop = true then x.next else none))
        ∧ ∀ c, y.cfg = some c → y.vCap ≤ c.vMax ∧ ((y.wait = true ∨ s.groupRuns = false) → y.limit = 6) := by
  obtain ⟨dns, updates, last, governs⟩ := governorUpdate_governs (s := s.advance t) due lead
  refine answers_of_settled live rfl ?_
  rw [settle_pace]
  refine ⟨updates, last, fun g => ?_⟩
  have same := governs g
  generalize ((s.advance t).governorUpdate).pace.groups[g] = y at same ⊢
  refine ⟨fun settled => ?_, fun c waits => ?_, fun c hc => ?_⟩
  · obtain ⟨cfg, wait, off⟩ := governGroups_unchanged (s := s.advance t) (g := g) dns settled
    refine ⟨(cfg_of_unshown same).trans cfg, (wait_of_unshown same).trans wait, fun disabled => ?_⟩
    rw [off disabled] at same
    exact eq_of_unshown same
  · obtain ⟨cfg, next⟩ := governGroups_takes (s := s.advance t) (g := g) dns waits
    exact ⟨(cfg_of_unshown same).trans cfg, (next_of_unshown same).trans next⟩
  · obtain ⟨cap, zero⟩ := governGroups_decides (s := s.advance t) (g := g) dns ((cfg_of_unshown same).symm.trans hc)
    rw [← vCap_of_unshown same] at cap
    rw [← wait_of_unshown same, ← limit_of_unshown same] at zero
    exact ⟨cap, zero⟩

/-- OVERRUN_HOLD_END removes the overrun cap (R107). -/
theorem overrunHoldEnd_ends (live : s.Live) {t : Nat} {n : Fin 8} {last : Nat} (hold : s.pace.ports[n].ovrUntil = some last)
    (past : last ≤ max s.ticks t) : Answers (.overrunHoldEnd t n) s fun u => s.calm u =
      { s.advance t with pace.ports := s.pace.ports.set n { s.pace.ports[n] with ovrUntil := none, ovrCap := 0 } } := by
  have ends : (s.advance t).overrunEnd n = (s.advance t).modPace n fun q => { q with ovrUntil := none, ovrCap := 0 } := by
    unfold State.overrunEnd
    rw [State.advance_pace, hold]
    exact if_pos past
  refine ⟨_, rfl, ?_⟩
  refine (act_calm live t (State.overrunEnd n) (by rw [ends]; exact live.posted)).trans ?_
  rw [ends]
  rfl

end

/-- Settles O42: the commands act on their group alone, and an update takes what waits and governs each group by the law. -/
theorem paceCommandsAndUpdates : Obligations.PaceCommandsAndUpdates :=
  ⟨fun _ _ _ _ hg => ⟨paceConfig_waits hg, paceQuery_tells hg, seamPolicy_sets hg⟩,
    fun _ _ live => ⟨governorUpdate_updates live,
      fun _ _ => ⟨aim_cap_le _ _ _, aim_target_le, aim_of_stopAsked⟩,
      fun _ _ => overrunHoldEnd_ends live⟩⟩

end Sys2Proof.Machine

namespace Sys2Proof.Machine

/-! ## What leaves the axes, the encoders and the governor as they were -/

/-- The axes, the encoders and the governor. -/
def State.rig (s : State) : Vector Axis 12 × Vector Encoder 8 × Pace := (s.axes, s.encs, s.pace)

section
variable {s u : State}

theorem axes_of_rig (h : u.rig = s.rig) : u.axes = s.axes := congrArg Prod.fst h
theorem encs_of_rig (h : u.rig = s.rig) : u.encs = s.encs := congrArg (fun x => x.2.1) h
theorem pace_of_rig (h : u.rig = s.rig) : u.pace = s.pace := congrArg (fun x => x.2.2) h

theorem rig_stirred (h : s.Stirred u) : u.rig = s.rig := by
  obtain ⟨_, _, _, _, rfl⟩ := h
  rfl

theorem rig_logged (h : s.Logged u) : u.rig = s.rig := by
  obtain ⟨_, _, rfl, -, -⟩ := h
  rfl

end

section
variable (s : State)

@[simp] theorem rig_fireEdge (b : BlockId) (off : Nat) (e : Option CountEdge) : (s.fireEdge b off e).rig = s.rig :=
  rig_stirred (fireEdge_stirred b off e s)

@[simp] theorem rig_fire (b : BlockId) (off : Nat) : (s.fire b off).rig = s.rig := rig_fireEdge s b off none

@[simp] theorem rig_eventIn (sec : Bool) (e : EventRecord) : (s.eventIn sec e).rig = s.rig :=
  rig_stirred (eventIn_stirred sec e s)

@[simp] theorem rig_event (b : BlockId) (st : BitVec 16) (d : BitVec 32) (f : BitVec 32) (q a : DWord) (l : List Byte) :
    (s.event b st d f q a l).rig = s.rig := rig_eventIn s _ _

@[simp] theorem rig_deviceEvent (b : BlockId) (st : BitVec 16) (d r f : BitVec 32) (a : DWord) (l : List Byte) :
    (s.deviceEvent b st d r f a l).rig = s.rig := (rig_eventIn _ _ _).trans (rig_logged (device_logged _ _ _ _ _ _ s))

@[simp] theorem rig_finish (q : DWord) (st : BitVec 16) (d r f : BitVec 32) (b : List (Nat × List Byte)) :
    (s.finish q st d r f b).rig = s.rig := by
  obtain ⟨_, _, _, _, _, h⟩ := finish_form q st d r s f b
  rw [h]
  rfl

@[simp] theorem rig_finishOk (q : DWord) (r : BitVec 32) : (s.finishOk q r).rig = s.rig := rig_finish _ _ _ _ _ _ _

@[simp] theorem rig_finishAll (l : List DWord) (st : BitVec 16) (d r : BitVec 32) : (s.finishAll l st d r).rig = s.rig :=
  each_keeps (g := State.rig) (fun q s => rig_finish s q st d r 0 []) l s

@[simp] theorem rig_begun (q : DWord) : (s.begun q).rig = s.rig := rfl

@[simp] theorem rig_takeFault : s.takeFault.rig = s.rig := rfl

@[simp] theorem rig_sysRoutes : s.sysRoutes.rig = s.rig := rig_stirred (sysRoutes_stirred s)

@[simp] theorem rig_sendGate : s.sendGate.rig = s.rig := by
  obtain ⟨_, h⟩ := sendGate_form s
  rw [h]
  rfl

theorem rig_sendReject (doc : BitVec 32) (mask reason : Nat) : (s.sendReject doc mask reason).rig = s.rig := by
  unfold State.sendReject
  dsimp only
  split
  · rfl
  · split
    · rfl
    · obtain ⟨_, h⟩ := sendOwn_form 0x85 (leBytes 4 doc.toNat ++ leBytes 1 mask ++ leBytes 1 reason) s
      rw [h]
      rfl

theorem rig_backlogCheck : s.backlogCheck.rig = s.rig := by
  unfold State.backlogCheck
  dsimp only
  split <;> rfl

theorem rig_modPort (n : Fin 8) (f : Port → Port) : (s.modPort n f).rig = s.rig := rfl

/-! ### The image path -/

theorem rig_storeBytes (base size off : Nat) (b : List Byte) : (s.storeBytes base size off b).rig = s.rig := by
  unfold State.storeBytes
  dsimp only
  split <;> rfl

theorem rig_docEnds (l : List DWord) : (s.docEnds l).rig = s.rig :=
  each_keeps (g := State.rig) (fun q s => by split <;> simp) l s

theorem rig_flushRecords (n : Fin 8) (k : Nat) : (s.flushRecords n k).rig = s.rig := by
  induction k generalizing s with
  | zero => rfl
  | succ k ih =>
    unfold State.flushRecords
    split
    · rfl
    · split
      · rfl
      · dsimp only
        split
        · rfl
        · exact (ih _).trans ((rig_docEnds _ _).trans (rig_storeBytes _ _ _ _ _))

theorem rig_sideRecord (n : Fin 8) (d : Side) (typ : Nat) (body : List Byte) : (s.sideRecord n d typ body).rig = s.rig :=
  rig_flushRecords _ n _

theorem rig_closeStrip (n : Fin 8) (doc : BitVec 32) : (s.closeStrip n doc).rig = s.rig := by
  unfold State.closeStrip
  split
  · rfl
  · split
    · rfl
    · refine (rig_modPort _ n _).trans (Eq.trans (rig_sideRecord _ n _ _ _) ?_)
      exact rig_sideRecord s n _ _ _

theorem rig_sideHeld (n : Fin 8) (doc : BitVec 32) : (s.sideHeld n doc).rig = s.rig := by
  unfold State.sideHeld
  split
  · split <;> rfl
  · rfl

theorem rig_sideGone (n : Fin 8) (cid : List Byte) (d : Side) : (s.sideGone n cid d).rig = s.rig := by
  unfold State.sideGone
  split
  · rfl
  · exact rig_docEnds s _

theorem rig_closeSide (n : Fin 8) (doc : BitVec 32) : (s.closeSide n doc).rig = s.rig := by
  have start : ((s.closeStrip n doc).sideHeld n doc).rig = s.rig := (rig_sideHeld _ n doc).trans (rig_closeStrip s n doc)
  unfold State.closeSide
  dsimp only
  split
  · exact start
  · refine (rig_sendGate _).trans ((rig_sideGone _ n _ _).trans ?_)
    refine (when_keeps (g := State.rig) (rig_sendReject _ _ _ _) _).trans ?_
    refine Eq.trans ((rig_fire _ _ _).trans (rig_backlogCheck _)) ?_
    exact (rig_modPort _ n _).trans (Eq.trans (rig_sideRecord _ n _ _ _) start)

theorem rig_delayReadFailed (n : Fin 8) (a : Nat) : (s.delayReadFailed n a).rig = s.rig :=
  (rig_deviceEvent _ _ _ _ _ _ _ _).trans (rig_fire _ _ _)

theorem rig_releaseLine (n : Fin 8) (d : Side) (asRead : Option (List (List Nat))) :
    (s.releaseLine n d asRead).rig = s.rig := by
  have strip (b : Bool) (u : State) : (u.when b fun s => s.closeStrip n d.doc).rig = u.rig :=
    when_keeps (g := State.rig) (rig_closeStrip u n d.doc) b
  unfold State.releaseLine
  dsimp only
  split
  · rfl
  · split
    · exact rig_closeStrip s n d.doc
    · refine (strip _ _).trans ((when_keeps (g := State.rig) (rig_delayReadFailed _ n _) _).trans ?_)
      exact (rig_modPort _ n _).trans (strip _ s)

theorem rig_releaseUpTo (n : Fin 8) (doc : BitVec 32) (k : Nat) : (s.releaseUpTo n doc k).rig = s.rig := by
  induction k generalizing s with
  | zero => rfl
  | succ k ih =>
    unfold State.releaseUpTo
    split
    · rfl
    · split
      · exact (ih _).trans (rig_releaseLine s n _ _)
      · rfl

theorem rig_closeNow (n : Fin 8) (doc : BitVec 32) (f : Side → Side) : (s.closeNow n doc f).rig = s.rig := by
  unfold State.closeNow
  dsimp only
  split
  · rfl
  · split
    · exact (rig_closeSide _ n doc).trans (rig_releaseUpTo _ n doc _)
    · exact rig_docEnds _ _

theorem rig_closeAll (n : Fin 8) (f : Side → Side) : (s.closeAll n f).rig = s.rig :=
  each_keeps (g := State.rig) (fun doc u => rig_closeNow u n doc f) _ s

theorem rig_spliceStored (n : Fin 8) (d : Side) : (s.spliceStored n d).rig = s.rig := by
  unfold State.spliceStored
  dsimp only
  split
  · exact (rig_modPort _ n _).trans (when_keeps (g := State.rig) (rig_storeBytes _ _ _ _ _) _)
  · rfl

theorem rig_drainSeam (n : Fin 8) (doc : BitVec 32) (k : Int) : (s.drainSeam n doc k).rig = s.rig := by
  unfold State.drainSeam
  split
  · rfl
  · exact (rig_closeStrip _ n doc).trans (when_keeps (g := State.rig) (rig_spliceStored s n _) _)

end

end Sys2Proof.Machine

namespace Sys2Proof.Machine

/-! ## The drive and the plan of an axis -/

/-- Two axes that differ at most in the current and in the choppers of the phases. -/
def Axis.Switched (x y : Axis) : Prop := ∃ c a b, y = { x with drive.cur := c, drive.chopA := a, drive.chopB := b }

namespace Axis.Switched

theorem refl (x : Axis) : x.Switched x := ⟨x.drive.cur, x.drive.chopA, x.drive.chopB, rfl⟩

theorem trans {x y z : Axis} : x.Switched y → y.Switched z → x.Switched z := by
  rintro ⟨_, _, _, rfl⟩ ⟨_, _, _, rfl⟩
  exact ⟨_, _, _, rfl⟩

end Axis.Switched

section
variable (x : Axis) (t : Nat) (ph : Phase)

theorem setChop_switched (c : Chop) : x.Switched (x.setChop ph c) := by
  cases ph
  · exact ⟨x.drive.cur, c, x.drive.chopB, rfl⟩
  · exact ⟨x.drive.cur, x.drive.chopA, c, rfl⟩

theorem phaseOn_switched : x.Switched (x.phaseOn t ph) := by
  unfold Axis.phaseOn
  dsimp only
  split
  · exact setChop_switched x ph _
  · exact setChop_switched x ph _

theorem phaseSync_switched : x.Switched (x.phaseSync t ph) := by
  unfold Axis.phaseSync
  dsimp only
  split
  · exact phaseOn_switched x _ ph
  · split
    · exact setChop_switched x ph _
    · exact .refl x

theorem sync_switched : x.Switched (x.sync t) := (phaseSync_switched x t .a).trans (phaseSync_switched _ t .b)

theorem setCur_switched (n : Nat) : x.Switched (x.setCur t n) := by
  refine ((sync_switched x t).trans ?_).trans (sync_switched _ t)
  exact ⟨_, (x.sync t).drive.chopA, (x.sync t).drive.chopB, rfl⟩

theorem energise_switched : ({ x with drive.en := true } : Axis).Switched (x.energise t) :=
  (phaseOn_switched _ t .a).trans (phaseOn_switched _ t .b)

theorem phaseStep_switched (b : Nat × Bool) : x.Switched (x.phaseStep t ph b) := by
  unfold Axis.phaseStep
  dsimp only
  split
  · exact setChop_switched x ph _
  split
  · exact setChop_switched x ph _
  split
  · exact setChop_switched x ph _
  split
  · exact setChop_switched x ph _
  split
  · exact (setChop_switched x ph _).trans (phaseOn_switched _ t ph)
  · exact setChop_switched x ph _

end

/-- Two axes that differ at most in the plan, the overshoot it has, and the tick from which steps are timed. -/
def Axis.Planned (x y : Axis) : Prop := ∃ p l o, y = { x with plan := p, steps.last := l, overshoot := o }

section
variable (x : Axis) (t : Nat)

theorem startPlan_planned (l : List Seg) (d : Option Int) : x.Planned (x.startPlan t l d) := ⟨_, _, x.overshoot, rfl⟩

theorem stopPlan_planned (A J : Nat) : x.Planned (x.stopPlan t A J) := by
  unfold Axis.stopPlan
  dsimp only
  split
  · exact ⟨none, x.steps.last, x.overshoot, rfl⟩
  · exact startPlan_planned x t _ _

theorem movePlan_planned (d : Int) (V A J : Nat) : x.Planned (x.movePlan t d V A J) := by
  unfold Axis.movePlan
  dsimp only
  split
  · exact ⟨none, x.steps.last, 0, rfl⟩
  · exact ⟨_, _, _, rfl⟩

theorem velPlan_planned (v : Int) (A J : Nat) : x.Planned (x.velPlan t v A J) := by
  unfold Axis.velPlan
  dsimp only
  split
  · exact stopPlan_planned x t A J
  · exact startPlan_planned x t _ _

end

/-! ## What the governors move (05 R104 to R127) -/

theorem axes_set_same (v : Vector Axis 12) (a : Fin 12) (x : Axis) : (v.set a x)[a] = x := by simp

theorem axes_set_other {a k : Fin 12} (h : k ≠ a) (v : Vector Axis 12) (x : Axis) : (v.set a x)[k] = v[k] := by
  have : (a : Nat) ≠ k := fun e => h (Fin.ext e.symm)
  simp [this]

/-- The position of an axis, the steps it has made, and its homing: what no plan changes. -/
def Axis.odometer (x : Axis) : Int × Word × Option Homing := (x.pos, x.steps.steps, x.home)

section
variable {x : Axis} {o : Int × Word × Option Homing}

theorem pos_of_odometer (h : x.odometer = o) : x.pos = o.1 := congrArg Prod.fst h
theorem steps_of_odometer (h : x.odometer = o) : x.steps.steps = o.2.1 := congrArg (fun o => o.2.1) h
theorem home_of_odometer (h : x.odometer = o) : x.home = o.2.2 := congrArg (fun o => o.2.2) h

end

/-- Where every axis and every encoder is. -/
def State.stations (s : State) : Vector (Int × Word × Option Homing) 12 × Vector Encoder 8 :=
  (s.axes.map Axis.odometer, s.encs)

/-- The second state is the first after governors have acted: nothing has moved yet, and an axis that no governor takes, being
neither idle nor moving, is as it was. -/
def State.Driven (s u : State) : Prop := u.stations = s.stations ∧
  ∀ k : Fin 12, s.axes[k].st ≠ .idle → s.axes[k].st ≠ .moving → u.axes[k] = s.axes[k]

section
variable {s u v : State}

theorem odometer_of_stations (h : u.stations = s.stations) (k : Fin 12) : u.axes[k].odometer = s.axes[k].odometer := by
  have := congrArg (fun x : Vector (Int × Word × Option Homing) 12 × Vector Encoder 8 => x.1[k]) h
  simpa [State.stations] using this

theorem encs_of_stations (h : u.stations = s.stations) : u.encs = s.encs := congrArg Prod.snd h

theorem stations_of_rig (h : u.rig = s.rig) : u.stations = s.stations := by
  unfold State.stations
  rw [axes_of_rig h, encs_of_rig h]

theorem stations_modAxis {a : Fin 12} {f : Axis → Axis} (h : (f s.axes[a]).odometer = s.axes[a].odometer) :
    (s.modAxis a f).stations = s.stations := by
  have same : (s.axes.set a (f s.axes[a])).map Axis.odometer = s.axes.map Axis.odometer := by
    refine Vector.ext fun k hk => ?_
    by_cases e : (a : Nat) = k
    · subst e
      simpa using h
    · simp [e]
  exact congrArg (fun x => (x, s.encs)) same

theorem State.Driven.of_rig (h : u.rig = s.rig) : s.Driven u :=
  ⟨stations_of_rig h, fun k _ _ => by rw [axes_of_rig h]⟩

theorem State.Driven.trans (h : s.Driven u) (h' : u.Driven v) : s.Driven v := by
  refine ⟨h'.1.trans h.1, fun k idle moving => ?_⟩
  have same := h.2 k idle moving
  rw [← same] at idle moving ⊢
  exact h'.2 k idle moving

/-- A governor acts, and then something that leaves the axes and encoders alone happens. -/
theorem State.Driven.then_rig (h : s.Driven u) (h' : v.rig = u.rig) : s.Driven v := h.trans (.of_rig h')

theorem each_driven {α : Type} {f : α → State → State} (hf : ∀ (x : α) (s : State), s.Driven (f x s)) (l : List α) (s : State) :
    s.Driven (s.each l f) := by
  induction l generalizing s with
  | nil => exact .of_rig rfl
  | cons x l ih => exact (hf x s).trans (ih _)

theorem when_driven {f : State → State} (hf : s.Driven (f s)) (b : Bool) : s.Driven (s.when b f) := by
  cases b
  · exact .of_rig rfl
  · exact hf

end

theorem stations_modGroup (g : Fin 4) (f : PaceGroup → PaceGroup) (s : State) : (s.modGroup g f).stations = s.stations := rfl

theorem modGroup_driven (g : Fin 4) (f : PaceGroup → PaceGroup) (s : State) : s.Driven (s.modGroup g f) :=
  ⟨rfl, fun _ _ _ => rfl⟩

theorem setEvt_pace_driven (bit : Nat) (s : State) : s.Driven (s.setEvt .pace bit) := ⟨rfl, fun _ _ _ => rfl⟩

theorem modSb_driven (g : Fin 4) (f : Switchback → Switchback) (s : State) : s.Driven (s.modSb g f) := modGroup_driven g _ s

theorem modPort_driven (n : Fin 8) (f : Port → Port) (s : State) : s.Driven (s.modPort n f) := .of_rig rfl

section
variable (g : Fin 4)

theorem idle_or_moving_of_governed {a : Fin 12} {s : State} (h : s.governed a = true) :
    s.axes[a].st = .idle ∨ s.axes[a].st = .moving := by
  unfold State.governed at h
  obtain ⟨-, taken⟩ := Bool.and_eq_true_iff.1 h
  simpa only [Bool.or_eq_true, decide_eq_true_eq] using taken

theorem governAxis_driven (ax : Fin 12) (v : Rat) (s : State) : s.Driven (s.governAxis g ax v) := by
  unfold State.governAxis
  split
  · exact .of_rig rfl
  · dsimp only
    split
    · exact .of_rig rfl
    · next free =>
      split
      · exact .of_rig rfl
      · generalize clampInt _ _ _ = vel
        have governed : s.governed ax = true := by
          simp only [Bool.or_eq_true, not_or, Bool.not_eq_true, Bool.not_eq_false'] at free
          obtain ⟨⟨governed, -⟩, -⟩ := free
          exact governed
        have taken := idle_or_moving_of_governed governed
        refine ⟨stations_modAxis ?_, fun k idle moving => axes_set_other (fun own => ?_) _ _⟩
        · obtain ⟨p, l, o, planned⟩ := velPlan_planned s.axes[ax] s.ticks vel (PaceCfg.rampFor _ s.axes[ax]).1
            (PaceCfg.rampFor _ s.axes[ax]).2
          rw [planned]
          split
          · obtain ⟨c, a, b, switched⟩ := setCur_switched { s.axes[ax] with plan := p, steps.last := l, overshoot := o } s.ticks
              s.axes[ax].drive.lev.iRun
            rw [switched]
            rfl
          · rfl
        · subst own
          exact taken.elim idle moving

theorem stopGroup_driven (s : State) : s.Driven (s.stopGroup g) := by
  unfold State.stopGroup
  split
  · exact .of_rig rfl
  · dsimp only
    split
    · exact (governAxis_driven g _ 0 s).trans (governAxis_driven g _ 0 _)
    · exact governAxis_driven g _ 0 s

theorem endHold_driven (s : State) : s.Driven (s.endHold g) := by
  unfold State.endHold
  split
  · exact .of_rig rfl
  · exact (each_driven (fun (m : Seam) u => modPort_driven m.port _ u) _ s).trans (modGroup_driven g _ _)

theorem sbAgain_driven (s : State) : s.Driven (s.sbAgain g) :=
  ((endHold_driven g s).trans (modSb_driven g _ _)).trans (stopGroup_driven g _)

theorem switchback_driven (cause : Nat) (ax : Option (Fin 12 × Bool)) (s : State) : s.Driven (s.switchback g cause ax) := by
  unfold State.switchback
  dsimp only
  split
  · exact .of_rig rfl
  · split
    · exact .of_rig rfl
    · split
      · split
        · exact modSb_driven g _ s
        · split
          · exact modSb_driven g _ s
          · split
            · exact (modSb_driven g _ s).trans (sbAgain_driven g _)
            · exact modSb_driven g _ s
      · refine State.Driven.then_rig (State.Driven.trans ?_ (stopGroup_driven g _)) (rig_sendGate _)
        exact State.Driven.then_rig ((modGroup_driven g _ s).trans (setEvt_pace_driven _ _)) (rig_fire _ _ _)

theorem gapStopCheck_driven (s : State) : s.Driven (s.gapStopCheck g) := by
  unfold State.gapStopCheck
  split
  · exact .of_rig rfl
  · split
    · exact switchback_driven g 1 none s
    · exact .of_rig rfl

end

theorem axisStandstill_driven (a : Fin 12) (byStop : Bool) (s : State) : s.Driven (s.axisStandstill a byStop) := by
  unfold State.axisStandstill
  extract_lets go
  have acts (g : Fin 4) (u : State) : u.Driven (go g u) := by
    dsimp only [go]
    split
    · exact .of_rig rfl
    · split
      · exact when_driven (switchback_driven g 3 _ u) _
      · split
        · exact each_driven (fun n v => modPort_driven n _ v) _ u
        · exact .of_rig rfl
  split
  · split
    · split
      · exact acts _ s
      · exact .of_rig rfl
    · exact .of_rig rfl
  · exact acts _ s
  · exact .of_rig rfl

/-! ### Switchbacks -/

section
variable (g : Fin 4) (s : State)

theorem stations_sbStopped : (s.sbStopped g).stations = s.stations := by
  unfold State.sbStopped
  split
  · split
    · unfold State.sbStop
      split
      · exact each_keeps (g := State.stations) (fun _ _ => by rfl) _ _
      · rfl
    · rfl
  · rfl

theorem rig_sbHold_ports (b : Switchback) : (s.each (s.groupPorts g) fun n s =>
    s.modPort n fun p => if p.st = .scan then p.enterHold (s.lastHeld b n) else p).rig = s.rig :=
  each_keeps (g := State.rig) (fun n u => rig_modPort u n _) _ s

theorem stations_sbHold : (s.sbHold g).stations = s.stations := by
  unfold State.sbHold
  split
  · next b _ =>
    split
    · dsimp only
      split
      · exact (stations_modGroup g _ _).trans (stations_of_rig (rig_sbHold_ports g s b))
      · exact stations_of_rig (rig_sbHold_ports g s b)
    · rfl
  · rfl

theorem stations_sbRewind : (s.sbRewind g).stations = s.stations := by
  unfold State.sbRewind
  split
  · next c _ _ _ =>
    extract_lets down here pb marked ignoring ax ramp v
    have same : ignoring.stations = s.stations := by
      refine (stations_modGroup g _ marked).trans (stations_of_rig ?_)
      exact each_keeps (g := State.rig) (fun (m : Seam) u => rig_modPort u m.port _) _ s
    split
    · exact same
    · refine (stations_modAxis ?_).trans same
      generalize ignoring.axes[c.master] = x
      generalize ratRound _ = travel
      obtain ⟨p, l, o, planned⟩ := movePlan_planned x ignoring.ticks (x.pos + travel) v ramp.1 ramp.2
      dsimp only
      rw [planned]
      split
      · obtain ⟨_, _, _, switched⟩ := setCur_switched { x with plan := p, steps.last := l, overshoot := o } ignoring.ticks
          x.drive.lev.iRun
        rw [switched]
        rfl
      · rfl
  · rfl

theorem stations_sbBack : (s.sbBack g).stations = s.stations := by
  unfold State.sbBack
  split
  · split
    · exact stations_sbRewind g s
    · rfl
  · rfl

theorem stations_sbForward : (s.sbForward g).stations = s.stations := by
  unfold State.sbForward
  split
  · split
    · refine (stations_modGroup g _ _).trans (stations_of_rig ?_)
      exact each_keeps (g := State.rig) (fun n u => rig_modPort u n _) _ s
    · rfl
  · rfl

theorem stations_sbAdvance : (s.sbAdvance g).stations = s.stations := by
  unfold State.sbAdvance
  split
  · exact stations_sbHold g s
  · exact (stations_sbForward g _).trans ((stations_sbBack g _).trans ((stations_sbHold g _).trans (stations_sbStopped g s)))

theorem stations_sbAdvanceAll : s.sbAdvanceAll.stations = s.stations :=
  each_keeps (g := State.stations) stations_sbAdvance allGroups s

end

end Sys2Proof.Machine

namespace Sys2Proof.Machine

/-! ## Axes that come to rest, and stops (06 R148 to R154) -/

@[simp] theorem rig_when {f : State → State} {s : State} (h : (f s).rig = s.rig) (b : Bool) : (s.when b f).rig = s.rig :=
  when_keeps (g := State.rig) h b

section
variable (a : Fin 12) (s : State)

@[simp] theorem finishOk_axes (q : DWord) (r : BitVec 32) : (s.finishOk q r).axes = s.axes := axes_of_rig (rig_finishOk s q r)
@[simp] theorem finishAll_axes (l : List DWord) (st : BitVec 16) (d r : BitVec 32) : (s.finishAll l st d r).axes = s.axes :=
  axes_of_rig (rig_finishAll s l st d r)
@[simp] theorem fire_axes (b : BlockId) (off : Nat) : (s.fire b off).axes = s.axes := axes_of_rig (rig_fire s b off)
@[simp] theorem sysRoutes_axes : s.sysRoutes.axes = s.axes := axes_of_rig (rig_sysRoutes s)

@[simp] theorem finish_encs (q : DWord) (st : BitVec 16) (d r f : BitVec 32) (b : List (Nat × List Byte)) :
    (s.finish q st d r f b).encs = s.encs := encs_of_rig (rig_finish s q st d r f b)
@[simp] theorem finishOk_encs (q : DWord) (r : BitVec 32) : (s.finishOk q r).encs = s.encs := encs_of_rig (rig_finishOk s q r)
@[simp] theorem finishAll_encs (l : List DWord) (st : BitVec 16) (d r : BitVec 32) : (s.finishAll l st d r).encs = s.encs :=
  encs_of_rig (rig_finishAll s l st d r)
@[simp] theorem fire_encs (b : BlockId) (off : Nat) : (s.fire b off).encs = s.encs := encs_of_rig (rig_fire s b off)
@[simp] theorem sysRoutes_encs : s.sysRoutes.encs = s.encs := encs_of_rig (rig_sysRoutes s)

@[simp] theorem axisFlag_encs (bit : Nat) : (s.axisFlag a bit).encs = s.encs := rfl

@[simp] theorem moveDone_encs : (s.moveDone a).encs = s.encs := by
  unfold State.moveDone
  simp

end

/-! ### One axis at work -/

/-- An event bit of the axis comes up. -/
def Axis.flag (bit : Nat) (x : Axis) : Axis := { x with evt := setBit x.evt bit }

/-- The second state is the first with one axis as given: no other axis, no encoder and nothing of the governor differs. -/
def State.Sets (a : Fin 12) (y : Axis) (s u : State) : Prop := u.rig = (s.axes.set a y, s.encs, s.pace)

namespace State.Sets

variable {a : Fin 12} {x y : Axis} {s u v : State}

theorem self (a : Fin 12) (s : State) : s.Sets a s.axes[a] s := by
  simp [State.Sets, State.rig]

theorem axes_eq (h : s.Sets a y u) : u.axes = s.axes.set a y := congrArg Prod.fst h
theorem encs_eq (h : s.Sets a y u) : u.encs = s.encs := congrArg (fun x => x.2.1) h

theorem axis_eq (h : s.Sets a y u) : u.axes[a] = y := by rw [h.axes_eq, axes_set_same]

theorem other_eq (h : s.Sets a y u) {k : Fin 12} (hk : k ≠ a) : u.axes[k] = s.axes[k] := by
  rw [h.axes_eq, axes_set_other hk]

/-- What leaves the axes, the encoders and the governor alone comes after. -/
theorem then_rig (h : s.Sets a y u) (h' : v.rig = u.rig) : s.Sets a y v := Eq.trans h' h

theorem modAxis (h : s.Sets a y u) (f : Axis → Axis) : s.Sets a (f y) (u.modAxis a f) := by
  have axes : (u.modAxis a f).axes = s.axes.set a (f y) := by
    rw [State.modAxis_axes, h.axis_eq, h.axes_eq, Vector.set_set]
  exact congrArg (fun v => (v, u.encs, u.pace)) axes |>.trans (congrArg (fun x => (s.axes.set a (f y), x.2)) h)

theorem axisFlag (h : s.Sets a y u) (bit : Nat) : s.Sets a (y.flag bit) (u.axisFlag a bit) :=
  h.modAxis (Axis.flag bit)

theorem moveDone (h : s.Sets a y u) : s.Sets a (y.flag 0) (u.moveDone a) :=
  (h.axisFlag 0).then_rig (rig_fire _ _ _)

theorem finishAll (h : s.Sets a y u) (l : List DWord) (st : BitVec 16) (d r : BitVec 32) :
    s.Sets a y (u.finishAll l st d r) := h.then_rig (rig_finishAll u l st d r)

theorem trans (h : s.Sets a x u) (h' : u.Sets a y v) : s.Sets a y v := by
  refine Eq.trans h' ?_
  rw [h.axes_eq, Vector.set_set]
  exact congrArg (fun x => (s.axes.set a y, x.2)) h

/-- The axis has not moved. -/
theorem stations_eq (h : s.Sets a y u) (still : y.odometer = s.axes[a].odometer) : u.stations = s.stations := by
  have rig : u.rig = (s.modAxis a fun _ => y).rig := h
  exact (stations_of_rig rig).trans (stations_modAxis still)

end State.Sets

/-- Two axes that differ at most in event bits that have come up. -/
def Axis.Flagged (x y : Axis) : Prop :=
  ∃ e, y = { x with evt := e } ∧ ∀ i, x.evt.getLsbD i = true → e.getLsbD i = true

theorem getLsbD_setBit (w : Word) (i j : Nat) :
    (setBit w i).getLsbD j = (w.getLsbD j || (decide (j < 32) && decide (j = i))) := by
  unfold setBit
  rw [BitVec.getLsbD_or, BitVec.getLsbD_shiftLeft, BitVec.getLsbD_one]
  by_cases h : j < 32 <;> by_cases e : j = i <;> simp [h, e]
  omega

namespace Axis.Flagged

theorem refl (x : Axis) : x.Flagged x := ⟨x.evt, rfl, fun _ h => h⟩

theorem flag {x y : Axis} (h : x.Flagged y) (bit : Nat) : x.Flagged (y.flag bit) := by
  obtain ⟨e, rfl, up⟩ := h
  refine ⟨setBit e bit, rfl, fun i hi => ?_⟩
  rw [getLsbD_setBit, up i hi, Bool.true_or]

end Axis.Flagged

/-! ### Rest -/

/-- The axis as its motion ends: the plan gone, at full resolution, with no adapted current waiting. -/
def Axis.rested (x : Axis) : Axis := { x with plan := none, drive.res := 0, drive.load.nextCur := none }

/-- The axis as a stop ends: in FAULT where a cause of one stands, with the current at rest, else in IDLE. -/
def Axis.stopEnded (t cause : Nat) (x : Axis) : Axis :=
  let y := if cause ≠ 0 then x.setCur t x.drive.lev.iHold else x
  { y with st := if cause ≠ 0 then .fault else .idle, move := Move.none, gear := none
           waits := { y.waits with stops := [], disengage := none, soft := false, seq := none } }

section
variable {a : Fin 12} {s : State}

/-- The end of a stop, the standstill that a group takes notice of aside. -/
def State.stopEnds (a : Fin 12) (s : State) : State :=
  let x := s.axes[a]
  let u := (s.modAxis a Axis.rested).modAxis a (Axis.stopEnded s.ticks x.faultCause)
  let u := (u.finishAll x.waits.stops 0 0 (result32 x.remain)).finishAll x.waits.disengage.toList 0 0 0
  let u := u.when x.waits.soft fun u =>
    ((u.finishAll x.waits.seq.toList 0x0300 0x0304 0).axisFlag a 2).event (.ax a) 0x0300 0x0304
  u.moveDone a

theorem stations_when {f : State → State} (h : (f s).stations = s.stations) (b : Bool) : (s.when b f).stations = s.stations :=
  when_keeps (g := State.stations) h b

theorem stations_axisFlag (a : Fin 12) (s : State) (bit : Nat) : (s.axisFlag a bit).stations = s.stations :=
  stations_modAxis rfl

theorem axisRest_of_stopping (h : s.axes[a].st = .stopping) : s.axisRest a =
    if s.axes[a].waits.stops.isEmpty && !decide (s.axes[a].faultCause ≠ 0) && s.axes[a].kept.isNone then s.stopEnds a
    else (s.stopEnds a).axisStandstill a !decide (s.axes[a].faultCause ≠ 0) := by
  unfold State.axisRest
  dsimp only
  rw [h]
  rfl

/-- A stop has ended: the axis is at rest, nothing waits for its stop, and the bits of the end have come up. -/
theorem stopEnds_sets (a : Fin 12) (s : State) :
    ∃ y, s.Sets a y (s.stopEnds a) ∧ (s.axes[a].rested.stopEnded s.ticks s.axes[a].faultCause).Flagged y := by
  unfold State.stopEnds
  extract_lets x u answered told
  have ended : s.Sets a (x.rested.stopEnded s.ticks x.faultCause) answered :=
    ((((State.Sets.self a s).modAxis _).modAxis _).finishAll _ _ _ _).finishAll _ _ _ _
  obtain ⟨y, sets, flagged⟩ : ∃ y, s.Sets a y told ∧ (x.rested.stopEnded s.ticks x.faultCause).Flagged y := by
    dsimp only [told]
    cases x.waits.soft with
    | false => exact ⟨_, ended, .refl _⟩
    | true => exact ⟨_, ((ended.finishAll _ _ _ _).axisFlag 2).then_rig (rig_event _ _ _ _ _ _ _ _), (Axis.Flagged.refl _).flag 2⟩
  exact ⟨_, sets.moveDone, flagged.flag 0⟩

/-- The axis as a move ends. -/
def Axis.moveEnded (x : Axis) : Axis := { x with st := .idle, move := Move.none, waits.soft := false, waits.seq := none }

theorem axisRest_of_soft (h : s.axes[a].st = .moving) (own : s.axes[a].move.kind ≠ .governed)
    (soft : s.axes[a].waits.soft = true) : s.axisRest a =
      ((((((s.modAxis a Axis.rested).modAxis a Axis.moveEnded).motionLimit a s.axes[a].waits.seq 0x0304 0).axisFlag a 2).event
        (.ax a) 0x0300 0x0304).moveDone a) := by
  unfold State.axisRest
  dsimp only
  rw [h]
  dsimp only
  rw [if_neg own, if_pos soft]
  rfl

theorem axisRest_of_moving (h : s.axes[a].st = .moving) (own : s.axes[a].move.kind ≠ .governed)
    (soft : s.axes[a].waits.soft = false) : s.axisRest a =
      let x := s.axes[a]
      let u := (s.modAxis a Axis.rested).modAxis a fun x =>
        { x with st := .idle, move := Move.none, waits.seq := none, waits.deferred := false }
      let r := BitVec.ofNat 32 (min x.overshoot (2 ^ 32 - 1))
      (if x.waits.deferred then u.motionLimit a x.waits.seq 0x0303 r else u.finishAll x.waits.seq.toList 0 0 r).moveDone a := by
  unfold State.axisRest
  dsimp only
  rw [h]
  dsimp only
  rw [if_neg own, if_neg (by rw [soft]; exact Bool.false_ne_true)]
  rfl

theorem axisRest_of_governed (h : s.axes[a].st = .moving) (own : s.axes[a].move.kind = .governed) :
    s.axisRest a = ((s.modAxis a Axis.rested).modAxis a fun x => { x with st := .idle }).sbAdvanceAll := by
  unfold State.axisRest
  dsimp only
  rw [h]
  dsimp only
  rw [if_pos own]
  rfl

theorem axisRest_of_homing (h : s.axes[a].st = .homing) : s.axisRest a = (s.modAxis a Axis.rested).homeRest a := by
  unfold State.axisRest
  dsimp only
  rw [h]
  rfl

/-- An axis that neither moves, stops nor is homing rests as it is. -/
theorem axisRest_of_still (moving : s.axes[a].st ≠ .moving) (stopping : s.axes[a].st ≠ .stopping)
    (homing : s.axes[a].st ≠ .homing) : s.axisRest a = s.modAxis a Axis.rested := by
  unfold State.axisRest
  dsimp only
  split
  · exact absurd ‹_› homing
  · exact absurd ‹_› stopping
  · exact absurd ‹_› moving
  · rfl

theorem homeRest_of_none (h : s.axes[a].home = none) : s.homeRest a = s := by
  unfold State.homeRest
  dsimp only
  rw [h]

theorem odometer_stopEnded (x : Axis) (t cause : Nat) : (x.stopEnded t cause).odometer = x.odometer := by
  unfold Axis.stopEnded
  dsimp only
  split
  · obtain ⟨_, _, _, switched⟩ := setCur_switched x t x.drive.lev.iHold
    rw [switched]
    rfl
  · rfl

theorem Axis.Flagged.odometer_eq {x y : Axis} (h : x.Flagged y) : y.odometer = x.odometer := by
  obtain ⟨_, rfl, -⟩ := h
  rfl

/-- The end of a move that no governor made leaves the axis where it is, idle, and its event bits up. -/
theorem axisRest_moved (h : s.axes[a].st = .moving) (own : s.axes[a].move.kind ≠ .governed) :
    ∃ y w, s.Sets a y (s.axisRest a)
      ∧ ({ s.axes[a].rested with st := .idle, move := Move.none, waits := w } : Axis).Flagged y := by
  cases soft : s.axes[a].waits.soft with
  | true =>
    rw [axisRest_of_soft h own soft]
    refine ⟨_, _, State.Sets.moveDone ?_, (((Axis.Flagged.refl s.axes[a].rested.moveEnded).flag 2).flag 2).flag 0⟩
    refine State.Sets.then_rig (State.Sets.axisFlag (State.Sets.axisFlag ?_ 2) 2) (rig_event _ _ _ _ _ _ _ _)
    exact (((State.Sets.self a s).modAxis _).modAxis _).finishAll _ _ _ _
  | false =>
    rw [axisRest_of_moving h own soft]
    extract_lets x u r
    have ended : s.Sets a { x.rested with st := .idle, move := Move.none, waits.seq := none, waits.deferred := false } u :=
      ((State.Sets.self a s).modAxis _).modAxis _
    split
    · exact ⟨_, _, ((ended.finishAll _ _ _ _).axisFlag 2).moveDone, ((Axis.Flagged.refl _).flag 2).flag 0⟩
    · exact ⟨_, _, (ended.finishAll _ _ _ _).moveDone, (Axis.Flagged.refl _).flag 0⟩

/-- An axis that is not homing comes to rest where it is. -/
theorem stations_axisRest (h : s.axes[a].st = .homing → s.axes[a].home = none) : (s.axisRest a).stations = s.stations := by
  have rests : (s.modAxis a Axis.rested).stations = s.stations := stations_modAxis rfl
  by_cases homing : s.axes[a].st = .homing
  · rw [axisRest_of_homing homing, homeRest_of_none]
    · exact rests
    · rw [State.modAxis_axes, axes_set_same]
      exact h homing
  by_cases stopping : s.axes[a].st = .stopping
  · obtain ⟨y, sets, flagged⟩ := stopEnds_sets a s
    have ended := sets.stations_eq (flagged.odometer_eq.trans (odometer_stopEnded _ _ _))
    rw [axisRest_of_stopping stopping]
    split
    · exact ended
    · exact (axisStandstill_driven a _ _).1.trans ended
  by_cases moving : s.axes[a].st = .moving
  · by_cases own : s.axes[a].move.kind = .governed
    · rw [axisRest_of_governed moving own]
      exact (stations_sbAdvanceAll _).trans ((stations_modAxis rfl).trans rests)
    · obtain ⟨y, w, sets, flagged⟩ := axisRest_moved moving own
      exact sets.stations_eq flagged.odometer_eq
  · rw [axisRest_of_still moving stopping homing]
    exact rests

/-! ### What a stop leaves of the encoders -/

theorem encs_when {f : State → State} (h : (f s).encs = s.encs) (b : Bool) : (s.when b f).encs = s.encs :=
  when_keeps (g := State.encs) h b

theorem encs_homeEnd (st : BitVec 16) (d : BitVec 32) : (s.homeEnd a st d).encs = s.encs := by
  unfold State.homeEnd
  split
  · rfl
  · dsimp only
    rw [moveDone_encs, finishAll_encs, encs_when rfl, State.modAxis_encs, axisFlag_encs, finish_encs, State.modAxis_encs]

theorem encs_homeDone : (s.homeDone a).encs = s.encs := by
  unfold State.homeDone
  split
  · rfl
  · rw [encs_of_stations (stations_sbAdvanceAll _), moveDone_encs, finish_encs, State.modAxis_encs]

theorem encs_homeRest : (s.homeRest a).encs = s.encs := by
  unfold State.homeRest
  dsimp only
  split
  · rfl
  · split
    · exact encs_homeEnd _ _
    · split
      · exact encs_homeDone
      · split
        · rfl
        · split
          · rfl
          · split
            · exact encs_homeDone
            · rfl

theorem encs_axisRest (a : Fin 12) (s : State) : (s.axisRest a).encs = s.encs := by
  by_cases homing : s.axes[a].st = .homing
  · rw [axisRest_of_homing homing]
    exact encs_homeRest
  · exact encs_of_stations (stations_axisRest fun h => absurd h homing)

theorem encs_restIfStill (a : Fin 12) (s : State) : (s.restIfStill a).encs = s.encs := by
  unfold State.restIfStill
  split
  · exact encs_axisRest a s
  · rfl

theorem encs_homeAbort (st : BitVec 16) (d : BitVec 32) : (s.homeAbort a st d).encs = s.encs := by
  unfold State.homeAbort
  dsimp only
  split
  · exact encs_homeEnd _ _
  · rfl

theorem encs_dropResume (a : Fin 12) (d : BitVec 32) (s : State) : (s.dropResume a d).encs = s.encs := by
  unfold State.dropResume
  dsimp only
  split
  · exact finishAll_encs ..
  · rfl

theorem encs_stopAxis (quick : Bool) (seq : Option DWord) : (s.stopAxis a quick seq).encs = s.encs := by
  unfold State.stopAxis
  dsimp only
  split
  · rw [sysRoutes_encs, encs_restIfStill, State.modAxis_encs, finishAll_encs]
    exact finishAll_encs ..
  · rw [sysRoutes_encs, encs_restIfStill, State.modAxis_encs, finishAll_encs]
    exact finishAll_encs ..
  · split
    · exact encs_restIfStill a _
    · rfl
  · exact encs_homeAbort _ _
  · rw [encs_when (encs_of_stations (axisStandstill_driven a true _).1), finishAll_encs, encs_when rfl]
  · rw [finishAll_encs, encs_dropResume]

end

end Sys2Proof.Machine

namespace Sys2Proof.Machine

/-! ## Stalls and follow checks (07 R178, R179) -/

/-- What is kept of a motion changes nothing else of the axis. -/
theorem keep_form (x : Axis) : ∃ k r, x.keep = { x with kept := k, remain := r } := by
  unfold Axis.keep
  split
  · exact ⟨x.kept, x.left, rfl⟩
  · split
    · exact ⟨x.kept, x.remain, rfl⟩
    · exact ⟨x.kept, x.remain, rfl⟩
    · split
      · exact ⟨_, 0, rfl⟩
      · exact ⟨x.kept, x.remain, rfl⟩
    · exact ⟨_, x.left, rfl⟩

/-- The axis as its step timer is stopped at once. -/
def Axis.halted (x : Axis) : Axis := { x.keep with plan := none, drive.res := 0, drive.load.nextCur := none }

/-- The axis as a stall is declared. -/
def Axis.stalledAt (t : Nat) (no : BitVec 32) (x : Axis) : Axis :=
  { (x.setCur t x.drive.lev.iHold) with
    st := .fault, positionLost := true, faultCause := 1, drive.stallCnt := satInc x.drive.stallCnt
    drive.stalled := some (t, no), drive.load.run := 0 }

/-- An event bit of the drive comes up. -/
def Axis.drvFlag (bit : Nat) (x : Axis) : Axis := { x with drive.evt := setBit x.drive.evt bit }

/-- The axis with no command waiting on it, no homing and no gearing. -/
def Axis.freed (x : Axis) : Axis := { x with waits := AxisWaits.none, home := none, gear := none }

theorem odometer_halted (x : Axis) : x.halted.odometer = x.odometer := by
  obtain ⟨_, _, kept⟩ := keep_form x
  unfold Axis.halted
  rw [kept]
  rfl

theorem odometer_stalledAt (x : Axis) (t : Nat) (no : BitVec 32) : (x.stalledAt t no).odometer = x.odometer := by
  obtain ⟨_, _, _, switched⟩ := setCur_switched x t x.drive.lev.iHold
  unfold Axis.stalledAt
  rw [switched]
  rfl

/-- An axis freed of its commands and its homing is where it was. -/
theorem odometer_freed {x y : Axis} (h : y.odometer = x.odometer) : y.freed.odometer = (x.pos, x.steps.steps, none) :=
  congrArg (fun o : Int × Word × Option Homing => (o.1, o.2.1, (none : Option Homing))) h

section
variable {a : Fin 12} {s u : State} {y : Axis}

theorem State.Sets.drvFlag (h : s.Sets a y u) (bit : Nat) : s.Sets a (y.drvFlag bit) (u.drvFlag a bit) :=
  h.modAxis (Axis.drvFlag bit)

theorem State.Sets.endWaiting (h : s.Sets a y u) (st : BitVec 16) (d f : BitVec 32) :
    s.Sets a y.freed (u.endWaiting a st d f) :=
  (h.modAxis Axis.freed).then_rig (each_keeps (g := State.rig) (fun q v => rig_finish v q st d _ f []) _ _)

/-- A stall, the standstill that a group takes notice of and the routes aside. -/
def State.stallNoted (a : Fin 12) (byLoad : Bool) (s : State) : State :=
  let homing := s.axes[a].st = .homing
  let detail : BitVec 32 := if byLoad then 0x0313 else 0x0312
  let no := s.ldg.faultNext
  let u := (s.modAxis a Axis.halted).takeFault.modAxis a (Axis.stalledAt s.ticks no)
  let u := (((u.drvFlag a (if byLoad then 1 else 0)).fire (.ax a) 2).endWaiting a 0x0301 detail no).when homing fun s =>
    s.axisFlag a 9
  (u.modAxis a fun x => { x with move := Move.none }).deviceEvent (.ax a) 0x0301 detail 0 no 0 []

theorem stall_eq (a : Fin 12) (byLoad : Bool) (s : State) :
    s.stall a byLoad = ((s.stallNoted a byLoad).axisStandstill a false).sysRoutes := rfl

/-- A stall leaves the axis in FAULT where it stands, with no homing. -/
theorem stallNoted_sets (a : Fin 12) (byLoad : Bool) (s : State) : ∃ y, s.Sets a y (s.stallNoted a byLoad) ∧ y.st = .fault
    ∧ y.odometer = (s.axes[a].pos, s.axes[a].steps.steps, none) := by
  unfold State.stallNoted
  extract_lets homing detail no declared ended
  have stood : (s.axes[a].halted.stalledAt s.ticks no).odometer = s.axes[a].odometer :=
    (odometer_stalledAt _ _ _).trans (odometer_halted _)
  have fault : (s.axes[a].halted.stalledAt s.ticks no).st = .fault := rfl
  have declared_sets : s.Sets a (s.axes[a].halted.stalledAt s.ticks no) declared :=
    (((State.Sets.self a s).modAxis Axis.halted).then_rig (rig_takeFault _)).modAxis _
  generalize s.axes[a].halted.stalledAt s.ticks no = x at declared_sets stood fault
  have freed := ((declared_sets.drvFlag (if byLoad then 1 else 0)).then_rig (rig_fire _ (.ax a) 2)).endWaiting 0x0301 detail no
  have odometer : (x.drvFlag (if byLoad then 1 else 0)).freed.odometer = (s.axes[a].pos, s.axes[a].steps.steps, none) :=
    odometer_freed stood
  obtain ⟨y, sets, st, odometer⟩ : ∃ y, s.Sets a y ended ∧ y.st = .fault
      ∧ y.odometer = (s.axes[a].pos, s.axes[a].steps.steps, none) := by
    dsimp only [ended]
    cases decide homing with
    | false => exact ⟨_, freed, fault, odometer⟩
    | true => exact ⟨_, freed.axisFlag 9, fault, odometer⟩
  exact ⟨_, (sets.modAxis fun x => { x with move := Move.none }).then_rig (rig_deviceEvent _ _ _ _ _ _ _ _), st, odometer⟩

theorem encs_stall (a : Fin 12) (byLoad : Bool) (s : State) : (s.stall a byLoad).encs = s.encs := by
  obtain ⟨y, sets, -, -⟩ := stallNoted_sets a byLoad s
  rw [stall_eq, sysRoutes_encs, encs_of_stations (axisStandstill_driven a _ _).1]
  exact sets.encs_eq

/-- A stall of an axis that is not homing moves nothing. -/
theorem stations_stall (byLoad : Bool) (unhomed : s.axes[a].home = none) : (s.stall a byLoad).stations = s.stations := by
  obtain ⟨y, sets, -, odometer⟩ := stallNoted_sets a byLoad s
  refine (stations_of_rig (rig_sysRoutes _)).trans ((axisStandstill_driven a _ _).1.trans (sets.stations_eq ?_))
  rw [odometer, ← unhomed]
  rfl

/-- A follow check flags, or declares a stall. -/
theorem followCheck_cases (a : Fin 12) (s : State) : ∃ b, s.followCheck a = s.when b (State.axisFlag a 6)
    ∨ s.followCheck a = (s.when b (State.axisFlag a 6)).stall a false := by
  unfold State.followCheck
  dsimp only
  split
  · exact ⟨false, .inl rfl⟩
  · split
    · exact ⟨_, .inr rfl⟩
    · exact ⟨_, .inl rfl⟩

theorem encs_followCheck (a : Fin 12) (s : State) : (s.followCheck a).encs = s.encs := by
  obtain ⟨b, flags | stalls⟩ := followCheck_cases a s
  · rw [flags, encs_when rfl]
  · rw [stalls, encs_stall, encs_when rfl]

theorem stations_followCheck (unhomed : s.axes[a].home = none) : (s.followCheck a).stations = s.stations := by
  have flagged (b : Bool) : (s.when b (State.axisFlag a 6)).stations = s.stations :=
    stations_when (stations_axisFlag a s 6) b
  obtain ⟨b, flags | stalls⟩ := followCheck_cases a s
  · rw [flags, flagged]
  · rw [stalls, stations_stall, flagged]
    cases b
    · exact unhomed
    · exact (congrArg Axis.home (axes_set_same _ _ _)).trans unhomed

end

/-! ## Encoder edges and faults (06 R136 to R138) -/

theorem encs_encoderLost (e : Fin 8) (s : State) : (s.encoderLost e).encs = s.encs :=
  each_keeps (g := State.encs) (fun a u => by
    dsimp only
    rw [encs_when, encs_when rfl]
    rw [encs_stopAxis]
    rfl) _ s

theorem encs_groupLost (g : Fin 4) (s : State) : (s.groupLost g).encs = s.encs := by
  unfold State.groupLost
  extract_lets seams held cut waiting closed
  have closed_encs : closed.encs = waiting.encs :=
    each_keeps (g := State.encs) (fun n u => encs_of_rig ((rig_modPort _ n _).trans (rig_closeAll u n _))) _ waiting
  have cut_encs : cut.encs = held.encs :=
    each_keeps (g := State.encs) (fun m u => by split <;> rfl) _ held
  rw [encs_of_rig (rig_sendGate _), closed_encs]
  exact cut_encs.trans (encs_of_stations (endHold_driven g s).1)

/-- What an encoder fault makes of its encoder (R138). -/
def Encoder.faulted (bit : Nat) (x : Encoder) : Encoder :=
  { x with posInvalid := true, illegalCnt := satInc x.illegalCnt, evt := setBit x.evt bit }

/-- An encoder fault stops axes and closes sides, and changes no other encoder. -/
theorem encs_encoderFault (e : Fin 8) (bit : Nat) (s : State) :
    (s.encoderFault e bit).encs = s.encs.set e (s.encs[e].faulted bit) := by
  unfold State.encoderFault
  extract_lets fired cleared lost
  have lost_encs : lost.encs = s.encs.set e (s.encs[e].faulted bit) := by
    refine (encs_encoderLost e cleared).trans ?_
    refine (each_keeps (g := State.encs) (fun n u => by split <;> rfl) _ fired).trans ?_
    exact fire_encs _ _ _
  split
  · next g _ =>
    rw [encs_of_rig (rig_sendGate _), encs_of_stations (stopGroup_driven g _).1, encs_groupLost, lost_encs]
  · exact lost_encs

/-- Following the highest position of a switchback changes the groups alone. -/
theorem followPmax_form (e : Fin 8) (s : State) : ∃ g, s.followPmax e = { s with pace.groups := g } := by
  unfold State.followPmax
  split
  · exact ⟨s.pace.groups, rfl⟩
  · exact ⟨_, rfl⟩

theorem encs_followPmax (e : Fin 8) (s : State) : (s.followPmax e).encs = s.encs := by
  obtain ⟨g, follows⟩ := followPmax_form e s
  rw [follows]

theorem encs_set_same (v : Vector Encoder 8) (e : Fin 8) (x : Encoder) : (v.set e x)[e] = x := by simp

theorem encs_set_other {e k : Fin 8} (h : k ≠ e) (v : Vector Encoder 8) (x : Encoder) : (v.set e x)[k] = v[k] := by
  have : (e : Nat) ≠ k := fun i => h (Fin.ext i.symm)
  simp [this]

@[simp] theorem settle_encs (s0 s : State) : (s0.settle s).encs = s.encs := by
  obtain ⟨_, _, _, h⟩ := settle_form s0 s
  rw [h]

section
variable {s : State} {t : Nat} {e : Fin 8} {up : Bool}

theorem each_idle {α : Type} {l : List α} {f : α → State → State} (idle : ∀ x, f x s = s) : s.each l f = s := by
  induction l with
  | nil => rfl
  | cons x l ih => exact (congrArg (fun u : State => u.each l f) (idle x)).trans ih

/-- Where no axis is bound to the encoder, doing something for each axis that is bound to it does nothing. -/
theorem each_bound {f : Fin 12 → State → State} (unbound : ∀ a : Fin 12, s.axes[a].cfg.enc ≠ some e) :
    (s.each (List.finRange 12) fun a s => if s.axes[a].cfg.enc = some e then f a s else s) = s :=
  each_idle fun a => if_neg (unbound a)

theorem count_pos (x : Encoder) (t : Nat) (up : Bool) : (x.count t (up != x.invert)).pos =
    if up = x.invert then x.pos - 1 else x.pos + 1 := by
  cases up <;> cases h : x.invert <;> rfl

/-- The state after a count edge and its event. -/
def State.edgeCounted (e : Fin 8) (up : Bool) (s : State) : State :=
  let dir := up != s.encs[e].invert
  let u := s.modEnc e fun x => x.count s.ticks dir
  u.fireEdge (.enc e) 0 (some { pos := u.encs[e].pos, up := dir, tick := s.ticks, interval := u.encs[e].tEst })

theorem edgeCounted_stirred (e : Fin 8) (up : Bool) (s : State) :
    (s.modEnc e fun x => x.count s.ticks (up != s.encs[e].invert)).Stirred (s.edgeCounted e up) := fireEdge_stirred _ _ _ _

/-- An edge is counted, raises its faults, and is followed by the switchbacks and the axes of its encoder. -/
theorem encoderEdge_form (fitted : s.fittedBlock (.enc e) = true) (illegal : Bool) :
    ∃ fast : Bool, (fast = true → ∃ l, s.encs[e].lastEdge = some l ∧ s.ticks < l + 37) ∧
      s.encoderEdge e up illegal =
        (((((s.edgeCounted e up).when illegal fun s => s.encoderFault e 0).when fast fun s =>
          s.encoderFault e 1).followPmax e).each (List.finRange 12) fun a s => if s.axes[a].cfg.enc = some e then s.followCheck a else s) := by
  unfold State.encoderEdge
  dsimp only
  rw [fitted, if_neg (by decide)]
  cases last : s.encs[e].lastEdge with
  | none => exact ⟨false, fun h => absurd h (by decide), rfl⟩
  | some l => exact ⟨decide (s.ticks < l + 37), fun h => ⟨l, rfl, of_decide_eq_true h⟩, rfl⟩

/-- An edge that comes late enough, on an encoder to which no axis is bound, is counted, and the groups may follow it. -/
theorem encoderEdge_counts (fitted : s.fittedBlock (.enc e) = true) (unbound : ∀ a : Fin 12, s.axes[a].cfg.enc ≠ some e)
    (slow : ∀ l, s.encs[e].lastEdge = some l → l + 37 ≤ s.ticks) :
    ∃ g, s.encoderEdge e up false = { s.edgeCounted e up with pace.groups := g } := by
  obtain ⟨fast, early, form⟩ := encoderEdge_form (up := up) fitted false
  obtain rfl : fast = false := by
    refine Bool.eq_false_iff.2 fun h => ?_
    obtain ⟨l, last, short⟩ := early h
    exact absurd (slow l last) (not_le.2 short)
  obtain ⟨g, follows⟩ := followPmax_form e (s.edgeCounted e up)
  refine ⟨g, ?_⟩
  rw [form]
  dsimp only [State.when]
  rw [if_neg (by decide), if_neg (by decide), follows, each_bound]
  have axes : (s.edgeCounted e up).axes = s.axes :=
    (axes_of_rig (rig_stirred (edgeCounted_stirred e up s))).trans (State.modEnc_axes e _ s)
  intro a
  dsimp only
  rw [axes]
  exact unbound a

/-- What an edge does to its encoder: the count, and the faults it raises. -/
theorem encoderEdge_encs (fitted : s.fittedBlock (.enc e) = true) (illegal : Bool) : ∃ fast : Bool,
    (s.encoderEdge e up illegal).encs[e] =
      let x := s.encs[e].count s.ticks (up != s.encs[e].invert)
      let y := if illegal then x.faulted 0 else x
      if fast then y.faulted 1 else y := by
  obtain ⟨fast, -, form⟩ := encoderEdge_form (up := up) fitted illegal
  have counted : (s.edgeCounted e up).encs[e] = s.encs[e].count s.ticks (up != s.encs[e].invert) := by
    rw [encs_of_rig (rig_stirred (edgeCounted_stirred e up s)), State.modEnc_encs, encs_set_same]
  refine ⟨fast, ?_⟩
  have checked (u : State) :
      (u.each (List.finRange 12) fun a s => if s.axes[a].cfg.enc = some e then s.followCheck a else s).encs = u.encs := by
    refine each_keeps (g := State.encs) (fun a u => ?_) _ u
    split
    · exact encs_followCheck a u
    · rfl
  have faults (u : State) (bit : Nat) (b : Bool) :
      (u.when b fun s => s.encoderFault e bit).encs[e] = if b then u.encs[e].faulted bit else u.encs[e] := by
    cases b with
    | false => rfl
    | true => rw [State.when, if_pos rfl, if_pos rfl, encs_encoderFault, encs_set_same]
  rw [form, checked, encs_followPmax, faults, faults, counted]

/-! ### A drained switchback (05 Table 5.3) -/

/-- A switchback that goes back or forward: past its drained seams, of the same cause and at the same attempt. -/
def Switchback.GoesOn (b : Switchback) (s : State) (g : Fin 4) : Prop :=
  ∃ b', s.pace.groups[g].sb = some b' ∧ 4 ≤ b'.step ∧ b'.cause = b.cause ∧ b'.attempts = b.attempts

theorem modSb_sb (g : Fin 4) (f : Switchback → Switchback) (s : State) :
    (s.modSb g f).pace.groups[g].sb = s.pace.groups[g].sb.map f :=
  congrArg PaceGroup.sb (groups_set_same _ _ _)

namespace Switchback.GoesOn

variable {b : Switchback} {s u : State} {g : Fin 4}

theorem of_pace (h : b.GoesOn s g) (same : u.pace = s.pace) : b.GoesOn u g := by
  unfold Switchback.GoesOn
  rwa [same]

/-- A later step of the same switchback. -/
theorem of_sb {x : PaceGroup} {b1 b2 : Switchback} (h : b.GoesOn s g) (now : s.pace.groups[g].sb = some b1)
    (later : u.pace.groups = s.pace.groups.set g x) (next : x.sb = some b2) (step : 4 ≤ b2.step)
    (cause : b2.cause = b1.cause) (attempts : b2.attempts = b1.attempts) : b.GoesOn u g := by
  obtain ⟨b', was, -, same_cause, same_attempts⟩ := h
  obtain rfl : b1 = b' := Option.some.inj (now.symm.trans was)
  refine ⟨b2, ?_, step, cause.trans same_cause, attempts.trans same_attempts⟩
  rw [later, groups_set_same, next]

theorem sbStopped (h : b.GoesOn s g) : b.GoesOn (s.sbStopped g) g := by
  obtain ⟨b', now, step, -⟩ := id h
  unfold State.sbStopped
  rw [now]
  split
  · next heq =>
    obtain rfl := Option.some.inj heq
    rw [if_neg]
    · exact h
    · simp [show b'.step ≠ 1 by omega]
  · exact h

theorem sbHold (h : b.GoesOn s g) : b.GoesOn (s.sbHold g) g := by
  obtain ⟨b', now, step, -⟩ := id h
  unfold State.sbHold
  rw [now]
  dsimp only
  split
  · rw [if_neg (by simp [show b'.step ≠ 2 by omega])]
    exact h.of_pace (pace_of_rig (rig_sbHold_ports g s b'))
  · exact h

theorem sbRewind (h : b.GoesOn s g) : b.GoesOn (s.sbRewind g) g := by
  obtain ⟨b', now, step, -⟩ := id h
  unfold State.sbRewind
  rw [now]
  split
  · next heq =>
    obtain rfl := Option.some.inj heq
    extract_lets down here pb marked ignoring ax ramp v
    have pace : marked.pace = s.pace :=
      pace_of_rig (each_keeps (g := State.rig) (fun (m : Seam) u => rig_modPort u m.port _) _ s)
    have goes : b.GoesOn ignoring g :=
      h.of_sb now (congrArg (fun q : Pace => q.groups.set g _) pace) rfl (show 4 ≤ 5 by decide) rfl rfl
    split
    · exact goes
    · exact goes.of_pace rfl
  · exact h

theorem sbBack (h : b.GoesOn s g) : b.GoesOn (s.sbBack g) g := by
  unfold State.sbBack
  split
  · split
    · exact h.sbRewind
    · exact h
  · exact h

theorem sbForward (h : b.GoesOn s g) : b.GoesOn (s.sbForward g) g := by
  obtain ⟨b', now, step, -⟩ := id h
  unfold State.sbForward
  rw [now]
  split
  · split
    · unfold State.sbScan
      have scans := pace_of_rig (each_keeps (g := State.rig) (fun n u =>
        rig_modPort u n fun p => if p.st = .hold then { p with st := .scan } else p) (s.groupPorts g) s)
      obtain ⟨b1, now, -, same⟩ := h.of_pace scans
      refine ⟨{ b1 with step := 6, forwardNs := s.ns }, ?_, show 4 ≤ 6 by decide, same⟩
      rw [modSb_sb, now]
      rfl
    · exact h
  · exact h

theorem sbAdvance (h : b.GoesOn s g) : b.GoesOn (s.sbAdvance g) g := by
  unfold State.sbAdvance
  split
  · exact h.sbHold
  · exact h.sbStopped.sbHold.sbBack.sbForward

end Switchback.GoesOn

end

end Sys2Proof.Machine

namespace Sys2Proof.Machine

/-! ## The encoder's statement (06 R136 to R138) -/

section
variable {s : State} {t : Nat}

theorem faulted_evt (x : Encoder) (bit i : Nat) (h : x.evt.getLsbD i = true) : (x.faulted bit).evt.getLsbD i = true := by
  unfold Encoder.faulted
  rw [getLsbD_setBit, h, Bool.true_or]

theorem faulted_evt_own (x : Encoder) : (x.faulted 0).evt.getLsbD 0 = true := by
  unfold Encoder.faulted
  rw [getLsbD_setBit]
  simp

theorem count_edge_answers (live : s.Live) {e : Fin 8} {up : Bool} (fitted : s.fittedBlock (.enc e) = true)
    (unbound : ∀ a : Fin 12, s.axes[a].cfg.enc ≠ some e) (slow : ∀ l, s.encs[e].lastEdge = some l → l + 37 ≤ max s.ticks t) :
    Answers (.encoderEdge t e up false) s fun u =>
      u.encs[e].pos = (if up = s.encs[e].invert then s.encs[e].pos - 1 else s.encs[e].pos + 1)
        ∧ u.encs[e].lastEdge = some (max s.ticks t) ∧ u.encs[e].still = false ∧ u.encs[e].posInvalid = s.encs[e].posInvalid
        ∧ (∀ k, k ≠ e → u.encs[k] = s.encs[k])
        ∧ s.hush { u with encs := s.encs, pace := s.pace } = s.hush (s.advance t) := by
  obtain ⟨g, counts⟩ := encoderEdge_counts (s := s.advance t) (up := up) fitted unbound slow
  have stirred := edgeCounted_stirred e up (s.advance t)
  have encs : ((s.advance t).encoderEdge e up false).encs =
      s.encs.set e (s.encs[e].count (max s.ticks t) (up != s.encs[e].invert)) := by
    rw [counts]
    exact encs_of_rig (rig_stirred stirred)
  have posted : ((s.advance t).encoderEdge e up false).posted = [] := by
    rw [counts]
    exact (posted_stirred stirred).trans live.posted
  have hushed := act_hush live t (State.encoderEdge e up false) posted
  have encs_after : (s.act t (State.encoderEdge e up false)).encs =
      s.encs.set e (s.encs[e].count (max s.ticks t) (up != s.encs[e].invert)) :=
    (congrArg State.encs hushed).trans encs
  refine ⟨_, rfl, ?_⟩
  dsimp only
  rw [encs_after, encs_set_same]
  refine ⟨count_pos _ _ _, rfl, rfl, rfl, fun k other => encs_set_other other _ _, ?_⟩
  have same := congrArg (fun v : State => { v with encs := s.encs, pace := s.pace }) hushed
  refine same.trans ?_
  obtain ⟨_, _, _, _, edge⟩ := stirred
  rw [counts, edge]
  rfl

theorem illegal_edge_answers (live : s.Live) {e : Fin 8} {up : Bool} (fitted : s.fittedBlock (.enc e) = true) :
    Answers (.encoderEdge t e up true) s fun u => u.encs[e].posInvalid = true ∧ u.encs[e].evt.getLsbD 0 = true
      ∧ u.encs[e].pos = (if up = s.encs[e].invert then s.encs[e].pos - 1 else s.encs[e].pos + 1) := by
  refine answers_of_settled live rfl ?_
  obtain ⟨fast, edge⟩ := encoderEdge_encs (s := s.advance t) (e := e) (up := up) fitted true
  rw [settle_encs, edge]
  dsimp only
  rw [if_pos rfl]
  cases fast with
  | false => exact ⟨rfl, faulted_evt_own _, count_pos _ (max s.ticks t) _⟩
  | true => exact ⟨rfl, faulted_evt _ _ _ (faulted_evt_own _), count_pos _ (max s.ticks t) _⟩

/-- A switchback whose seams have all drained goes on. -/
theorem switchbackDrained_answers (live : s.Live) {g : Fin 4} {b : Switchback} (now : s.pace.groups[g].sb = some b)
    (step : b.step = 3) (drained : ∀ m ∈ b.seams, (s.advance t).seamDrained m = true) :
    Answers (.switchbackDrained t g) s fun u => b.GoesOn u g := by
  refine answers_of_settled live rfl ?_
  suffices goes : b.GoesOn (State.switchbackDrained g (s.advance t)) g from goes.of_pace (settle_pace _ _)
  have due : State.switchbackDrained g (s.advance t) = ((s.advance t).sbDrained g).sbAdvance g := by
    unfold State.switchbackDrained
    rw [show (s.advance t).pace.groups[g].sb = some b from now]
    exact if_pos (by simpa [step] using drained)
  rw [due]
  refine Switchback.GoesOn.sbAdvance ?_
  unfold State.sbDrained
  rw [show (s.advance t).pace.groups[g].sb = some b from now]
  have kept := pace_of_rig (each_keeps (g := State.rig) (fun (m : Seam) u => rig_drainSeam u m.port m.doc (m.k.getD 0))
    b.seams (s.advance t))
  refine ⟨{ b with step := 4 }, ?_, Nat.le_refl 4, rfl, rfl⟩
  rw [modSb_sb, kept, show (s.advance t).pace.groups[g].sb = some b from now]
  rfl

end

/-- Settles O43: an edge is a count, which changes its encoder and the groups that follow it, and faults that keep the
count; a switchback whose seams have drained is past its step 3, and no step after it goes back. -/
theorem encoderEdgesAreCounted : Obligations.EncoderEdgesAreCounted := by
  unfold Obligations.EncoderEdgesAreCounted
  intro s t live
  refine ⟨fun e up fitted unbound => ⟨count_edge_answers live fitted unbound, illegal_edge_answers live fitted⟩, ?_⟩
  intro g b now step drained
  exact switchbackDrained_answers live now step drained

end Sys2Proof.Machine

namespace Sys2Proof.Machine

/-! ## Steps (06 R139) -/

section
variable {a : Fin 12} {s u : State} {due : Nat} {pos : Int}

theorem odometer_switched {x y : Axis} (h : x.Switched y) : y.odometer = x.odometer := by
  obtain ⟨_, _, _, rfl⟩ := h
  rfl

theorem odometer_curStep (x : Axis) (t : Nat) : (x.curStep t).odometer = x.odometer := by
  unfold Axis.curStep
  dsimp only
  split <;> rfl

/-- A step emitted counts one step, to the position it goes to. -/
theorem odometer_emit (x : Axis) (t : Nat) (pos : Int) : (x.emit t pos).odometer = (pos, x.steps.steps + 1, x.home) := by
  have synced := odometer_switched (sync_switched x t)
  have steps : (x.sync t).steps.steps = x.steps.steps := steps_of_odometer synced
  have home : (x.sync t).home = x.home := home_of_odometer synced
  unfold Axis.emit
  extract_lets z ta tb y
  rw [odometer_switched (phaseStep_switched _ t .b tb), odometer_switched (phaseStep_switched y t .a ta), ← steps, ← home]
  exact odometer_curStep (z.stepped t pos) t

/-- The axis after a step that was due at a tick. -/
def Axis.stepTo (t due : Nat) (pos : Int) (x : Axis) : Axis :=
  let y := x.emit t pos
  { y with steps.starve := if due < t then sat16 (y.steps.starve + 1) else y.steps.starve }

theorem odometer_stepTo (x : Axis) (t due : Nat) (pos : Int) :
    (x.stepTo t due pos).odometer = (pos, x.steps.steps + 1, x.home) :=
  Eq.trans (by unfold Axis.stepTo; rfl) (odometer_emit x t pos)

/-- A step made, with its flags and its event. -/
def State.stepMade (a : Fin 12) (due : Nat) (pos : Int) (s : State) : State :=
  let x := s.axes[a]
  (((s.modAxis a (Axis.stepTo s.ticks due pos)).when (decide (due < s.ticks)) (State.axisFlag a 4)).when
    (decide (x.st = .geared) && decide (due = x.steps.last + 750) && decide (x.drive.res = 8)) (State.axisFlag a 5)).fire
      (.ax a) 0

theorem stepEvent_of_waiting (next : s.axes[a].nextStep = some (due, pos)) (early : s.ticks < due) :
    s.stepEvent a = s := by
  unfold State.stepEvent
  dsimp only
  rw [next]
  dsimp only
  rw [if_pos early, ite_self]

theorem stepEvent_of_due (st : s.axes[a].st = .moving) (settled : s.axes[a].waits.settle = none)
    (next : s.axes[a].nextStep = some (due, pos)) (now : due ≤ s.ticks) : s.stepEvent a =
      let u := (s.stepMade a due pos).followCheck a
      if u.axes[a].st = .fault then u else (u.afterStep a).sbAdvanceAll := by
  unfold State.stepEvent
  dsimp only
  rw [if_neg (by rw [st, settled]; decide), next]
  dsimp only
  rw [if_neg (not_lt.2 now)]
  rfl

theorem stepMade_sets (a : Fin 12) (due : Nat) (pos : Int) (s : State) :
    ∃ y, s.Sets a y (s.stepMade a due pos) ∧ y.odometer = (pos, s.axes[a].steps.steps + 1, s.axes[a].home) := by
  have flag {y : Axis} {u : State} (h : s.Sets a y u) (bit : Nat) (b : Bool) :
      ∃ z, s.Sets a z (u.when b (State.axisFlag a bit)) ∧ z.odometer = y.odometer := by
    cases b with
    | false => exact ⟨_, h, rfl⟩
    | true => exact ⟨_, h.axisFlag bit, rfl⟩
  have made : s.Sets a (s.axes[a].stepTo s.ticks due pos) (s.modAxis a (Axis.stepTo s.ticks due pos)) :=
    (State.Sets.self a s).modAxis _
  obtain ⟨y, late, same⟩ := flag made 4 (decide (due < s.ticks))
  obtain ⟨z, bound, same'⟩ := flag late 5
    (decide (s.axes[a].st = .geared) && decide (due = s.axes[a].steps.last + 750) && decide (s.axes[a].drive.res = 8))
  exact ⟨z, bound.then_rig (rig_fire _ _ _), same'.trans (same.trans (odometer_stepTo _ _ _ _))⟩

/-- After its step an axis that is not homing may come to rest, and is where the step left it. -/
theorem stations_afterStep (unhomed : s.axes[a].home = none) : (s.afterStep a).stations = s.stations := by
  unfold State.afterStep
  extract_lets x
  split
  · next h homing => exact absurd (homing.symm.trans unhomed) (Option.some_ne_none h)
  split
  · rfl
  · extract_lets answered stopping
    have same : stopping.stations = s.stations := by
      refine (stations_when (stations_modAxis rfl) _).trans (stations_when ?_ _)
      exact (stations_of_rig (rig_finishAll _ _ _ _ _)).trans (stations_modAxis rfl)
    split
    · refine (stations_axisRest fun _ => ?_).trans same
      have odometer := odometer_of_stations same a
      exact (home_of_odometer odometer).trans unhomed
    · exact same

/-- A step of an axis that is not homing moves this axis, by one step, and no other. -/
theorem stepEvent_moves (st : s.axes[a].st = .moving) (unhomed : s.axes[a].home = none) (settled : s.axes[a].waits.settle = none)
    (next : s.axes[a].nextStep = some (due, pos)) (now : due ≤ s.ticks) :
    (s.stepEvent a).axes[a].odometer = (pos, s.axes[a].steps.steps + 1, none)
      ∧ ∀ k, k ≠ a → (s.stepEvent a).axes[k].odometer = s.axes[k].odometer := by
  obtain ⟨y, sets, odometer⟩ := stepMade_sets a due pos s
  have home : (s.stepMade a due pos).axes[a].home = none := by
    rw [sets.axis_eq]
    exact (home_of_odometer odometer).trans unhomed
  have checked : ((s.stepMade a due pos).followCheck a).stations = (s.stepMade a due pos).stations := stations_followCheck home
  have same : (s.stepEvent a).stations = (s.stepMade a due pos).stations := by
    rw [stepEvent_of_due st settled next now]
    dsimp only
    split
    · exact checked
    · refine (stations_sbAdvanceAll _).trans ((stations_afterStep ?_).trans checked)
      exact (home_of_odometer (odometer_of_stations checked a)).trans home
  refine ⟨?_, fun k other => ?_⟩
  · rw [odometer_of_stations same a, sets.axis_eq, odometer, unhomed]
  · rw [odometer_of_stations same k, sets.other_eq other]

end

end Sys2Proof.Machine

namespace Sys2Proof.Machine

/-! ## Counts of a master (06 R158) -/

theorem change_source (g : Gear) (up : Bool) : (g.change up).x = g.x ∧ (g.change up).src = g.src := by
  unfold Gear.change
  split
  · split
    · exact ⟨rfl, rfl⟩
    · exact ⟨rfl, rfl⟩
  · exact ⟨rfl, rfl⟩

/-- The gearing follows its master, one count after another, to the count it is told. -/
theorem follow_reaches (n : Nat) (x : Int) (g : Gear) (near : (x - g.x).natAbs ≤ n) :
    (g.follow n x).x = x ∧ (g.follow n x).src = g.src := by
  induction n generalizing g with
  | zero => exact ⟨by rw [Gear.follow]; omega, rfl⟩
  | succ n ih =>
    rw [Gear.follow]
    split
    · next there => exact ⟨there, rfl⟩
    · next away =>
      extract_lets up g1 g2
      have before := change_source g up
      have after := change_source g2 up
      have counted : g2.x = if up then g.x + 1 else g.x - 1 := by rw [← before.1]
      have nearer : (x - (g2.change up).x).natAbs ≤ n := by
        rw [after.1, counted]
        by_cases h : g.x < x
        · rw [if_pos (decide_eq_true h)]
          omega
        · rw [if_neg (by simpa [up] using h)]
          omega
      obtain ⟨reached, source⟩ := ih _ nearer
      exact ⟨reached, source.trans (after.2.trans before.2)⟩

/-- A gearing as it is told a count edge of its master. -/
def Gear.told (g : Gear) (e : CountEdge) : Gear :=
  let h := g.follow (e.pos - g.x).natAbs e.pos
  let h := { h with ahead := h.stepFrom h.p h.x e.up, stamp := e.tick, tEst := e.interval }
  if (h.len : Int) ≤ h.travel h.x then h.settled else h

theorem told_follows (g : Gear) (e : CountEdge) :
    (g.told e).x = e.pos ∧ (g.told e).src = g.src ∧ (g.told e).stamp = e.tick := by
  obtain ⟨reached, source⟩ := follow_reaches _ e.pos g le_rfl
  unfold Gear.told
  dsimp only
  split
  · exact ⟨reached, source, rfl⟩
  · exact ⟨reached, source, rfl⟩

section
variable {a : Fin 12} {s : State} {t : Nat}

/-- A count edge of its master goes into the gearing of the axis, which stays where it is. -/
theorem gearEdge_sets {g : Gear} (gear : s.axes[a].gear = some g) (geared : s.axes[a].st = .geared) (e : CountEdge) :
    ∃ y, s.Sets a y (s.gearEdge a e) ∧ y.gear = some (g.told e) ∧ y.pos = s.axes[a].pos := by
  unfold State.gearEdge
  extract_lets x
  split
  · next h => exact absurd (h.symm.trans gear) (by simp)
  next g' h =>
  obtain rfl : g' = g := Option.some.inj (h.symm.trans gear)
  rw [if_neg (not_not_intro geared)]
  extract_lets followed told done kept following answered was
  have kept_eq : kept = g'.told e := by
    unfold Gear.told
    dsimp only [kept, done, told, followed]
    simp only [decide_eq_true_eq]
  have sets : s.Sets a { x with gear := some (g'.told e) } answered := by
    rw [← kept_eq]
    exact State.Sets.then_rig ((State.Sets.self a s).modAxis _) (rig_when (rig_finishAll _ _ _ _ _) _)
  cases !was && decide ((x.lim.v : Rat) < told.speed) with
  | false => exact ⟨_, sets, rfl, rfl⟩
  | true => exact ⟨_, (sets.axisFlag 5).then_rig (rig_fire _ _ _), rfl, rfl⟩

theorem gearCount_answers (live : s.Live) {y : Activation} {g : Gear} {edge : CountEdge}
    (due : (s.evf.acts.find? fun y => y.task == { num := 14 * 64 + 2, inst := a.val } &&
      decide (y.tick ≤ (s.advance t).ticks)) = some y)
    (edges : y.edges = [edge]) (gear : s.axes[a].gear = some g) (geared : s.axes[a].st = .geared) :
    Answers (.gearCount t a) s fun u => ∃ h, u.axes[a].gear = some h ∧ h.x = edge.pos ∧ h.src = g.src ∧ h.stamp = edge.tick
      ∧ u.axes[a].pos = s.axes[a].pos := by
  refine answers_of_settled live rfl ?_
  rw [settle_axes, takeAct_due (u := s.advance t) due]
  dsimp only
  rw [edges]
  obtain ⟨x, sets, told, pos⟩ := gearEdge_sets (s := { s.advance t with evf.acts := s.evf.acts.erase y }) gear geared edge
  obtain ⟨reached, source, stamp⟩ := told_follows g edge
  have after := sets.axis_eq
  exact ⟨g.told edge, (congrArg Axis.gear after).trans told, reached, source, stamp, (congrArg Axis.pos after).trans pos⟩

end

/-! ## Stops of an axis in motion (06 R148, R150) -/

/-- The profile that stops a motion. -/
def Kin.stopping (k : Kin) (t A J : Nat) : Option Plan :=
  let k := k.snapped
  let sp := k.stopPoint A (256 * J)
  if k.v = 0 ∧ k.a = 0 then none
  else some { start := t, kin := k, segs := k.stopSegs A (256 * J), dest := some (if k.p ≤ sp then sp.floor else sp.ceil) }

theorem stopPlan_plan (x : Axis) (t A J : Nat) : (x.stopPlan t A J).plan = (x.kin t).stopping t A J := by
  unfold Axis.stopPlan Kin.stopping
  dsimp only
  split
  · rfl
  · rfl

/-- The axis as a moving one is stopped, at the limit values for a quick stop, else at those of its move. -/
def Axis.braked (quick : Bool) (t : Nat) (x : Axis) : Axis :=
  if quick then x.stopPlan t x.lim.aStop x.lim.jStop
  else if x.move.a = 0 ∨ x.move.j = 0 then x.stopPlan t x.lim.a x.lim.j
  else x.stopPlan t x.move.a x.move.j

theorem braked_planned (quick : Bool) (t : Nat) (x : Axis) : x.Planned (x.braked quick t) := by
  unfold Axis.braked
  split
  · exact stopPlan_planned x t _ _
  · split
    · exact stopPlan_planned x t _ _
    · exact stopPlan_planned x t _ _

/-- What is kept of a motion, and what waits for it, makes no difference to how it is stopped. -/
theorem braked_plan (quick : Bool) (t : Nat) (x : Axis) (k : Option Kept) (r : Int) (w : AxisWaits) :
    (({ x with kept := k, remain := r, waits := w } : Axis).braked quick t).plan = (x.braked quick t).plan := by
  have plans (A J : Nat) :
      (({ x with kept := k, remain := r, waits := w } : Axis).stopPlan t A J).plan = (x.stopPlan t A J).plan := by
    rw [stopPlan_plan, stopPlan_plan]
    rfl
  unfold Axis.braked
  dsimp only
  split
  · exact plans _ _
  · split
    · exact plans _ _
    · exact plans _ _

/-- The axis as it begins to stop. -/
def Axis.stopBegun (quick : Bool) (seq : Option DWord) (t : Nat) (x : Axis) : Axis :=
  let y := if quick then x.stopPlan t x.lim.aStop x.lim.jStop
    else if x.st = .geared ∨ x.move.a = 0 ∨ x.move.j = 0 then x.stopPlan t x.lim.a x.lim.j
    else x.stopPlan t x.move.a x.move.j
  { y with st := .stopping, gear := none, waits.stops := y.waits.stops ++ seq.toList, waits.soft := false }

section
variable {a : Fin 12} {s : State} {quick : Bool} {seq : Option DWord}

theorem stopBegun_eq {x : Axis} (moving : x.st = .moving) (t : Nat) : x.stopBegun quick seq t = { x.braked quick t with
    st := .stopping, gear := none, waits.stops := (x.braked quick t).waits.stops ++ seq.toList, waits.soft := false } := by
  unfold Axis.stopBegun Axis.braked
  rw [moving]
  simp only [reduceCtorEq, false_or]

/-- A moving axis goes down its ramp, whatever is kept of its motion and waits for it. -/
theorem stopBegun_of_moving {x : Axis} (moving : x.st = .moving) (t : Nat) (k : Option Kept) (r : Int) (w : AxisWaits) :
    let y := ({ x with kept := k, remain := r, waits := w } : Axis).stopBegun quick seq t
    y.st = .stopping ∧ y.plan = (x.braked quick t).plan ∧ y.kept = k ∧ y.gear = none ∧ ∀ q ∈ seq, q ∈ y.waits.stops := by
  have plan := braked_plan quick t x k r w
  have planned := braked_planned quick t { x with kept := k, remain := r, waits := w }
  dsimp only
  rw [stopBegun_eq (by exact moving)]
  generalize Axis.braked quick t _ = z at plan planned
  obtain ⟨_, _, _, rfl⟩ := planned
  exact ⟨rfl, plan, rfl, rfl, fun q told => List.mem_append_right _ (Option.mem_toList.2 told)⟩

/-- An axis whose plan is not empty does not rest. -/
theorem restIfStill_of_planned (h : s.axes[a].plan.isSome = true) : s.restIfStill a = s := by
  unfold State.restIfStill
  rw [if_neg (by rw [Option.isNone_eq_false_iff.2 h]; decide)]

theorem replaceMove_sets (a : Fin 12) (d : BitVec 32) (s : State) :
    s.Sets a { s.axes[a] with waits.seq := none, waits.deferred := false } (s.replaceMove a d) :=
  ((State.Sets.self a s).modAxis _).finishAll _ _ _ _

theorem finish_ticks (q : DWord) (st : BitVec 16) (d r f : BitVec 32) (b : List (Nat × List Byte)) (s : State) :
    (s.finish q st d r f b).ticks = s.ticks := by
  obtain ⟨_, _, _, _, _, h⟩ := finish_form q st d r s f b
  rw [h]

theorem finishAll_ticks (l : List DWord) (st : BitVec 16) (d r : BitVec 32) (s : State) :
    (s.finishAll l st d r).ticks = s.ticks :=
  each_keeps (g := State.ticks) (fun q s => finish_ticks q st d r 0 [] s) l s

theorem replaceMove_ticks (a : Fin 12) (d : BitVec 32) (s : State) : (s.replaceMove a d).ticks = s.ticks :=
  finishAll_ticks _ _ _ _ _

theorem stopAxis_eq_of_moving (moving : s.axes[a].st = .moving) : ∃ l,
    let u := ((s.modAxis a Axis.keep).replaceMove a 0x0302).finishAll l 0 0x0302 0
    s.stopAxis a quick seq = ((u.modAxis a (Axis.stopBegun quick seq s.ticks)).restIfStill a).sysRoutes := by
  have ticks (l : List DWord) : (((s.modAxis a Axis.keep).replaceMove a 0x0302).finishAll l 0 0x0302 0).ticks = s.ticks :=
    (finishAll_ticks _ _ _ _ _).trans (replaceMove_ticks _ _ _)
  unfold State.stopAxis
  dsimp only
  rw [moving, ticks]
  exact ⟨_, rfl⟩

/-- A moving axis that is told to stop, and is not at rest, keeps its motion and goes down its ramp. -/
theorem stopAxis_of_moving (moving : s.axes[a].st = .moving) (far : (s.axes[a].braked quick s.ticks).plan.isSome = true) :
    ∃ y, s.Sets a y (s.stopAxis a quick seq) ∧ y.st = .stopping ∧ y.plan = (s.axes[a].braked quick s.ticks).plan
      ∧ y.kept = s.axes[a].keep.kept ∧ y.gear = none ∧ ∀ q ∈ seq, q ∈ y.waits.stops := by
  obtain ⟨k, r, keeps⟩ := keep_form s.axes[a]
  obtain ⟨l, stops⟩ := stopAxis_eq_of_moving (quick := quick) (seq := seq) moving
  let w : AxisWaits := { s.axes[a].waits with seq := none, deferred := false }
  have kept : s.Sets a { s.axes[a] with kept := k, remain := r, waits := w }
      (((s.modAxis a Axis.keep).replaceMove a 0x0302).finishAll l 0 0x0302 0) := by
    have kept := (State.Sets.self a s).modAxis Axis.keep
    have replaced := replaceMove_sets a 0x0302 (s.modAxis a Axis.keep)
    rw [kept.axis_eq, keeps] at replaced
    exact (kept.trans replaced).finishAll _ _ _ _
  have begun := kept.modAxis (Axis.stopBegun quick seq s.ticks)
  have facts := stopBegun_of_moving (quick := quick) (seq := seq) moving s.ticks k r w
  dsimp only at facts stops
  generalize Axis.stopBegun quick seq s.ticks _ = y at begun facts
  obtain ⟨stopping, plan, kept_eq, gear, told⟩ := facts
  refine ⟨y, ?_, stopping, plan, kept_eq.trans (congrArg Axis.kept keeps).symm, gear, told⟩
  rw [stops, restIfStill_of_planned]
  · exact begun.then_rig (rig_sysRoutes _)
  · rw [begun.axis_eq, plan]
    exact far

end

end Sys2Proof.Machine

namespace Sys2Proof.Machine

/-! ## STOP tasks (12 R297) -/

section
variable {a : Fin 12} {s : State} {t : Nat} {quick : Bool} {seq : Option DWord}

theorem when_false (s : State) (f : State → State) : s.when false f = s := rfl

/-- An idle axis of no group is told to stop where it stands. -/
theorem stopAxis_of_idle (idle : s.axes[a].st = .idle) (ungrouped : s.groupOfAxis a = none) :
    s.stopAxis a quick seq = s.finishAll seq.toList 0 0 (result32 s.axes[a].remain) := by
  unfold State.stopAxis
  dsimp only
  rw [idle, ungrouped]
  rw [Option.isSome_none, Bool.false_and, when_false, ungrouped, Option.isSome_none, Bool.and_false, when_false]

theorem stopTask_of_due {num : Nat} {y : Activation}
    (due : (s.evf.acts.find? fun y => y.task == { num, inst := a.val } && decide (y.tick ≤ s.ticks)) = some y) :
    s.stopTask num quick a = ({ s with evf.acts := s.evf.acts.erase y } : State).stopAxis a quick none := by
  unfold State.stopTask
  rw [takeAct_due due]

/-- A STOP task of an idle axis of no group is only taken off the list. -/
theorem stopRamp_of_idle (live : s.Live) {y : Activation}
    (due : (s.evf.acts.find? fun y => y.task == { num := 14 * 64, inst := a.val } &&
      decide (y.tick ≤ (s.advance t).ticks)) = some y)
    (idle : s.axes[a].st = .idle) (ungrouped : s.groupOfAxis a = none) :
    Answers (.stopRamp t a) s fun u => s.calm u = { s.advance t with evf.acts := s.evf.acts.erase y } := by
  have taken : (s.advance t).stopTask (14 * 64) false a = { s.advance t with evf.acts := s.evf.acts.erase y } := by
    rw [stopTask_of_due (s := s.advance t) due, stopAxis_of_idle]
    · rfl
    · exact idle
    · exact ungrouped
  exact ⟨_, rfl, act_calm_eq live (by rw [taken]; rfl) rfl⟩

/-- A STOP task of a moving axis, as of the state after the step. -/
theorem stopTask_of_moving {num : Nat} {y : Activation}
    (due : (s.evf.acts.find? fun y => y.task == { num, inst := a.val } && decide (y.tick ≤ (s.advance t).ticks)) = some y)
    (moving : s.axes[a].st = .moving) (far : (s.axes[a].braked quick (s.advance t).ticks).plan.isSome = true) :
    let u := (s.advance t).settle ((s.advance t).stopTask num quick a)
    u.axes[a].st = .stopping ∧ u.axes[a].plan = (s.axes[a].braked quick (s.advance t).ticks).plan
      ∧ u.axes[a].kept = s.axes[a].keep.kept := by
  obtain ⟨z, sets, stopping, plan, kept, -⟩ := stopAxis_of_moving (seq := none)
    (s := { s.advance t with evf.acts := s.evf.acts.erase y }) moving far
  dsimp only
  rw [settle_axes, stopTask_of_due (s := s.advance t) due]
  have after := sets.axis_eq
  exact ⟨(congrArg Axis.st after).trans stopping, (congrArg Axis.plan after).trans plan, (congrArg Axis.kept after).trans kept⟩

end

/-! ## The index and standstill of an encoder (06 R136, R137) -/

section
variable {e : Fin 8} {s : State} {t : Nat}

/-- The encoder after its index at a tick. -/
def Encoder.indexed (t : Nat) (x : Encoder) : Encoder :=
  let pos := if x.idxMode then x.preset else x.pos
  { x with idxPos := x.pos, pos, idxMode := false, idxCnt := x.idxCnt + 1, evt := setBit x.evt 2
           log := if x.idxMode then (t, pos) :: x.log else x.log }

/-- An index that redefines the position is in the log of positions with the position preset. -/
theorem indexed_eq (t : Nat) (x : Encoder) : x.indexed t =
    { x with idxPos := x.pos, pos := if x.idxMode then x.preset else x.pos, idxMode := false, idxCnt := x.idxCnt + 1
             evt := setBit x.evt 2, log := if x.idxMode then (t, x.preset) :: x.log else x.log } := by
  unfold Encoder.indexed
  cases x.idxMode with
  | false => rfl
  | true => rfl

theorem homeIndex_of_unbound (unbound : ∀ k : Fin 12, s.axes[k].cfg.enc ≠ some e) : s.homeIndex e = s := by
  refine each_idle fun k => ?_
  dsimp only
  split
  · rfl
  · rw [decide_eq_false (unbound k)]
    simp only [Bool.false_and, Bool.false_eq_true, if_false]

/-- An index that counts, on an encoder to which no axis is bound, changes the encoder. -/
theorem encoderIndex_stirred {pa pb : Bool} (fitted : s.fittedBlock (.enc e) = true) (enabled : s.encs[e].idxEn = true)
    (gate : s.encs[e].idxGate = false ∨ (pa && pb) = true) (unbound : ∀ k : Fin 12, s.axes[k].cfg.enc ≠ some e) :
    (s.modEnc e (Encoder.indexed s.ticks)).Stirred (s.encoderIndex e pa pb) := by
  have ungated : (s.encs[e].idxGate && !(pa && pb)) = false := by
    rcases gate with h | h
    · rw [h, Bool.false_and]
    · rw [h, Bool.not_true, Bool.and_false]
  unfold State.encoderIndex
  extract_lets x pos marked ended
  have marked_eq : marked = s.modEnc e (Encoder.indexed s.ticks) := rfl
  have fired : marked.Stirred (marked.fire (.enc e) 1) := fire_stirred _ _ _
  rw [marked_eq] at fired
  have unbound_after : ∀ k : Fin 12, (marked.fire (.enc e) 1).axes[k].cfg.enc ≠ some e := by
    intro k
    rw [fire_axes]
    exact unbound k
  have ended_eq : ended = marked.fire (.enc e) 1 := homeIndex_of_unbound unbound_after
  rw [fitted, enabled, ungated, if_neg (by decide), ended_eq, each_bound unbound_after, ite_self]
  exact fired

theorem encoderIndex_answers (live : s.Live) {pa pb : Bool} (fitted : s.fittedBlock (.enc e) = true)
    (enabled : s.encs[e].idxEn = true) (gate : s.encs[e].idxGate = false ∨ (pa && pb) = true)
    (unbound : ∀ k : Fin 12, s.axes[k].cfg.enc ≠ some e) : Answers (.encoderIndex t e pa pb) s fun u =>
      s.hush u = s.hush { s.advance t with encs := s.encs.set e (s.encs[e].indexed (s.advance t).ticks) } := by
  have stirred := encoderIndex_stirred (s := s.advance t) fitted enabled gate unbound
  have hushed := act_hush live t (State.encoderIndex e pa pb) ((posted_stirred stirred).trans live.posted)
  refine ⟨_, rfl, hushed.trans ?_⟩
  obtain ⟨_, _, _, _, same⟩ := stirred
  rw [same]
  rfl

/-! ### Standstill -/

/-- Where no switchback and no gap stop is under way, the governors do nothing for an encoder at standstill. -/
theorem gapStopCheck_of_none {g : Fin 4} (absent : s.pace.groups[g].gapStop = false) : s.gapStopCheck g = s := by
  unfold State.gapStopCheck
  split
  · rfl
  · rw [absent]
    simp only [Bool.false_and, Bool.false_eq_true, if_false]

theorem sbAdvance_of_none {g : Fin 4} (absent : s.pace.groups[g].sb = none) : s.sbAdvance g = s := by
  have stopped : s.sbStopped g = s := by
    unfold State.sbStopped
    rw [absent]
    split
    · next h => exact absurd h (by simp)
    · rfl
  have holds : s.sbHold g = s := by
    unfold State.sbHold
    rw [absent]
  have back : s.sbBack g = s := by
    unfold State.sbBack
    rw [absent]
  have forward : s.sbForward g = s := by
    unfold State.sbForward
    rw [absent]
    split
    · next h => exact absurd h (by simp)
    · rfl
  unfold State.sbAdvance
  rw [stopped, holds, back, forward, ite_self]

/-- An axis as the encoder that it is geared to is at standstill: at full resolution. -/
def Axis.mastered (e : Fin 8) (x : Axis) : Axis :=
  if x.st = .geared && x.gear.any fun g => g.src == e then { x with drive.res := 0 } else x

/-- The state as an encoder is found at standstill, before the governors take notice. -/
def State.stillFound (e : Fin 8) (s : State) : State :=
  ((s.modEnc e fun x => { x with still := true }).fire (.enc e) 3).each (List.finRange 12) fun a s =>
    s.modAxis a (Axis.mastered e)

theorem encoderStandstill_eq {last : Nat} (edge : s.encs[e].lastEdge = some last) (due : last + 300000 ≤ s.ticks)
    (moved : s.encs[e].still = false) :
    s.encoderStandstill e = ((s.stillFound e).each allGroups fun g s => s.gapStopCheck g).sbAdvanceAll := by
  unfold State.encoderStandstill
  dsimp only
  rw [edge, moved, if_neg (by simpa using due)]
  rfl

/-- Something done to each of a list of axes, once each. -/
theorem each_modAxis (f : Axis → Axis) (l : List (Fin 12)) (once : l.Nodup) (s : State) :
    ∃ v, (s.each l fun a s => s.modAxis a f) = { s with axes := v }
      ∧ ∀ k : Fin 12, v[k] = if k ∈ l then f s.axes[k] else s.axes[k] := by
  induction l generalizing s with
  | nil => exact ⟨s.axes, rfl, fun _ => rfl⟩
  | cons a l ih =>
    obtain ⟨new, once⟩ := List.nodup_cons.1 once
    obtain ⟨v, form, each⟩ := ih once (s.modAxis a f)
    refine ⟨v, form, fun k => ?_⟩
    rw [each k, State.modAxis_axes]
    by_cases own : k = a
    · subst own
      rw [if_neg new, if_pos List.mem_cons_self, axes_set_same]
    · rw [axes_set_other own]
      simp only [List.mem_cons, own, false_or]

/-- An encoder found at standstill is still, and the axes geared to it are at full resolution. -/
theorem stillFound_form (e : Fin 8) (s : State) : ∃ u v, (s.modEnc e fun x => { x with still := true }).Stirred u
    ∧ s.stillFound e = { u with axes := v } ∧ ∀ k : Fin 12, v[k] = s.axes[k].mastered e := by
  unfold State.stillFound
  obtain ⟨v, form, each⟩ := each_modAxis (Axis.mastered e) (List.finRange 12) (List.nodup_finRange 12)
    ((s.modEnc e fun x => { x with still := true }).fire (.enc e) 3)
  refine ⟨_, v, fire_stirred _ _ _, form, fun k => ?_⟩
  rw [each k, if_pos (List.mem_finRange k), fire_axes]
  rfl

/-- At standstill the encoder is marked still, and no other encoder changes. -/
theorem encs_encoderStandstill {last : Nat} (edge : s.encs[e].lastEdge = some last) (due : last + 300000 ≤ s.ticks)
    (moved : s.encs[e].still = false) : (s.encoderStandstill e).encs = s.encs.set e { s.encs[e] with still := true } := by
  obtain ⟨u, v, stirred, form, -⟩ := stillFound_form e s
  have found : (s.stillFound e).encs = s.encs.set e { s.encs[e] with still := true } := by
    rw [form]
    exact encs_of_rig (rig_stirred stirred)
  rw [encoderStandstill_eq edge due moved, encs_of_stations (stations_sbAdvanceAll _),
    encs_of_stations (each_driven (fun g u => gapStopCheck_driven g u) allGroups _).1, found]

/-- Where no switchback and no gap stop is under way, a standstill is only marked. -/
theorem encoderStandstill_of_calm {last : Nat} (edge : s.encs[e].lastEdge = some last) (due : last + 300000 ≤ s.ticks)
    (moved : s.encs[e].still = false) (calm : ∀ g : Fin 4, s.pace.groups[g].sb = none ∧ s.pace.groups[g].gapStop = false) :
    s.encoderStandstill e = s.stillFound e := by
  obtain ⟨u, v, stirred, form, -⟩ := stillFound_form e s
  have pace : (s.stillFound e).pace = s.pace := by
    rw [form]
    exact (pace_of_rig (rig_stirred stirred)).trans (State.modEnc_pace e _ s)
  rw [← pace] at calm
  rw [encoderStandstill_eq edge due moved, each_idle fun g => gapStopCheck_of_none (calm g).2]
  exact each_idle fun g => sbAdvance_of_none (calm g).1

theorem encoderStandstill_answers (live : s.Live) {last : Nat} (edge : s.encs[e].lastEdge = some last)
    (due : last + 300000 ≤ (s.advance t).ticks) (moved : s.encs[e].still = false) :
    Answers (.encoderStandstill t e) s fun u => u.encs = s.encs.set e { s.encs[e] with still := true }
      ∧ ((∀ g : Fin 4, s.pace.groups[g].sb = none ∧ s.pace.groups[g].gapStop = false) →
        s.hush { u with axes := s.axes } = s.hush { s.advance t with encs := s.encs.set e { s.encs[e] with still := true } }
          ∧ ∀ k : Fin 12, u.axes[k] = s.axes[k].mastered e) := by
  refine ⟨_, rfl, ?_, fun calm => ?_⟩
  · rw [act_eq_settle live.running, settle_encs]
    exact encs_encoderStandstill (s := s.advance t) edge due moved
  · obtain ⟨u, v, stirred, form, each⟩ := stillFound_form e (s.advance t)
    have found : (s.advance t).encoderStandstill e = { u with axes := v } :=
      (encoderStandstill_of_calm (s := s.advance t) edge due moved calm).trans form
    have posted : ((s.advance t).encoderStandstill e).posted = [] := by
      rw [found]
      exact (posted_stirred stirred).trans live.posted
    have hushed := act_hush live t (State.encoderStandstill e) posted
    constructor
    · refine (congrArg (fun w : State => { w with axes := s.axes }) hushed).trans ?_
      obtain ⟨_, _, _, _, same⟩ := stirred
      rw [found, same]
      rfl
    · intro k
      rw [act_eq_settle live.running, settle_axes, found]
      exact each k

end

/-! ## Switches (06 R156, R161) -/

section
variable {a : Fin 12} {s : State} {t : Nat} {active : Bool}

theorem homeSwitchEdge_answers (live : s.Live) (fitted : s.fittedBlock (.ax a) = true) (unhomed : s.axes[a].home = none) :
    Answers (.homeSwitchEdge t a active) s fun u =>
      s.calm u = { s.advance t with axes := s.axes.set a { s.axes[a] with homeActive := active } } := by
  have marks : (s.advance t).homeSwitchEdge a active = (s.advance t).modAxis a fun x => { x with homeActive := active } := by
    unfold State.homeSwitchEdge
    rw [show (s.advance t).fittedBlock (.ax a) = true from fitted, if_neg (by decide),
      show (s.advance t).axes[a].home = none from unhomed]
  exact ⟨_, rfl, act_calm_eq live (by rw [marks]; rfl) rfl⟩

/-- The axis as its limit switch is active or not. -/
def Axis.limited (active : Bool) (x : Axis) : Axis := { x with limActive := active }

/-- The limit switch of an axis that moves past it stops the axis. -/
theorem limitSwitch_eq (fitted : s.fittedBlock (.ax a) = true) (unhomed : s.axes[a].home = none) :
    s.limitSwitch a active =
      if active && (if s.axes[a].cfg.limDir then decide (0 < (s.axes[a].kin s.ticks).v)
            else decide ((s.axes[a].kin s.ticks).v < 0))
          && (s.axes[a].st = .moving || s.axes[a].st = .geared || (s.axes[a].st = .stopping && s.axes[a].faultCause = 0))
      then (s.modAxis a (Axis.limited active)).limitHit a else s.modAxis a (Axis.limited active) := by
  unfold State.limitSwitch
  extract_lets limited x
  have x_eq : x = s.axes[a].limited active := axes_set_same _ _ _
  rw [fitted, if_neg (by decide)]
  split
  · next h homing => rw [x_eq] at homing; exact absurd (homing.symm.trans unhomed) (Option.some_ne_none h)
  · clear_value x
    subst x_eq
    rfl

theorem limitSwitch_of_still (live : s.Live) (fitted : s.fittedBlock (.ax a) = true) (unhomed : s.axes[a].home = none)
    (still : s.axes[a].st = .idle ∨ s.axes[a].st = .disabled ∨ s.axes[a].st = .parked ∨ s.axes[a].st = .fault) :
    Answers (.limitSwitch t a active) s fun u =>
      s.calm u = { s.advance t with axes := s.axes.set a { s.axes[a] with limActive := active } } := by
  have marks : (s.advance t).limitSwitch a active = (s.advance t).modAxis a (Axis.limited active) := by
    rw [limitSwitch_eq (s := s.advance t) fitted unhomed]
    refine if_neg ?_
    have st : (s.advance t).axes[a].st = s.axes[a].st := rfl
    rw [st]
    rcases still with h | h | h | h <;> rw [h] <;> simp
  exact ⟨_, rfl, act_calm_eq live (by rw [marks]; rfl) rfl⟩

/-- A stop that goes on keeps what it has kept. -/
theorem kept_of_again {x : Axis} (again : x.st = .stopping ∧ x.kept.isSome) : x.keep.kept = x.kept := by
  unfold Axis.keep
  rw [if_pos again]

/-- The state of a limit switch makes no difference to what is kept of a motion. -/
theorem keep_limited (x : Axis) (active : Bool) : (x.limited active).keep.kept = x.keep.kept := by
  by_cases again : x.st = .stopping ∧ x.kept.isSome
  · exact (kept_of_again (x := x.limited active) again).trans (kept_of_again again).symm
  · refine (congrArg Axis.kept (if_neg again)).trans (Eq.trans ?_ (congrArg Axis.kept (if_neg again)).symm)
    dsimp only [Axis.limited]
    cases x.move.kind with
    | none | homing => rfl
    | position | velocity | governed => rfl
    | geared =>
      cases x.gear with
      | none => rfl
      | some g => rfl

theorem flag_evt (x : Axis) (bit : Nat) (small : bit < 32) : (x.flag bit).evt.getLsbD bit = true := by
  unfold Axis.flag
  rw [getLsbD_setBit]
  simp [small]

theorem Axis.Flagged.evt {x y : Axis} {i : Nat} (h : x.Flagged y) (up : x.evt.getLsbD i = true) : y.evt.getLsbD i = true := by
  obtain ⟨_, rfl, still⟩ := h
  exact still i up

/-- An axis that a limit switch stops, with what it keeps: in its stop or in FAULT. -/
def Axis.Limited (k : Option Kept) (x : Axis) : Prop := x.faultCause = 3 ∧ x.evt.getLsbD 3 = true ∧ x.kept = k

theorem Axis.Flagged.limited {x y : Axis} {k : Option Kept} (h : x.Flagged y) (limited : x.Limited k) : y.Limited k := by
  obtain ⟨cause, event, kept⟩ := limited
  refine ⟨?_, h.evt event, ?_⟩
  · obtain ⟨_, rfl, -⟩ := h
    exact cause
  · obtain ⟨_, rfl, -⟩ := h
    exact kept

/-- The axis as its limit switch begins to stop it. -/
def Axis.limitStopped (t : Nat) (x : Axis) : Axis :=
  { x.stopPlan t x.lim.aStop x.lim.jStop with
    st := .stopping, gear := none, faultCause := 3, waits := { AxisWaits.none with stops := x.waits.stops } }

theorem limitStopped_limited (x : Axis) (t : Nat) : ((x.flag 3).limitStopped t).Limited x.kept := by
  obtain ⟨p, o, m, planned⟩ := stopPlan_planned (x.flag 3) t (x.flag 3).lim.aStop (x.flag 3).lim.jStop
  unfold Axis.limitStopped
  rw [planned]
  exact ⟨rfl, flag_evt x 3 (by decide), rfl⟩

/-- A limit hit stops the axis, the rest of an axis that is still and the routes of the system block aside. -/
theorem limitHit_eq (a : Fin 12) (s : State) : ∃ y u, s.limitHit a = (u.restIfStill a).sysRoutes ∧ s.Sets a y u
    ∧ y.st = .stopping ∧ y.Limited s.axes[a].keep.kept := by
  have stopped := (((State.Sets.self a s).modAxis Axis.keep).axisFlag 3).modAxis (Axis.limitStopped s.ticks)
  have limited := limitStopped_limited s.axes[a].keep s.ticks
  have stopping : ((s.axes[a].keep.flag 3).limitStopped s.ticks).st = .stopping := rfl
  generalize (s.axes[a].keep.flag 3).limitStopped s.ticks = z at stopped limited stopping
  exact ⟨_, _, rfl, ((stopped.finishAll _ _ _ _).axisFlag 2).then_rig (rig_fire _ _ _), stopping,
    ((Axis.Flagged.refl z).flag 2).limited limited⟩

theorem rested_limited {x : Axis} {k : Option Kept} (h : x.Limited k) (t : Nat) :
    (x.rested.stopEnded t x.faultCause).st = .fault ∧ (x.rested.stopEnded t x.faultCause).Limited k := by
  obtain ⟨cause, event, kept⟩ := h
  obtain ⟨_, _, _, switched⟩ := setCur_switched x.rested t x.rested.drive.lev.iHold
  unfold Axis.stopEnded
  rw [cause, if_pos (by decide), switched]
  exact ⟨rfl, cause, event, kept⟩

/-- A stop after a limit hit that is at its end leaves the axis in FAULT. -/
theorem restIfStill_of_limit {k : Option Kept} (stopping : s.axes[a].st = .stopping) (limited : s.axes[a].Limited k) :
    ((s.restIfStill a).axes[a].st = .stopping ∨ (s.restIfStill a).axes[a].st = .fault) ∧ (s.restIfStill a).axes[a].Limited k := by
  unfold State.restIfStill
  split
  · obtain ⟨y, sets, flagged⟩ := stopEnds_sets a s
    obtain ⟨fault, rested⟩ := rested_limited limited s.ticks
    have ended : (s.stopEnds a).axes[a].st = .fault := by
      rw [sets.axis_eq]
      obtain ⟨_, rfl, -⟩ := flagged
      exact fault
    rw [axisRest_of_stopping stopping, limited.1, if_neg (by simp)]
    rw [(axisStandstill_driven a _ _).2 a (by rw [ended]; decide) (by rw [ended]; decide)]
    refine ⟨.inr ended, ?_⟩
    rw [sets.axis_eq]
    exact flagged.limited rested
  · exact ⟨.inl stopping, limited⟩

theorem limitSwitch_of_moving (live : s.Live) (fitted : s.fittedBlock (.ax a) = true) (unhomed : s.axes[a].home = none)
    (moving : s.axes[a].st = .moving) (past : if s.axes[a].cfg.limDir then 0 < (s.axes[a].kin (s.advance t).ticks).v
      else (s.axes[a].kin (s.advance t).ticks).v < 0) :
    Answers (.limitSwitch t a true) s fun u => (u.axes[a].st = .stopping ∨ u.axes[a].st = .fault)
      ∧ u.axes[a].faultCause = 3 ∧ u.axes[a].evt.getLsbD 3 = true ∧ u.axes[a].kept = s.axes[a].keep.kept := by
  refine answers_of_settled live rfl ?_
  rw [settle_axes]
  have hits : (s.advance t).limitSwitch a true = ((s.advance t).modAxis a (Axis.limited true)).limitHit a := by
    rw [limitSwitch_eq (s := s.advance t) fitted unhomed]
    refine if_pos ?_
    have guarded : (if s.axes[a].cfg.limDir then decide (0 < (s.axes[a].kin (s.advance t).ticks).v)
        else decide ((s.axes[a].kin (s.advance t).ticks).v < 0)) = true := by
      split at past
      · next up => rw [if_pos up]; exact decide_eq_true past
      · next down => rw [if_neg down]; exact decide_eq_true past
    have st : (s.advance t).axes[a].st = .moving := moving
    rw [st]
    simp only [Bool.true_and, decide_true, Bool.true_or, Bool.and_true]
    exact guarded
  obtain ⟨y, u, form, sets, stopping, limited⟩ := limitHit_eq a ((s.advance t).modAxis a (Axis.limited true))
  have marked : ((s.advance t).modAxis a (Axis.limited true)).axes[a] = s.axes[a].limited true := axes_set_same _ _ _
  rw [marked, keep_limited] at limited
  rw [hits, form, sysRoutes_axes]
  exact restIfStill_of_limit (by rw [sets.axis_eq]; exact stopping) (by rw [sets.axis_eq]; exact limited)

end

end Sys2Proof.Machine

namespace Sys2Proof.Machine

section
variable {a : Fin 12} {s : State} {t due : Nat} {pos : Int}

theorem stepEvent_answers (live : s.Live) (moving : s.axes[a].st = .moving) (unhomed : s.axes[a].home = none)
    (settled : s.axes[a].waits.settle = none) (next : s.axes[a].nextStep = some (due, pos)) (now : due ≤ (s.advance t).ticks) :
    Answers (.stepEvent t a) s fun u => u.axes[a].pos = pos ∧ u.axes[a].steps.steps = s.axes[a].steps.steps + 1
      ∧ ∀ k, k ≠ a → u.axes[k].pos = s.axes[k].pos := by
  obtain ⟨own, others⟩ := stepEvent_moves (s := s.advance t) moving unhomed settled next now
  refine answers_of_settled live rfl ?_
  rw [settle_axes]
  exact ⟨pos_of_odometer own, steps_of_odometer own, fun k other => pos_of_odometer (others k other)⟩

theorem stepEvent_early (live : s.Live) (next : s.axes[a].nextStep = some (due, pos)) (early : (s.advance t).ticks < due) :
    Answers (.stepEvent t a) s fun u => s.calm u = s.advance t :=
  ⟨_, rfl, act_calm_eq live (by rw [stepEvent_of_waiting (s := s.advance t) next early]; rfl) rfl⟩

end

/-- Settles O54: a step, a count or a stop changes its axis alone, an index or a standstill its encoder; the governors and
the follow check that act afterwards move no axis, and leave an axis in FAULT as it is. -/
theorem axesFollowTheirInputs : Obligations.AxesFollowTheirInputs := by
  unfold Obligations.AxesFollowTheirInputs
  intro s t a e live
  refine ⟨?steps, ?counts, ?ramps, ?quick, ?index, ?still, ?switches⟩
  case steps =>
    intro due pos moving unhomed settled next
    exact ⟨stepEvent_answers live moving unhomed settled next, stepEvent_early live next⟩
  case counts =>
    intro y g edge due edges gear geared
    exact gearCount_answers live due edges gear geared
  case ramps =>
    intro y due
    refine ⟨stopRamp_of_idle live due, fun moving far => ?_⟩
    exact answers_of_settled live rfl (stopTask_of_moving (quick := false) due moving far)
  case quick =>
    intro y due moving far
    obtain ⟨stopping, plan, kept⟩ := stopTask_of_moving (quick := true) due moving far
    exact answers_of_settled live rfl ⟨stopping, kept, plan⟩
  case index =>
    intro pa pb fitted enabled gate unbound
    have indexed := encoderIndex_answers (t := t) live fitted enabled gate unbound
    rwa [indexed_eq] at indexed
  case still =>
    intro last edge due moved
    refine (encoderStandstill_answers live edge due moved).imp fun u ⟨next, encs, calm⟩ => ⟨next, encs, fun absent => ?_⟩
    obtain ⟨hushed, axes⟩ := calm absent
    refine ⟨hushed, fun k => (axes k).trans ?_⟩
    unfold Axis.mastered
    simp only [Bool.and_eq_true, decide_eq_true_eq]
  case switches =>
    intro active fitted unhomed
    refine ⟨homeSwitchEdge_answers live fitted unhomed, limitSwitch_of_still live fitted unhomed, ?_⟩
    rintro moving rfl past
    exact limitSwitch_of_moving live fitted unhomed moving past

end Sys2Proof.Machine

namespace Sys2Proof.Machine

/-! ## Commands that have begun to change their axis (10 R240, R247) -/

/-- The command accepted is in flight, unanswered, in a state of the tick of its acceptance. -/
def State.Carries (sp : PacketSpec) (p : Packet) (r : Ring) (s v : State) : Prop :=
  v.cmd.replies = s.cmd.replies ∧ v.time = (s.advance p.tick).time
    ∧ ∃ b, v.flight? s.acceptSeq = some { (s.advance p.tick).flightOf p r sp.code with begun := b }

/-- The second state is the first after commands have been taken, entered, begun and answered: the command unit, the Ledger
and its spill, the rings, the counter of free values and the world served last may differ. -/
def State.Booked (s v : State) : Prop := ∃ c l w rs d k, v =
  { s with cmd := c, ldg := l, posted := s.posted ++ w, rings := rs, dma.served := d, free := k }
  ∧ ∀ y ∈ w, y.space = Space.cellar

section
variable {sp : PacketSpec} {p : Packet} {r : Ring} {s u v : State}

theorem Accepts.carries_entered (h : Accepts sp p s r) : s.Carries sp p r (s.entered sp p r) := by
  refine ⟨entered_replies, ?_, false, h.flight_entered⟩
  obtain ⟨_, _, _, _, _, he, -⟩ := entered_form sp p r s
  rw [he]
  rfl

theorem State.Carries.of_desk (h : s.Carries sp p r u) (same : v.desk = u.desk) : s.Carries sp p r v := by
  obtain ⟨replies, time, flight⟩ := h
  refine ⟨by rw [cmd_of_desk same, replies], by rw [time_of_desk same, time], ?_⟩
  unfold State.flight?
  rwa [cmd_of_desk same]

theorem flight_begun (q : DWord) (s : State) :
    (s.begun q).flight? q = (s.flight? q).map fun x => { x with begun := true } := by
  unfold State.begun State.modFlight State.flight?
  dsimp only
  induction s.cmd.flights with
  | nil => rfl
  | cons x l ih =>
    by_cases own : (x.seq == q) = true
    · rw [List.map_cons, if_pos own, List.find?_cons_of_pos (by exact own), List.find?_cons_of_pos (by exact own)]
      rfl
    · rw [List.map_cons, if_neg own, List.find?_cons_of_neg (by exact own), List.find?_cons_of_neg (by exact own), ih]

theorem State.Carries.begun (h : s.Carries sp p r u) : s.Carries sp p r (u.begun s.acceptSeq) := by
  obtain ⟨replies, time, b, flight⟩ := h
  refine ⟨replies, time, true, ?_⟩
  rw [flight_begun, flight]
  rfl

/-- The end of the command: its DONE entry, and its reply. -/
theorem State.Carries.finish_form (h : s.Carries sp p r v) (res : BitVec 32) :
    ∃ fl l w, v.finish s.acceptSeq 0 0 res = { v with
      cmd.flights := fl, ldg := l, posted := v.posted ++ w
      cmd.replies := s.cmd.replies ++ [replyOf sp p r s 0 0 res] } ∧ ∀ y ∈ w, y.space = Space.cellar := by
  obtain ⟨replies, time, b, flight⟩ := h
  have own : ((s.advance p.tick).flightOf p r sp.code).kind ≠ .mirrored := by
    unfold State.flightOf
    cases (s.advance p.tick).second <;> simp
  obtain ⟨fl, l, w, hf, hw⟩ := finish_of_flight flight rfl own rfl 0 0 res
  refine ⟨fl, l, w, ?_, hw⟩
  rw [hf, replies, time]
  have seq : (if (if s.second = true then FlightKind.unledgered else .host) = .unledgered then -1 else s.acceptSeq) =
      if s.second = true then -1 else s.ldg.nextSeq := by
    cases hs : s.second <;> simp [State.acceptSeq, hs]
  unfold replyOf
  rw [← seq]
  rfl

theorem State.Carries.finish_replies (h : s.Carries sp p r v) (res : BitVec 32) :
    (v.finish s.acceptSeq 0 0 res).cmd.replies = s.cmd.replies ++ [replyOf sp p r s 0 0 res] := by
  obtain ⟨_, _, _, hf, -⟩ := h.finish_form res
  rw [hf]

theorem State.Carries.repliesOk (h : s.Carries sp p r v) (res : BitVec 32) :
    RepliesOk sp p r s ((s.advance p.tick).settle (v.finishOk s.acceptSeq res)) res :=
  (settle_replies _ _).trans (h.finish_replies res)

theorem State.Booked.begun (h : s.Booked u) (q : DWord) : s.Booked (u.begun q) := by
  obtain ⟨_, l, w, rs, d, k, rfl, spilled⟩ := h
  exact ⟨_, l, w, rs, d, k, rfl, spilled⟩

theorem State.Booked.finish (h : u.Booked v) (carries : s.Carries sp p r v) (res : BitVec 32) :
    u.Booked (v.finishOk s.acceptSeq res) := by
  obtain ⟨fl, l', w', hf, spilled'⟩ := carries.finish_form res
  unfold State.finishOk
  rw [hf]
  obtain ⟨c, l, w, rs, d, k, rfl, spilled⟩ := h
  refine ⟨{ c with flights := fl, replies := s.cmd.replies ++ [replyOf sp p r s 0 0 res] }, l', w ++ w', rs, d, k, ?_,
    fun y hy => (List.mem_append.1 hy).elim (spilled y) (spilled' y)⟩
  rw [← List.append_assoc]

/-- What the axes take from a command is entered apart from it. -/
theorem State.Booked.with_axes (h : s.Booked u) (q : Vector Axis 12) :
    ({ s with axes := q } : State).Booked { u with axes := q } := by
  obtain ⟨c, l, w, rs, d, k, rfl, spilled⟩ := h
  exact ⟨c, l, w, rs, d, k, rfl, spilled⟩

theorem State.Booked.modAxis (h : s.Booked u) (a : Fin 12) (f : Axis → Axis) : (s.modAxis a f).Booked (u.modAxis a f) := by
  obtain ⟨c, l, w, rs, d, k, rfl, spilled⟩ := h
  exact ⟨c, l, w, rs, d, k, rfl, spilled⟩

theorem booked_entered (sp : PacketSpec) (p : Packet) (r : Ring) (s : State) : (s.advance p.tick).Booked (s.entered sp p r) := by
  obtain ⟨rs, d, l, w, k, he, spilled⟩ := entered_form sp p r s
  exact ⟨_, l, w, rs, d, k, he, spilled⟩

/-- A command whose effect leaves all but the axes alone leaves, in order, all but the axes alone. -/
theorem Accepts.ordered_booked (h : Accepts sp p s r) {q : Vector Axis 12}
    (run : sp.run p r.secure s.acceptSeq (s.entered sp p r) = v)
    (booked : ({ s.advance p.tick with axes := q } : State).Booked v) :
    s.ordered ((s.advance p.tick).settle v) = s.ordered { s.advance p.tick with axes := q } := by
  obtain ⟨c, l, w, rs, d, k, form, spilled⟩ := booked
  have key := act_ordered h.live p.tick (State.packet sp p)
  rw [act_eq_settle h.live.running, h.packet_eq, run, form] at key
  rw [form, key]
  · rw [show ({ s.advance p.tick with axes := q } : State) = { s.advance p.tick with axes := q, posted := [] } from by
      rw [← h.live.posted]; rfl]
    rfl
  · intro x hx
    have only : s.posted ++ w = w := by rw [h.live.posted, List.nil_append]
    exact spilled x (only ▸ hx)

@[simp] theorem entered_axes : (s.entered sp p r).axes = s.axes := by
  obtain ⟨_, _, _, _, _, h, -⟩ := entered_form sp p r s
  rw [h]
  rfl

end

end Sys2Proof.Machine

namespace Sys2Proof.Machine

/-! ## A command takes its axis (06 R149, R154) -/

section
variable {a : Fin 12} {s u : State}

/-- A parking that goes on ends with its command; nothing else of the axis changes. -/
theorem dropPark_sets (a : Fin 12) (s : State) :
    ∃ k, s.Sets a { s.axes[a] with waits.park := k } (s.dropPark a) := by
  unfold State.dropPark
  split
  · next k _ =>
    split
    · exact ⟨s.axes[a].waits.park, State.Sets.self a s⟩
    · exact ⟨none, ((State.Sets.self a s).modAxis _).then_rig (rig_finish _ _ _ _ _ _ _)⟩
  · exact ⟨s.axes[a].waits.park, State.Sets.self a s⟩

/-- No restart waits for the bridges of the axis to settle. -/
def Axis.Steady (x : Axis) : Prop := ∀ due, x.waits.settle ≠ some (due, .resume)

theorem dropResume_of_steady (d : BitVec 32) (steady : s.axes[a].Steady) : s.dropResume a d = s := by
  unfold State.dropResume
  dsimp only
  split
  · next due h => exact absurd h (steady due)
  · rfl

theorem dropResume_of_resume {due : Nat} (d : BitVec 32) (waits : s.axes[a].waits.settle = some (due, .resume)) :
    s.Sets a { s.axes[a] with waits.settle := none, waits.seq := none, drive.en := false } (s.dropResume a d) := by
  unfold State.dropResume
  dsimp only
  rw [waits]
  exact ((State.Sets.self a s).modAxis _).finishAll _ _ _ _

/-- The axis as a command finds it that drops what waits for its start. -/
def Axis.Dropped (x y : Axis) : Prop :=
  ∃ w en, y = { x with waits := w, drive.en := en } ∧ (x.waits.settle = none → w.settle = none ∧ en = x.drive.en)

theorem dropStart_sets (a : Fin 12) (s : State) : ∃ y, s.Sets a y (s.dropStart a) ∧ s.axes[a].Dropped y := by
  obtain ⟨k, parks⟩ := dropPark_sets a s
  unfold State.dropStart
  by_cases steady : (s.dropPark a).axes[a].Steady
  · rw [dropResume_of_steady 0x0301 steady]
    exact ⟨_, parks, _, _, rfl, fun settled => ⟨settled, rfl⟩⟩
  · obtain ⟨due, waits⟩ : ∃ due, (s.dropPark a).axes[a].waits.settle = some (due, .resume) := by
      simpa only [Axis.Steady, not_forall, not_not] using steady
    have drops := dropResume_of_resume 0x0301 waits
    rw [parks.axis_eq] at drops waits
    refine ⟨_, parks.trans drops, _, _, rfl, fun settled => ?_⟩
    exact absurd (waits.symm.trans settled) (Option.some_ne_none _)

theorem dropStart_of_alone (alone : s.axes[a].waits.park = none ∧ s.axes[a].waits.settle = none) : s.dropStart a = s := by
  have parks : s.dropPark a = s := by
    unfold State.dropPark
    rw [alone.1]
  unfold State.dropStart
  rw [parks, dropResume_of_steady]
  intro due waits
  exact absurd (waits.symm.trans alone.2) (Option.some_ne_none _)

/-- The axis as a new move takes it. -/
def Axis.Taken (x y : Axis) : Prop := ∃ w en, y = { x with waits := w, drive.en := en, kept := none, remain := 0 }
  ∧ (x.waits.settle = none → w.settle = none ∧ en = x.drive.en)

theorem takeAxis_sets (a : Fin 12) (s : State) : ∃ y, s.Sets a y (s.takeAxis a) ∧ s.axes[a].Taken y := by
  obtain ⟨x, drops, w, en, rfl, settled⟩ := dropStart_sets a s
  have replaced := drops.trans (replaceMove_sets a 0x0301 (s.dropStart a))
  rw [drops.axis_eq] at replaced
  unfold State.takeAxis
  exact ⟨_, (replaced.finishAll _ _ _ _).modAxis _, _, _, rfl, settled⟩

/-- What neither a change of the axis nor the end of a command touches is as before. -/
theorem dropStart_keeps {β : Type} {g : State → β} (axis : ∀ (f : Axis → Axis) (u : State), g (u.modAxis a f) = g u)
    (ends : ∀ (q : DWord) (st : BitVec 16) (d r : BitVec 32) (u : State), g (u.finish q st d r) = g u) (s : State) :
    g (s.dropStart a) = g s := by
  have parks : g (s.dropPark a) = g s := by
    unfold State.dropPark
    split
    · split
      · rfl
      · exact (ends _ _ _ _ _).trans (axis _ _)
    · rfl
  unfold State.dropStart State.dropResume
  dsimp only
  split
  · exact (each_keeps (g := g) (fun q u => ends q _ _ _ u) _ _).trans ((axis _ _).trans parks)
  · exact parks

theorem dropStart_ticks (a : Fin 12) (s : State) : (s.dropStart a).ticks = s.ticks :=
  dropStart_keeps (g := State.ticks) (fun _ _ => rfl) (fun q st d r u => finish_ticks q st d r 0 [] u) s

theorem takeAxis_ticks (a : Fin 12) (s : State) : (s.takeAxis a).ticks = s.ticks := by
  unfold State.takeAxis
  dsimp only
  rw [State.modAxis_ticks, finishAll_ticks, replaceMove_ticks, dropStart_ticks]

end

/-! ## The start of a motion -/

/-- The axis as a motion begins to drive it: its plan, its place, what waits for it and what it has kept are as they were. -/
def Axis.Driving (x y : Axis) : Prop := ∃ m d, y = { x with steps.moves := m, drive := d, faultCause := 0 } ∧ d.en = true

theorem begin_driving (x : Axis) (t : Nat) : x.Driving (x.begin t) := by
  obtain ⟨c, ca, cb, switched⟩ := setCur_switched x t x.drive.lev.iRun
  unfold Axis.begin
  rw [switched]
  dsimp only
  split
  · next on => exact ⟨_, _, rfl, on⟩
  · generalize hy : (Axis.mk _ _ _ _ _ _ _ _ _ _ _ _ _ _ _ _ _ _ _ _ _) = y
    obtain ⟨_, _, _, energised⟩ := energise_switched y t
    rw [energised, ← hy]
    exact ⟨_, _, rfl, rfl⟩

theorem movePlan_plan (x : Axis) (t : Nat) (d : Int) (V A J : Nat) {y : Axis} (kin : y.kin t = x.kin t) :
    (y.movePlan t d V A J).plan = (x.movePlan t d V A J).plan := by
  unfold Axis.movePlan Axis.startPlan
  rw [kin]
  dsimp only
  split
  · rfl
  · rfl

end Sys2Proof.Machine

namespace Sys2Proof.Machine

/-! ## MOVE_TO and MOVE_VELOCITY (06 R148, R149) -/

section
variable {a : Fin 12} {s u : State} {l : List Byte} {seq : DWord}

/-- The axis as a move to a target begins. -/
def Axis.moveBegun (t : Nat) (target : Int) (w : Nat × Nat × Nat) (seq : DWord) (x : Axis) : Axis :=
  { (x.movePlan t target w.1 w.2.1 w.2.2).begin t with
    st := .moving, waits.seq := some seq
    move := { kind := .position, target, vel := 0, v := w.1, a := w.2.1, j := w.2.2 } }

/-- The axis is moving under a plan, as a command wants it that has taken it. -/
structure Axis.Moves (x : Axis) (plan : Option Plan) (move : Move) (seq : DWord) (pos : Int) : Prop where
  moving : x.st = .moving
  plan_eq : x.plan = plan
  move_eq : x.move = move
  told : x.waits.seq = some seq
  fresh : x.kept = none
  place : x.pos = pos

theorem Axis.Flagged.moves {x y : Axis} {plan : Option Plan} {move : Move} {pos : Int} (h : x.Flagged y)
    (moves : x.Moves plan move seq pos) : y.Moves plan move seq pos := by
  obtain ⟨_, rfl, -⟩ := h
  exact ⟨moves.moving, moves.plan_eq, moves.move_eq, moves.told, moves.fresh, moves.place⟩

theorem moveBegun_moves {x y : Axis} (taken : x.Taken y) (t : Nat) (target : Int) (w : Nat × Nat × Nat) (seq : DWord) :
    (y.moveBegun t target w seq).Moves (x.movePlan t target w.1 w.2.1 w.2.2).plan
      { kind := .position, target, vel := 0, v := w.1, a := w.2.1, j := w.2.2 } seq x.pos := by
  obtain ⟨ws, en, rfl, -⟩ := taken
  have plan := movePlan_plan x t target w.1 w.2.1 w.2.2
    (y := { x with waits := ws, drive.en := en, kept := none, remain := 0 }) rfl
  obtain ⟨p, o, m, planned⟩ := movePlan_planned { x with waits := ws, drive.en := en, kept := none, remain := 0 } t target w.1
    w.2.1 w.2.2
  unfold Axis.moveBegun
  rw [planned] at plan ⊢
  obtain ⟨_, _, begun, -⟩ := begin_driving
    { x with waits := ws, drive.en := en, kept := none, remain := 0, plan := p, steps.last := o, overshoot := m } t
  rw [begun]
  exact ⟨rfl, plan, rfl, rfl, rfl, rfl⟩

theorem State.Sets.noteOvershoot {y : Axis} (h : s.Sets a y u) : ∃ z, s.Sets a z (u.noteOvershoot a) ∧ y.Flagged z := by
  unfold State.noteOvershoot
  cases decide (u.axes[a].overshoot ≠ 0) with
  | false => exact ⟨y, h, .refl y⟩
  | true => exact ⟨_, h.axisFlag 1, (Axis.Flagged.refl y).flag 1⟩

theorem lowers_of_idle {x : Axis} (idle : x.st = .idle) (target : Int) (A J : Nat) : ¬ x.lowers target A J = true := by
  unfold Axis.lowers
  rw [idle]
  simp

theorem moveTo_of_idle (idle : s.axes[a].st = .idle) :
    let target := moveToTarget s.axes[a] l
    let w := moveValues s.axes[a].lim (u32 l 16) (u32 l 20) (u32 l 24)
    s.moveTo a l seq =
      (((((s.takeAxis a).begun seq).modAxis a (Axis.moveBegun s.ticks target w seq)).noteOvershoot a).restIfStill a) := by
  have ticks : ((s.takeAxis a).begun seq).ticks = s.ticks := takeAxis_ticks a s
  unfold State.moveTo Axis.moveBegun
  dsimp only
  rw [if_neg (lowers_of_idle idle _ _ _), ticks]

/-- An idle axis that is told to move goes under the planner's profile; where that is empty it stays at rest. -/
theorem moveTo_moves (idle : s.axes[a].st = .idle) :
    let target := moveToTarget s.axes[a] l
    let w := moveValues s.axes[a].lim (u32 l 16) (u32 l 20) (u32 l 24)
    let y := s.axes[a].movePlan s.ticks target w.1 w.2.1 w.2.2
    (y.plan.isSome = true → (s.moveTo a l seq).axes[a].Moves y.plan
      { kind := .position, target, vel := 0, v := w.1, a := w.2.1, j := w.2.2 } seq s.axes[a].pos)
    ∧ (y.plan = none → (s.moveTo a l seq).axes[a].st = .idle ∧ (s.moveTo a l seq).axes[a].plan = none
      ∧ (s.moveTo a l seq).axes[a].move = Move.none ∧ (s.moveTo a l seq).axes[a].pos = s.axes[a].pos) := by
  intro target w y
  obtain ⟨x, takes, taken⟩ := takeAxis_sets a s
  have moves := moveBegun_moves taken s.ticks target w seq
  obtain ⟨z, sets, flagged⟩ := ((takes.then_rig (rig_begun _ seq)).modAxis (Axis.moveBegun s.ticks target w seq)).noteOvershoot
  replace moves := flagged.moves moves
  rw [moveTo_of_idle idle]
  generalize State.noteOvershoot a _ = v at sets
  rw [← sets.axis_eq] at moves
  constructor
  · intro far
    rwa [restIfStill_of_planned (by rw [moves.plan_eq]; exact far)]
  · intro there
    have still : v.restIfStill a = v.axisRest a := if_pos (by rw [moves.plan_eq, there]; rfl)
    have own : v.axes[a].move.kind ≠ .governed := by
      rw [moves.move_eq]
      exact (by decide : MoveKind.position ≠ .governed)
    obtain ⟨e, ws, rests, f, rfl, -⟩ := axisRest_moved moves.moving own
    rw [still, rests.axis_eq]
    exact ⟨rfl, rfl, rfl, moves.place⟩

/-- The axis as a move at a velocity begins. -/
def Axis.velBegun (t : Nat) (vel : Int) (A J : Nat) (seq : DWord) (x : Axis) : Axis :=
  { (x.velGuarded t vel A J).begin t with
    st := .moving, waits.seq := some seq, overshoot := 0
    move := { kind := .velocity, target := 0, vel, v := vel.natAbs, a := A, j := J } }

theorem moveVelocity_eq :
    let w := moveValues s.axes[a].lim 0 (u32 l 12) (u32 l 16)
    s.moveVelocity a l seq =
      ((((s.takeAxis a).begun seq).modAxis a (Axis.velBegun s.ticks (i32 l 8) w.2.1 w.2.2 seq)).restIfStill a) := by
  have ticks : ((s.takeAxis a).begun seq).ticks = s.ticks := takeAxis_ticks a s
  unfold State.moveVelocity Axis.velBegun
  dsimp only
  rw [ticks]

/-- Without soft limits in force a move at a velocity has a profile. -/
theorem velGuarded_planned {x : Axis} {vel : Int} (free : x.softOn = false) (goes : vel ≠ 0) (t A J : Nat) :
    ∃ p o, x.velGuarded t vel A J = { x with plan := some p, steps.last := o, waits.soft := false } := by
  unfold Axis.velGuarded
  dsimp only
  rw [free, if_pos (by simp)]
  unfold Axis.velPlan
  dsimp only
  rw [if_neg goes]
  exact ⟨_, _, rfl⟩

theorem velBegun_moves {x y : Axis} {vel : Int} (taken : x.Taken y) (free : x.softOn = false) (goes : vel ≠ 0) (t A J : Nat)
    (seq : DWord) : ∃ p, (y.velBegun t vel A J seq).Moves (some p)
      { kind := .velocity, target := 0, vel, v := vel.natAbs, a := A, j := J } seq x.pos := by
  obtain ⟨ws, en, rfl, -⟩ := taken
  obtain ⟨p, o, guarded⟩ := velGuarded_planned (x := { x with waits := ws, drive.en := en, kept := none, remain := 0 })
    free goes t A J
  unfold Axis.velBegun
  rw [guarded]
  obtain ⟨_, _, begun, -⟩ := begin_driving { x with waits := { ws with soft := false }, drive.en := en, kept := none
                                                    remain := 0, plan := some p, steps.last := o } t
  rw [begun]
  exact ⟨p, rfl, rfl, rfl, rfl, rfl, rfl⟩

/-- An axis that is told to move at a velocity is moving. -/
theorem moveVelocity_moves (free : s.axes[a].softOn = false) (goes : i32 l 8 ≠ 0) :
    ∃ p m, (s.moveVelocity a l seq).axes[a].Moves (some p) m seq s.axes[a].pos ∧ m.kind = .velocity ∧ m.vel = i32 l 8 := by
  obtain ⟨x, takes, taken⟩ := takeAxis_sets a s
  let w := moveValues s.axes[a].lim 0 (u32 l 12) (u32 l 16)
  obtain ⟨p, moves⟩ := velBegun_moves taken free goes s.ticks w.2.1 w.2.2 seq
  have sets := (takes.then_rig (rig_begun _ seq)).modAxis (Axis.velBegun s.ticks (i32 l 8) w.2.1 w.2.2 seq)
  refine ⟨p, { kind := .velocity, target := 0, vel := i32 l 8, v := (i32 l 8).natAbs, a := w.2.1, j := w.2.2 }, ?_, rfl, rfl⟩
  rw [moveVelocity_eq, restIfStill_of_planned]
  · rw [sets.axis_eq]
    exact moves
  · rw [sets.axis_eq, moves.plan_eq]
    rfl

end

section
variable {a : Fin 12} {p : Packet} {s : State} {r : Ring}

theorem moveTo_run (at_ : axisAt p 0 = some a) (seq : DWord) (secure : Bool) (u : State) :
    moveToSpec.run p secure seq u = u.moveTo a p.params seq := by
  unfold moveToSpec
  dsimp only
  rw [at_]

theorem moveVelocity_run (at_ : axisAt p 0 = some a) (seq : DWord) (secure : Bool) (u : State) :
    moveVelocitySpec.run p secure seq u = u.moveVelocity a p.params seq := by
  unfold moveVelocitySpec
  dsimp only
  rw [at_]

theorem moveTo_answers (h : Accepts moveToSpec p s r) (at_ : axisAt p 0 = some a) (idle : s.axes[a].st = .idle) :
    let target := moveToTarget s.axes[a] p.params
    let w := moveValues s.axes[a].lim (u32 p.params 16) (u32 p.params 20) (u32 p.params 24)
    let y := s.axes[a].movePlan (s.advance p.tick).ticks target w.1 w.2.1 w.2.2
    (y.plan.isSome = true → Answers (.moveTo p) s fun u => u.axes[a].st = .moving ∧ u.axes[a].plan = y.plan
      ∧ u.axes[a].waits.seq = some s.acceptSeq ∧ u.axes[a].kept = none
      ∧ u.axes[a].move = { kind := .position, target, vel := 0, v := w.1, a := w.2.1, j := w.2.2 })
    ∧ (y.plan = none → Answers (.moveTo p) s fun u => u.axes[a].st = .idle ∧ u.axes[a].plan = none
      ∧ u.axes[a].move = Move.none ∧ u.axes[a].pos = s.axes[a].pos) := by
  have entered := moveTo_moves (s := s.entered moveToSpec p r) (a := a) (l := p.params) (seq := s.acceptSeq)
    (by rw [entered_axes]; exact idle)
  rw [entered_axes, entered_ticks] at entered
  obtain ⟨goes, stays⟩ := entered
  refine ⟨fun far => ?_, fun there => ?_⟩
  · refine h.answers rfl (moveTo_run at_ _ _ _) ?_
    rw [settle_axes]
    have moves := goes far
    exact ⟨moves.moving, moves.plan_eq, moves.told, moves.fresh, moves.move_eq⟩
  · refine h.answers rfl (moveTo_run at_ _ _ _) ?_
    rw [settle_axes]
    exact stays there

theorem moveVelocity_answers (h : Accepts moveVelocitySpec p s r) (at_ : axisAt p 0 = some a) (goes : i32 p.params 8 ≠ 0)
    (free : s.axes[a].softOn = false) : Answers (.moveVelocity p) s fun u =>
      u.axes[a].st = .moving ∧ u.axes[a].plan.isSome = true ∧ u.axes[a].waits.seq = some s.acceptSeq ∧ u.axes[a].kept = none
        ∧ u.axes[a].move.kind = .velocity ∧ u.axes[a].move.vel = i32 p.params 8 := by
  obtain ⟨pl, m, moves, kind, vel⟩ := moveVelocity_moves (s := s.entered moveVelocitySpec p r) (a := a) (l := p.params)
    (seq := s.acceptSeq) (by rw [entered_axes]; exact free) goes
  refine h.answers rfl (moveVelocity_run at_ _ _ _) ?_
  rw [settle_axes, moves.plan_eq, moves.move_eq]
  exact ⟨moves.moving, rfl, moves.told, moves.fresh, kind, vel⟩

end

end Sys2Proof.Machine

namespace Sys2Proof.Machine

section
variable {a : Fin 12} {p : Packet} {s : State} {r : Ring}

/-! ## STOP (06 R153, R154) -/

theorem stop_run (at_ : axisAt p 0 = some a) (seq : DWord) (secure : Bool) (u : State) :
    stopSpec.run p secure seq u = (u.begun seq).stopAxis a (u8 p.params 1 == 1) (some seq) := by
  unfold stopSpec
  dsimp only
  rw [at_]

/-- A command that only answers: it is answered OK with a result, and nothing else is other than it was. -/
theorem Accepts.answers_only {sp : PacketSpec} (h : Accepts sp p s r) {c : Instr}
    (hc : exec c s = .next (s.act p.tick (State.packet sp p))) (res : BitVec 32)
    (run : sp.run p r.secure s.acceptSeq (s.entered sp p r) = ((s.entered sp p r).begun s.acceptSeq).finishOk s.acceptSeq res) :
    Answers c s fun u => RepliesOk sp p r s u res ∧ s.ordered u = s.ordered (s.advance p.tick) :=
  h.answers hc run ⟨h.carries_entered.begun.repliesOk res, h.ordered_booked (q := s.axes) run
    (((booked_entered sp p r s).begun s.acceptSeq).finish h.carries_entered.begun res)⟩

theorem stopAxis_of_off {quick : Bool} {seq : Option DWord}
    (off : s.axes[a].st = .disabled ∨ s.axes[a].st = .parked ∨ s.axes[a].st = .fault) :
    s.stopAxis a quick seq = (s.dropResume a 0x0302).finishAll seq.toList 0 0 (result32 s.axes[a].remain) := by
  unfold State.stopAxis
  dsimp only
  rcases off with off | off | off
  · rw [off]
  · rw [off]
  · rw [off]

theorem entered_begun_axes (sp : PacketSpec) (q : DWord) : ((s.entered sp p r).begun q).axes = s.axes := entered_axes

theorem stop_idle (h : Accepts stopSpec p s r) (at_ : axisAt p 0 = some a) (idle : s.axes[a].st = .idle)
    (ungrouped : s.groupOfAxis a = none) : Answers (.stop p) s fun u =>
      RepliesOk stopSpec p r s u (result32 s.axes[a].remain) ∧ s.ordered u = s.ordered (s.advance p.tick) := by
  refine h.answers_only rfl _ ((stop_run at_ _ _ _).trans ?_)
  rw [stopAxis_of_idle, entered_begun_axes]
  · rfl
  · rw [entered_begun_axes]
    exact idle
  · have pace : ((s.entered stopSpec p r).begun s.acceptSeq).pace = s.pace := entered_pace
    unfold State.groupOfAxis State.paceCfg
    rw [pace]
    exact ungrouped

theorem stop_off (h : Accepts stopSpec p s r) (at_ : axisAt p 0 = some a)
    (off : s.axes[a].st = .disabled ∨ s.axes[a].st = .parked ∨ s.axes[a].st = .fault) (steady : s.axes[a].Steady) :
    Answers (.stop p) s fun u =>
      RepliesOk stopSpec p r s u (result32 s.axes[a].remain) ∧ s.ordered u = s.ordered (s.advance p.tick) := by
  refine h.answers_only rfl _ ((stop_run at_ _ _ _).trans ?_)
  rw [stopAxis_of_off, dropResume_of_steady, entered_begun_axes]
  · rfl
  · rw [entered_begun_axes]
    exact steady
  · rw [entered_begun_axes]
    exact off

/-- A STOP of an axis whose restart waits for its bridges ends the restart. -/
theorem stop_resume (h : Accepts stopSpec p s r) (at_ : axisAt p 0 = some a)
    (off : s.axes[a].st = .disabled ∨ s.axes[a].st = .parked ∨ s.axes[a].st = .fault) {due : Nat}
    (waits : s.axes[a].waits.settle = some (due, .resume)) : Answers (.stop p) s fun u =>
      u.axes[a] = { s.axes[a] with waits.settle := none, waits.seq := none, drive.en := false }
        ∧ ∀ k, k ≠ a → u.axes[k] = s.axes[k] := by
  refine h.answers rfl (stop_run at_ _ _ _) ?_
  have axes := entered_begun_axes (p := p) (s := s) (r := r) stopSpec s.acceptSeq
  have drops := dropResume_of_resume (a := a) 0x0302 (s := (s.entered stopSpec p r).begun s.acceptSeq) (by rw [axes]; exact waits)
  rw [settle_axes, stopAxis_of_off (by rw [axes]; exact off), finishAll_axes]
  refine ⟨?_, fun k other => ?_⟩
  · rw [drops.axis_eq, axes]
  · rw [drops.other_eq other, axes]

theorem stop_moving (h : Accepts stopSpec p s r) (at_ : axisAt p 0 = some a) (moving : s.axes[a].st = .moving)
    (far : (s.axes[a].braked (u8 p.params 1 == 1) (s.advance p.tick).ticks).plan.isSome = true) :
    Answers (.stop p) s fun u => u.axes[a].st = .stopping
      ∧ u.axes[a].plan = (s.axes[a].braked (u8 p.params 1 == 1) (s.advance p.tick).ticks).plan
      ∧ u.axes[a].kept = s.axes[a].keep.kept ∧ s.acceptSeq ∈ u.axes[a].waits.stops ∧ u.axes[a].gear = none := by
  refine h.answers rfl (stop_run at_ _ _ _) ?_
  have axes := entered_begun_axes (p := p) (s := s) (r := r) stopSpec s.acceptSeq
  have ticks : ((s.entered stopSpec p r).begun s.acceptSeq).ticks = (s.advance p.tick).ticks := entered_ticks
  have stops := stopAxis_of_moving (a := a) (s := (s.entered stopSpec p r).begun s.acceptSeq) (quick := u8 p.params 1 == 1)
    (seq := some s.acceptSeq) (by rw [axes]; exact moving) (by rw [axes, ticks]; exact far)
  rw [axes, ticks] at stops
  obtain ⟨y, sets, stopping, plan, kept, gear, told⟩ := stops
  rw [settle_axes, sets.axis_eq]
  exact ⟨stopping, plan, kept, told _ rfl, gear⟩

/-! ## AXIS_LIMITS (06 R141) -/

/-- Limits of an axis that neither moves nor is homing take effect at once. -/
theorem setLimits_of_still (moving : s.axes[a].st ≠ .moving) (homing : s.axes[a].st ≠ .homing) (m : Limits) (seq : DWord) :
    s.setLimits a m seq = (s.modAxis a fun x => { x with lim := m }).finishOk seq 0 := by
  unfold State.setLimits
  extract_lets was limited x above soft
  have own : x = { s.axes[a] with lim := m } := axes_set_same _ _ _
  have st : x.st = s.axes[a].st := by rw [own]
  have runs : x.runsAtVel = false := by
    unfold Axis.runsAtVel
    rw [st, decide_eq_false moving, decide_eq_false homing]
    rfl
  rw [runs, st, decide_eq_false moving]
  rfl

theorem axisLimits_answers (h : Accepts axisLimitsSpec p s r) (at_ : axisAt p 0 = some a) (moving : s.axes[a].st ≠ .moving)
    (homing : s.axes[a].st ≠ .homing) : Answers (.axisLimits p) s fun u => RepliesOk axisLimitsSpec p r s u 0
      ∧ s.ordered u = s.ordered { s.advance p.tick with
        axes := s.axes.set a { s.axes[a] with lim := Limits.parse p.params } } := by
  have run : axisLimitsSpec.run p r.secure s.acceptSeq (s.entered axisLimitsSpec p r) =
      ((s.entered axisLimitsSpec p r).modAxis a fun x => { x with lim := Limits.parse p.params }).finishOk s.acceptSeq 0 := by
    unfold axisLimitsSpec
    dsimp only
    rw [at_]
    exact setLimits_of_still (by rw [entered_axes]; exact moving) (by rw [entered_axes]; exact homing) _ _
  have carries := h.carries_entered.of_desk
    (v := (s.entered axisLimitsSpec p r).modAxis a fun x => { x with lim := Limits.parse p.params }) rfl
  exact h.answers rfl run ⟨carries.repliesOk 0,
    h.ordered_booked run (((booked_entered axisLimitsSpec p r s).modAxis a _).finish carries 0)⟩

/-! ## GEAR_RATIO_AT (06 R158) and HOLD_PARK (07 R182) -/

theorem gearRatioAt_geared (h : Accepts gearRatioAtSpec p s r) (at_ : axisAt p 0 = some a) : s.axes[a].st = .geared := by
  have passed := h.checked
  unfold gearRatioAtSpec at passed
  dsimp only at passed
  rw [at_] at passed
  obtain ⟨-, passed⟩ := firstFail_cons.1 passed
  obtain ⟨-, passed⟩ := firstFail_cons.1 passed
  obtain ⟨-, passed⟩ := firstFail_cons.1 passed
  obtain ⟨geared, -⟩ := firstFail_cons.1 passed
  exact not_not.1 (of_decide_eq_false geared)

/-- The axis as a ratio waits for its count. -/
def Axis.ratioAt (l : List Byte) (seq : DWord) (x : Axis) : Axis :=
  { x with gear := x.gear.map fun g =>
      { g with next := some { up := u8 l 1 = 0, pos := i64 l 8, ratio := i64 l 16, blend := u32 l 4, seq } } }

theorem gearRatioAt_run (at_ : axisAt p 0 = some a) (seq : DWord) (secure : Bool) (u : State) : ∃ old,
    gearRatioAtSpec.run p secure seq u = ((u.finishAll old 0 0x0301 0).begun seq).modAxis a (Axis.ratioAt p.params seq) := by
  unfold gearRatioAtSpec
  dsimp only
  rw [at_]
  exact ⟨_, rfl⟩

theorem gearRatioAt_answers (h : Accepts gearRatioAtSpec p s r) (at_ : axisAt p 0 = some a) {g : Gear}
    (gear : s.axes[a].gear = some g) : Answers (.gearRatioAt p) s fun u =>
      u.axes[a].gear = some { g with next := some { up := u8 p.params 1 = 0, pos := i64 p.params 8, ratio := i64 p.params 16
                                                    blend := u32 p.params 4, seq := s.acceptSeq } }
        ∧ u.axes[a].st = .geared ∧ ∀ k, k ≠ a → u.axes[k] = s.axes[k] := by
  obtain ⟨old, run⟩ := gearRatioAt_run at_ s.acceptSeq r.secure (s.entered gearRatioAtSpec p r)
  refine h.answers rfl run ?_
  have sets := (((State.Sets.self a (s.entered gearRatioAtSpec p r)).finishAll old 0 0x0301 0).then_rig
    (rig_begun _ s.acceptSeq)).modAxis (Axis.ratioAt p.params s.acceptSeq)
  rw [settle_axes, sets.axis_eq, entered_axes]
  refine ⟨congrArg (Option.map _) gear, gearRatioAt_geared h at_, fun k other => ?_⟩
  rw [sets.other_eq other, entered_axes]

/-- The axis as it is parked or woken. -/
def Axis.parking (t : Nat) (l : List Byte) (seq : DWord) (x : Axis) : Axis :=
  let k : Parking := { seq, waking := u8 l 1 = 1, ramp := u16 l 4 * 1500000, powerOff := u8 l 2 = 1 }
  if u8 l 1 = 1 ∧ x.drive.parked.powerOff = true then
    { x with drive.en := true, waits.park := some k, waits.settle := some (t + x.drive.lev.enSettle * 1500, .wake) }
  else { x.rampCur t k.ramp (if u8 l 1 = 1 then x.drive.lev.iPark else x.drive.cur.now t)
           (if u8 l 1 = 1 then x.drive.lev.iHold else x.drive.lev.iPark) with waits.park := some k }

theorem holdPark_run (at_ : axisAt p 0 = some a) (seq : DWord) (secure : Bool) (u : State) :
    holdParkSpec.run p secure seq u = (u.begun seq).modAxis a (Axis.parking u.ticks p.params seq) := by
  unfold holdParkSpec
  dsimp only
  rw [at_]
  refine congrArg (fun f => State.modAxis a f (u.begun seq)) (funext fun x => ?_)
  unfold Axis.parking
  dsimp only
  by_cases wake : u8 p.params 1 = 1
  · rw [if_pos (decide_eq_true wake)]
    by_cases off : x.drive.parked.powerOff = true
    · rw [if_pos off, if_pos ⟨wake, off⟩]
      rfl
    · rw [if_neg off, if_neg fun h => off h.2, if_pos wake, if_pos wake]
      rfl
  · rw [if_neg (by simpa using wake), if_neg fun h => wake h.1, if_neg wake, if_neg wake]
    rfl

theorem holdPark_answers (h : Accepts holdParkSpec p s r) (at_ : axisAt p 0 = some a) : Answers (.holdPark p) s fun u =>
    u.cmd.replies = s.cmd.replies ∧ s.ordered u = s.ordered { s.advance p.tick with
      axes := s.axes.set a (s.axes[a].parking (s.advance p.tick).ticks p.params s.acceptSeq) } := by
  have run := holdPark_run at_ s.acceptSeq r.secure (s.entered holdParkSpec p r)
  rw [entered_ticks] at run
  refine h.answers rfl run ⟨(settle_replies _ _).trans h.carries_entered.begun.1, ?_⟩
  exact h.ordered_booked run (((booked_entered holdParkSpec p r s).begun s.acceptSeq).modAxis a _)

end

end Sys2Proof.Machine

namespace Sys2Proof.Machine

section
variable {a : Fin 12} {s : State} {what : AfterSettle} {f : State → State}

/-- The axis as its bridges are energised for a restart. -/
def Axis.settling (t : Nat) (what : AfterSettle) (x : Axis) : Axis :=
  { x with drive.en := true, waits.settle := some (t + x.drive.lev.enSettle * 1500, what) }

theorem withSettle_of_on (on : s.axes[a].drive.en = true) : s.withSettle a what f = f s := if_pos on

theorem withSettle_of_off (off : s.axes[a].drive.en = false) : s.withSettle a what f = s.modAxis a (Axis.settling s.ticks what) :=
  if_neg (by rw [off]; exact Bool.false_ne_true)

/-! ## RESUME (06 R155) -/

/-- The axis as a stop or a FAULT is left behind it. -/
def Axis.released (x : Axis) : Axis := { x with kept := none, remain := 0, st := .idle, faultCause := 0 }

/-- The axis as a kept move to a target goes on. -/
def Axis.goesOn (t : Nat) (m : Move) (seq : Option DWord) (x : Axis) : Axis :=
  { (x.movePlan t m.target m.v m.a m.j).begin t with st := .moving, waits.seq := seq, move := m }

theorem resumeKept_of_position {k : Kept} {seq : Option DWord} (kept : s.axes[a].kept = some k) (kind : k.move.kind = .position) :
    s.resumeKept a seq = (((s.modAxis a Axis.released).modAxis a
      (Axis.goesOn s.ticks (k.move.within s.axes[a].lim) seq)).restIfStill a) := by
  unfold State.resumeKept
  dsimp only
  rw [kept]
  dsimp only
  rw [kind]
  rfl

/-- The state as a RESUME goes on with what its axis has kept. -/
def State.goesOn (a : Fin 12) (seq : DWord) (s : State) : State :=
  (s.modAxis a fun x => { x with waits.seq := none }).resumeKept a (some seq)

theorem kin_of_still {x : Axis} (rests : x.plan = none) (own : x.st ≠ .geared) (t : Nat) :
    x.kin t = { p := x.pos, v := 0, a := 0 } := by
  unfold Axis.kin
  rw [rests]
  dsimp only
  split
  · rw [if_neg fun h => own h.1]
  · rfl

theorem goesOn_moves {x : Axis} (rests : x.plan = none) (own : x.st ≠ .geared) (w : AxisWaits) (t : Nat) (m : Move)
    (seq : DWord) : (({ x with waits := w } : Axis).released.goesOn t m (some seq)).Moves
      (x.movePlan t m.target m.v m.a m.j).plan m seq x.pos := by
  have idle : ({ x with waits := w } : Axis).released.st ≠ .geared := by exact (by decide : AxisState.idle ≠ .geared)
  have still := kin_of_still (x := ({ x with waits := w } : Axis).released) rests idle t
  have plan := movePlan_plan x t m.target m.v m.a m.j (still.trans (kin_of_still rests own t).symm)
  obtain ⟨p, o, e, planned⟩ := movePlan_planned ({ x with waits := w } : Axis).released t m.target m.v m.a m.j
  unfold Axis.goesOn
  rw [planned] at plan ⊢
  obtain ⟨_, _, begun, -⟩ := begin_driving
    { ({ x with waits := w } : Axis).released with plan := p, steps.last := o, overshoot := e } t
  rw [begun]
  exact ⟨rfl, plan, rfl, rfl, rfl, rfl⟩

/-- A kept move to a target goes on from standstill. -/
theorem goesOn_sets {k : Kept} {x : Axis} {u : State} {seq : DWord} (sets : s.Sets a x u) (kept : x.kept = some k)
    (kind : k.move.kind = .position) (rests : x.plan = none) (own : x.st ≠ .geared)
    (far : (x.movePlan u.ticks (k.move.within x.lim).target (k.move.within x.lim).v (k.move.within x.lim).a
      (k.move.within x.lim).j).plan.isSome = true) :
    ∃ y, s.Sets a y (u.goesOn a seq) ∧ y.Moves (x.movePlan u.ticks (k.move.within x.lim).target (k.move.within x.lim).v
      (k.move.within x.lim).a (k.move.within x.lim).j).plan (k.move.within x.lim) seq x.pos := by
  have untold := sets.modAxis fun x => { x with waits.seq := none }
  have lim : (u.modAxis a fun x => { x with waits.seq := none }).axes[a].lim = x.lim := by rw [untold.axis_eq]
  have goes := (untold.modAxis Axis.released).modAxis (Axis.goesOn u.ticks (k.move.within x.lim) (some seq))
  have moves := goesOn_moves rests own { x.waits with seq := none } u.ticks (k.move.within x.lim) seq
  unfold State.goesOn
  rw [resumeKept_of_position (k := k) (by rw [untold.axis_eq]; exact kept) kind, lim]
  generalize Axis.goesOn u.ticks _ _ _ = y at goes moves
  refine ⟨y, ?_, moves⟩
  rw [restIfStill_of_planned]
  · exact goes
  · rw [State.modAxis_ticks, goes.axis_eq, moves.plan_eq]
    exact far

end

end Sys2Proof.Machine

namespace Sys2Proof.Machine

section
variable {a : Fin 12} {p : Packet} {s : State} {r : Ring}

theorem resume_run (at_ : axisAt p 0 = some a) (seq : DWord) (secure : Bool) (u : State) : resumeSpec.run p secure seq u =
    (((u.dropStart a).begun seq).modAxis a fun x => { x with waits.seq := some seq }).withSettle a .resume
      (State.goesOn a seq) := by
  unfold resumeSpec
  dsimp only
  rw [at_]
  rfl

theorem resume_rests (h : Accepts resumeSpec p s r) (at_ : axisAt p 0 = some a) : s.axes[a].st ≠ .geared := by
  have passed := h.checked
  unfold resumeSpec at passed
  dsimp only at passed
  rw [at_] at passed
  obtain ⟨-, passed⟩ := firstFail_cons.1 passed
  obtain ⟨-, passed⟩ := firstFail_cons.1 passed
  obtain ⟨rests, -⟩ := firstFail_cons.1 passed
  intro geared
  have st : (s.advance p.tick).axes[a].st = .geared := geared
  rw [st] at rests
  simp at rests

/-- The axis of a RESUME on which nothing else waits, as the command has begun. -/
theorem resume_told (sp : PacketSpec) (alone : s.axes[a].waits.park = none ∧ s.axes[a].waits.settle = none) (seq : DWord) :
    (s.entered sp p r).Sets a { s.axes[a] with waits.seq := some seq }
      ((((s.entered sp p r).dropStart a).begun seq).modAxis a fun x => { x with waits.seq := some seq }) := by
  have begun := (State.Sets.self a (s.entered sp p r)).then_rig (rig_begun _ seq)
  have told := begun.modAxis fun x => { x with waits.seq := some seq }
  rw [entered_axes] at told
  rw [dropStart_of_alone (by rw [entered_axes]; exact alone)]
  exact told

theorem resume_told_ticks (sp : PacketSpec) (seq : DWord) :
    ((((s.entered sp p r).dropStart a).begun seq).modAxis a fun x => { x with waits.seq := some seq }).ticks =
      (s.advance p.tick).ticks := by
  rw [State.modAxis_ticks]
  exact (dropStart_ticks a _).trans entered_ticks

theorem resume_on (h : Accepts resumeSpec p s r) (at_ : axisAt p 0 = some a) {k : Kept} (kept : s.axes[a].kept = some k)
    (kind : k.move.kind = .position) (rests : s.axes[a].plan = none)
    (alone : s.axes[a].waits.park = none ∧ s.axes[a].waits.settle = none) (on : s.axes[a].drive.en = true)
    (far : (s.axes[a].movePlan (s.advance p.tick).ticks (k.move.within s.axes[a].lim).target (k.move.within s.axes[a].lim).v
      (k.move.within s.axes[a].lim).a (k.move.within s.axes[a].lim).j).plan.isSome = true) :
    Answers (.resume p) s fun u => u.axes[a].st = .moving ∧ u.axes[a].plan.isSome = true ∧ u.axes[a].kept = none
      ∧ u.axes[a].move = k.move.within s.axes[a].lim ∧ u.axes[a].waits.seq = some s.acceptSeq := by
  refine h.answers rfl (resume_run at_ _ _ _) ?_
  have told := resume_told (p := p) (r := r) resumeSpec alone s.acceptSeq
  have ticks := resume_told_ticks (a := a) (p := p) (s := s) (r := r) resumeSpec s.acceptSeq
  have own := resume_rests h at_
  generalize State.modAxis a _ _ = v at told ticks ⊢
  have plan := movePlan_plan s.axes[a] (s.advance p.tick).ticks (k.move.within s.axes[a].lim).target
    (k.move.within s.axes[a].lim).v (k.move.within s.axes[a].lim).a (k.move.within s.axes[a].lim).j
    (y := { s.axes[a] with waits.seq := some s.acceptSeq }) rfl
  rw [← plan] at far
  obtain ⟨y, sets, moves⟩ := goesOn_sets (seq := s.acceptSeq) told kept kind rests own (by rw [ticks]; exact far)
  rw [ticks] at moves
  rw [withSettle_of_on (by rw [told.axis_eq]; exact on), settle_axes, sets.axis_eq, moves.plan_eq]
  exact ⟨moves.moving, far, moves.fresh, moves.move_eq, moves.told⟩

theorem resume_off (h : Accepts resumeSpec p s r) (at_ : axisAt p 0 = some a) {k : Kept} (kept : s.axes[a].kept = some k)
    (alone : s.axes[a].waits.park = none ∧ s.axes[a].waits.settle = none) (off : s.axes[a].drive.en = false) :
    Answers (.resume p) s fun u => u.axes[a].drive.en = true ∧ u.axes[a].kept = some k
      ∧ u.axes[a].waits.settle = some ((s.advance p.tick).ticks + s.axes[a].drive.lev.enSettle * 1500, .resume)
      ∧ u.axes[a].waits.seq = some s.acceptSeq := by
  refine h.answers rfl (resume_run at_ _ _ _) ?_
  have told := resume_told (p := p) (r := r) resumeSpec alone s.acceptSeq
  have ticks := resume_told_ticks (a := a) (p := p) (s := s) (r := r) resumeSpec s.acceptSeq
  generalize State.modAxis a _ _ = v at told ticks ⊢
  have settling := told.modAxis (Axis.settling (s.advance p.tick).ticks .resume)
  rw [withSettle_of_off (by rw [told.axis_eq]; exact off), settle_axes, ticks, settling.axis_eq]
  exact ⟨rfl, kept, rfl, rfl⟩

/-! ## HOME (06 R160) -/

/-- The homing that a command asks for, as it begins at a position. -/
def homingOf (governed : Bool) (l : List Byte) (seq : DWord) (pos : Int) : Homing :=
  { seq, step := 1, method := u8 l 1, positive := u8 l 2 == 1, vFast := u32 l 8, vSlow := u32 l 12
    backoff := u32 l 16, search := u32 l 20, homePos := i64 l 24, origin := pos, released := false
    governed, ending := none }

/-- An axis in HOMING, on which no settling waits. -/
structure Axis.Homes (x : Axis) (h : Homing) (y : Axis) : Prop where
  homing : y.st = .homing
  search : y.home = some h
  place : y.pos = x.pos
  settled : y.waits.settle = none
  switches : y.limActive = x.limActive ∧ y.homeActive = x.homeActive

theorem beginHome_sets (l : List Byte) (seq : DWord) (settled : s.axes[a].waits.settle = none) :
    ∃ y, s.Sets a y (s.beginHome a l seq)
      ∧ s.axes[a].Homes (homingOf (s.groupOfAxis a).isSome l seq s.axes[a].pos) y
      ∧ y.drive.en = s.axes[a].drive.en ∧ y.drive.lev = s.axes[a].drive.lev := by
  obtain ⟨x, takes, w, en, rfl, still⟩ := takeAxis_sets a s
  obtain ⟨wait, bridges⟩ := still settled
  unfold State.beginHome
  exact ⟨_, (takes.then_rig (rig_begun _ seq)).modAxis _, ⟨rfl, rfl, rfl, wait, rfl, rfl⟩, bridges, rfl⟩

theorem homeRun_homes {x y : Axis} {h : Homing} (homes : x.Homes h y) (t step v : Nat) (positive : Bool) :
    x.Homes { h with step, origin := x.pos, released := false } (y.homeRun t step v positive) := by
  unfold Axis.homeRun
  dsimp only
  obtain ⟨p, o, m, planned⟩ := velPlan_planned y t (if positive = true then ((min v y.lim.v : Nat) : Int)
    else -((min v y.lim.v : Nat) : Int)) y.lim.a y.lim.j
  rw [planned]
  refine ⟨rfl, ?_, homes.place, homes.settled, homes.switches⟩
  dsimp only
  rw [homes.search, homes.place]
  rfl

theorem homeRun_drive (x : Axis) (t step v : Nat) (positive : Bool) : (x.homeRun t step v positive).drive = x.drive := by
  unfold Axis.homeRun
  dsimp only
  obtain ⟨p, o, m, planned⟩ := velPlan_planned x t (if positive = true then ((min v x.lim.v : Nat) : Int)
    else -((min v x.lim.v : Nat) : Int)) x.lim.a x.lim.j
  rw [planned]

theorem begin_homes {x y : Axis} {h : Homing} (homes : x.Homes h y) (t : Nat) : x.Homes h (y.begin t) := by
  obtain ⟨_, _, begun, -⟩ := begin_driving y t
  rw [begun]
  exact ⟨homes.homing, homes.search, homes.place, homes.settled, homes.switches⟩

theorem startHome_searches {h : Homing} (search : s.axes[a].home = some h) (finds : h.method ≠ 3)
    (away : s.axes[a].homeSwitch h = false) :
    s.startHome a = s.modAxis a fun x => x.homeRun s.ticks 2 h.vFast h.positive := by
  unfold State.startHome
  dsimp only
  rw [search]
  dsimp only
  rw [if_neg finds, if_neg (by rw [away]; exact Bool.false_ne_true)]

/-- A homing whose switch is not active searches for it, from where the axis is. -/
theorem runHome_sets {x y : Axis} {h : Homing} {u : State} (sets : s.Sets a y u) (homes : x.Homes h y) (finds : h.method ≠ 3)
    (away : x.homeSwitch h = false) : ∃ z, s.Sets a z (u.runHome a)
      ∧ x.Homes { h with step := 2, origin := x.pos, released := false } z ∧ z.drive.en = true := by
  have begun := sets.modAxis fun x => x.begin u.ticks
  have homes' := begin_homes homes u.ticks
  have inactive : (y.begin u.ticks).homeSwitch h = false := by
    rw [← away]
    unfold Axis.homeSwitch
    rw [homes'.switches.1, homes'.switches.2]
  obtain ⟨m, d, driving, on⟩ := begin_driving y u.ticks
  have runs : u.runHome a = (u.modAxis a fun x => x.begin u.ticks).modAxis a fun x => x.homeRun u.ticks 2 h.vFast h.positive :=
    startHome_searches (by rw [begun.axis_eq]; exact homes'.search) finds (by rw [begun.axis_eq]; exact inactive)
  refine ⟨_, runs ▸ begun.modAxis _, homeRun_homes homes' _ _ _ _, ?_⟩
  rw [homeRun_drive, driving]
  exact on

theorem home_run (at_ : axisAt p 0 = some a) (seq : DWord) (secure : Bool) (u : State) : homeSpec.run p secure seq u =
    (u.beginHome a p.params seq).withSettle a .home (State.runHome a) := by
  unfold homeSpec
  dsimp only
  rw [at_]

theorem beginHome_ticks (l : List Byte) (seq : DWord) : (s.beginHome a l seq).ticks = s.ticks := by
  unfold State.beginHome
  dsimp only
  rw [State.modAxis_ticks]
  exact takeAxis_ticks a s

theorem home_answers (h : Accepts homeSpec p s r) (at_ : axisAt p 0 = some a) (finds : u8 p.params 1 ≠ 3)
    (away : (if u8 p.params 1 = 2 then s.axes[a].limActive else s.axes[a].homeActive) = false)
    (settled : s.axes[a].waits.settle = none) : Answers (.home p) s fun u => u.axes[a].st = .homing ∧ u.axes[a].drive.en = true
      ∧ u.axes[a].waits.settle = (if s.axes[a].drive.en then none
          else some ((s.advance p.tick).ticks + s.axes[a].drive.lev.enSettle * 1500, .home))
      ∧ ∃ h, u.axes[a].home = some h ∧ h.seq = s.acceptSeq ∧ h.step = (if s.axes[a].drive.en then 2 else 1)
        ∧ h.method = u8 p.params 1 ∧ h.homePos = i64 p.params 24 ∧ h.origin = s.axes[a].pos := by
  refine h.answers rfl (home_run at_ _ _ _) ?_
  obtain ⟨y, sets, homes, bridges, lev⟩ := beginHome_sets (a := a) (s := s.entered homeSpec p r) p.params s.acceptSeq
    (by rw [entered_axes]; exact settled)
  have ticks := beginHome_ticks (a := a) (s := s.entered homeSpec p r) p.params s.acceptSeq
  rw [entered_ticks] at ticks
  rw [entered_axes] at homes bridges lev
  rw [settle_axes]
  cases on : s.axes[a].drive.en with
  | true =>
    obtain ⟨z, runs, searches, driven⟩ := runHome_sets sets homes finds away
    rw [withSettle_of_on (by rw [sets.axis_eq, bridges]; exact on), runs.axis_eq]
    refine ⟨searches.homing, driven, searches.settled, _, searches.search, rfl, rfl, rfl, ?_, rfl⟩
    dsimp only [homingOf]
  | false =>
    have settling := sets.modAxis (Axis.settling (s.advance p.tick).ticks .home)
    rw [withSettle_of_off (by rw [sets.axis_eq, bridges]; exact on), ticks, settling.axis_eq]
    refine ⟨homes.homing, rfl, ?_, _, homes.search, rfl, rfl, rfl, ?_, rfl⟩
    · rw [← lev]
      rfl
    · dsimp only [homingOf]

end

end Sys2Proof.Machine

namespace Sys2Proof.Machine

/-! ## GEAR_SET (06 R156, R157) -/

/-- The axis as it is geared to a master that stands at a count. -/
def Axis.engaged (t : Nat) (count : Int) (e : Fin 8) (ratio : Int) (sync : Nat) (seq : Option DWord) (x : Axis) : Axis :=
  { x.begin t with
    st := .geared, plan := none
    gear := some { src := e, sync, r1 := if sync = 0 then ratio else 0, r2 := ratio, x0 := count, len := sync
                   blending := false, up := true, x := count, p := x.pos, ahead := x.pos, stamp := t, tEst := 0xFFFFFFFF
                   next := none, waiting := if sync = 0 then [] else seq.toList }
    move := { kind := .geared, target := 0, vel := 0, v := (x.begin t).lim.v, a := (x.begin t).lim.a, j := (x.begin t).lim.j } }

/-- The axis as it leaves its gearing. -/
def Axis.disengaged (t : Nat) (seq : DWord) (x : Axis) : Axis :=
  { x.stopPlan t x.lim.a x.lim.j with st := .stopping, gear := none, waits.disengage := some seq }

/-- The axis with nothing kept of a motion. -/
def Axis.emptied (x : Axis) : Axis := { x with kept := none, remain := 0 }

theorem engaged_gear (x : Axis) (t : Nat) (count : Int) (e : Fin 8) (ratio : Int) (sync : Nat) (seq : Option DWord) :
    ∃ g, (x.engaged t count e ratio sync seq).gear = some g ∧ g.src = e ∧ g.r2 = ratio ∧ g.x = count ∧ g.p = x.pos :=
  ⟨_, rfl, rfl, rfl, rfl, rfl⟩

section
variable {a : Fin 12} {p : Packet} {s : State} {r : Ring}

theorem engage_eq (a : Fin 12) (e : Fin 8) (ratio : Int) (sync : Nat) (seq : Option DWord) (s : State) :
    s.engage a e ratio sync seq = (((s.modAxis a (Axis.engaged s.ticks s.encs[e].pos e ratio sync seq)).when (sync = 0)
      fun s => s.finishAll seq.toList 0 0 0).sysRoutes) := by
  unfold State.engage Axis.engaged
  dsimp only

theorem gearSet_engages (at_ : axisAt p 0 = some a) (engage : u8 p.params 1 = 0) {e : Fin 8}
    (enc : encAt (u8 p.params 2) = some e) (seq : DWord) (secure : Bool) (u : State) : gearSetSpec.run p secure seq u =
      (((u.dropStart a).modAxis a Axis.emptied).begun seq).engage a e (i64 p.params 8) (u32 p.params 4) (some seq) := by
  unfold gearSetSpec
  dsimp only
  rw [at_]
  dsimp only
  rw [if_pos engage, enc]
  rfl

theorem gearSet_leaves (at_ : axisAt p 0 = some a) (leave : u8 p.params 1 ≠ 0) (seq : DWord) (secure : Bool) (u : State) : ∃ l,
    let v := (((u.dropStart a).modAxis a Axis.emptied).begun seq).finishAll l 0 0x0301 0
    gearSetSpec.run p secure seq u = ((v.modAxis a (Axis.disengaged v.ticks seq)).restIfStill a).sysRoutes := by
  unfold gearSetSpec
  dsimp only
  rw [at_]
  dsimp only
  rw [if_neg leave]
  exact ⟨_, rfl⟩

/-- The axis of a GEAR_SET as the command has begun. -/
theorem gearSet_sets (sp : PacketSpec) (a : Fin 12) (seq : DWord) : ∃ w en, (s.entered sp p r).Sets a
    ({ s.axes[a] with waits := w, drive.en := en } : Axis).emptied
    ((((s.entered sp p r).dropStart a).modAxis a Axis.emptied).begun seq) := by
  obtain ⟨x, drops, w, en, rfl, -⟩ := dropStart_sets a (s.entered sp p r)
  rw [entered_axes] at drops
  exact ⟨w, en, (drops.modAxis Axis.emptied).then_rig (rig_begun _ seq)⟩

theorem rig_engage_tail (sync : Nat) (seq : Option DWord) (u : State) :
    ((u.when (sync = 0) fun s => s.finishAll seq.toList 0 0 0).sysRoutes).rig = u.rig :=
  (rig_sysRoutes _).trans (rig_when (rig_finishAll _ _ _ _ _) _)

theorem gearSet_geared (h : Accepts gearSetSpec p s r) (at_ : axisAt p 0 = some a) (engage : u8 p.params 1 = 0) {e : Fin 8}
    (enc : encAt (u8 p.params 2) = some e) : Answers (.gearSet p) s fun u => u.axes[a].st = .geared
      ∧ (∃ g, u.axes[a].gear = some g ∧ g.src = e ∧ g.r2 = i64 p.params 8 ∧ g.x = s.encs[e].pos ∧ g.p = s.axes[a].pos)
      ∧ (u32 p.params 4 = 0 → s.axes[a].waits.park = none ∧ s.axes[a].waits.settle = none → RepliesOk gearSetSpec p r s u 0)
      ∧ (u32 p.params 4 ≠ 0 → s.axes[a].waits.park = none ∧ s.axes[a].waits.settle = none → u.cmd.replies = s.cmd.replies) := by
  refine h.answers rfl ((gearSet_engages at_ engage enc _ _ _).trans (engage_eq _ _ _ _ _ _)) ?_
  obtain ⟨w, en, begun⟩ := gearSet_sets (p := p) (s := s) (r := r) gearSetSpec a s.acceptSeq
  have alone_carries (alone : s.axes[a].waits.park = none ∧ s.axes[a].waits.settle = none) : s.Carries gearSetSpec p r
      ((((s.entered gearSetSpec p r).dropStart a).modAxis a Axis.emptied).begun s.acceptSeq) := by
    rw [dropStart_of_alone (by rw [entered_axes]; exact alone)]
    exact (h.carries_entered.of_desk (v := (s.entered gearSetSpec p r).modAxis a Axis.emptied) rfl).begun
  generalize State.begun s.acceptSeq _ = v at begun alone_carries ⊢
  have count : v.encs[e].pos = s.encs[e].pos := by rw [begun.encs_eq, entered_encs]
  rw [count]
  have engaged := begun.modAxis (Axis.engaged v.ticks s.encs[e].pos e (i64 p.params 8) (u32 p.params 4) (some s.acceptSeq))
  have answered := engaged.then_rig (rig_engage_tail (u32 p.params 4) (some s.acceptSeq) _)
  refine ⟨?_, ?_, fun now alone => ?_, fun later alone => ?_⟩
  · rw [settle_axes, answered.axis_eq]
    rfl
  · rw [settle_axes, answered.axis_eq]
    exact engaged_gear _ _ _ _ _ _ _
  · have carries := (alone_carries alone).of_desk
      (v := v.modAxis a (Axis.engaged v.ticks s.encs[e].pos e (i64 p.params 8) (u32 p.params 4) (some s.acceptSeq))) rfl
    rw [decide_eq_true now]
    refine (settle_replies _ _).trans ((congrArg CmdUnit.replies (cmd_of_desk (desk_stirred (sysRoutes_stirred _)))).trans ?_)
    exact carries.finish_replies 0
  · rw [decide_eq_false later, when_false]
    refine (settle_replies _ _).trans ((congrArg CmdUnit.replies (cmd_of_desk (desk_stirred (sysRoutes_stirred _)))).trans ?_)
    exact (alone_carries alone).1

theorem gearSet_disengaged (h : Accepts gearSetSpec p s r) (at_ : axisAt p 0 = some a) (leave : u8 p.params 1 ≠ 0)
    (far : (s.axes[a].stopPlan (s.advance p.tick).ticks s.axes[a].lim.a s.axes[a].lim.j).plan.isSome = true) :
    Answers (.gearSet p) s fun u => u.axes[a].st = .stopping ∧ u.axes[a].gear = none
      ∧ u.axes[a].waits.disengage = some s.acceptSeq
      ∧ u.axes[a].plan = (s.axes[a].stopPlan (s.advance p.tick).ticks s.axes[a].lim.a s.axes[a].lim.j).plan := by
  obtain ⟨l, run⟩ := gearSet_leaves at_ leave s.acceptSeq r.secure (s.entered gearSetSpec p r)
  refine h.answers rfl run ?_
  obtain ⟨w, en, begun⟩ := gearSet_sets (p := p) (s := s) (r := r) gearSetSpec a s.acceptSeq
  have ended := begun.finishAll l 0 0x0301 0
  have ticks : ((((s.entered gearSetSpec p r).dropStart a).modAxis a Axis.emptied).begun s.acceptSeq).ticks =
      (s.advance p.tick).ticks := (dropStart_ticks a _).trans entered_ticks
  have plan : ((({ s.axes[a] with waits := w, drive.en := en } : Axis).emptied).disengaged (s.advance p.tick).ticks
      s.acceptSeq).plan = (s.axes[a].stopPlan (s.advance p.tick).ticks s.axes[a].lim.a s.axes[a].lim.j).plan :=
    (stopPlan_plan _ _ _ _).trans (stopPlan_plan s.axes[a] _ _ _).symm
  have stops := ended.modAxis (Axis.disengaged (s.advance p.tick).ticks s.acceptSeq)
  rw [settle_axes, sysRoutes_axes, finishAll_ticks, ticks, restIfStill_of_planned, stops.axis_eq]
  · exact ⟨rfl, rfl, rfl, plan⟩
  · rw [stops.axis_eq, plan]
    exact far

end

end Sys2Proof.Machine

namespace Sys2Proof.Machine

/-! ## AXIS_CONFIG (06 R140; 07 R184) -/

section
variable {a : Fin 12} {p : Packet} {s : State} {r : Ring}

theorem finish_trig (q : DWord) (st : BitVec 16) (d r f : BitVec 32) (b : List (Nat × List Byte)) (s : State) :
    (s.finish q st d r f b).trig = s.trig := by
  obtain ⟨_, _, _, _, _, h⟩ := finish_form q st d r s f b
  rw [h]

theorem dropStart_trig (a : Fin 12) (s : State) : (s.dropStart a).trig = s.trig :=
  dropStart_keeps (g := State.trig) (fun _ _ => rfl) (fun q st d r u => finish_trig q st d r 0 [] u) s

@[simp] theorem settle_trig (s0 s : State) : (s0.settle s).trig = s.trig := by
  obtain ⟨_, _, _, h⟩ := settle_form s0 s
  rw [h]

/-- The last result of a calibration that ends because its axis leaves DISABLED. -/
theorem calLast_form (op idx : Nat) (resid : Int) (s : State) : ∃ l d e, s.calLast op idx 0x0103 0x0518 resid =
    { s with trig.last := l, trig.lastDetail := d, trig.lastResid := e } := ⟨_, _, _, rfl⟩

theorem rig_calLast (op idx : Nat) (resid : Int) (s : State) : (s.calLast op idx 0x0103 0x0518 resid).rig = s.rig := by
  obtain ⟨_, _, _, ended⟩ := calLast_form op idx resid s
  rw [ended]
  rfl

theorem rig_endDriveCal (a : Fin 12) (s : State) : (s.endDriveCal a).rig = s.rig := by
  unfold State.endDriveCal
  split
  · rfl
  · exact (rig_finish _ _ _ _ _ _ _).trans (rig_calLast _ _ _ _)

theorem endDriveCal_of_none (absent : ∀ q ∈ s.trig.runs, q.op = 9 → q.num ≠ a.val) : s.endDriveCal a = s := by
  have unfound : (s.trig.runs.find? fun r => r.op = 9 && r.num = a.val) = none :=
    List.find?_eq_none.2 fun q run => by simpa using absent q run
  unfold State.endDriveCal
  rw [unfound]

theorem endDriveCal_runs {q : CalRun} (run : (s.trig.runs.find? fun r => r.op = 9 && r.num = a.val) = some q) :
    (s.endDriveCal a).trig.runs = s.trig.runs.filter fun y => y.seq ≠ q.seq := by
  unfold State.endDriveCal
  rw [run]
  dsimp only
  obtain ⟨_, _, _, ended⟩ := calLast_form 9 (driveIndex a).val 0 { s with trig.runs := s.trig.runs.filter fun x => x.seq ≠ q.seq }
  rw [finish_trig, ended]

/-- An axis as AXIS_CONFIG leaves it. -/
structure Axis.Configured (l : List Byte) (x y : Axis) : Prop where
  idle : y.st = .idle
  enc : y.cfg.enc = encAt (u8 l 3)
  ratio : y.cfg.ratio = u64 l 8
  place : y.pos = x.pos
  still : y.plan = none
  fresh : y.kept = none
  bridges : y.drive.en = true

theorem alignEncoder_form (s : State) (x : Axis) : ∃ o, s.alignEncoder x = { x with encOfs := o } := by
  unfold State.alignEncoder
  split
  · exact ⟨0, rfl⟩
  · split
    · exact ⟨0, rfl⟩
    · exact ⟨_, rfl⟩

/-- The axis with its configuration, held at rest by its drive. -/
def Axis.configure (s : State) (c : AxisCfg) (lost : Bool) (l : List Byte) (x : Axis) : Axis :=
  let y := x.reref x.pos c.invert
  let y := { y with cfg := c, positionLost := lost, st := .idle, kept := none, remain := 0, plan := none, gear := none
                    faultCause := 0, move := Move.none, drive := { y.drive.configured l with res := 0 } }
  let y := s.alignEncoder y
  (y.setCur s.ticks y.drive.lev.iHold).energise s.ticks

theorem configure_configured (s : State) {c : AxisCfg} (lost : Bool) {l : List Byte} (x : Axis) (enc : c.enc = encAt (u8 l 3))
    (ratio : c.ratio = u64 l 8) : x.Configured l (x.configure s c lost l) := by
  unfold Axis.configure
  extract_lets y d z w
  obtain ⟨o, aligned⟩ := alignEncoder_form s z
  obtain ⟨_, _, _, held⟩ := setCur_switched w s.ticks w.drive.lev.iHold
  obtain ⟨_, _, _, driven⟩ := energise_switched (w.setCur s.ticks w.drive.lev.iHold) s.ticks
  have w_eq : w = { z with encOfs := o } := aligned
  clear_value w
  subst w_eq
  rw [driven, held]
  exact ⟨rfl, enc, ratio, rfl, rfl, rfl, rfl⟩

theorem configAxis_sets (a : Fin 12) (l : List Byte) (s : State) :
    ∃ y, s.Sets a y (s.configAxis a l) ∧ s.axes[a].Configured l y := by
  unfold State.configAxis
  extract_lets x c lost bridges v
  have sets := (State.Sets.self a s).modAxis (Axis.configure s c lost l)
  have configured := configure_configured s lost s.axes[a] (c := c) (l := l) rfl rfl
  have v_eq : v = s.modAxis a (Axis.configure s c lost l) := rfl
  rw [v_eq]
  generalize Axis.configure s c lost l s.axes[a] = y at sets configured
  cases decide bridges with
  | false => exact ⟨y, sets, configured⟩
  | true =>
    refine ⟨_, (sets.modAxis fun x => { x with positionLost := true }).drvFlag 6, ?_⟩
    obtain ⟨idle, enc, ratio, place, still, fresh, driven⟩ := configured
    exact ⟨idle, enc, ratio, place, still, fresh, driven⟩

end

end Sys2Proof.Machine

namespace Sys2Proof.Machine

section
variable {a : Fin 12} {p : Packet} {s : State} {r : Ring}

theorem configAxis_form (a : Fin 12) (l : List Byte) (s : State) : ∃ q, s.configAxis a l = { s with axes := q } := by
  unfold State.configAxis
  extract_lets x c lost bridges v
  cases decide bridges with
  | false => exact ⟨_, rfl⟩
  | true => exact ⟨_, rfl⟩

theorem axisConfig_axis (at_ : axisAt p 1 = some a) (mode : u8 p.params 0 = 0) (seq : DWord) (secure : Bool) (u : State) :
    axisConfigSpec.run p secure seq u = (((u.dropStart a).endDriveCal a).configAxis a p.params).finishOk seq 0 := by
  unfold axisConfigSpec
  dsimp only
  rw [at_, mode]
  rfl

theorem axisConfig_encoder {e : Fin 8} (enc : encAt (u8 p.params 1) = some e) (mode : u8 p.params 0 = 1) (seq : DWord)
    (secure : Bool) (u : State) : axisConfigSpec.run p secure seq u = (u.configEncoder e p.params).finishOk seq 0 := by
  unfold axisConfigSpec
  dsimp only
  rw [enc, mode]
  rfl

/-- AXIS_CONFIG of an axis on which nothing waits and no calibration runs changes that axis. -/
theorem axisConfig_alone (h : Accepts axisConfigSpec p s r) (at_ : axisAt p 1 = some a) (mode : u8 p.params 0 = 0)
    (alone : s.axes[a].waits.park = none ∧ s.axes[a].waits.settle = none) (absent : ∀ q ∈ s.trig.runs, q.op = 9 → q.num ≠ a.val) :
    let u := (s.advance p.tick).settle (axisConfigSpec.run p r.secure s.acceptSeq (s.entered axisConfigSpec p r))
    RepliesOk axisConfigSpec p r s u 0 ∧ s.ordered { u with axes := s.axes } = s.ordered (s.advance p.tick) := by
  obtain ⟨q, form⟩ := configAxis_form a p.params (s.entered axisConfigSpec p r)
  have run := axisConfig_axis at_ mode s.acceptSeq r.secure (s.entered axisConfigSpec p r)
  rw [dropStart_of_alone (by rw [entered_axes]; exact alone), endDriveCal_of_none (by rw [entered_trig]; exact absent),
    form] at run
  have carries := h.carries_entered.of_desk (v := { s.entered axisConfigSpec p r with axes := q }) rfl
  have ordered := h.ordered_booked run (((booked_entered axisConfigSpec p r s).with_axes q).finish carries 0)
  dsimp only
  rw [run]
  exact ⟨carries.repliesOk 0, congrArg (fun v : State => { v with axes := s.axes }) ordered⟩

theorem axisConfig_configures (at_ : axisAt p 1 = some a) (mode : u8 p.params 0 = 0) :
    let u := (s.advance p.tick).settle (axisConfigSpec.run p r.secure s.acceptSeq (s.entered axisConfigSpec p r))
    s.axes[a].Configured p.params u.axes[a] ∧ (∀ k, k ≠ a → u.axes[k] = s.axes[k])
      ∧ ∀ q, (s.trig.runs.find? fun q => q.op = 9 && q.num = a.val) = some q →
        u.trig.runs = s.trig.runs.filter fun y => y.seq ≠ q.seq := by
  dsimp only
  rw [axisConfig_axis at_ mode, settle_axes, settle_trig, finishOk_axes]
  obtain ⟨x, drops, w, en, rfl, -⟩ := dropStart_sets a (s.entered axisConfigSpec p r)
  replace drops := drops.then_rig (rig_endDriveCal a ((s.entered axisConfigSpec p r).dropStart a))
  obtain ⟨y, configures, configured⟩ := configAxis_sets a p.params
    (((s.entered axisConfigSpec p r).dropStart a).endDriveCal a)
  have sets := drops.trans configures
  rw [drops.axis_eq, entered_axes] at configured
  rw [sets.axis_eq]
  obtain ⟨idle, enc, ratio, place, still, fresh, bridges⟩ := configured
  refine ⟨⟨idle, enc, ratio, place, still, fresh, bridges⟩, fun k other => ?_, fun q run => ?_⟩
  · rw [sets.other_eq other, entered_axes]
  · obtain ⟨v, form⟩ := configAxis_form a p.params (((s.entered axisConfigSpec p r).dropStart a).endDriveCal a)
    have trig : ((s.entered axisConfigSpec p r).dropStart a).trig = s.trig := (dropStart_trig a _).trans entered_trig
    rw [← trig] at run ⊢
    unfold State.finishOk
    rw [finish_trig, form]
    exact endDriveCal_runs run

/-- The encoder with its configuration. -/
def Encoder.configured (l : List Byte) (x : Encoder) : Encoder :=
  { Encoder.fresh with
    invert := (u8 l 2).testBit 0, idxEn := (u8 l 2).testBit 1, idxPol := (u8 l 2).testBit 2
    idxGate := (u8 l 2).testBit 3, filter := u8 l 3, estEdges := u8 l 4, idxMode := u8 l 5 = 1, preset := i64 l 8
    pos := i64 l 8, idxPos := x.idxPos, evt := x.evt, irqEn := x.irqEn, still := x.still, lastEdge := x.lastEdge
    backward := x.backward }

theorem configured_fields (l : List Byte) (x : Encoder) : (x.configured l).pos = i64 l 8
    ∧ (x.configured l).estEdges = u8 l 4 ∧ (x.configured l).invert = (u8 l 2).testBit 0
    ∧ (x.configured l).posInvalid = Encoder.fresh.posInvalid := by
  unfold Encoder.configured
  dsimp only
  exact ⟨rfl, rfl, rfl, rfl⟩

theorem configEncoder_encs (e : Fin 8) (l : List Byte) (s : State) :
    (s.configEncoder e l).encs = s.encs.set e (s.encs[e].configured l) := by
  unfold State.configEncoder
  extract_lets fresh u
  refine each_keeps (g := State.encs) (fun a v => ?_) (List.finRange 12) u
  split
  · rfl
  · rfl

theorem configEncoder_desk (e : Fin 8) (l : List Byte) (s : State) : (s.configEncoder e l).desk = s.desk := by
  unfold State.configEncoder
  extract_lets fresh u
  refine (each_keeps (g := State.desk) (fun a v => ?_) (List.finRange 12) u).trans rfl
  split
  · rfl
  · rfl

theorem axisConfig_encoder_answers (h : Accepts axisConfigSpec p s r) (mode : u8 p.params 0 = 1) {e : Fin 8}
    (enc : encAt (u8 p.params 1) = some e) : Answers (.axisConfig p) s fun u => RepliesOk axisConfigSpec p r s u 0
      ∧ u.encs[e].pos = i64 p.params 8 ∧ u.encs[e].estEdges = u8 p.params 4 ∧ u.encs[e].invert = (u8 p.params 2).testBit 0
      ∧ u.encs[e].posInvalid = Encoder.fresh.posInvalid ∧ ∀ k, k ≠ e → u.encs[k] = s.encs[k] := by
  refine h.answers rfl (axisConfig_encoder enc mode _ _ _) ?_
  have encs := configEncoder_encs e p.params (s.entered axisConfigSpec p r)
  rw [entered_encs] at encs
  obtain ⟨pos, edges, invert, valid⟩ := configured_fields p.params s.encs[e]
  refine ⟨(h.carries_entered.of_desk (configEncoder_desk e _ _)).repliesOk 0, ?_⟩
  rw [settle_encs, finishOk_encs, encs, encs_set_same]
  exact ⟨pos, edges, invert, valid, fun k other => encs_set_other other _ _⟩

end

end Sys2Proof.Machine

namespace Sys2Proof.Machine

/-- Settles O53: each command takes its axis, which leaves the axis's place and its plan as they were, and then begins: a move
or a stop under the planner's profile, a homing or a restart after its bridges settle, a gearing, a parking. What a command
answers follows the flight that its acceptance made, which no change of an axis touches. -/
theorem motionCommandsBeginTheirMotion : Obligations.MotionCommandsBeginTheirMotion := by
  unfold Obligations.MotionCommandsBeginTheirMotion
  intro p s r a
  refine ⟨?axis, ?encoder, axisLimits_answers, moveTo_answers, moveVelocity_answers, ?stop, ?resume, ?home, ?gear,
    fun _ h at_ gear => gearRatioAt_answers h at_ gear, ?park⟩
  case axis =>
    intro h mode at_
    refine answers_of_settled h.live rfl ?_
    rw [h.packet_eq]
    obtain ⟨configured, others, runs⟩ := axisConfig_configures (s := s) (r := r) at_ mode
    obtain ⟨idle, enc, ratio, place, still, fresh, bridges⟩ := configured
    exact ⟨fun alone absent => axisConfig_alone h at_ mode alone absent, idle, enc, ratio, place, still, fresh, bridges, others,
      runs⟩
  case encoder =>
    intro e h mode enc
    exact axisConfig_encoder_answers h mode enc
  case stop =>
    intro h at_
    refine ⟨stop_idle h at_, fun off => ⟨stop_off h at_ off, fun due => stop_resume h at_ off⟩, fun moving => ?_⟩
    have quick : (if u8 p.params 1 = 1 then s.axes[a].stopPlan (s.advance p.tick).ticks s.axes[a].lim.aStop s.axes[a].lim.jStop
        else if s.axes[a].move.a = 0 ∨ s.axes[a].move.j = 0 then
          s.axes[a].stopPlan (s.advance p.tick).ticks s.axes[a].lim.a s.axes[a].lim.j
        else s.axes[a].stopPlan (s.advance p.tick).ticks s.axes[a].move.a s.axes[a].move.j) =
        s.axes[a].braked (u8 p.params 1 == 1) (s.advance p.tick).ticks := by
      unfold Axis.braked
      simp only [beq_iff_eq]
    dsimp only
    rw [quick]
    exact stop_moving h at_ moving
  case resume =>
    intro k h at_ kept kind rests alone
    exact ⟨resume_on h at_ kept kind rests alone, resume_off h at_ kept alone⟩
  case home =>
    intro h at_ finds away settled
    exact home_answers h at_ finds away settled
  case gear =>
    intro h at_
    refine ⟨fun e engage enc => gearSet_geared h at_ engage enc, fun leave far => gearSet_disengaged h at_ leave far⟩
  case park =>
    intro h at_
    have parks := holdPark_answers h at_
    unfold Axis.parking at parks
    exact parks

end Sys2Proof.Machine

namespace Sys2Proof.Machine

/-! ## The chopper of a phase (07 R172 to R175) -/

section
variable (x : Axis) (ph : Phase) (c d : Chop)

@[simp] theorem chop_setChop : (x.setChop ph c).chop ph = c := by cases ph <;> rfl

@[simp] theorem setChop_setChop : (x.setChop ph c).setChop ph d = x.setChop ph d := by cases ph <;> rfl

/-- The chopper's periods of the axis are no part of what its phases change. -/
theorem chopCfg_phaseSync (t : Nat) : (x.phaseSync t ph).drive.chop = x.drive.chop := by
  obtain ⟨_, _, _, switched⟩ := phaseSync_switched x t ph
  rw [switched]

/-- An OFF period begins at its tick, and its phase counts no ON period. -/
theorem phaseOff_chop (t : Nat) : ((x.phaseOff t ph).chop ph).st = .off ∧ ((x.phaseOff t ph).chop ph).since = t
    ∧ ((x.phaseOff t ph).chop ph).onMax = (x.chop ph).onMax := by
  unfold Axis.phaseOff
  rw [chop_setChop]
  exact ⟨rfl, rfl, rfl⟩

end

/-- Two changes of an axis in a row are one. -/
theorem modAxis_modAxis (a : Fin 12) (f g : Axis → Axis) (s : State) :
    (s.modAxis a f).modAxis a g = s.modAxis a fun x => g (f x) := by
  unfold State.modAxis
  simp

/-- A change of one axis alone is answered as such. -/
theorem answers_of_modAxis {s : State} (live : s.Live) {c : Instr} {t : Nat} {f : State → State} {a : Fin 12} {g : Axis → Axis}
    (meaning : exec c s = .next (s.act t f)) (does : f (s.advance t) = (s.advance t).modAxis a g) :
    Answers c s fun u => s.calm u = { s.advance t with axes := s.axes.set a (g s.axes[a]) } :=
  ⟨_, meaning, act_calm_eq live (by rw [does]; rfl) rfl⟩

section
variable {s : State} {a : Fin 12} {ph : Phase}

/-- The axis as a phase trips. -/
def Axis.tripped (t : Nat) (ph : Phase) (x : Axis) : Axis := (x.setChop ph { x.chop ph with onMaxRun := 0 }).phaseOff t ph

/-- The axis as the blanking of a phase ends, at a trip that is present by then or at none. -/
def Axis.blankEnded (t : Nat) (ph : Phase) (trip : Bool) (x : Axis) : Axis :=
  let x := x.setChop ph { x.chop ph with blanked := true }
  if trip then x.tripped t ph else x

theorem blankEnded_of_trip (x : Axis) (t : Nat) : x.blankEnded t ph true =
    (x.setChop ph { x.chop ph with blanked := true, onMaxRun := 0 }).phaseOff t ph := by
  unfold Axis.blankEnded Axis.tripped
  dsimp only
  rw [if_pos rfl, chop_setChop, setChop_setChop]

theorem chopBlankEnd_of_due {trip : Bool} (on : ((s.axes[a].phaseSync s.ticks ph).chop ph).st = .on)
    (blanking : ((s.axes[a].phaseSync s.ticks ph).chop ph).blanked = false)
    (due : ((s.axes[a].phaseSync s.ticks ph).chop ph).since + s.axes[a].drive.chop.tBlank ≤ s.ticks) :
    s.chopBlankEnd a ph trip = s.modAxis a fun x => (x.phaseSync s.ticks ph).blankEnded s.ticks ph trip := by
  unfold State.chopBlankEnd
  extract_lets synced x c
  have x_eq : x = s.axes[a].phaseSync s.ticks ph := axes_set_same _ _ _
  rw [if_neg]
  · exact modAxis_modAxis a _ _ s
  · simp only [Bool.or_eq_true, decide_eq_true_eq, ne_eq, not_or, not_not, Bool.not_eq_true, not_lt]
    dsimp only [c]
    rw [x_eq, chopCfg_phaseSync]
    exact ⟨⟨on, blanking⟩, due⟩

theorem chopTrip_of_on (on : ((s.axes[a].phaseSync s.ticks ph).chop ph).st = .on)
    (blanked : ((s.axes[a].phaseSync s.ticks ph).chop ph).blanked = true) :
    s.chopTrip a ph = s.modAxis a fun x => (x.phaseSync s.ticks ph).tripped s.ticks ph := by
  unfold State.chopTrip
  extract_lets synced c
  have c_eq : c = (s.axes[a].phaseSync s.ticks ph).chop ph := congrArg (Axis.chop · ph) (axes_set_same _ _ _)
  rw [if_neg]
  · exact modAxis_modAxis a _ _ s
  · rw [c_eq, on, blanked]
    decide

theorem chopOffEnd_of_due (off : (s.axes[a].chop ph).st = .off)
    (due : (s.axes[a].chop ph).since + s.axes[a].drive.chop.tOff ≤ s.ticks) :
    s.chopOffEnd a ph = s.modAxis a fun x => x.phaseOn s.ticks ph := by
  unfold State.chopOffEnd
  extract_lets x c
  rw [if_neg]
  simp only [Bool.or_eq_true, decide_eq_true_eq, ne_eq, not_or, not_not, not_lt]
  exact ⟨off, due⟩

/-- The axis as an ON period of `t_on_max` ends, the given number of them in a row. -/
def Axis.onMaxEnded (t : Nat) (ph : Phase) (run : Nat) (x : Axis) : Axis :=
  (x.setChop ph { x.chop ph with onMax := sat16 ((x.chop ph).onMax + 1), onMaxRun := run }).phaseOff t ph

theorem onMaxEnded_chop (x : Axis) (t run : Nat) : ((x.onMaxEnded t ph run).chop ph).st = .off
    ∧ ((x.onMaxEnded t ph run).chop ph).since = t
    ∧ ((x.onMaxEnded t ph run).chop ph).onMax = sat16 ((x.chop ph).onMax + 1) := by
  obtain ⟨st, since, count⟩ := phaseOff_chop
    (x.setChop ph { x.chop ph with onMax := sat16 ((x.chop ph).onMax + 1), onMaxRun := run }) ph t
  rw [chop_setChop] at count
  exact ⟨st, since, count⟩

theorem chop_drvFlag (x : Axis) (bit : Nat) : (x.drvFlag bit).chop ph = x.chop ph := by cases ph <;> rfl

/-- An ON period of `t_on_max` ends as a trip and is counted, whether a coil shows open by it or not (R174). -/
theorem chopOnMax_sets (on : ((s.axes[a].phaseSync s.ticks ph).chop ph).st = .on)
    (due : ((s.axes[a].phaseSync s.ticks ph).chop ph).since + s.axes[a].drive.chop.tOnMax ≤ s.ticks) :
    ∃ run y, s.Sets a y (s.chopOnMax a ph)
      ∧ y.chop ph = ((s.axes[a].phaseSync s.ticks ph).onMaxEnded s.ticks ph run).chop ph := by
  unfold State.chopOnMax
  extract_lets synced x c run ended
  have x_eq : x = s.axes[a].phaseSync s.ticks ph := axes_set_same _ _ _
  have ends : s.Sets a (x.onMaxEnded s.ticks ph run) ended := by
    rw [x_eq]
    dsimp only [ended, c]
    rw [x_eq]
    exact ((State.Sets.self a s).modAxis _).modAxis _
  rw [if_neg]
  · cases decide (run = 64) with
    | false => exact ⟨run, _, ends, by rw [x_eq]⟩
    | true => exact ⟨run, _, (ends.drvFlag _).then_rig (rig_event _ _ _ _ _ _ _ _), by rw [chop_drvFlag, x_eq]⟩
  · simp only [Bool.or_eq_true, decide_eq_true_eq, ne_eq, not_or, not_not, not_lt]
    dsimp only [c]
    rw [x_eq, chopCfg_phaseSync]
    exact ⟨on, due⟩

end

end Sys2Proof.Machine

namespace Sys2Proof.Machine

/-! ## What leaves the next fault number as it was -/

section
variable (g : Fin 4) (s : State)

theorem ldg_stirred {s u : State} (h : s.Stirred u) : u.ldg = s.ldg := by
  obtain ⟨_, _, _, _, rfl⟩ := h
  rfl

theorem ldg_sendGate : s.sendGate.ldg = s.ldg := by
  obtain ⟨_, h⟩ := sendGate_form s
  rw [h]

theorem ldg_governAxis (a : Fin 12) (v : Rat) : (s.governAxis g a v).ldg = s.ldg := by
  unfold State.governAxis
  split
  · rfl
  · dsimp only
    split
    · rfl
    · split <;> rfl

theorem ldg_stopGroup : (s.stopGroup g).ldg = s.ldg := by
  unfold State.stopGroup
  split
  · rfl
  · dsimp only
    split
    · exact (ldg_governAxis g _ _ _).trans (ldg_governAxis g s _ _)
    · exact ldg_governAxis g s _ _

theorem ldg_sbAgain : (s.sbAgain g).ldg = s.ldg := by
  have ends : (s.endHold g).ldg = s.ldg := by
    unfold State.endHold
    split
    · rfl
    · exact each_keeps (g := State.ldg) (fun _ _ => by rfl) _ s
  exact (ldg_stopGroup g _).trans ends

theorem ldg_switchback (cause : Nat) (ax : Option (Fin 12 × Bool)) : (s.switchback g cause ax).ldg = s.ldg := by
  unfold State.switchback
  dsimp only
  split
  · rfl
  · split
    · rfl
    · split
      · split
        · rfl
        · split
          · rfl
          · split
            · exact ldg_sbAgain g _
            · rfl
      · exact (ldg_sendGate _).trans ((ldg_stopGroup g _).trans ((ldg_stirred (fire_stirred _ _ _)).trans rfl))

/-- What a group makes of the standstill of one of its axes opens no fault. -/
theorem ldg_axisStandstill (a : Fin 12) (byStop : Bool) : (s.axisStandstill a byStop).ldg = s.ldg := by
  unfold State.axisStandstill
  extract_lets go
  have acts (g : Fin 4) (u : State) : (go g u).ldg = u.ldg := by
    dsimp only [go]
    split
    · rfl
    · split
      · exact when_keeps (g := State.ldg) (ldg_switchback g u 3 _) _
      · split
        · exact each_keeps (g := State.ldg) (fun _ _ => by rfl) _ u
        · rfl
  split
  · split
    · split
      · exact acts _ s
      · rfl
    · rfl
  · exact acts _ s
  · rfl

theorem faultNext_logged {s u : State} (h : s.Logged u) : u.ldg.faultNext = s.ldg.faultNext := by
  obtain ⟨_, _, rfl, -, next⟩ := h
  exact next

theorem faultNext_finish (q : DWord) (st : BitVec 16) (d r f : BitVec 32) (b : List (Nat × List Byte)) :
    (s.finish q st d r f b).ldg.faultNext = s.ldg.faultNext := by
  unfold State.finish
  split
  · rfl
  · next x _ =>
    split
    · rfl
    · dsimp only
      split
      · rfl
      · generalize hu : (if x.kind = .unledgered then _ else State.appendEntry _ _ : State) = u
        have told : u.ldg.faultNext = s.ldg.faultNext := by
          rw [← hu]
          split
          · rfl
          · exact (faultNext_logged (appendEntry_logged _ _)).trans rfl
        split
        · split <;> exact told
        · exact told

theorem faultNext_deviceEvent (b : BlockId) (st : BitVec 16) (d r f : BitVec 32) (a : DWord) (l : List Byte) :
    (s.deviceEvent b st d r f a l).ldg.faultNext = s.ldg.faultNext :=
  (congrArg Ledger.faultNext (ldg_stirred (eventIn_stirred _ _ _))).trans (faultNext_logged (device_logged _ _ _ _ _ _ s))

theorem faultNext_endWaiting (a : Fin 12) (st : BitVec 16) (d f : BitVec 32) :
    (s.endWaiting a st d f).ldg.faultNext = s.ldg.faultNext :=
  each_keeps (g := fun u => u.ldg.faultNext) (fun q u => faultNext_finish u q st d _ f []) _ _

end

end Sys2Proof.Machine

namespace Sys2Proof.Machine

/-! ## A bridge fault (07 R180) -/

/-- The axis as the level of its fault input is. -/
def Axis.fltSeen (low : Bool) (x : Axis) : Axis := { x with drive.fltLow := low }

/-- What is kept of a motion depends on the motion, on its gearing, and on a stop of it that goes on. -/
theorem kept_keep_congr {x y : Axis} (st : y.st = x.st) (move : y.move = x.move) (kept : y.kept = x.kept) (gear : y.gear = x.gear) :
    y.keep.kept = x.keep.kept := by
  unfold Axis.keep
  rw [st, move, kept, gear]
  split
  · rfl
  · cases x.move.kind with
    | none | homing => exact kept
    | position | velocity | governed => rfl
    | geared =>
      cases x.gear with
      | none => exact kept
      | some g => rfl

/-- The axis as a bridge fault is taken. -/
def Axis.bridgeLost (t : Nat) (x : Axis) : Axis :=
  { x.bridgesOff with st := .fault, positionLost := true, faultCause := 2, drive.faultTick := some t }

/-- An axis in FAULT with its bridges off, at a place and with a motion kept. -/
structure Axis.BridgeFault (pos : Int) (kept : Option Kept) (x : Axis) : Prop where
  fault : x.st = .fault
  lost : x.positionLost = true
  cause : x.faultCause = 2
  off : x.drive.en = false
  rests : x.plan = none
  place : x.pos = pos
  keeps : x.kept = kept

theorem bridgeLost_fault (x : Axis) (t : Nat) : (x.halted.bridgeLost t).BridgeFault x.pos x.keep.kept :=
  ⟨rfl, rfl, rfl, rfl, rfl, pos_of_odometer (odometer_halted x), rfl⟩

section
variable {a : Fin 12} {s : State} {t : Nat}

/-- A bridge fault under its number, the standstill that a group takes notice of and the routes aside. -/
def State.bridgeNoted (a : Fin 12) (s : State) : State :=
  let x := s.axes[a]
  let joined := (x.drive.stalled.filter fun f => f.1 = s.ticks).map Prod.snd
  let no := joined.getD s.ldg.faultNext
  let u := ((s.modAxis a (Axis.fltSeen true)).haltAxis a).modAxis a (Axis.bridgeLost s.ticks)
  let u := (u.when joined.isNone State.takeFault).when (s.followStall x && x.st ≠ .fault) fun u => u.drvFlag a 0
  let u := ((((u.drvFlag a 2).drvFlag a 6).fire (.ax a) 3).endWaiting a 0x0302 0x0311 no).when (x.st = .homing) fun u =>
    u.axisFlag a 9
  (u.modAxis a fun x => { x with move := Move.none }).deviceEvent (.ax a) 0x0302 0x0311 0 no 0 []

theorem bridgeFault_of_level (fitted : s.fittedBlock (.ax a) = true) :
    s.bridgeFault a false = s.modAxis a (Axis.fltSeen false) := by
  unfold State.bridgeFault
  dsimp only
  rw [fitted, if_neg (by decide), if_pos (by simp)]
  rfl

theorem bridgeFault_eq (fitted : s.fittedBlock (.ax a) = true) (filtered : s.axes[a].drive.chop.flags.testBit 1 = true)
    (taken : s.axes[a].st ≠ .disabled ∧ s.axes[a].st ≠ .parked) (settled : s.axes[a].waits.settle = none) :
    s.bridgeFault a true = ((s.bridgeNoted a).axisStandstill a false).sysRoutes := by
  unfold State.bridgeFault
  dsimp only
  rw [fitted, if_neg (by decide), if_neg]
  · rfl
  · rw [filtered, settled]
    simp only [Bool.or_eq_true, Bool.and_eq_true, decide_eq_true_eq, not_or, not_and]
    exact ⟨⟨⟨⟨by decide, by decide⟩, taken.1⟩, fun parked => absurd parked taken.2⟩, by decide⟩

theorem bridgeNoted_sets (a : Fin 12) (s : State) :
    ∃ y, s.Sets a y (s.bridgeNoted a) ∧ y.BridgeFault s.axes[a].pos s.axes[a].keep.kept := by
  unfold State.bridgeNoted
  extract_lets x joined no lost flagged ended
  have lost_sets : s.Sets a ((s.axes[a].fltSeen true).halted.bridgeLost s.ticks) (lost.when joined.isNone State.takeFault) :=
    ((((State.Sets.self a s).modAxis _).modAxis Axis.halted).modAxis _).then_rig (rig_when (rig_takeFault _) _)
  have fault := bridgeLost_fault (s.axes[a].fltSeen true) s.ticks
  rw [kept_keep_congr (x := s.axes[a]) (y := s.axes[a].fltSeen true) rfl rfl rfl rfl] at fault
  obtain ⟨y, flagged_sets, fault⟩ : ∃ y, s.Sets a y flagged ∧ y.BridgeFault s.axes[a].pos s.axes[a].keep.kept := by
    dsimp only [flagged]
    cases s.followStall x && x.st ≠ .fault with
    | false => exact ⟨_, lost_sets, fault⟩
    | true => exact ⟨_, lost_sets.drvFlag 0, { fault with }⟩
  have freed := (((flagged_sets.drvFlag 2).drvFlag 6).then_rig (rig_fire _ (.ax a) 3)).endWaiting 0x0302 0x0311 no
  have fault : ((y.drvFlag 2).drvFlag 6).freed.BridgeFault s.axes[a].pos s.axes[a].keep.kept := { fault with }
  obtain ⟨z, ended_sets, fault⟩ : ∃ z, s.Sets a z ended ∧ z.BridgeFault s.axes[a].pos s.axes[a].keep.kept := by
    dsimp only [ended]
    cases decide (x.st = .homing) with
    | false => exact ⟨_, freed, fault⟩
    | true => exact ⟨_, freed.axisFlag 9, { fault with }⟩
  exact ⟨_, (ended_sets.modAxis _).then_rig (rig_deviceEvent _ _ _ _ _ _ _ _), { fault with }⟩

/-- A bridge fault takes the next fault number, where no stall of the same tick has taken one (R180). -/
theorem bridgeNoted_faultNext (alone : ∀ f, s.axes[a].drive.stalled = some f → f.1 ≠ s.ticks) :
    (s.bridgeNoted a).ldg.faultNext = s.takeFault.ldg.faultNext := by
  have none_joined : (s.axes[a].drive.stalled.filter fun f => f.1 = s.ticks) = none :=
    Option.filter_eq_none_iff.2 fun f stalled => by simpa using alone f stalled
  unfold State.bridgeNoted
  dsimp only
  rw [none_joined]
  refine (faultNext_deviceEvent _ _ _ _ _ _ _ _).trans ?_
  refine (when_keeps (g := fun u : State => u.ldg.faultNext) rfl _).trans ((faultNext_endWaiting _ _ _ _ _).trans ?_)
  refine (congrArg Ledger.faultNext (ldg_stirred (fire_stirred _ _ _))).trans ?_
  exact when_keeps (g := fun u : State => u.ldg.faultNext) rfl _

theorem bridgeFault_falls (live : s.Live) (fitted : s.fittedBlock (.ax a) = true)
    (filtered : s.axes[a].drive.chop.flags.testBit 1 = true)
    (drives : s.axes[a].st = .idle ∨ s.axes[a].st = .moving ∨ s.axes[a].st = .stopping ∨ s.axes[a].st = .geared)
    (settled : s.axes[a].waits.settle = none) : Answers (.bridgeFault t a true) s fun u =>
      u.axes[a].BridgeFault s.axes[a].pos s.axes[a].keep.kept
        ∧ ((∀ f, s.axes[a].drive.stalled = some f → f.1 ≠ (s.advance t).ticks) →
          u.ldg.faultNext = s.takeFault.ldg.faultNext) := by
  have taken : s.axes[a].st ≠ .disabled ∧ s.axes[a].st ≠ .parked := by
    rcases drives with h | h | h | h <;> rw [h] <;> decide
  obtain ⟨y, sets, fault⟩ := bridgeNoted_sets a (s.advance t)
  refine answers_of_settled live rfl ?_
  rw [bridgeFault_eq (s := s.advance t) fitted filtered taken settled, settle_axes, settle_ldg, sysRoutes_axes,
    ldg_stirred (sysRoutes_stirred _), ldg_axisStandstill]
  have rests : ((s.advance t).bridgeNoted a).axes[a].st = .fault := by rw [sets.axis_eq]; exact fault.fault
  refine ⟨?_, bridgeNoted_faultNext (s := s.advance t)⟩
  rw [(axisStandstill_driven a false _).2 a (by rw [rests]; decide) (by rw [rests]; decide), sets.axis_eq]
  exact fault

end

end Sys2Proof.Machine

namespace Sys2Proof.Machine

/-! ## What a switchback leaves of the waits of every axis (05 R118 to R125) -/

/-- What waits on each axis. -/
def State.waiting (s : State) : Vector AxisWaits 12 := s.axes.map Axis.waits

section
variable {s u : State}

theorem waits_of_waiting (h : u.waiting = s.waiting) (a : Fin 12) : u.axes[a].waits = s.axes[a].waits := by
  have := congrArg (fun v : Vector AxisWaits 12 => v[a]) h
  simpa [State.waiting] using this

theorem waiting_of_axes (h : u.axes = s.axes) : u.waiting = s.waiting := congrArg (Vector.map Axis.waits) h

theorem waiting_modAxis {a : Fin 12} {f : Axis → Axis} (h : (f s.axes[a]).waits = s.axes[a].waits) :
    (s.modAxis a f).waiting = s.waiting := by
  refine Vector.ext fun k hk => ?_
  unfold State.waiting
  by_cases e : (a : Nat) = k
  · subst e
    simpa using h
  · simp [e]

end

section
variable (g : Fin 4) (s : State)

theorem axes_sbStopped : (s.sbStopped g).axes = s.axes := by
  unfold State.sbStopped
  split
  · split
    · unfold State.sbStop
      split
      · exact each_keeps (g := State.axes) (fun _ _ => by rfl) _ _
      · rfl
    · rfl
  · rfl

theorem axes_sbHold : (s.sbHold g).axes = s.axes := by
  unfold State.sbHold
  split
  · next b _ =>
    split
    · dsimp only
      split
      · exact (State.modGroup_axes _ _ _).trans (axes_of_rig (rig_sbHold_ports g s b))
      · exact axes_of_rig (rig_sbHold_ports g s b)
    · rfl
  · rfl

theorem waiting_sbRewind : (s.sbRewind g).waiting = s.waiting := by
  unfold State.sbRewind
  split
  · next c _ _ _ =>
    extract_lets down here pb marked ignoring ax ramp v
    have same : ignoring.axes = s.axes := (State.modGroup_axes _ _ marked).trans
      (each_keeps (g := State.axes) (fun _ _ => by rfl) _ s)
    split
    · exact waiting_of_axes same
    · refine (waiting_modAxis ?_).trans (waiting_of_axes same)
      generalize ignoring.axes[c.master] = x
      dsimp only
      obtain ⟨_, _, _, planned⟩ := movePlan_planned x ignoring.ticks _ v ramp.1 ramp.2
      rw [planned]
      split
      · obtain ⟨_, _, _, switched⟩ := setCur_switched _ ignoring.ticks x.drive.lev.iRun
        rw [switched]
      · rfl
  · rfl

theorem axes_sbForward : (s.sbForward g).axes = s.axes := by
  unfold State.sbForward
  split
  · split
    · exact (State.modGroup_axes _ _ _).trans (each_keeps (g := State.axes) (fun _ _ => by rfl) _ s)
    · rfl
  · rfl

theorem waiting_sbAdvance : (s.sbAdvance g).waiting = s.waiting := by
  have back (u : State) : (u.sbBack g).waiting = u.waiting := by
    unfold State.sbBack
    split
    · split
      · exact waiting_sbRewind g u
      · rfl
    · rfl
  unfold State.sbAdvance
  split
  · exact waiting_of_axes (axes_sbHold g s)
  · refine (waiting_of_axes (axes_sbForward g _)).trans ((back _).trans (waiting_of_axes ?_))
    exact (axes_sbHold g _).trans (axes_sbStopped g s)

theorem waiting_sbAdvanceAll : s.sbAdvanceAll.waiting = s.waiting :=
  each_keeps (g := State.waiting) waiting_sbAdvance allGroups s

end

/-! ## An axis whose bridges have settled (07 R180) -/

section
variable (x : Axis) (t : Nat)

theorem settle_begin : (x.begin t).waits.settle = x.waits.settle := by
  obtain ⟨_, _, begun, -⟩ := begin_driving x t
  rw [begun]

theorem settle_movePlan (d : Int) (V A J : Nat) : (x.movePlan t d V A J).waits.settle = x.waits.settle := by
  obtain ⟨_, _, _, planned⟩ := movePlan_planned x t d V A J
  rw [planned]

theorem settle_velPlan (v : Int) (A J : Nat) : (x.velPlan t v A J).waits.settle = x.waits.settle := by
  obtain ⟨_, _, _, planned⟩ := velPlan_planned x t v A J
  rw [planned]

theorem settle_homeStop (step : Nat) : (x.homeStop t step).waits.settle = x.waits.settle := by
  obtain ⟨_, _, _, planned⟩ := stopPlan_planned x t x.lim.a x.lim.j
  unfold Axis.homeStop
  dsimp only
  rw [planned]

/-- A guarded plan says whether the move brakes for a soft limit; nothing else that waits on the axis changes. -/
theorem settle_velGuarded (v : Int) (A J : Nat) : (x.velGuarded t v A J).waits.settle = x.waits.settle := by
  unfold Axis.velGuarded
  dsimp only
  split
  · exact settle_velPlan x t v A J
  · exact settle_movePlan x t _ _ A J

theorem settle_goesOn (m : Move) (seq : Option DWord) : (x.goesOn t m seq).waits.settle = x.waits.settle := by
  unfold Axis.goesOn
  dsimp only
  rw [settle_begin, settle_movePlan]

/-- The axis as a kept move at a velocity goes on. -/
def Axis.velGoesOn (t : Nat) (m : Move) (seq : Option DWord) (x : Axis) : Axis :=
  { (x.velGuarded t m.vel m.a m.j).begin t with st := .moving, waits.seq := seq, move := m }

theorem settle_velGoesOn (m : Move) (seq : Option DWord) : (x.velGoesOn t m seq).waits.settle = x.waits.settle := by
  unfold Axis.velGoesOn
  dsimp only
  rw [settle_begin, settle_velGuarded]

theorem settle_engaged (count : Int) (e : Fin 8) (ratio : Int) (sync : Nat) (seq : Option DWord) :
    (x.engaged t count e ratio sync seq).waits.settle = x.waits.settle := by
  unfold Axis.engaged
  exact settle_begin x t

end

/-- Nothing waits for the bridges of the axis to settle. -/
def State.Settled (a : Fin 12) (s : State) : Prop := s.axes[a].waits.settle = none

section
variable {a : Fin 12} {s u : State} {k : Kept} {seq : Option DWord}

theorem resumeKept_of_none (kept : s.axes[a].kept = none) : s.resumeKept a seq = s := by
  unfold State.resumeKept
  dsimp only
  rw [kept]

theorem resumeKept_of_velocity (kept : s.axes[a].kept = some k) (kind : k.move.kind = .velocity) :
    s.resumeKept a seq = (((s.modAxis a Axis.released).modAxis a
      (Axis.velGoesOn s.ticks (k.move.within s.axes[a].lim) seq)).restIfStill a) := by
  unfold State.resumeKept
  dsimp only
  rw [kept]
  dsimp only
  rw [kind]
  unfold Axis.velGoesOn Axis.released
  dsimp only [State.modAxis_ticks]

theorem resumeKept_of_geared (kept : s.axes[a].kept = some k) (kind : k.move.kind = .geared) :
    s.resumeKept a seq = match k.gear with
      | some g => (s.modAxis a Axis.released).engage a g.1 g.2.1 g.2.2 seq
      | none => (s.modAxis a Axis.released).finishAll seq.toList 0 0 0 := by
  unfold State.resumeKept
  dsimp only
  rw [kept]
  dsimp only
  rw [kind]
  rfl

/-- Where what is kept is no motion to go on with, the command ends. -/
theorem resumeKept_of_other (kept : s.axes[a].kept = some k) (position : k.move.kind ≠ .position)
    (velocity : k.move.kind ≠ .velocity) (geared : k.move.kind ≠ .geared) :
    s.resumeKept a seq = ((((s.modAxis a Axis.released).modAxis a fun x => x.begin s.ticks).modAxis a fun x =>
      { x with move := Move.none }).finishAll seq.toList 0 0 0).sbAdvanceAll := by
  unfold State.resumeKept
  dsimp only
  rw [kept]
  dsimp only
  split
  · contradiction
  · contradiction
  · contradiction
  · rfl

namespace State.Settled

theorem of_rig (h : s.Settled a) (same : u.rig = s.rig) : u.Settled a := by
  unfold State.Settled
  rw [axes_of_rig same]
  exact h

theorem modAxis (h : s.Settled a) {f : Axis → Axis}
    (keeps : ∀ x, (f x).waits.settle = x.waits.settle ∨ (f x).waits.settle = none) : (s.modAxis a f).Settled a := by
  unfold State.Settled
  rw [State.modAxis_axes, axes_set_same]
  exact (keeps _).elim (fun same => same.trans h) id

theorem sbAdvanceAll (h : s.Settled a) : s.sbAdvanceAll.Settled a := by
  unfold State.Settled
  rw [waits_of_waiting (waiting_sbAdvanceAll s)]
  exact h

theorem axisFlag (h : s.Settled a) (bit : Nat) : (s.axisFlag a bit).Settled a := h.modAxis fun _ => .inl rfl

theorem moveDone (h : s.Settled a) : (s.moveDone a).Settled a := (h.axisFlag 0).of_rig (rig_fire _ _ _)

theorem finish (h : s.Settled a) (q : DWord) (st : BitVec 16) (d r : BitVec 32) : (s.finish q st d r).Settled a :=
  h.of_rig (rig_finish _ _ _ _ _ _ _)

theorem finishAll (h : s.Settled a) (l : List DWord) (st : BitVec 16) (d r : BitVec 32) : (s.finishAll l st d r).Settled a :=
  h.of_rig (rig_finishAll _ _ _ _ _)

theorem homeEnd (h : s.Settled a) (st : BitVec 16) (d : BitVec 32) : (s.homeEnd a st d).Settled a := by
  unfold State.homeEnd
  split
  · exact h
  · next hm _ =>
    extract_lets ended told stops answered
    have ended_settled : ended.Settled a := h.modAxis fun x => by
      dsimp only
      split
      · obtain ⟨_, _, _, switched⟩ := energise_switched
          { x with home := none, st := .idle, move := Move.none, plan := none, waits.settle := none } s.ticks
        exact .inr (by rw [switched])
      · exact .inr rfl
    have answered_settled : answered.Settled a := ((ended_settled.finish hm.seq st d 0).axisFlag 9).modAxis fun _ => .inl rfl
    refine moveDone (finishAll ?_ _ _ _ _)
    cases decide (st = 0x0300) with
    | false => exact answered_settled
    | true => exact answered_settled.axisFlag 2

theorem homeDone (h : s.Settled a) : (s.homeDone a).Settled a := by
  unfold State.homeDone
  split
  · exact h
  · refine sbAdvanceAll (moveDone (finish (h.modAxis fun x => ?_) _ _ _ _))
    obtain ⟨_, aligned⟩ := alignEncoder_form s x
    rw [aligned]
    exact .inl rfl

theorem homeRun (h : s.Settled a) (t step v : Nat) (positive : Bool) :
    (s.modAxis a fun x => x.homeRun t step v positive).Settled a :=
  h.modAxis fun x => .inl (settle_velPlan x t _ _ _)

theorem homeRest (h : s.Settled a) : (s.homeRest a).Settled a := by
  unfold State.homeRest
  dsimp only
  split
  · exact h
  split
  · exact h.homeEnd _ _
  split
  · exact homeDone (h.modAxis fun _ => .inl rfl)
  split
  · exact h.homeRun _ _ _ _
  split
  · exact h.homeRun _ _ _ _
  split
  · exact h.homeDone
  · exact h

/-- A homing that begins with a stop goes on at once where its axis is still. -/
theorem homeStop (h : s.Settled a) (step : Nat) :
    let u := s.modAxis a fun x => { x.homeStop s.ticks step with st := .homing }
    (if u.axes[a].plan.isNone then u.homeRest a else u).Settled a := by
  have stopped : (s.modAxis a fun x => { x.homeStop s.ticks step with st := .homing }).Settled a :=
    h.modAxis fun x => .inl (settle_homeStop x s.ticks step)
  dsimp only
  split
  · exact stopped.homeRest
  · exact stopped

theorem runHome (h : s.Settled a) : (s.runHome a).Settled a := by
  have begun : (s.modAxis a fun x => x.begin s.ticks).Settled a :=
    h.modAxis fun x => .inl (settle_begin x s.ticks)
  unfold State.runHome State.startHome
  dsimp only
  split
  · exact begun
  split
  · exact begun.homeStop 1
  split
  · exact begun.homeStop 3
  · exact begun.homeRun _ _ _ _

/-- A move that is at its end leaves nothing to settle. -/
theorem restIfStill (h : s.Settled a) (moving : s.axes[a].st = .moving) : (s.restIfStill a).Settled a := by
  have rested : (s.modAxis a Axis.rested).Settled a := h.modAxis fun _ => .inl rfl
  unfold State.restIfStill
  split
  · by_cases own : s.axes[a].move.kind = .governed
    · rw [axisRest_of_governed moving own]
      exact sbAdvanceAll (rested.modAxis fun _ => .inl rfl)
    · cases soft : s.axes[a].waits.soft with
      | true =>
        rw [axisRest_of_soft moving own soft]
        refine moveDone (of_rig (axisFlag (axisFlag (finishAll ?_ _ _ _ _) 2) 2) (rig_event _ _ _ _ _ _ _ _))
        exact rested.modAxis fun _ => .inl rfl
      | false =>
        rw [axisRest_of_moving moving own soft]
        extract_lets x u r
        have ended : u.Settled a := rested.modAxis fun _ => .inl rfl
        split
        · exact ((ended.finishAll _ _ _ _).axisFlag 2).moveDone
        · exact (ended.finishAll _ _ _ _).moveDone
  · exact h

theorem resumeKept (h : s.Settled a) (seq : Option DWord) : (s.resumeKept a seq).Settled a := by
  have released : (s.modAxis a Axis.released).Settled a := h.modAxis fun _ => .inl rfl
  cases kept : s.axes[a].kept with
  | none => rwa [resumeKept_of_none kept]
  | some k =>
    by_cases position : k.move.kind = .position
    · rw [resumeKept_of_position kept position]
      exact restIfStill (released.modAxis fun x => .inl (settle_goesOn x _ _ seq)) (congrArg Axis.st (axes_set_same _ _ _))
    by_cases velocity : k.move.kind = .velocity
    · rw [resumeKept_of_velocity kept velocity]
      exact restIfStill (released.modAxis fun x => .inl (settle_velGoesOn x _ _ seq)) (congrArg Axis.st (axes_set_same _ _ _))
    by_cases geared : k.move.kind = .geared
    · rw [resumeKept_of_geared kept geared]
      split
      · rw [engage_eq]
        exact of_rig (released.modAxis fun x => .inl (settle_engaged x _ _ _ _ _ seq)) (rig_engage_tail _ _ _)
      · exact released.finishAll _ _ _ _
    · rw [resumeKept_of_other kept position velocity geared]
      have begun := released.modAxis (f := fun x => x.begin s.ticks) fun x => .inl (settle_begin x s.ticks)
      have ended := begun.modAxis (f := fun x => { x with move := Move.none }) fun _ => .inl rfl
      exact (ended.finishAll seq.toList 0 0 0).sbAdvanceAll

end State.Settled

end

end Sys2Proof.Machine

namespace Sys2Proof.Machine

section
variable {a : Fin 12} {s : State} {t due : Nat} {what : AfterSettle}

/-- The axis with its bridges settled. -/
def Axis.settledDown (x : Axis) : Axis := { x with waits.settle := none }

/-- The axis as its current comes up from zero at a wake. -/
def Axis.wakes (t ramp : Nat) (x : Axis) : Axis := (x.rampCur t ramp 0 x.drive.lev.iHold).energise t

/-- The time that the current takes to come up. -/
def Axis.wakeRamp (x : Axis) : Nat :=
  match x.waits.park with
  | some k => k.ramp
  | none => 0

/-- The axis as its bridges are energised for a restart of the motion kept. -/
def Axis.restarts (t : Nat) (x : Axis) : Axis := { (x.setCur t x.drive.lev.iRun).energise t with waits.seq := none }

/-- A wake energises the bridges where the axis stands. -/
theorem wakes_fields (x : Axis) (ramp : Nat) : (x.wakes t ramp).waits.settle = x.waits.settle ∧ (x.wakes t ramp).drive.en = true
    ∧ (x.wakes t ramp).pos = x.pos := by
  obtain ⟨_, _, _, synced⟩ := sync_switched x t
  obtain ⟨_, _, _, energised⟩ := energise_switched (x.rampCur t ramp 0 x.drive.lev.iHold) t
  unfold Axis.wakes
  rw [energised]
  unfold Axis.rampCur
  rw [synced]
  exact ⟨rfl, rfl, rfl⟩

theorem settle_energised (x : Axis) (n : Nat) : ((x.setCur t n).energise t).waits.settle = x.waits.settle := by
  obtain ⟨_, _, _, set⟩ := setCur_switched x t n
  obtain ⟨_, _, _, energised⟩ := energise_switched (x.setCur t n) t
  rw [energised, set]

/-- Once `en_settle` is over nothing waits for it, whatever it was for; a wake leaves the axis where it stands (R180). -/
theorem enSettleDone_settles (waits : s.axes[a].waits.settle = some (due, what)) (now : due ≤ s.ticks) :
    (s.enSettleDone a).axes[a].waits.settle = none
      ∧ (what = .wake → (s.enSettleDone a).axes[a].drive.en = true ∧ (s.enSettleDone a).axes[a].pos = s.axes[a].pos) := by
  have settled : (s.modAxis a Axis.settledDown).Settled a := congrArg (fun x : Axis => x.waits.settle) (axes_set_same _ _ _)
  unfold State.enSettleDone
  dsimp only
  rw [waits]
  dsimp only
  rw [if_neg (Nat.not_lt.2 now)]
  cases what with
  | resume =>
    have energised := settled.modAxis (f := Axis.restarts s.ticks) fun x => .inl (settle_energised x x.drive.lev.iRun)
    exact ⟨energised.resumeKept _, nofun⟩
  | home =>
    have energised := settled.modAxis fun x => .inl (settle_energised (t := s.ticks) x x.drive.lev.iRun)
    exact ⟨energised.runHome, nofun⟩
  | wake =>
    have wakes := ((State.Sets.self a s).modAxis Axis.settledDown).modAxis (Axis.wakes s.ticks s.axes[a].wakeRamp)
    obtain ⟨settle, on, place⟩ := wakes_fields (t := s.ticks) s.axes[a].settledDown s.axes[a].wakeRamp
    have after := wakes.axis_eq
    refine ⟨(congrArg (fun x : Axis => x.waits.settle) after).trans settle, fun _ => ?_⟩
    exact ⟨(congrArg (fun x : Axis => x.drive.en) after).trans on, (congrArg Axis.pos after).trans place⟩

/-! ## Parking and waking (07 R182) -/

/-- The axis as its park ramp ends, at the count of its encoder. -/
def Axis.parks (k : Parking) (count : Int) (x : Axis) : Axis :=
  let x := { x with st := .parked, waits.park := none
                    drive.parked := { powerOff := k.powerOff, idx := x.index, valid := true, pos := x.pos, enc := count } }
  if k.powerOff then x.bridgesOff else x

theorem parkRampDone_sets {k : Parking} (parking : s.axes[a].waits.park = some k) (ended : s.axes[a].rampDone s.ticks = true)
    (down : k.waking = false) : s.Sets a (s.axes[a].parks k (s.linkedCount s.axes[a])) (s.parkRampDone a) := by
  unfold State.parkRampDone
  dsimp only
  rw [parking]
  dsimp only
  rw [down, ended, if_neg (by decide)]
  exact ((State.Sets.self a s).modAxis fun x => x.parks k (s.linkedCount x)).then_rig (rig_finishOk _ _ _)

/-- The axis is PARKED where it is, with its bridges as the command asks. -/
theorem parks_fields (x : Axis) (k : Parking) (count : Int) : (x.parks k count).st = .parked
    ∧ (x.parks k count).waits.park = none ∧ (x.parks k count).drive.parked.valid = true
    ∧ (x.parks k count).drive.parked.pos = x.pos ∧ (x.parks k count).drive.parked.idx = x.index
    ∧ (x.parks k count).drive.en = (x.drive.en && !k.powerOff) := by
  unfold Axis.parks
  cases k.powerOff with
  | true => exact ⟨rfl, rfl, rfl, rfl, rfl, (Bool.and_false _).symm⟩
  | false => exact ⟨rfl, rfl, rfl, rfl, rfl, (Bool.and_true _).symm⟩

/-- The axis as its wake ramp ends, moved meanwhile or not. -/
def Axis.awake (moved : Bool) (x : Axis) : Axis :=
  { x with st := .idle, waits.park := none, drive.parked.powerOff := false, positionLost := x.positionLost || moved }

/-- A wake leaves the axis idle where it was; its position is lost only to an encoder that says so. -/
theorem wakeRampDone_sets {k : Parking} (parking : s.axes[a].waits.park = some k) (ended : s.axes[a].rampDone s.ticks = true)
    (up : k.waking = true) (settled : s.axes[a].waits.settle = none) :
    ∃ moved d, s.Sets a { s.axes[a].awake moved with drive := d } (s.wakeRampDone a)
      ∧ (s.axes[a].cfg.enc = none → moved = false) := by
  unfold State.wakeRampDone
  dsimp only
  rw [parking]
  dsimp only
  rw [up, ended, settled, if_neg (by decide)]
  generalize found : (s.axes[a].cfg.enc.isSome && _ && _ : Bool) = moved
  have awake := (State.Sets.self a s).modAxis (Axis.awake moved)
  have unlinked : s.axes[a].cfg.enc = none → moved = false := fun free => by rw [← found, free]; rfl
  cases moved with
  | true => exact ⟨_, _, (awake.drvFlag 5).then_rig (rig_finish _ _ _ _ _ _ _), unlinked⟩
  | false => exact ⟨_, _, awake.then_rig (rig_finishOk _ _ _), unlinked⟩

/-! ## The current at rest, and a load sample (07 R175, R176) -/

theorem holdCurrentDelay_of_due (delay : s.axes[a].drive.lev.holdDelay ≠ 0)
    (due : s.axes[a].steps.last + s.axes[a].drive.lev.holdDelay * 1500000 ≤ s.ticks) (enabled : s.axes[a].st ≠ .disabled)
    (unparked : s.axes[a].st ≠ .parked) (steady : s.axes[a].waits.park = none)
    (above : s.axes[a].drive.lev.iHold < s.axes[a].drive.cur.hi) :
    s.holdCurrentDelay a = s.modAxis a fun x => x.rampCur s.ticks 24000000 (x.drive.cur.now s.ticks) x.drive.lev.iHold := by
  unfold State.holdCurrentDelay
  extract_lets x l
  rw [if_neg]
  · dsimp only [l, x]
    unfold State.modAxis
    rfl
  · simp only [Bool.or_eq_true, decide_eq_true_eq, not_or, not_lt, not_le]
    exact ⟨⟨⟨⟨⟨delay, due⟩, enabled⟩, unparked⟩, by rw [show x.waits.park = none from steady]; decide⟩, above⟩

@[simp] theorem settle_madc (s0 s : State) : (s0.settle s).madc = s.madc := by
  obtain ⟨_, _, _, h⟩ := settle_form s0 s
  rw [h]

/-- The urgent requests and the axes. -/
def State.requests (s : State) : List Urgent × Vector Axis 12 := (s.madc.urgent, s.axes)

theorem requests_finish (q : DWord) (st : BitVec 16) (d r : BitVec 32) (s : State) : (s.finish q st d r).requests = s.requests := by
  obtain ⟨_, _, _, _, _, h⟩ := finish_form q st d r s 0 []
  rw [h]
  rfl

/-- A request joins the urgent requests after those of others, and no axis changes. -/
theorem askUrgent_requests (u : Urgent) (s : State) :
    (s.askUrgent u).requests = (s.urgentTake.madc.urgent.filter (fun x => x.who ≠ u.who) ++ [u], s.axes) := by
  unfold State.askUrgent
  dsimp only
  split
  · rfl
  · refine (each_keeps (g := State.requests) (fun q v => ?_) _ _).trans rfl
    exact requests_finish q _ _ _ v

theorem loadRequest_asks {t0 : Nat} {ph : Phase} {v : Rat} (wait : s.axes[a].drive.load.wait = some (t0, ph, v))
    (fresh : s.axes[a].drive.load.asked = false) (due : t0 + s.axes[a].drive.ld.zc ≤ s.ticks) :
    (s.loadRequest a).axes[a].drive.load.asked = true
      ∧ (s.loadRequest a).madc.urgent.getLast? = some { who := .axis a, input := 2 * a.val + (if ph = .a then 0 else 1)
                                                        raw := false, due := s.ticks, seq := none } := by
  unfold State.loadRequest
  dsimp only
  rw [wait]
  dsimp only
  rw [fresh, if_neg (by simpa using due)]
  generalize asks : Urgent.mk _ _ _ _ _ = u
  have requests := askUrgent_requests u (s.modAxis a fun x => { x with drive.load.asked := true })
  constructor
  · rw [show State.axes _ = _ from congrArg Prod.snd requests, State.modAxis_axes, axes_set_same]
  · rw [show Madc.urgent _ = _ from congrArg Prod.fst requests]
    exact List.getLast?_concat

end

end Sys2Proof.Machine

namespace Sys2Proof.Machine

/-- Settles O55: a period of the chopper changes its phase alone; a bridge fault takes a fault number (log entry 26), unless a
stall of the same tick has taken one, and leaves the axis in FAULT where it stands, which no group's answer to its standstill
undoes; whatever follows `en_settle` leaves nothing to settle; the ramps of a parking end as its command asked. -/
theorem drivesFollowTheirRules : Obligations.DrivesFollowTheirRules := by
  unfold Obligations.DrivesFollowTheirRules
  intro s t a live
  refine ⟨?chopper, ?fault, ?settling, ?parking, ?hold, ?sample⟩
  case chopper =>
    intro ph
    refine ⟨fun on blanking due => ⟨?_, ?_⟩, fun on blanked => ?_, fun off due => ?_, fun on due => ?_⟩
    · exact answers_of_modAxis live rfl (chopBlankEnd_of_due (s := s.advance t) (trip := false) on blanking due)
    · have ends := answers_of_modAxis (c := .chopBlankEnd t a ph true) live rfl
        (chopBlankEnd_of_due (s := s.advance t) (trip := true) on blanking due)
      rwa [blankEnded_of_trip] at ends
    · exact answers_of_modAxis live rfl (chopTrip_of_on (s := s.advance t) on blanked)
    · exact answers_of_modAxis live rfl (chopOffEnd_of_due (s := s.advance t) off due)
    · obtain ⟨run, y, sets, chop⟩ := chopOnMax_sets (s := s.advance t) on due
      obtain ⟨off, since, count⟩ := onMaxEnded_chop (ph := ph) (s.axes[a].phaseSync (s.advance t).ticks ph)
        (s.advance t).ticks run
      refine answers_of_settled live rfl ?_
      rw [settle_axes, sets.axis_eq, chop]
      exact ⟨off, since, count, fun k other => sets.other_eq other⟩
  case fault =>
    intro fitted filtered
    refine ⟨answers_of_modAxis live rfl (bridgeFault_of_level (s := s.advance t) fitted), fun drives settled => ?_⟩
    refine (bridgeFault_falls live fitted filtered drives settled).imp fun u ⟨next, falls, number⟩ => ⟨next, ?_⟩
    exact ⟨falls.fault, falls.lost, falls.cause, falls.off, falls.rests, falls.place, falls.keeps, number⟩
  case settling =>
    intro due what waits now
    refine answers_of_settled live rfl ?_
    rw [settle_axes]
    exact enSettleDone_settles (s := s.advance t) waits now
  case parking =>
    intro k parking ended
    refine ⟨fun down => ?_, fun up settled => ?_⟩
    · refine answers_of_settled live rfl ?_
      rw [settle_axes, (parkRampDone_sets (s := s.advance t) parking ended down).axis_eq]
      exact parks_fields _ _ _
    · obtain ⟨moved, d, sets, linked⟩ := wakeRampDone_sets (s := s.advance t) parking ended up settled
      refine answers_of_settled live rfl ?_
      rw [settle_axes, sets.axis_eq]
      refine ⟨rfl, rfl, rfl, fun free => ?_⟩
      rw [linked free]
      exact Bool.or_false _
  case hold =>
    intro delay due enabled unparked steady above
    exact answers_of_modAxis live rfl (holdCurrentDelay_of_due (s := s.advance t) delay due enabled unparked steady above)
  case sample =>
    intro t0 ph v wait fresh due
    obtain ⟨asked, last⟩ := loadRequest_asks (s := s.advance t) wait fresh due
    refine answers_of_settled live rfl ?_
    rw [settle_axes, settle_madc]
    exact ⟨asked, _, last, rfl, rfl, rfl⟩

end Sys2Proof.Machine

namespace Sys2Proof.Machine

/-! ## Sequences, and the cores that take urgent requests (08 R191, R193, R194) -/

/-- The second converter is the first after cores have taken urgent requests: a sequence is late by the time of an
interruption at most, a core goes on with the sequence that it ran, and no request joins. -/
structure Madc.Took (m n : Madc) : Prop where
  form : ∃ l v w, n = { m with urgent := l, seqs := v, cores := w }
  seqs : ∀ q : Fin 16, { n.seqs[q] with nextTick := m.seqs[q].nextTick } = m.seqs[q]
  runs : ∀ k : Fin 2, n.cores[k].run.map MadcRun.seq = m.cores[k].run.map MadcRun.seq
  asked : ∀ u ∈ n.urgent, u ∈ m.urgent

theorem seqs_set_same (v : Vector MadcSeq 16) (q : Fin 16) (x : MadcSeq) : (v.set q x)[q] = x := by simp

theorem seqs_set_other {q i : Fin 16} (h : i ≠ q) (v : Vector MadcSeq 16) (x : MadcSeq) : (v.set q x)[i] = v[i] := by
  simp [Fin.val_ne_of_ne h.symm]

theorem seqs_set_apply (v : Vector MadcSeq 16) (q i : Fin 16) (x : MadcSeq) :
    (v.set q x)[i] = if i = q then x else v[i] := by
  split
  · next h => rw [h, seqs_set_same]
  · next h => exact seqs_set_other h v x

theorem seqs_set_own (v : Vector MadcSeq 16) (q : Fin 16) : v.set q v[q] = v := Vector.set_getElem_self ..

theorem cores_set_same (v : Vector MadcCore 2) (k : Fin 2) (c : MadcCore) : (v.set k c)[k] = c := by simp

theorem cores_set_other {k i : Fin 2} (h : i ≠ k) (v : Vector MadcCore 2) (c : MadcCore) : (v.set k c)[i] = v[i] := by
  simp [Fin.val_ne_of_ne h.symm]

namespace Madc.Took

theorem refl (m : Madc) : m.Took m := ⟨⟨_, _, _, rfl⟩, fun _ => rfl, fun _ => rfl, fun _ h => h⟩

theorem trans {m n o : Madc} (h : m.Took n) (h' : n.Took o) : m.Took o where
  form := by
    obtain ⟨_, _, _, first⟩ := h.form
    obtain ⟨_, _, _, second⟩ := h'.form
    exact ⟨_, _, _, by rw [second, first]⟩
  seqs q := (congrArg (fun x : MadcSeq => { x with nextTick := m.seqs[q].nextTick }) (h'.seqs q)).trans (h.seqs q)
  runs k := (h'.runs k).trans (h.runs k)
  asked u hu := h.asked u (h'.asked u hu)

section
variable {m n : Madc} (h : m.Took n)
include h

theorem armed (q : Fin 16) : n.seqs[q].armed = m.seqs[q].armed := (congrArg MadcSeq.armed (h.seqs q) :)
theorem pend (q : Fin 16) : n.seqs[q].pend = m.seqs[q].pend := (congrArg MadcSeq.pend (h.seqs q) :)
theorem entries (q : Fin 16) : n.seqs[q].entries = m.seqs[q].entries := (congrArg MadcSeq.entries (h.seqs q) :)
theorem stops (q : Fin 16) : n.seqs[q].stops = m.seqs[q].stops := (congrArg MadcSeq.stops (h.seqs q) :)

theorem isSome_run (k : Fin 2) : n.cores[k].run.isSome = m.cores[k].run.isSome := by
  rw [← Option.isSome_map (f := MadcRun.seq), h.runs, Option.isSome_map]

theorem run_of_some {k : Fin 2} {y : MadcRun} (run : n.cores[k].run = some y) :
    ∃ x, m.cores[k].run = some x ∧ x.seq = y.seq := by
  have same := h.runs k
  rw [run] at same
  exact Option.map_eq_some_iff.1 same.symm

theorem run_of_none {k : Fin 2} (idle : m.cores[k].run = none) : n.cores[k].run = none := by
  have same := h.runs k
  rw [idle] at same
  exact Option.map_eq_none_iff.1 same

end

end Madc.Took

theorem interrupted_seq (m : Madc) (b : Nat) (r : MadcRun) : (m.interrupted b r).seq = r.seq := by
  unfold Madc.interrupted
  split <;> rfl

/-- A core that takes a request interrupts its run, and the period of a PERIODIC sequence that it runs is late by that. -/
theorem take_took (m : Madc) (u : Urgent) (k : Fin 2) (b : Nat) : m.Took (m.take u k b) where
  form := ⟨_, _, _, rfl⟩
  seqs q := by
    unfold Madc.take
    simp only [Fin.getElem_fin, Vector.getElem_ofFn]
    split <;> rfl
  runs i := by
    by_cases own : i = k
    · subst own
      refine (congrArg (fun c : MadcCore => c.run.map MadcRun.seq) (cores_set_same _ _ _)).trans ?_
      exact (Option.map_map ..).trans (congrArg (Option.map · _) (funext (interrupted_seq m b)))
    · exact congrArg (fun c : MadcCore => c.run.map MadcRun.seq) (cores_set_other own _ _)
  asked _ hu := List.mem_of_mem_erase hu

theorem takeOldest_took (m : Madc) (now : Nat) : m.Took (m.takeOldest now) := by
  unfold Madc.takeOldest
  split
  · exact Madc.Took.refl m
  · split
    · split
      · exact take_took m _ _ _
      · exact Madc.Took.refl m
    · exact Madc.Took.refl m

/-- Of the converter, urgent requests that cores take change no more than `Madc.Took` says. -/
theorem urgentTake_took (s : State) : s.madc.Took s.urgentTake.madc :=
  (takeOldest_took s.madc s.ticks).trans (takeOldest_took _ s.ticks)

/-- A sequence runs where the core of one has a run of it. -/
theorem seqRunning_congr {s u : State}
    (runs : ∀ k : Fin 2, u.madc.cores[k].run.map MadcRun.seq = s.madc.cores[k].run.map MadcRun.seq) (q : Fin 16) :
    u.seqRunning q = s.seqRunning q := by
  have told (v : State) : v.seqRunning q =
      (List.finRange 2).any fun k => (v.madc.cores[k].run.map MadcRun.seq).any (· == q) := by
    refine congrArg (List.any _) (funext fun k => ?_)
    cases v.madc.cores[k].run <;> rfl
  rw [told, told]
  exact congrArg (List.any _) (funext fun k => by rw [runs])

theorem seqRunning_urgentTake (s : State) (q : Fin 16) : s.urgentTake.seqRunning q = s.seqRunning q :=
  seqRunning_congr (urgentTake_took s).runs q

/-! ## Triggers while both cores are busy (08 R191) -/

/-- Both cores run a sequence. -/
def State.BothBusy (s : State) : Prop := ∀ k : Fin 2, s.madc.cores[k].run.isSome = true

/-- The second state is the first with the sequences `v`, and with events of the converter. -/
def State.Recounted (s u : State) (v : Vector MadcSeq 16) : Prop := ∃ e, u = { s with madc.seqs := v, madc.evt := e }

section
variable {s u w : State} {q : Fin 16} {v x : Vector MadcSeq 16}

theorem State.BothBusy.urgentTake (busy : s.BothBusy) : s.urgentTake.BothBusy := fun k =>
  ((urgentTake_took s).isSome_run k).trans (busy k)

theorem State.Recounted.trans (h : s.Recounted u v) (h' : u.Recounted w x) : s.Recounted w x := by
  obtain ⟨_, rfl⟩ := h
  obtain ⟨e, rfl⟩ := h'
  exact ⟨e, rfl⟩

theorem State.Recounted.self (s : State) : s.Recounted s s.madc.seqs := ⟨s.madc.evt, rfl⟩

theorem modSeq_recounted (q : Fin 16) (f : MadcSeq → MadcSeq) (s : State) :
    s.Recounted (s.modSeq q f) (s.madc.seqs.set q (f s.madc.seqs[q])) := ⟨s.madc.evt, rfl⟩

theorem coreStart_of_busy {k : Fin 2} (busy : s.madc.cores[k].run.isSome = true) : s.coreStart k = s := if_pos busy

/-- The sequence takes a trigger: it is armed, and the last one is not of the same or the preceding tick. -/
def MadcSeq.counts (x : MadcSeq) (now : Nat) : Bool :=
  x.armed && match x.lastTrig with
    | some t => decide (t + 1 < now)
    | none => true

theorem triggered_of_counts {x : MadcSeq} {now : Nat} (counts : x.counts now = true) (running : Bool) :
    x.triggered running now =
      if x.pend then { x with lastTrig := some now, missed := if running then sat16 (x.missed + 1) else x.missed }
      else { x with lastTrig := some now, pend := true } := if_pos counts

theorem triggered_of_deaf {x : MadcSeq} {now : Nat} (deaf : x.counts now = false) (running : Bool) :
    x.triggered running now = x := if_neg (Bool.eq_false_iff.1 deaf)

/-- What a trigger does that its sequence takes. -/
def State.triggerTaken (q : Fin 16) (s : State) : State :=
  let u := s.modSeq q fun x => { x with lastTrig := some s.ticks }
  if s.madc.seqs[q].pend then
    u.when (u.seqRunning q) fun s => (s.modSeq q fun x => { x with missed := sat16 (x.missed + 1) }).setEvt .madc 3
  else (u.modSeq q fun x => { x with pend := true }).coreStart (Fin.ofNat 2 s.madc.seqs[q].core)

theorem seqTrigger_eq (q : Fin 16) (s : State) :
    s.seqTrigger q = if s.madc.seqs[q].counts s.ticks then s.triggerTaken q else s := by
  unfold State.seqTrigger
  extract_lets x same
  have heard : x.counts s.ticks = (x.armed && !same) := by
    dsimp only [same, MadcSeq.counts]
    cases x.lastTrig with
    | none => rfl
    | some t => simp [← decide_not]
  clear_value same
  rw [heard]
  cases x.armed <;> cases same <;> rfl

theorem modSeq_modSeq (q : Fin 16) (f g : MadcSeq → MadcSeq) (s : State) :
    (s.modSeq q f).modSeq q g = s.modSeq q fun x => g (f x) := by
  simp [State.modSeq]

theorem modSeq_seqRunning (i q : Fin 16) (f : MadcSeq → MadcSeq) (s : State) :
    (s.modSeq i f).seqRunning q = s.seqRunning q := rfl

/-- A trigger that finds both cores busy counts on its sequence, and starts nothing. -/
theorem seqTrigger_of_busy (busy : s.BothBusy) (q : Fin 16) :
    s.Recounted (s.seqTrigger q) (s.madc.seqs.set q (s.madc.seqs[q].triggered (s.seqRunning q) s.ticks)) := by
  rw [seqTrigger_eq]
  cases counts : s.madc.seqs[q].counts s.ticks with
  | false =>
    rw [triggered_of_deaf counts, if_neg (by decide)]
    exact ⟨s.madc.evt, by rw [seqs_set_own]⟩
  | true =>
    rw [triggered_of_counts counts, if_pos rfl]
    unfold State.triggerTaken
    dsimp only
    split
    · rw [modSeq_seqRunning]
      cases s.seqRunning q with
      | false => exact ⟨s.madc.evt, rfl⟩
      | true => exact ⟨setBit s.madc.evt 3, congrArg (State.setEvt .madc 3) (modSeq_modSeq q _ _ s)⟩
    · rw [coreStart_of_busy (by exact busy _), modSeq_modSeq]
      exact modSeq_recounted q _ s

/-- Each of some sequences is changed once: what each step makes of its own sequence is what all make of it. -/
theorem each_recounts {f : Fin 16 → State → State} {g : Fin 16 → MadcSeq → MadcSeq}
    (step : ∀ q v u, s.Recounted u v → u.Recounted (f q u) (v.set q (g q v[q]))) {l : List (Fin 16)} (once : l.Nodup)
    (start : s.Recounted u v) :
    ∃ x, s.Recounted (u.each l f) x ∧ ∀ q : Fin 16, (q ∈ l → x[q] = g q v[q]) ∧ (q ∉ l → x[q] = v[q]) := by
  induction l generalizing u v with
  | nil => exact ⟨v, start, fun q => ⟨nofun, fun _ => rfl⟩⟩
  | cons a l ih =>
    obtain ⟨fresh, rest⟩ := List.nodup_cons.1 once
    obtain ⟨x, recounted, seqs⟩ := ih rest (start.trans (step a v u start))
    refine ⟨x, recounted, fun q => ⟨fun mem => ?_, fun out => ?_⟩⟩
    · by_cases own : q = a
      · subst own
        rw [(seqs q).2 fresh, seqs_set_same]
      · rw [(seqs q).1 ((List.mem_cons.1 mem).resolve_left own), seqs_set_other own]
    · obtain ⟨own, out⟩ := not_or.1 (fun h => out (List.mem_cons.2 h))
      rw [(seqs q).2 out, seqs_set_other own]

end

end Sys2Proof.Machine

namespace Sys2Proof.Machine

/-! ## What the commands of the converter leave as it was -/

/-- The second state is the first but for the converter. -/
def State.ConverterOnly (s u : State) : Prop := u = { s with madc := u.madc }

section
variable {sp : PacketSpec} {p : Packet} {r : Ring} {s u v : State}

theorem State.ConverterOnly.refl (s : State) : s.ConverterOnly s := rfl

theorem State.ConverterOnly.trans (h : s.ConverterOnly u) (h' : u.ConverterOnly v) : s.ConverterOnly v :=
  Eq.trans h' (congrArg (fun x : State => { x with madc := v.madc }) h)

theorem State.Recounted.only {x : Vector MadcSeq 16} (h : s.Recounted u x) : s.ConverterOnly u := by
  obtain ⟨_, rfl⟩ := h
  rfl

theorem State.ConverterOnly.desk (h : s.ConverterOnly u) : u.desk = s.desk := by
  rw [h]
  rfl

@[simp] theorem entered_madc : (s.entered sp p r).madc = s.madc := by
  obtain ⟨_, _, _, _, _, h, -⟩ := entered_form sp p r s
  rw [h]
  rfl

theorem entered_urgentTake : (s.entered sp p r).urgentTake.madc = (s.advance p.tick).urgentTake.madc := by
  unfold State.urgentTake
  rw [entered_madc, entered_ticks]
  rfl

theorem State.Booked.with_madc (h : s.Booked u) (m : Madc) : ({ s with madc := m } : State).Booked { u with madc := m } := by
  obtain ⟨c, l, w, rs, d, k, rfl, spilled⟩ := h
  exact ⟨c, l, w, rs, d, k, rfl, spilled⟩

/-- An accepted command whose effect is the converter `m`, and a reply or none, leaves the rest, in order, as it was. -/
theorem Accepts.ordered_converter (h : Accepts sp p s r) {m : Madc}
    (run : sp.run p r.secure s.acceptSeq (s.entered sp p r) = v)
    (booked : ({ s.advance p.tick with madc := m } : State).Booked v) :
    s.ordered ((s.advance p.tick).settle v) = s.ordered { s.advance p.tick with madc := m } := by
  obtain ⟨c, l, w, rs, d, k, form, spilled⟩ := booked
  have own : s.posted ++ w = w := by rw [h.live.posted, List.nil_append]
  have key := act_ordered h.live p.tick (State.packet sp p)
  rw [act_eq_settle h.live.running, h.packet_eq, run, form] at key
  rw [form, key fun x hx => spilled x (own ▸ hx), ← h.live.posted]
  rfl

/-- An accepted command whose effect on the converter is `v`'s, answered at once. -/
theorem Accepts.answers_converter (h : Accepts sp p s r) {c : Instr} (hc : exec c s = .next (s.act p.tick (State.packet sp p)))
    (only : (s.entered sp p r).ConverterOnly v) {res : BitVec 32}
    (run : sp.run p r.secure s.acceptSeq (s.entered sp p r) = v.finishOk s.acceptSeq res) :
    Answers c s fun u => RepliesOk sp p r s u res ∧ s.ordered u = s.ordered { s.advance p.tick with madc := v.madc } := by
  have carries : s.Carries sp p r v := h.carries_entered.of_desk only.desk
  have booked : ({ s.advance p.tick with madc := v.madc } : State).Booked v := by
    have entered := (booked_entered sp p r s).with_madc v.madc
    rwa [← only] at entered
  exact h.answers hc run ⟨carries.repliesOk res, h.ordered_converter run (booked.finish carries res)⟩

/-- What holds in order holds of the converter. -/
theorem madc_of_ordered (h : s.ordered u = s.ordered v) : u.madc = v.madc := (congrArg State.madc h :)

/-- The rest is as it was, whatever the converter. -/
theorem ordered_but_converter {m : Madc} (h : s.ordered u = s.ordered { v with madc := m }) :
    s.ordered { u with madc := s.madc } = s.ordered { v with madc := s.madc } :=
  congrArg (fun x : State => { x with madc := s.madc }) h

end

/-! ## MADC_SEQUENCE (08 R190, R201) -/

section
variable {p : Packet} {r : Ring} {s u : State}

/-- The sequence with the fields of the command's block. -/
def MadcSeq.configured (p : Packet) (x : MadcSeq) : MadcSeq :=
  let l := p.params
  { x with core := u8 l 1, mode := u8 l 2, entries := madcEntries p, pins := u8 l 4, edges := u8 l 5, wm := (u8 l 6).testBit 0
           queue := (u8 l 6).testBit 1, period := u32 l 8, last := List.replicate (u8 l 3) 0 }

theorem madcSequence_number (h : Accepts madcSequenceSpec p s r) : u8 p.params 0 < 16 := by
  obtain ⟨-, passed⟩ := firstFail_cons.1 h.checked
  obtain ⟨fields, -⟩ := firstFail_cons.1 passed
  have ok := (Bool.or_eq_false_iff.1 fields).1
  simp only [madcSequenceOk, Bool.not_eq_false', Bool.and_eq_true, decide_eq_true_eq] at ok
  omega

/-- MADC_SEQUENCE sets the fields of one sequence. -/
theorem madcSequence_sets (h : Accepts madcSequenceSpec p s r) : Answers (.madcSequence p) s fun u =>
    RepliesOk madcSequenceSpec p r s u 0 ∧ s.ordered u = s.ordered { s.advance p.tick with madc := { s.madc with
      seqs := s.madc.seqs.set (Fin.ofNat 16 (u8 p.params 0)) (s.madc.seqs[Fin.ofNat 16 (u8 p.params 0)].configured p) } } := by
  have answers := h.answers_converter (c := .madcSequence p) rfl (res := 0)
    (v := (s.entered madcSequenceSpec p r).modSeq (Fin.ofNat 16 (u8 p.params 0)) (MadcSeq.configured p)) rfl rfl
  simpa only [State.modSeq_madc, entered_madc] using answers

end

/-! ## MADC_START (08 R191, R202) -/

section
variable {p : Packet} {r : Ring} {s u v : State} {q : Fin 16}

theorem mem_maskSeqs {m : Nat} : q ∈ maskSeqs m ↔ m.testBit q.val = true := by simp [maskSeqs]

theorem nodup_maskSeqs (m : Nat) : (maskSeqs m).Nodup := (List.nodup_finRange 16).filter _

/-- The sequence armed at a tick. -/
def MadcSeq.armedAt (now : Nat) (x : MadcSeq) : MadcSeq :=
  { x with armed := true, lastTrig := none, nextTick := now + x.period }

theorem madcAction_arms (act : u8 p.params 2 = 0) (seq : DWord) (u : State) : u.madcAction p seq =
    (u.each (maskSeqs (u16 p.params 0)) fun q s => s.modSeq q (MadcSeq.armedAt s.ticks)).finishOk seq 0 := by
  unfold State.madcAction
  dsimp only
  rw [act]
  rfl

theorem madcAction_triggers (act : u8 p.params 2 = 1) (seq : DWord) (u : State) : u.madcAction p seq =
    (u.urgentTake.each (maskSeqs (u16 p.params 0)) State.seqTrigger).finishOk seq 0 := by
  unfold State.madcAction
  dsimp only
  rw [act]
  rfl

theorem madcAction_disarms (act : u8 p.params 2 = 2) (seq : DWord) (u : State)
    (idle : ∀ q ∈ maskSeqs (u16 p.params 0),
      (u.each (maskSeqs (u16 p.params 0)) fun q s => s.modSeq q MadcSeq.disarmed).seqRunning q = false) :
    u.madcAction p seq = (u.each (maskSeqs (u16 p.params 0)) fun q s => s.modSeq q MadcSeq.disarmed).finishOk seq 0 := by
  unfold State.madcAction
  dsimp only
  rw [act]
  exact if_pos (List.isEmpty_iff.2 (List.filter_eq_nil_iff.2 fun q mem => Bool.eq_false_iff.1 (idle q mem)))

theorem madcAction_aborts (act : u8 p.params 2 = 3) (seq : DWord) (u : State) : u.madcAction p seq =
    (u.each (maskSeqs (u16 p.params 0)) State.seqAbort).finishOk seq 0 := by
  unfold State.madcAction
  dsimp only
  rw [act]
  rfl

theorem madcAction_binds (act : u8 p.params 2 = 4) (seq : DWord) (u : State) : u.madcAction p seq =
    State.finishOk seq 0 { u with madc.q.ring := u16 p.params 4, madc.q.thresh := u16 p.params 6 } := by
  unfold State.madcAction
  dsimp only
  rw [act]
  rfl

/-- A command that changes each of some sequences once, and is answered at once. -/
theorem Accepts.answers_recounted {sp : PacketSpec} (h : Accepts sp p s r) {c : Instr}
    (hc : exec c s = .next (s.act p.tick (State.packet sp p))) (only : (s.entered sp p r).ConverterOnly u)
    {f : Fin 16 → State → State} {g : Fin 16 → MadcSeq → MadcSeq}
    (step : ∀ q x w, u.Recounted w x → w.Recounted (f q w) (x.set q (g q x[q]))) {l : List (Fin 16)} (once : l.Nodup)
    (run : sp.run p r.secure s.acceptSeq (s.entered sp p r) = (u.each l f).finishOk s.acceptSeq 0) :
    Answers c s fun v => RepliesOk sp p r s v 0 ∧ v.madc.cores = u.madc.cores
      ∧ ∀ q : Fin 16, (q ∈ l → v.madc.seqs[q] = g q u.madc.seqs[q]) ∧ (q ∉ l → v.madc.seqs[q] = u.madc.seqs[q]) := by
  obtain ⟨x, counted, seqs⟩ := each_recounts step once (State.Recounted.self u)
  refine (h.answers_converter hc (only.trans counted.only) run).imp fun v ⟨next, reply, rest⟩ => ⟨next, reply, ?_⟩
  obtain ⟨_, form⟩ := counted
  rw [madc_of_ordered rest, form]
  exact ⟨rfl, seqs⟩

/-- MADC_START of action 0 arms the sequences named. -/
theorem madcStart_arms (h : Accepts madcStartSpec p s r) (act : u8 p.params 2 = 0) : Answers (.madcStart p) s fun u =>
    RepliesOk madcStartSpec p r s u 0 ∧ u.madc.cores = s.madc.cores
      ∧ ∀ q : Fin 16, ((u16 p.params 0).testBit q.val = true →
          u.madc.seqs[q] = s.madc.seqs[q].armedAt (s.advance p.tick).ticks)
        ∧ (¬ (u16 p.params 0).testBit q.val = true → u.madc.seqs[q] = s.madc.seqs[q]) := by
  have answers := h.answers_recounted (c := .madcStart p) rfl (State.ConverterOnly.refl _)
    (g := fun _ => MadcSeq.armedAt (s.entered madcStartSpec p r).ticks)
    (by rintro q v u ⟨_, rfl⟩; exact ⟨_, rfl⟩) (nodup_maskSeqs _) (madcAction_arms act _ _)
  simpa only [mem_maskSeqs, entered_madc, entered_ticks] using answers

/-- MADC_START of action 1 is a trigger of each sequence named. -/
theorem madcStart_triggers (h : Accepts madcStartSpec p s r) (act : u8 p.params 2 = 1) (busy : s.BothBusy) :
    Answers (.madcStart p) s fun u => RepliesOk madcStartSpec p r s u 0
      ∧ u.madc.cores = (s.advance p.tick).urgentTake.madc.cores
      ∧ ∀ q : Fin 16, ((u16 p.params 0).testBit q.val = true → u.madc.seqs[q] =
          (s.advance p.tick).urgentTake.madc.seqs[q].triggered (s.seqRunning q) (s.advance p.tick).ticks)
        ∧ (¬ (u16 p.params 0).testBit q.val = true → u.madc.seqs[q] = (s.advance p.tick).urgentTake.madc.seqs[q]) := by
  have taken : (s.entered madcStartSpec p r).BothBusy := by
    unfold State.BothBusy
    rwa [entered_madc]
  have running (q : Fin 16) : (s.entered madcStartSpec p r).urgentTake.seqRunning q = s.seqRunning q :=
    (seqRunning_urgentTake _ q).trans (seqRunning_congr (fun k => by rw [entered_madc]) q)
  have answers := h.answers_recounted (c := .madcStart p) rfl (u := (s.entered madcStartSpec p r).urgentTake) rfl
    (g := fun q x => x.triggered (s.seqRunning q) (s.entered madcStartSpec p r).ticks)
    (by
      rintro q x w ⟨_, rfl⟩
      rw [← running q]
      exact seqTrigger_of_busy (by exact taken.urgentTake) q)
    (nodup_maskSeqs _) (madcAction_triggers act _ _)
  simpa only [mem_maskSeqs, entered_urgentTake, entered_ticks] using answers

/-- MADC_START of action 2 disarms the sequences named, at once where none of them runs. -/
theorem madcStart_disarms (h : Accepts madcStartSpec p s r) (act : u8 p.params 2 = 2)
    (idle : ∀ q : Fin 16, (u16 p.params 0).testBit q.val = true → s.seqRunning q = false) :
    Answers (.madcStart p) s fun u => RepliesOk madcStartSpec p r s u 0 ∧ u.madc.cores = s.madc.cores
      ∧ ∀ q : Fin 16, ((u16 p.params 0).testBit q.val = true → u.madc.seqs[q] = s.madc.seqs[q].disarmed)
        ∧ (¬ (u16 p.params 0).testBit q.val = true → u.madc.seqs[q] = s.madc.seqs[q]) := by
  have step (q : Fin 16) (x : Vector MadcSeq 16) (w : State) (so : (s.entered madcStartSpec p r).Recounted w x) :
      w.Recounted (w.modSeq q MadcSeq.disarmed) (x.set q x[q].disarmed) := by
    obtain ⟨_, rfl⟩ := so
    exact modSeq_recounted q _ _
  have still (q : Fin 16) (mem : q ∈ maskSeqs (u16 p.params 0)) : ((s.entered madcStartSpec p r).each
      (maskSeqs (u16 p.params 0)) fun q s => s.modSeq q MadcSeq.disarmed).seqRunning q = false := by
    obtain ⟨_, ⟨_, form⟩, -⟩ := each_recounts step (nodup_maskSeqs (u16 p.params 0)) (State.Recounted.self _)
    rw [form]
    exact (seqRunning_congr (fun k => by rw [entered_madc]) q).trans (idle q (mem_maskSeqs.1 mem))
  have answers := h.answers_recounted (c := .madcStart p) rfl (State.ConverterOnly.refl _) step (nodup_maskSeqs _)
    (madcAction_disarms act _ _ still)
  simpa only [mem_maskSeqs, entered_madc] using answers

/-- MADC_START of action 4 binds the queue to a ring and sets its threshold. -/
theorem madcStart_binds (h : Accepts madcStartSpec p s r) (act : u8 p.params 2 = 4) : Answers (.madcStart p) s fun u =>
    RepliesOk madcStartSpec p r s u 0
      ∧ u.madc = { s.madc with q := { s.madc.q with ring := u16 p.params 4, thresh := u16 p.params 6 } } := by
  refine (h.answers_converter (c := .madcStart p) rfl (by exact rfl) (madcAction_binds act _ _)).imp
    fun v ⟨next, reply, rest⟩ => ⟨next, reply, ?_⟩
  rw [madc_of_ordered rest]
  dsimp only
  rw [entered_madc]

end

/-! ### Aborted sequences (08 R202) -/

/-- No trigger reaches the sequence, it waits for no core, and no core runs it. -/
structure Madc.Quiet (m : Madc) (q : Fin 16) : Prop where
  disarmed : m.seqs[q].armed = false
  unasked : m.seqs[q].pend = false
  idle : ∀ (k : Fin 2) (x : MadcRun), m.cores[k].run = some x → x.seq ≠ q

/-- The second state is the first but for the converter, in which a quiet sequence stays quiet, and no command begins to wait
for the end of a run. -/
structure State.Abates (s u : State) : Prop where
  only : s.ConverterOnly u
  quiet : ∀ q, s.madc.Quiet q → u.madc.Quiet q
  stops : ∀ q : Fin 16, s.madc.seqs[q].stops = [] → u.madc.seqs[q].stops = []

section
variable {s u v : State} {q : Fin 16}

theorem State.Abates.refl (s : State) : s.Abates s := ⟨rfl, fun _ h => h, fun _ h => h⟩

theorem State.Abates.trans (h : s.Abates u) (h' : u.Abates v) : s.Abates v :=
  ⟨h.only.trans h'.only, fun q quiet => h'.quiet q (h.quiet q quiet), fun q stops => h'.stops q (h.stops q stops)⟩

theorem abates_urgentTake (s : State) : s.Abates s.urgentTake where
  only := rfl
  quiet q quiet := by
    have took := urgentTake_took s
    refine ⟨(took.armed q).trans quiet.disarmed, (took.pend q).trans quiet.unasked, fun k x run => ?_⟩
    obtain ⟨y, before, same⟩ := took.run_of_some run
    exact same ▸ quiet.idle k y before
  stops q h := ((urgentTake_took s).stops q).trans h

theorem abates_modSeq {f : MadcSeq → MadcSeq} (armed : ∀ x, x.armed = false → (f x).armed = false)
    (pend : ∀ x, x.pend = false → (f x).pend = false) (stops : ∀ x, x.stops = [] → (f x).stops = []) (s : State) :
    s.Abates (s.modSeq q f) where
  only := rfl
  quiet i quiet := by
    by_cases own : i = q
    · subst own
      refine ⟨?_, ?_, quiet.idle⟩ <;> rw [State.modSeq_madc, seqs_set_same]
      · exact armed _ quiet.disarmed
      · exact pend _ quiet.unasked
    · refine ⟨?_, ?_, quiet.idle⟩ <;> rw [State.modSeq_madc, seqs_set_other own]
      · exact quiet.disarmed
      · exact quiet.unasked
  stops i h := by
    by_cases own : i = q
    · subst own
      rw [State.modSeq_madc, seqs_set_same]
      exact stops _ h
    · rw [State.modSeq_madc, seqs_set_other own]
      exact h

/-- Cores that begin no run leave every sequence as quiet as it was. -/
theorem abates_cores {w : Vector MadcCore 2}
    (runs : ∀ (k : Fin 2) (x : MadcRun), w[k].run = some x → s.madc.cores[k].run = some x) :
    s.Abates { s with madc.cores := w } :=
  ⟨rfl, fun _ quiet => ⟨quiet.disarmed, quiet.unasked, fun k x run => quiet.idle k x (runs k x run)⟩, fun _ h => h⟩

theorem boundary_run (c : MadcCore) : c.boundary.run = c.run := by
  unfold MadcCore.boundary
  split <;> rfl

theorem seqWaiting_pend {k : Fin 2} (waits : s.seqWaiting k = some q) : s.madc.seqs[q].pend = true := by
  unfold State.seqWaiting at waits
  have both := List.find?_some waits
  exact (Bool.and_eq_true_iff.1 both).1

/-- A free core starts no quiet sequence. -/
theorem abates_coreStart (k : Fin 2) (s : State) : s.Abates (s.coreStart k) := by
  unfold State.coreStart
  split
  · exact State.Abates.refl s
  · split
    · refine abates_cores fun i x run => ?_
      by_cases own : i = k
      · subst own
        rwa [cores_set_same, boundary_run] at run
      · rwa [cores_set_other own] at run
    · next a waits =>
      have pend := seqWaiting_pend waits
      have begun := abates_modSeq (q := a) (f := fun x => { x with pend := false }) (fun _ h => h) (fun _ _ => rfl)
        (fun _ h => h) s
      refine ⟨rfl, fun q quiet => ?_, begun.stops⟩
      have other : a ≠ q := by
        rintro rfl
        exact absurd (pend.symm.trans quiet.unasked) (by decide)
      have quiet := begun.quiet q quiet
      refine ⟨quiet.disarmed, quiet.unasked, fun i x run => ?_⟩
      rw [State.modCore_madc] at run
      by_cases own : i = k
      · subst own
        rw [cores_set_same] at run
        obtain rfl := Option.some.inj run
        exact other
      · rw [cores_set_other own] at run
        exact quiet.idle i x run

/-- The core without a run of the sequence. -/
def MadcCore.aborted (q : Fin 16) (c : MadcCore) : MadcCore :=
  { c with run := c.run.bind fun r => if r.seq = q then none else some r }

theorem run_of_aborted {c : MadcCore} {x : MadcRun} (run : (c.aborted q).run = some x) : c.run = some x ∧ x.seq ≠ q := by
  obtain ⟨y, before, after⟩ := Option.bind_eq_some_iff.1 run
  split at after
  · cases after
  · next other =>
    obtain rfl := Option.some.inj after
    exact ⟨before, other⟩

theorem run_of_all_aborted {w : Vector MadcCore 2} {k : Fin 2} {x : MadcRun}
    (run : (w.map (MadcCore.aborted q))[k].run = some x) : w[k].run = some x ∧ x.seq ≠ q := by
  rw [Fin.getElem_fin, Vector.getElem_map] at run
  exact run_of_aborted run

/-- The cores without a run of the sequence. -/
def State.runsDropped (q : Fin 16) (s : State) : State := { s with madc.cores := s.madc.cores.map (MadcCore.aborted q) }

theorem runsDropped_abates (q : Fin 16) (s : State) : s.Abates (s.runsDropped q) :=
  abates_cores fun _ _ run => (run_of_all_aborted run).1

/-- A disarmed sequence whose runs are dropped is quiet. -/
theorem runsDropped_quiet (disarmed : s.madc.seqs[q].armed = false) (unasked : s.madc.seqs[q].pend = false) :
    (s.runsDropped q).madc.Quiet q := ⟨disarmed, unasked, fun _ _ run => (run_of_all_aborted run).2⟩

/-- Commands wait for the end of no run of the sequence: there is none to answer. -/
theorem seqStops_of_nil (stops : s.madc.seqs[q].stops = []) :
    s.seqStops q = s.modSeq q fun x => { x with stops := [] } := by
  unfold State.seqStops
  dsimp only
  rw [stops]
  rfl

theorem seqAbort_eq (q : Fin 16) (s : State) : s.seqAbort q =
    ((((s.urgentTake.modSeq q MadcSeq.disarmed).runsDropped q).seqStops q).coreStart 0).coreStart 1 := rfl

/-- An abort leaves its sequence quiet. -/
theorem seqAbort_abates (stops : s.madc.seqs[q].stops = []) : s.Abates (s.seqAbort q) ∧ (s.seqAbort q).madc.Quiet q := by
  have disarms : s.Abates (s.urgentTake.modSeq q MadcSeq.disarmed) :=
    (abates_urgentTake s).trans (abates_modSeq (f := MadcSeq.disarmed) (fun _ _ => rfl) (fun _ _ => rfl) (fun _ h => h) _)
  have quiet : ((s.urgentTake.modSeq q MadcSeq.disarmed).runsDropped q).madc.Quiet q :=
    runsDropped_quiet (congrArg MadcSeq.armed (seqs_set_same _ q _)) (congrArg MadcSeq.pend (seqs_set_same _ q _))
  have drops := disarms.trans (runsDropped_abates q _)
  rw [seqAbort_eq]
  generalize (s.urgentTake.modSeq q MadcSeq.disarmed).runsDropped q = u at quiet drops
  rw [seqStops_of_nil (drops.stops q stops)]
  have told := abates_modSeq (f := fun x => { x with stops := [] }) (q := q) (fun _ h => h) (fun _ h => h) (fun _ _ => rfl) u
  have starts := told.trans ((abates_coreStart 0 _).trans (abates_coreStart 1 _))
  exact ⟨drops.trans starts, starts.quiet q quiet⟩

theorem each_aborts (l : List (Fin 16)) (stops : ∀ q : Fin 16, s.madc.seqs[q].stops = []) :
    s.Abates (s.each l State.seqAbort) ∧ ∀ q ∈ l, (s.each l State.seqAbort).madc.Quiet q := by
  induction l generalizing s with
  | nil => exact ⟨State.Abates.refl s, nofun⟩
  | cons a l ih =>
    obtain ⟨abates, quiet⟩ := seqAbort_abates (stops a)
    obtain ⟨rest, quiets⟩ := ih fun q => abates.stops q (stops q)
    refine ⟨abates.trans rest, fun q mem => ?_⟩
    rcases List.mem_cons.1 mem with rfl | mem
    · exact rest.quiet q quiet
    · exact quiets q mem

end

/-- MADC_START of action 3 aborts the sequences named. -/
theorem madcStart_aborts {p : Packet} {s : State} {r : Ring} (h : Accepts madcStartSpec p s r) (act : u8 p.params 2 = 3)
    (stops : ∀ q : Fin 16, s.madc.seqs[q].stops = []) : Answers (.madcStart p) s fun u => RepliesOk madcStartSpec p r s u 0
      ∧ ∀ q : Fin 16, (u16 p.params 0).testBit q.val = true → u.madc.Quiet q := by
  obtain ⟨abates, quiet⟩ := each_aborts (s := s.entered madcStartSpec p r) (maskSeqs (u16 p.params 0))
    (fun q => by rw [entered_madc]; exact stops q)
  refine (h.answers_converter (c := .madcStart p) rfl abates.only (madcAction_aborts act _ _)).imp
    fun v ⟨next, reply, rest⟩ => ⟨next, reply, fun q named => ?_⟩
  rw [madc_of_ordered rest]
  exact quiet q (mem_maskSeqs.2 named)

/-! ## MADC_URGENT and REFBUF_ENABLE (08 R193, R203, R204) -/

section
variable {p : Packet} {r : Ring} {s : State}

/-- A request of one who has none pending joins the others. -/
theorem askUrgent_joins {x : Urgent} (alone : ∀ y ∈ s.madc.urgent, y.who ≠ x.who) :
    s.askUrgent x = { s with madc := { s.urgentTake.madc with urgent := s.urgentTake.madc.urgent ++ [x] } } := by
  have others : ∀ y ∈ s.urgentTake.madc.urgent, y.who ≠ x.who := fun y hy => alone y ((urgentTake_took s).asked y hy)
  have own : s.urgentTake.madc.urgent.filter (fun y => decide (y.who = x.who)) = [] :=
    List.filter_eq_nil_iff.2 fun y hy => by simpa using others y hy
  have rest : s.urgentTake.madc.urgent.filter (fun y => decide (y.who ≠ x.who)) = s.urgentTake.madc.urgent :=
    List.filter_eq_self.2 fun y hy => by simpa using others y hy
  unfold State.askUrgent
  dsimp only
  rw [own, rest]
  rfl

/-- MADC_URGENT is answered when its conversion ends. -/
theorem madcUrgent_asks (h : Accepts madcUrgentSpec p s r) (alone : ∀ x ∈ s.madc.urgent, x.who ≠ .software) :
    Answers (.madcUrgent p) s fun u => u.cmd.replies = s.cmd.replies
      ∧ s.ordered u = s.ordered { s.advance p.tick with madc := { (s.advance p.tick).urgentTake.madc with
          urgent := (s.advance p.tick).urgentTake.madc.urgent ++ [{
            who := .software, input := u8 p.params 0, raw := decide (u8 p.params 1 = 1), due := (s.advance p.tick).ticks
            seq := some s.acceptSeq }] } } := by
  have run : madcUrgentSpec.run p r.secure s.acceptSeq (s.entered madcUrgentSpec p r) = State.askUrgent {
      who := .software, input := u8 p.params 0, raw := decide (u8 p.params 1 = 1), due := (s.entered madcUrgentSpec p r).ticks
      seq := some s.acceptSeq } (s.entered madcUrgentSpec p r) := rfl
  rw [entered_ticks, askUrgent_joins (by rw [entered_madc]; exact alone), entered_urgentTake] at run
  refine h.answers rfl run ⟨(settle_replies _ _).trans entered_replies, h.ordered_converter run ?_⟩
  exact (booked_entered _ p r s).with_madc _

theorem setReference_same {on : Bool} (same : s.madc.refOn = on) (mout : Bool) :
    s.setReference on mout = { s with madc.refMout := mout } := by
  unfold State.setReference
  rw [same]
  cases on <;> rfl

theorem setReference_on (off : s.madc.refOn = false) (mout : Bool) : ∃ w, s.setReference true mout =
    { s with madc := { s.urgentTake.madc with
      cores := w, refOn := true, refTick := s.ticks, refSettled := false, refMout := mout } } := by
  unfold State.setReference
  rw [off]
  exact ⟨_, rfl⟩

theorem setReference_off (on : s.madc.refOn = true) (mout : Bool) : ∃ w, s.setReference false mout =
    { s with madc := { s.urgentTake.madc with cores := w, refOn := false, refSettled := false, refMout := mout } } := by
  unfold State.setReference
  rw [on]
  exact ⟨_, rfl⟩

/-- The second state is the first with the reference buffer as asked for; sequences are late at most. -/
structure State.Refers (on mout : Bool) (s u : State) : Prop where
  only : s.ConverterOnly u
  on_eq : u.madc.refOn = on
  mout_eq : u.madc.refMout = mout
  seqs : ∀ q : Fin 16, { u.madc.seqs[q] with nextTick := s.madc.seqs[q].nextTick } = s.madc.seqs[q]

theorem setReference_refers (on mout : Bool) (s : State) : s.Refers on mout (s.setReference on mout) := by
  by_cases same : s.madc.refOn = on
  · rw [setReference_same same]
    exact ⟨rfl, same, rfl, fun _ => rfl⟩
  · have took := urgentTake_took s
    cases on with
    | true =>
      obtain ⟨_, form⟩ := setReference_on (Bool.not_eq_true _ ▸ same) mout
      rw [form]
      exact ⟨rfl, rfl, rfl, took.seqs⟩
    | false =>
      obtain ⟨_, form⟩ := setReference_off (Bool.not_eq_false _ ▸ same) mout
      rw [form]
      exact ⟨rfl, rfl, rfl, took.seqs⟩

/-- The buffer goes off, or stays off: nothing is left to wait for. -/
theorem setReference_false (mout : Bool) (s : State) : (s.setReference false mout).refRemaining = 0
    ∧ (s.setReference false mout).madc.refSettled = (!s.madc.refOn && s.madc.refSettled) := by
  have off := (setReference_refers false mout s).on_eq
  refine ⟨by unfold State.refRemaining; rw [off]; rfl, ?_⟩
  cases on : s.madc.refOn with
  | false => rw [setReference_same on]; rfl
  | true =>
    obtain ⟨_, form⟩ := setReference_off on mout
    rw [form]
    rfl

/-- The buffer goes on: it settles within 5,000 microseconds. -/
theorem setReference_true (off : s.madc.refOn = false) (mout : Bool) : (s.setReference true mout).refRemaining = 5000
    ∧ (s.setReference true mout).madc.refSettled = false ∧ (s.setReference true mout).madc.refTick = s.ticks := by
  obtain ⟨_, form⟩ := setReference_on off mout
  rw [form]
  refine ⟨?_, rfl, rfl⟩
  unfold State.refRemaining
  simp only [Bool.not_true, Bool.or_self, Bool.false_eq_true, if_false]
  omega

theorem refRemaining_of_settled (settled : s.madc.refSettled = true) : s.refRemaining = 0 := by
  unfold State.refRemaining
  rw [settled]
  exact if_pos (Bool.or_true _)

/-- REFBUF_ENABLE answers with the time left until the reference has settled. -/
theorem refbufEnable_switches (h : Accepts refbufEnableSpec p s r) : Answers (.refbufEnable p) s fun u =>
    RepliesOk refbufEnableSpec p r s u (word ((s.entered refbufEnableSpec p r).setReference
        (decide (u8 p.params 0 = 1)) (decide (u8 p.params 1 = 1))).refRemaining)
      ∧ s.ordered u = s.ordered { s.advance p.tick with madc := ((s.entered refbufEnableSpec p r).setReference
        (decide (u8 p.params 0 = 1)) (decide (u8 p.params 1 = 1))).madc } :=
  h.answers_converter rfl (setReference_refers _ _ _).only rfl

end

/-- Settles O56: MADC_SEQUENCE sets the fields of its sequence alone; a trigger of a busy converter counts on its
sequence and an abort leaves its sequences quiet; MADC_URGENT joins what the cores have left of the requests;
REFBUF_ENABLE waits for no more than what is left of the settling. -/
theorem converterCommandsTakeEffect : Obligations.ConverterCommandsTakeEffect := by
  unfold Obligations.ConverterCommandsTakeEffect
  intro p s r
  refine ⟨fun h => ?_, fun h => ⟨?_, ?_, ?_, ?_, ?_⟩, fun h alone => ?_, fun h => ?_⟩
  · refine (madcSequence_sets h).imp fun u ⟨next, reply, rest⟩ => ⟨next, reply, ordered_but_converter rest, ?_⟩
    rw [madc_of_ordered rest]
    refine ⟨fun q => ?_, rfl, rfl⟩
    have number : (Fin.ofNat 16 (u8 p.params 0)).val = u8 p.params 0 := Nat.mod_eq_of_lt (madcSequence_number h)
    split
    · next own =>
      obtain rfl : q = Fin.ofNat 16 (u8 p.params 0) := Fin.ext (own.trans number.symm)
      exact seqs_set_same _ _ _
    · next other => exact seqs_set_other (fun own => other (by rw [own]; exact number)) _ _
  · exact madcStart_arms h
  · exact madcStart_triggers h
  · exact madcStart_disarms h
  · intro act stops
    refine (madcStart_aborts h act stops).imp fun u ⟨next, reply, quiet⟩ => ⟨next, reply, fun q named => ?_⟩
    exact ⟨(quiet q named).disarmed, (quiet q named).unasked, (quiet q named).idle⟩
  · exact madcStart_binds h
  · refine (madcUrgent_asks h alone).imp fun u ⟨next, replies, rest⟩ => ⟨next, replies, ordered_but_converter rest, ?_⟩
    exact madc_of_ordered rest
  · refine (refbufEnable_switches h).imp fun u ⟨next, reply, rest⟩ => ⟨next, ordered_but_converter rest, ?_⟩
    rw [madc_of_ordered rest]
    obtain ⟨-, on, mout, seqs⟩ := setReference_refers (decide (u8 p.params 0 = 1)) (decide (u8 p.params 1 = 1))
      (s.entered refbufEnableSpec p r)
    rw [entered_madc] at seqs
    refine ⟨on, mout, seqs, fun off => ?_, fun asked off => ?_, fun asked on settled => ?_⟩
    · rw [decide_eq_false off] at reply ⊢
      obtain ⟨remaining, settled⟩ := setReference_false (decide (u8 p.params 1 = 1)) (s.entered refbufEnableSpec p r)
      rw [remaining] at reply
      rw [entered_madc] at settled
      exact ⟨reply, settled⟩
    · rw [decide_eq_true asked] at reply ⊢
      obtain ⟨remaining, settled, tick⟩ := setReference_true (s := s.entered refbufEnableSpec p r)
        (by rw [entered_madc]; exact off) (decide (u8 p.params 1 = 1))
      rw [remaining] at reply
      exact ⟨reply, settled, tick.trans entered_ticks⟩
    · rw [decide_eq_true asked, setReference_same (by rw [entered_madc]; exact on)] at reply ⊢
      have remaining := refRemaining_of_settled
        (s := { s.entered refbufEnableSpec p r with madc.refMout := decide (u8 p.params 1 = 1) })
        ((congrArg Madc.refSettled entered_madc).trans settled)
      rw [remaining] at reply
      rw [entered_madc]
      exact ⟨reply, rfl, settled⟩

end Sys2Proof.Machine

namespace Sys2Proof.Machine

/-! ## What a group makes of a standstill (05 R114, R117) -/

/-- The second state is the first but for what a group moves as it comes to rest: the axes, the governor, the ports' sides, the
GATE frames, and the waymark events of these. -/
def State.Rests (s u : State) : Prop := ∃ ax pa tl po e r d c,
  u = { s with axes := ax, pace := pa, tl := tl, ports := po, evf := e, rings := r, dma.evt := d, dma.evtLost := c }

section
variable (g : Fin 4) (s : State)

theorem State.Rests.refl : s.Rests s := ⟨_, _, _, _, _, _, _, _, rfl⟩

theorem State.Rests.trans {s u v : State} : s.Rests u → u.Rests v → s.Rests v := by
  rintro ⟨_, _, _, _, _, _, _, _, rfl⟩ ⟨_, _, _, _, _, _, _, _, rfl⟩
  exact ⟨_, _, _, _, _, _, _, _, rfl⟩

theorem rests_stirred {s u : State} (h : s.Stirred u) : s.Rests u := by
  obtain ⟨_, _, _, _, rfl⟩ := h
  exact ⟨_, _, _, _, _, _, _, _, rfl⟩

theorem rests_modGroup (f : PaceGroup → PaceGroup) : s.Rests (s.modGroup g f) := ⟨_, _, _, _, _, _, _, _, rfl⟩

theorem each_modPort_rests {α : Type} (n : α → Fin 8) (f : α → Port → Port) (l : List α) :
    s.Rests (s.each l fun x s => s.modPort (n x) (f x)) := by
  induction l generalizing s with
  | nil => exact State.Rests.refl s
  | cons x l ih => exact State.Rests.trans ⟨_, _, _, _, _, _, _, _, rfl⟩ (ih (s.modPort (n x) (f x)))

theorem stopGroup_rests : s.Rests (s.stopGroup g) := by
  obtain ⟨_, h⟩ := stopGroup_form g s
  exact ⟨_, _, _, _, _, _, _, _, h⟩

theorem sendGate_rests : s.Rests s.sendGate := by
  obtain ⟨_, h⟩ := sendGate_form s
  exact ⟨_, _, _, _, _, _, _, _, h⟩

theorem sbAgain_rests : s.Rests (s.sbAgain g) := by
  have ends : s.Rests (s.endHold g) := by
    unfold State.endHold
    split
    · exact State.Rests.refl s
    · exact (each_modPort_rests s _ _ _).trans (rests_modGroup g _ _)
  exact (ends.trans (rests_modGroup g _ _)).trans (stopGroup_rests g _)

theorem switchback_rests (cause : Nat) (ax : Option (Fin 12 × Bool)) : s.Rests (s.switchback g cause ax) := by
  unfold State.switchback
  dsimp only
  split
  · exact State.Rests.refl s
  · split
    · exact State.Rests.refl s
    · split
      · split
        · exact rests_modGroup g s _
        · split
          · exact rests_modGroup g s _
          · split
            · exact (rests_modGroup g s _).trans (sbAgain_rests g _)
            · exact rests_modGroup g s _
      · refine State.Rests.trans ?_ (sendGate_rests _)
        refine State.Rests.trans ?_ (stopGroup_rests g _)
        refine State.Rests.trans ?_ (rests_stirred (fire_stirred _ _ _))
        exact (rests_modGroup g s _).trans ⟨_, _, _, _, _, _, _, _, rfl⟩

/-- All that the standstill of an axis can change. -/
theorem axisStandstill_rests (a : Fin 12) (byStop : Bool) : s.Rests (s.axisStandstill a byStop) := by
  unfold State.axisStandstill
  extract_lets go
  have acts (g : Fin 4) (u : State) : u.Rests (go g u) := by
    dsimp only [go]
    split
    · exact State.Rests.refl u
    · split
      · unfold State.when
        split
        · exact switchback_rests g u 3 _
        · exact State.Rests.refl u
      · split
        · exact each_modPort_rests u _ _ _
        · exact State.Rests.refl u
  split
  · split
    · split
      · exact acts _ s
      · exact State.Rests.refl s
    · exact State.Rests.refl s
  · exact acts _ s
  · exact State.Rests.refl s

end

/-! ## What leaves the converter as it was -/

section
variable (n : Fin 8) (s : State)

theorem ite_keeps {β : Type} {g : State → β} {c : Prop} [Decidable c] {s u v : State} (hu : g u = g s) (hv : g v = g s) :
    g (if c then u else v) = g s := by
  split
  · exact hu
  · exact hv

theorem madc_stirred {s u : State} (h : s.Stirred u) : u.madc = s.madc := by
  obtain ⟨_, _, _, _, rfl⟩ := h
  rfl

theorem madc_fire (b : BlockId) (off : Nat) : (s.fire b off).madc = s.madc := madc_stirred (fire_stirred b off s)

theorem madc_sysRoutes : s.sysRoutes.madc = s.madc := madc_stirred (sysRoutes_stirred s)

theorem madc_finish (q : DWord) (st : BitVec 16) (d r f : BitVec 32) (b : List (Nat × List Byte)) :
    (s.finish q st d r f b).madc = s.madc := by
  obtain ⟨_, _, _, _, _, h⟩ := finish_form q st d r s f b
  rw [h]

theorem madc_deviceEvent (b : BlockId) (st : BitVec 16) (d r f : BitVec 32) (a : DWord) (l : List Byte) :
    (s.deviceEvent b st d r f a l).madc = s.madc := by
  obtain ⟨_, _, logged, -, -⟩ := device_logged (s.secureBlock b) st d r f
    ({ status := st, block := b, detail := d, time := s.time, fault := f, seq := s.ldg.nextSeq, address := a
       data := padTo 16 l } : EventRecord).bytes s
  exact (madc_stirred (eventIn_stirred _ _ _)).trans (by rw [logged])

theorem madc_axisStandstill (a : Fin 12) (byStop : Bool) : (s.axisStandstill a byStop).madc = s.madc := by
  obtain ⟨_, _, _, _, _, _, _, _, h⟩ := axisStandstill_rests s a byStop
  rw [h]

theorem madc_endWaiting (a : Fin 12) (st : BitVec 16) (d f : BitVec 32) : (s.endWaiting a st d f).madc = s.madc :=
  each_keeps (g := State.madc) (fun q u => madc_finish u q st d _ f []) _ _

theorem madc_stall (a : Fin 12) (byLoad : Bool) : (s.stall a byLoad).madc = s.madc := by
  unfold State.stall
  dsimp only
  refine (madc_sysRoutes _).trans ((madc_axisStandstill _ _ _).trans ((madc_deviceEvent _ _ _ _ _ _ _ _).trans ?_))
  refine (when_keeps (g := State.madc) (by rfl) _).trans ((madc_endWaiting _ _ _ _ _).trans ((madc_fire _ _ _).trans ?_))
  cases byLoad <;> rfl

/-- A load sample changes its axis, and through a stall its group. -/
theorem madc_loadResult (a : Fin 12) (c : Nat) : (s.loadResult a c).madc = s.madc := by
  unfold State.loadResult
  dsimp only
  split
  · rfl
  · split
    · rfl
    · refine ite_keeps (g := State.madc) ?_ ?_
      · exact (when_keeps (g := State.madc) (by rfl) _).trans rfl
      · exact (when_keeps (g := State.madc) (madc_stall _ a true) _).trans rfl

/-! ### Calibrations -/

theorem madc_laneIdle : (s.laneIdle n).madc = s.madc := by
  unfold State.laneIdle
  dsimp only
  split
  · exact madc_sysRoutes _
  · rfl

theorem madc_disarmEffect : (s.disarmEffect n).madc = s.madc := by
  unfold State.disarmEffect
  dsimp only
  split
  · refine (each_keeps (g := State.madc) (fun q u => madc_finish u q _ _ _ _ _) _ _).trans ?_
    exact (State.modPort_madc _ _ _).trans (when_keeps (g := State.madc) (by exact madc_sysRoutes _) _)
  · rfl

theorem madc_leaveCal (r : CalRun) : (s.leaveCal r).madc = s.madc := by
  unfold State.leaveCal
  dsimp only
  split
  · refine (madc_disarmEffect _ _).trans ((madc_laneIdle _ _).trans ?_)
    exact (when_keeps (g := State.madc) (by rfl) _).trans rfl
  · rfl

theorem madc_calLast (op idx : Nat) (st : BitVec 16) (d : BitVec 32) (resid : Int) :
    (s.calLast op idx st d resid).madc = s.madc := by
  unfold State.calLast
  refine (when_keeps (g := State.madc) (by rfl) _).trans ((when_keeps (g := State.madc) (by rfl) _).trans ?_)
  exact (when_keeps (g := State.madc) (by exact madc_fire _ _ _) _).trans rfl

theorem madc_openNext : s.openNext.madc = s.madc := by
  unfold State.openNext
  split
  · rfl
  · split <;> rfl

theorem madc_gapEnd (j : GapJob) (st : BitVec 16) (d : BitVec 32) (resid : Int) (f : BitVec 32) :
    (s.gapEnd j st d resid f).madc = s.madc := by
  unfold State.gapEnd
  refine (madc_finish _ _ _ _ _ _ _).trans ((madc_stirred (event_stirred _ _ _ _ _ _ _ _)).trans ?_)
  exact madc_calLast _ _ _ _ _ _

/-! ### The tally of urgent results -/

/-- The last urgent result, and their count. -/
def State.urgentTally (s : State) : Word × Word := (s.madc.urgLast, s.madc.urgCnt)

theorem urgentTally_of_madc {s u : State} (h : u.madc = s.madc) : u.urgentTally = s.urgentTally :=
  congrArg (fun m : Madc => (m.urgLast, m.urgCnt)) h

theorem urgentTally_leaveRun (r : CalRun) : (s.leaveRun r).urgentTally = s.urgentTally := by
  unfold State.leaveRun
  dsimp only
  split
  · show (State.leaveCal r { s with trig.runs := _ }).urgentTally = _
    exact urgentTally_of_madc ((madc_leaveCal _ r).trans rfl)
  · rfl

theorem urgentTally_calEnd (r : CalRun) (st : BitVec 16) (d : BitVec 32) (resid : Int) :
    (s.calEnd r st d resid).urgentTally = s.urgentTally := by
  unfold State.calEnd
  refine (urgentTally_of_madc ((madc_openNext _).trans ((madc_finish _ _ _ _ _ _ _).trans (madc_calLast _ _ _ _ _ _)))).trans ?_
  exact (when_keeps (g := State.urgentTally) rfl _).trans (urgentTally_leaveRun s r)

theorem urgentTally_jobEnd (j : StoreJob) (st : BitVec 16) (d : BitVec 32) (i : Nat) :
    (s.jobEnd j st d i).urgentTally = s.urgentTally := by
  unfold State.jobEnd
  extract_lets free madc trig u v
  have told : v.madc = u.madc := by
    dsimp only [v]
    split
    · exact (madc_stirred (event_stirred _ _ _ _ _ _ _ _)).trans rfl
    · rfl
  refine (urgentTally_of_madc ((madc_openNext _).trans ?_)).trans (urgentTally_of_madc (s := u) told)
  split
  · exact (madc_finish _ _ _ _ _ _ _).trans (madc_calLast _ _ _ _ _ _)
  · exact madc_finish _ _ _ _ _ _ _

theorem urgentTally_nextStore (k : Nat) : (s.nextStore k).urgentTally = s.urgentTally := by
  induction k generalizing s with
  | zero => rfl
  | succ k ih =>
    unfold State.nextStore
    split
    · rfl
    · split
      · rfl
      · next j rest _ =>
        have ends (i : Nat) : (if j.written = 0 then s.jobEnd j 0x0103 0x51B i else s.jobEnd j 0 0 i).urgentTally =
            s.urgentTally := by
          split <;> exact urgentTally_jobEnd s j _ _ i
        dsimp only
        split
        · exact (ih _).trans (ends 0)
        · split
          · exact when_keeps (g := State.urgentTally) rfl _
          · refine (ih _).trans ?_
            split
            · exact ends _
            · rfl

theorem urgentTally_gapForm (j : GapJob) : (s.gapForm j).urgentTally = s.urgentTally := by
  unfold State.gapForm
  dsimp only
  split
  · exact urgentTally_of_madc (madc_gapEnd _ _ _ _ _ _)
  · split
    · exact urgentTally_of_madc (madc_gapEnd _ _ _ _ _ _)
    · split
      · exact urgentTally_of_madc ((madc_gapEnd _ _ _ _ _ _).trans rfl)
      · split
        · exact (urgentTally_nextStore _ 64).trans rfl
        · exact urgentTally_of_madc ((madc_gapEnd _ _ _ _ _ _).trans rfl)

end

/-! ## Urgent conversions (08 R193 to R195) -/

/-- What its requester makes of an urgent result: `w` of a code taken under a reference that had settled or not. -/
def State.urgentTold (u : Urgent) (code : Nat) (unsettled : Bool) (w : Word) (s : State) : State :=
  match u.who with
  | .axis a => if unsettled then s else s.loadResult a code
  | .lamp n =>
    match s.portRun n with
    | some r =>
      if r.stage = .phase && r.lampBad (decide (r.phases.head? = some 0)) [code] then s.calEnd r 0x0201 0x0502 0 else s
    | none =>
      match s.trig.gaps.find? fun j => j.port = n with
      | some j =>
        if lampsBad j.params false [code] then s.gapEnd j 0x0201 0x0502 0
        else if 2 ^ u8 j.params 8 ≤ j.lines && !s.lampAsked n then s.gapForm j
        else s
      | none => s
  | .software => match u.seq with
    | some q => (s.vddRead u.input w).finishOk q w
    | none => s

/-- The core is free of its urgent conversion, whose result is `w`. -/
def State.urgentEnded (k : Fin 2) (x : UrgentConv) (w : Word) (s : State) : State :=
  State.modCore k (fun c => { c with urg := none, freeAt := x.at_ + 900 })
    { s with madc.urgLast := w, madc.urgCnt := s.madc.urgCnt + 1 }

/-- Code and flags of the sample of an urgent conversion. -/
def MadcCore.urgentCode (c : MadcCore) (x : UrgentConv) (samples : List Int) : Nat × Bool × Bool :=
  let zs := c.zs x.req.raw
  madcCode zs.1 zs.2 (samples.headD 0)

/-- The result word of an urgent conversion (Table 8.2). -/
def MadcCore.urgentWord (c : MadcCore) (x : UrgentConv) (unsettled : Bool) (samples : List Int) : Word :=
  let v := c.urgentCode x samples
  resultWord (x.req.input + 0x40) v.1 0 v.2.1 v.2.2 false unsettled

/-- The sample of an urgent conversion began while the reference was not settled. -/
def State.urgentUnsettled (x : UrgentConv) (s : State) : Bool := x.unsettled.getD (s.refUnsettled (x.at_ + 150))

section
variable {k : Fin 2} {x : UrgentConv} {samples : List Int} {s : State} {t : Nat}

theorem urgentUnsettled_urgentTake : s.urgentTake.urgentUnsettled x = s.urgentUnsettled x := by
  obtain ⟨_, _, _, form⟩ := (urgentTake_took s).form
  unfold State.urgentUnsettled State.refUnsettled
  rw [form]
  rfl

/-- An urgent conversion that is over frees its core, and its result goes to its requester. -/
theorem urgentResult_of_due {c : MadcCore} (core : s.urgentTake.madc.cores[k] = c) (taken : c.urg = some x)
    (due : x.at_ + 900 ≤ s.ticks) : s.urgentResult k samples =
      State.urgentTold x.req (c.urgentCode x samples).1 (s.urgentUnsettled x) (c.urgentWord x (s.urgentUnsettled x) samples)
        (s.urgentTake.urgentEnded k x (c.urgentWord x (s.urgentUnsettled x) samples)) := by
  have late : ¬ s.urgentTake.ticks < x.at_ + 900 := Nat.not_lt.2 due
  subst core
  rw [← urgentUnsettled_urgentTake]
  unfold State.urgentResult
  dsimp only
  rw [taken]
  dsimp only
  rw [if_neg late]
  rfl

theorem urgentTally_told (u : Urgent) (code : Nat) (unsettled : Bool) (w : Word) (s : State) :
    (s.urgentTold u code unsettled w).urgentTally = s.urgentTally := by
  unfold State.urgentTold
  split
  · split
    · rfl
    · exact urgentTally_of_madc (madc_loadResult s _ code)
  · split
    · split
      · exact urgentTally_calEnd s _ _ _ _
      · rfl
    · split
      · split
        · exact urgentTally_of_madc (madc_gapEnd s _ _ _ _ _)
        · split
          · exact urgentTally_gapForm s _
          · rfl
      · rfl
  · split
    · exact urgentTally_of_madc ((madc_finish _ _ _ _ _ _ _).trans (when_keeps (g := State.madc) rfl _))
    · rfl

theorem madc_told_software {u : Urgent} (own : u.who = .software) (code : Nat) (unsettled : Bool) (w : Word) (s : State) :
    (s.urgentTold u code unsettled w).madc = s.madc := by
  unfold State.urgentTold
  rw [own]
  dsimp only
  split
  · exact (madc_finish _ _ _ _ _ _ _).trans (when_keeps (g := State.madc) rfl _)
  · rfl

theorem urgentResult_answers (live : s.Live) (taken : (s.advance t).urgentTake.madc.cores[k].urg = some x)
    (due : x.at_ + 900 ≤ (s.advance t).ticks) : Answers (.urgentResult t k samples) s fun u =>
      u.madc.urgCnt = s.madc.urgCnt + 1
      ∧ u.madc.urgLast = (s.advance t).urgentTake.madc.cores[k].urgentWord x (s.urgentUnsettled x) samples
      ∧ (x.req.who = .software → u.madc.cores[k].urg = none ∧ u.madc.urgent = (s.advance t).urgentTake.madc.urgent
        ∧ u.madc.q = s.madc.q) := by
  refine answers_of_settled live rfl ?_
  rw [settle_madc, urgentResult_of_due rfl taken due]
  obtain ⟨_, _, _, form⟩ := (urgentTake_took (s.advance t)).form
  have tally := urgentTally_told x.req ((s.advance t).urgentTake.madc.cores[k].urgentCode x samples).1 (s.urgentUnsettled x)
    ((s.advance t).urgentTake.madc.cores[k].urgentWord x (s.urgentUnsettled x) samples)
    ((s.advance t).urgentTake.urgentEnded k x
      ((s.advance t).urgentTake.madc.cores[k].urgentWord x (s.urgentUnsettled x) samples))
  have count : (s.advance t).urgentTake.madc.urgCnt = s.madc.urgCnt := by rw [form]; rfl
  have queue : (s.advance t).urgentTake.madc.q = s.madc.q := by rw [form]; rfl
  refine ⟨(congrArg Prod.snd tally).trans (congrArg (· + 1) count), congrArg Prod.fst tally, fun own => ?_⟩
  rw [madc_told_software own]
  exact ⟨congrArg MadcCore.urg (cores_set_same _ _ _), rfl, queue⟩

end

end Sys2Proof.Machine

namespace Sys2Proof.Machine

/-! ## Triggers that start a run (08 R190, R191) -/

section
variable {s : State} {k : Fin 2} {q : Fin 16} {t : Nat}

/-- A free core for which no sequence waits takes a record that waits for it. -/
theorem coreStart_of_unasked (free : s.madc.cores[k].run = none) (unasked : ∀ p : Fin 16, s.madc.seqs[p].pend = false) :
    s.coreStart k = s.modCore k MadcCore.boundary := by
  have none : s.seqWaiting k = none := List.find?_eq_none.2 fun p _ => by rw [unasked p]; simp
  unfold State.coreStart
  rw [if_neg (by rw [free]; decide), none]

/-- A free core starts the one sequence that waits. -/
theorem coreStart_of_asked (free : s.madc.cores[k].run = none) (asked : s.madc.seqs[q].pend = true)
    (core : s.madc.seqs[q].core = k.val) (alone : ∀ p : Fin 16, p ≠ q → s.madc.seqs[p].pend = false) :
    s.coreStart k = (s.modSeq q fun x => { x with pend := false }).modCore k fun c => c.begin q 0 s.ticks := by
  have first : s.seqWaiting k = some q := by
    cases found : s.seqWaiting k with
    | none =>
      have passed := List.find?_eq_none.1 found q (List.mem_finRange q)
      exact absurd (by rw [asked, core]; simp) passed
    | some p =>
      by_contra other
      have pend := alone p fun same => other (congrArg some same)
      exact absurd ((seqWaiting_pend found).symm.trans pend) (by decide)
  unfold State.coreStart
  rw [if_neg (by rw [free]; decide), first]

/-- A trigger of an armed sequence starts it on its core, where no core runs and no sequence waits. -/
theorem seqTrigger_starts (armed : s.madc.seqs[q].armed = true) (fresh : s.madc.seqs[q].lastTrig = none)
    (core : s.madc.seqs[q].core = k.val) (free : s.madc.cores[k].run = none)
    (unasked : ∀ p : Fin 16, s.madc.seqs[p].pend = false) : s.seqTrigger q =
      (s.modSeq q fun x => { x with lastTrig := some s.ticks, pend := false }).modCore k fun c => c.begin q 0 s.ticks := by
  have counts : s.madc.seqs[q].counts s.ticks = true := by
    unfold MadcSeq.counts
    rw [armed, fresh]
    rfl
  have own : Fin.ofNat 2 s.madc.seqs[q].core = k := by rw [core]; exact Fin.ofNat_val_eq_self k
  rw [seqTrigger_eq, if_pos counts]
  unfold State.triggerTaken
  dsimp only
  rw [if_neg (by rw [unasked]; decide), own, modSeq_modSeq]
  refine (coreStart_of_asked (q := q) (by exact free) ?_ ?_ fun p other => ?_).trans ?_
  · rw [State.modSeq_madc, seqs_set_same]
  · rw [State.modSeq_madc, seqs_set_same]
    exact core
  · rw [State.modSeq_madc, seqs_set_other other]
    exact unasked p
  · rw [modSeq_modSeq]
    rfl

end

/-! ## Trigger sources (08 R191) -/

section
variable {s u v : State} {q : Fin 16} {t : Nat}

/-- The pin's edge is one that the sequence selects. -/
def MadcSeq.selects (pin : Fin 4) (rising : Bool) (x : MadcSeq) : Bool :=
  let sel := bitsOf x.edges (2 * pin.val + 1) (2 * pin.val)
  x.pins.testBit pin.val && (sel = 2 || (sel = 0) == rising)

theorem selects_iff {pin : Fin 4} {rising : Bool} {x : MadcSeq} : x.selects pin rising = true ↔ x.pins.testBit pin.val = true
    ∧ (bitsOf x.edges (2 * pin.val + 1) (2 * pin.val) = 2
      ∨ (bitsOf x.edges (2 * pin.val + 1) (2 * pin.val) = 0 ↔ rising = true)) := by
  unfold MadcSeq.selects
  cases rising <;> simp

/-- The converter as an event finds it, once cores have taken the requests that they were free to take. -/
theorem urgentTake_stirred (h : s.Stirred u) : u.urgentTake.madc = s.urgentTake.madc := by
  obtain ⟨_, _, _, _, rfl⟩ := h
  rfl

theorem when_seqTrigger_of_busy (busy : s.BothBusy) (c : Bool) (q : Fin 16) :
    s.Recounted (s.when c fun s => s.seqTrigger q) (s.madc.seqs.set q
      (if c then s.madc.seqs[q].triggered (s.seqRunning q) s.ticks else s.madc.seqs[q])) := by
  cases c with
  | false => exact ⟨s.madc.evt, by rw [if_neg (by decide), seqs_set_own]; rfl⟩
  | true => exact seqTrigger_of_busy busy q

/-- An edge of a trigger pin, while both cores are busy, counts on each sequence that selects it. -/
theorem trigPin_counts (live : s.Live) (busy : s.BothBusy) (awake : s.sys.mode ≠ .dormant) (pin : Fin 4) (rising : Bool) :
    Answers (.madcTrigPin t pin rising) s fun u => u.madc.cores = (s.advance t).urgentTake.madc.cores ∧ ∀ q : Fin 16,
      ((s.advance t).urgentTake.madc.seqs[q].selects pin rising = true → u.madc.seqs[q] =
        (s.advance t).urgentTake.madc.seqs[q].triggered (s.seqRunning q) (s.advance t).ticks)
      ∧ (¬ (s.advance t).urgentTake.madc.seqs[q].selects pin rising = true →
        u.madc.seqs[q] = (s.advance t).urgentTake.madc.seqs[q]) := by
  refine answers_of_settled live rfl ?_
  rw [settle_madc]
  generalize num : (if rising then 18 else 22) + pin.val = off
  have fired := fire_stirred .madc off (s.advance t)
  have eq : (s.advance t).trigPin pin rising = ((s.advance t).fire .madc off).urgentTake.each (List.finRange 16) fun q s =>
      s.when (s.madc.seqs[q].selects pin rising) fun s => s.seqTrigger q := by
    unfold State.trigPin
    rw [num]
    exact if_neg (by rw [fire_sys]; exact awake)
  rw [eq, ← urgentTake_stirred fired]
  obtain ⟨_, _, _, _, form⟩ := fired
  have taken : ((s.advance t).fire .madc off).urgentTake.BothBusy := State.BothBusy.urgentTake (by rw [form]; exact busy)
  have running (q : Fin 16) : ((s.advance t).fire .madc off).urgentTake.seqRunning q = s.seqRunning q := by
    rw [seqRunning_urgentTake, form]
    rfl
  have now : ((s.advance t).fire .madc off).urgentTake.ticks = (s.advance t).ticks := by rw [form]; rfl
  generalize ((s.advance t).fire .madc off).urgentTake = u at taken running now
  obtain ⟨v, ⟨_, form⟩, seqs⟩ := each_recounts (s := u) (u := u)
    (f := fun q s => s.when (s.madc.seqs[q].selects pin rising) fun s => s.seqTrigger q)
    (g := fun q x => if x.selects pin rising then x.triggered (s.seqRunning q) (s.advance t).ticks else x)
    (by
      rintro q v _ ⟨e, rfl⟩
      rw [← running q, ← now]
      exact when_seqTrigger_of_busy (by exact taken) (v[q].selects pin rising) q)
    (List.nodup_finRange 16) (.self u)
  rw [form]
  refine ⟨rfl, fun q => ⟨fun selected => ?_, fun passed => ?_⟩⟩
  · exact ((seqs q).1 (List.mem_finRange q)).trans (if_pos selected)
  · exact ((seqs q).1 (List.mem_finRange q)).trans (if_neg passed)

/-- A trigger counts on its sequence alone, while both cores are busy. -/
theorem seqTrigger_counts (busy : s.BothBusy) (q : Fin 16) :
    (s.urgentTake.seqTrigger q).madc.cores = s.urgentTake.madc.cores
      ∧ ∀ p : Fin 16, (s.urgentTake.seqTrigger q).madc.seqs[p] =
        if p = q then s.urgentTake.madc.seqs[q].triggered (s.seqRunning q) s.ticks else s.urgentTake.madc.seqs[p] := by
  obtain ⟨_, form⟩ := seqTrigger_of_busy busy.urgentTake q
  rw [form, seqRunning_urgentTake]
  exact ⟨rfl, fun p => seqs_set_apply _ q p _⟩

theorem with_pend_own {x : MadcSeq} (unasked : x.pend = false) (last : Option Nat) :
    ({ x with lastTrig := last, pend := false } : MadcSeq) = { x with lastTrig := last } := by rw [← unasked]

/-- The end of a period is a trigger, and the next period follows it. -/
theorem periodTrigger_counts (live : s.Live) (armed : (s.advance t).urgentTake.madc.seqs[q].armed = true)
    (periodic : (s.advance t).urgentTake.madc.seqs[q].mode = 2)
    (due : (s.advance t).urgentTake.madc.seqs[q].nextTick ≤ (s.advance t).ticks) (busy : s.BothBusy) :
    Answers (.madcPeriodTrigger t q) s fun u => u.madc.cores = (s.advance t).urgentTake.madc.cores
      ∧ ∀ p : Fin 16, let x := (s.advance t).urgentTake.madc.seqs[q]
        u.madc.seqs[p] = if p = q
          then ({ x with nextTick := x.nextTick + x.period } : MadcSeq).triggered (s.seqRunning q) (s.advance t).ticks
          else (s.advance t).urgentTake.madc.seqs[p] := by
  refine answers_of_settled live rfl ?_
  have eq : (s.advance t).periodTrigger q = ((s.advance t).urgentTake.modSeq q fun x =>
      { x with nextTick := x.nextTick + x.period }).seqTrigger q := by
    unfold State.periodTrigger
    dsimp only
    rw [armed, periodic]
    exact if_pos (decide_eq_true due)
  have busy : (s.advance t).urgentTake.BothBusy := State.BothBusy.urgentTake (by exact busy)
  obtain ⟨_, form⟩ := seqTrigger_of_busy (s := (s.advance t).urgentTake.modSeq q fun x =>
    { x with nextTick := x.nextTick + x.period }) (by exact busy) q
  rw [settle_madc, eq, form, modSeq_seqRunning, seqRunning_urgentTake]
  refine ⟨rfl, fun p => ?_⟩
  rw [State.modSeq_madc]
  dsimp only
  rw [seqs_set_apply, seqs_set_same]
  split
  · rfl
  · next other => exact seqs_set_other other _ _

end

/-! ### The waymark task of a sequence -/

section
variable {s : State} {q : Fin 16} {t : Nat} {x : Activation}
  (due : (s.evf.acts.find? fun x => x.task == { num := 5 * 64 + q.val, inst := 0 }
    && decide (x.tick ≤ (s.advance t).ticks)) = some x)
include due

theorem seqTask_eq : (s.advance t).seqTask q = State.when s.madc.seqs[q].wm (fun s => s.urgentTake.seqTrigger q)
      { s.advance t with evf.acts := s.evf.acts.erase x } := by
  unfold State.seqTask
  rw [takeAct_due (u := s.advance t) due]
  rfl

variable (live : s.Live)
include live

/-- The task of a sequence that takes no waymarks triggers nothing. -/
theorem seqTask_of_unmarked (unmarked : s.madc.seqs[q].wm = false) :
    Answers (.seqTrig t q) s fun u => s.calm u = { s.advance t with evf.acts := s.evf.acts.erase x } :=
  ⟨_, rfl, act_calm_eq live (by rw [seqTask_eq due, unmarked]; rfl) rfl⟩

/-- What the task of a sequence that takes waymarks does is a trigger. -/
theorem seqTask_of_marked {P : State → Prop} (marked : s.madc.seqs[q].wm = true)
    (triggers : ∀ u : State, (s.advance t).Stirred u →
      P ((s.advance t).settle (u.urgentTake.seqTrigger q))) : Answers (.seqTrig t q) s P := by
  refine answers_of_settled live rfl ?_
  rw [seqTask_eq due, marked]
  exact triggers _ ⟨_, _, _, _, rfl⟩

/-- The task of a sequence counts on it, while both cores are busy. -/
theorem seqTask_counts (marked : s.madc.seqs[q].wm = true) (busy : s.BothBusy) :
    Answers (.seqTrig t q) s fun u => u.madc.cores = (s.advance t).urgentTake.madc.cores ∧ ∀ p : Fin 16, u.madc.seqs[p] =
      if p = q then (s.advance t).urgentTake.madc.seqs[q].triggered (s.seqRunning q) (s.advance t).ticks
      else (s.advance t).urgentTake.madc.seqs[p] := by
  refine seqTask_of_marked due live marked fun u stirred => ?_
  obtain ⟨_, _, _, _, rfl⟩ := stirred
  rw [settle_madc]
  exact seqTrigger_counts (by exact busy) q

/-- The task of an armed sequence starts it on its core, where no core runs and no sequence waits. -/
theorem seqTask_starts (marked : s.madc.seqs[q].wm = true)
    (armed : s.madc.seqs[q].armed = true) (fresh : s.madc.seqs[q].lastTrig = none) (core : s.madc.seqs[q].core < 2)
    (idle : ∀ k : Fin 2, s.madc.cores[k].run = none) (unasked : ∀ p : Fin 16, s.madc.seqs[p].pend = false) :
    Answers (.seqTrig t q) s fun u =>
      (∀ p : Fin 16, u.madc.seqs[p] =
        if p = q then { (s.advance t).urgentTake.madc.seqs[q] with lastTrig := some (s.advance t).ticks }
        else (s.advance t).urgentTake.madc.seqs[p])
      ∧ ∀ k : Fin 2, u.madc.cores[k].run = if k.val = s.madc.seqs[q].core
          then ((s.advance t).urgentTake.madc.cores[k].begin q 0 (s.advance t).ticks).run else none := by
  refine seqTask_of_marked due live marked fun u stirred => ?_
  have took := urgentTake_took (s.advance t)
  obtain ⟨i, own⟩ : ∃ i : Fin 2, s.madc.seqs[q].core = i.val := ⟨⟨_, core⟩, rfl⟩
  obtain ⟨_, _, _, _, rfl⟩ := stirred
  rw [settle_madc, own, seqTrigger_starts (k := i) (by exact (took.armed q).trans armed)
    (by exact (congrArg MadcSeq.lastTrig (took.seqs q) :).trans fresh)
    (by exact (congrArg MadcSeq.core (took.seqs q) :).trans own)
    (by exact took.run_of_none (idle i)) (by exact fun p => (took.pend p).trans (unasked p))]
  refine ⟨fun p => (seqs_set_apply _ q p _).trans ?_, fun k => ?_⟩
  · exact congrArg (fun y => if p = q then y else _) (with_pend_own ((took.pend q).trans (unasked q)) _)
  · split
    · next same =>
      obtain rfl := Fin.ext same
      exact congrArg MadcCore.run (cores_set_same _ _ _)
    · next other =>
      refine (congrArg MadcCore.run (cores_set_other (fun same => other (congrArg Fin.val same)) _ _)).trans ?_
      exact took.run_of_none (idle k)

end

end Sys2Proof.Machine

namespace Sys2Proof.Machine

/-! ## The result queue (08 R196, R198) -/

/-- What a run depends on: the sequences, the cores, the completed runs and the clock. -/
def State.sequencing (s : State) : Vector MadcSeq 16 × Vector MadcCore 2 × Word × Nat :=
  (s.madc.seqs, s.madc.cores, s.madc.seqDone, s.ticks)

section
variable {s u : State} {k : Fin 2} {q : Fin 16} {t : Nat}

theorem seqs_of_sequencing (h : u.sequencing = s.sequencing) : u.madc.seqs = s.madc.seqs := congrArg Prod.fst h

theorem cores_of_sequencing (h : u.sequencing = s.sequencing) : u.madc.cores = s.madc.cores :=
  congrArg (fun x => x.2.1) h

theorem seqDone_of_sequencing (h : u.sequencing = s.sequencing) : u.madc.seqDone = s.madc.seqDone :=
  congrArg (fun x => x.2.2.1) h

theorem ticks_of_sequencing (h : u.sequencing = s.sequencing) : u.ticks = s.ticks := congrArg (fun x => x.2.2.2) h

theorem sequencing_stirred (h : s.Stirred u) : u.sequencing = s.sequencing := by
  obtain ⟨_, _, _, _, rfl⟩ := h
  rfl

/-- The interrupt of a ring is a matter of the ring and of the functions of the host. -/
theorem ringInterrupt_form (id : Nat) (s : State) : ∃ r p, s.ringInterrupt id = { s with rings := r, pci := p } := by
  unfold State.ringInterrupt
  split
  · exact ⟨_, _, rfl⟩
  · next r _ =>
    split
    · obtain ⟨_, h⟩ := raiseVector_form r.secure r.msix (s.modRing id fun r => { r with irqRaised := true })
      exact ⟨_, _, h⟩
    · exact ⟨_, _, rfl⟩

/-- A slot without a pass that is put on a ring changes the ring, the memory that it goes to and what its interrupt
does. -/
theorem produceSlot_form (id : Nat) (l : List Byte) (s : State) :
    ∃ w r d p, s.produceSlots id [l] none = { s with posted := w, rings := r, dma.served := d, pci := p } := by
  have serves (r : Ring) (u : State) : ∃ d, u.serves r = { u with dma.served := d } := by
    unfold State.serves
    split <;> exact ⟨_, rfl⟩
  unfold State.produceSlots
  split
  · exact ⟨_, _, _, _, rfl⟩
  · next r _ =>
    dsimp only [List.foldl]
    generalize hu : State.modRing id _ _ = u
    obtain ⟨_, served⟩ := serves r u
    rw [served]
    subst hu
    split
    · exact ⟨_, _, _, _, rfl⟩
    · obtain ⟨_, _, h⟩ := ringInterrupt_form id _
      rw [h]
      exact ⟨_, _, _, _, rfl⟩

/-- A slot leaves the queue or does not; nothing else of the converter changes. -/
theorem sequencing_madcSlot (partSlot : Bool) (s : State) : (s.madcSlot partSlot).sequencing = s.sequencing := by
  unfold State.madcSlot
  dsimp only
  split
  · rfl
  · split
    · rfl
    · obtain ⟨_, _, _, _, h⟩ := produceSlot_form s.madc.q.ring (slotOf _ (s.madc.q.entries.take 8)) s
      rw [h]
      rfl

theorem sequencing_madcDrain (n : Nat) (s : State) : (s.madcDrain n).sequencing = s.sequencing := by
  induction n generalizing s with
  | zero => rfl
  | succ n ih =>
    unfold State.madcDrain
    split
    · rfl
    · exact (ih _).trans (sequencing_madcSlot false s)

theorem sequencing_enqueue (entry core : Nat) (w : Word) (s : State) :
    (s.enqueue entry core w).sequencing = s.sequencing := by
  unfold State.enqueue
  dsimp only
  split
  · rfl
  · refine (sequencing_madcDrain _ _).trans ?_
    refine (when_keeps (g := State.sequencing) (sequencing_stirred (fire_stirred _ _ _)) _).trans ?_
    exact (when_keeps (g := State.sequencing) (by rfl) _).trans rfl

/-- The queue has something to give, and its ring takes a slot of it. -/
structure State.Delivers (s : State) (r : Ring) : Prop where
  ring : s.ring? s.madc.q.ring = some r
  bound : s.madc.q.ring ≠ 0
  filled : s.madc.q.entries ≠ []
  room : r.room ≠ 0
  fed : r.waitDoorbell = false
  host : s.canHost r.secure = true
  flows : s.dma.chans[(10 : Fin 32)].stuck = false
  lead : s.second = false

/-- A slot leaves a queue whose ring takes it. -/
theorem madcSlot_leaves {r : Ring} (delivers : s.Delivers r) : (s.madcSlot true).madc =
    { s.madc with q := { s.madc.q with entries := s.madc.q.entries.drop 8, times := s.madc.q.times.drop 8 } } := by
  obtain ⟨ring, bound, filled, room, fed, host, flows, lead⟩ := delivers
  unfold State.madcSlot
  dsimp only
  rw [ring]
  dsimp only
  rw [if_neg]
  · obtain ⟨_, _, _, _, h⟩ := produceSlot_form s.madc.q.ring (slotOf _ (s.madc.q.entries.take 8)) s
    rw [h]
    rfl
  · have filled : s.madc.q.entries.isEmpty = false := by simpa using filled
    have flows : s.dma.chans[10].stuck = false := flows
    rw [filled, fed, host, flows, lead, decide_eq_false bound, decide_eq_false room]
    exact Bool.false_ne_true

/-- MADC_SLOT_FLUSH comes to nothing before its time. -/
theorem slotFlush_early (live : s.Live) {t0 : Nat} (first : s.madc.q.times.head? = some t0)
    (early : (s.advance t).ticks < t0 + 150000) : Answers (.madcSlotFlush t) s fun u => s.calm u = s.advance t := by
  have still : (s.advance t).slotFlush = s.advance t := by
    unfold State.slotFlush
    rw [State.advance_madc, first]
    exact if_neg (Nat.not_le.2 early)
  exact ⟨_, rfl, act_calm_eq live (by rw [still]; rfl) rfl⟩

/-- A slot that is not full leaves the queue 100 microseconds after its first entry. -/
theorem slotFlush_leaves (live : s.Live) {t0 : Nat} {r : Ring} (first : s.madc.q.times.head? = some t0)
    (due : t0 + 150000 ≤ (s.advance t).ticks) (part : s.madc.q.entries.length < 8) (delivers : (s.advance t).Delivers r) :
    Answers (.madcSlotFlush t) s fun u => u.madc.q.entries = [] ∧ u.madc.q.times = s.madc.q.times.drop 8
      ∧ u.madc.seqs = s.madc.seqs := by
  have flushes : (s.advance t).slotFlush = (s.advance t).madcSlot true := by
    unfold State.slotFlush
    rw [State.advance_madc, first, Nat.div_eq_of_lt part]
    exact if_pos due
  refine answers_of_settled live rfl ?_
  rw [settle_madc, flushes, madcSlot_leaves delivers]
  exact ⟨List.drop_eq_nil_of_le (by exact part.le), rfl, rfl⟩

/-! ## Conversions (08 R190, R192, R199) -/

/-- The result of an entry joins the last words of its sequence, and the queue where the sequence uses it. -/
def State.recorded (k : Fin 2) (r : MadcRun) (e : MadcEntry) (w : Word × Bool) (s : State) : State :=
  let u := s.modSeq r.seq fun x => { x with last := x.last.set r.entry w.1 }
  let u := (u.when w.2 fun s => s.fire .madc 16).vddRead e.input w.1
  u.when s.madc.seqs[r.seq].queue fun s => s.enqueue r.entry k.val w.1

theorem sequencing_recorded (k : Fin 2) (r : MadcRun) (e : MadcEntry) (w : Word × Bool) (s : State) :
    (s.recorded k r e w).sequencing = (s.modSeq r.seq fun x => { x with last := x.last.set r.entry w.1 }).sequencing := by
  unfold State.recorded
  refine (when_keeps (g := State.sequencing) (sequencing_enqueue _ _ _ _) _).trans ?_
  refine (when_keeps (g := State.sequencing) (by rfl) _).trans ?_
  exact when_keeps (g := State.sequencing) (sequencing_stirred (fire_stirred _ _ _)) _

theorem queue_recorded (r : MadcRun) (e : MadcEntry) (w : Word × Bool) (unqueued : s.madc.seqs[r.seq].queue = false) :
    (s.recorded k r e w).madc.q = s.madc.q := by
  unfold State.recorded
  dsimp only
  rw [unqueued, when_false]
  refine (when_keeps (g := fun u => u.madc.q) (by rfl) _).trans ?_
  exact (when_keeps (g := fun u => u.madc.q) (by exact congrArg Madc.q (madc_fire _ _ _)) _).trans rfl

/-- The result of an entry in progress, and whether it exceeds its range. -/
def State.entryResult (k : Fin 2) (r : MadcRun) (e : MadcEntry) (samples : List Int) (s : State) : Word × Bool :=
  s.madc.cores[k].result e r.seq.val (s.madc.seqs[r.seq].last.getD r.entry 0)
    (r.unsettled || s.madc.sampleUnsettled r e s.ticks) samples

/-- The core is through with an entry of its run: the samples of the entry are complete. -/
structure State.EntryDone (s : State) (k : Fin 2) (r : MadcRun) (e : MadcEntry) (samples : List Int) : Prop where
  run : s.madc.cores[k].run = some r
  entry : s.madc.seqs[r.seq].entries[r.entry]? = some e
  due : r.done < e.count → r.start + 75 * e.settle + 750 * (e.count - r.done) ≤ s.ticks
  complete : e.count ≤ samples.length

/-- An entry whose samples are complete gives its result; the next entry begins, or the run ends. -/
theorem conversionDone_of_entryDone {r : MadcRun} {e : MadcEntry} {samples : List Int}
    (done : s.urgentTake.EntryDone k r e samples) :
    let u := s.urgentTake.recorded k r e (s.urgentTake.entryResult k r e samples)
    s.conversionDone k samples = if r.entry + 1 < s.urgentTake.madc.seqs[r.seq].entries.length
      then u.modCore k fun c => c.begin r.seq (r.entry + 1) u.ticks else u.runEnd k r.seq := by
  intro u
  obtain ⟨run, entry, due, complete⟩ := done
  unfold State.conversionDone
  dsimp only
  rw [run]
  dsimp only
  rw [entry]
  dsimp only
  rw [if_neg]
  · rfl
  · simp only [Bool.or_eq_true, Bool.and_eq_true, decide_eq_true_eq, not_or, not_and, Nat.not_lt]
    exact ⟨due, complete⟩

theorem seqTrigger_of_disarmed (disarmed : s.madc.seqs[q].armed = false) : s.seqTrigger q = s := by
  rw [seqTrigger_eq, if_neg]
  unfold MadcSeq.counts
  rw [disarmed]
  exact Bool.false_ne_true

theorem modSeq_same {f : MadcSeq → MadcSeq} (same : f s.madc.seqs[q] = s.madc.seqs[q]) : s.modSeq q f = s := by
  unfold State.modSeq
  rw [same, seqs_set_own]

/-- A sequence that is armed in another mode than the continuous one does not follow itself. -/
theorem when_continuous_same (once : s.madc.seqs[q].armed = true → s.madc.seqs[q].mode ≠ 1) :
    (s.when (s.madc.seqs[q].mode = 1) fun s => s.seqTrigger q) = s := by
  unfold State.when
  split
  · next continuous =>
    exact seqTrigger_of_disarmed (Bool.eq_false_iff.2 fun on => once on (of_decide_eq_true continuous))
  · rfl

theorem seqStops_same (nil : s.madc.seqs[q].stops = []) : s.seqStops q = s :=
  (seqStops_of_nil nil).trans (modSeq_same (by rw [← nil]))

/-- The run of the core is over and counted, and its generator has fired. -/
def State.runCounted (k : Fin 2) (q : Fin 16) (s : State) : State :=
  let u := (s.modCore k fun c => { c with run := none }).modSeq q fun x => { x with runs := x.runs + 1 }
  { u with madc.seqDone := setBit s.madc.seqDone q.val }.fire .madc q.val

theorem runEnd_eq (k : Fin 2) (q : Fin 16) (s : State) : s.runEnd k q =
    let u := ((s.runCounted k q).seqStops q).coreStart k
    u.when (u.madc.seqs[q].mode = 1) fun s => s.seqTrigger q := rfl

theorem sequencing_runCounted (k : Fin 2) (q : Fin 16) (s : State) : (s.runCounted k q).sequencing =
    (s.madc.seqs.set q { s.madc.seqs[q] with runs := s.madc.seqs[q].runs + 1 },
      s.madc.cores.set k { s.madc.cores[k] with run := none }, setBit s.madc.seqDone q.val, s.ticks) :=
  sequencing_stirred (fire_stirred _ _ _)

/-- A run of a sequence that nothing waits for ends, and its core is free: no stop is answered, and no run
follows. -/
theorem runEnd_ends (stops : s.madc.seqs[q].stops = []) (unasked : ∀ p : Fin 16, s.madc.seqs[p].pend = false)
    (once : s.madc.seqs[q].armed = true → s.madc.seqs[q].mode ≠ 1) :
    (s.runEnd k q).madc.seqs = s.madc.seqs.set q { s.madc.seqs[q] with runs := s.madc.seqs[q].runs + 1 }
      ∧ (s.runEnd k q).madc.cores[k].run = none ∧ (s.runEnd k q).madc.seqDone = setBit s.madc.seqDone q.val := by
  have counted := sequencing_runCounted k q s
  rw [runEnd_eq]
  generalize s.runCounted k q = u at counted
  have seqs : u.madc.seqs = _ := congrArg Prod.fst counted
  have free : u.madc.cores[k].run = none := by
    rw [show u.madc.cores = _ from congrArg (fun x => x.2.1) counted, cores_set_same]
  have done : u.madc.seqDone = _ := congrArg (fun x => x.2.2.1) counted
  have same (p : Fin 16) : { u.madc.seqs[p] with runs := s.madc.seqs[p].runs } = s.madc.seqs[p] := by
    rw [seqs, seqs_set_apply]
    split
    · next own => rw [own]
    · rfl
  have stops : u.madc.seqs[q].stops = [] := (congrArg MadcSeq.stops (same q) :).trans stops
  have unasked (p : Fin 16) : u.madc.seqs[p].pend = false := (congrArg MadcSeq.pend (same p) :).trans (unasked p)
  have armed : u.madc.seqs[q].armed = s.madc.seqs[q].armed := (congrArg MadcSeq.armed (same q) :)
  have mode : u.madc.seqs[q].mode = s.madc.seqs[q].mode := (congrArg MadcSeq.mode (same q) :)
  have once (on : u.madc.seqs[q].armed = true) : u.madc.seqs[q].mode ≠ 1 := mode ▸ once (armed.symm.trans on)
  rw [seqStops_same stops, coreStart_of_unasked free unasked]
  dsimp only
  rw [when_continuous_same (s := u.modCore k MadcCore.boundary) once]
  refine ⟨seqs, ?_, done⟩
  rw [State.modCore_madc, cores_set_same, boundary_run, free]

/-- An entry gives its result, and the next entry of the run begins. -/
theorem conversionDone_goes_on (live : s.Live) {r : MadcRun} {e : MadcEntry} {samples : List Int}
    (done : (s.advance t).urgentTake.EntryDone k r e samples)
    (more : r.entry + 1 < (s.advance t).urgentTake.madc.seqs[r.seq].entries.length) :
    Answers (.madcConversionDone t k samples) s fun u =>
      let m := (s.advance t).urgentTake.madc
      (∀ p : Fin 16, u.madc.seqs[p] = if p = r.seq then { m.seqs[r.seq] with
          last := m.seqs[r.seq].last.set r.entry ((s.advance t).urgentTake.entryResult k r e samples).1 } else m.seqs[p])
      ∧ u.madc.cores[k].run = (m.cores[k].begin r.seq (r.entry + 1) (s.advance t).ticks).run
      ∧ (m.seqs[r.seq].queue = false → u.madc.q = s.madc.q) := by
  refine answers_of_settled live rfl ?_
  rw [settle_madc, conversionDone_of_entryDone done, if_pos more]
  have recorded := sequencing_recorded k r e ((s.advance t).urgentTake.entryResult k r e samples) (s.advance t).urgentTake
  have queue := queue_recorded (k := k) (s := (s.advance t).urgentTake) r e
    ((s.advance t).urgentTake.entryResult k r e samples)
  generalize State.recorded k r e _ _ = u at recorded queue
  refine ⟨fun p => ?_, ?_, fun unqueued => (queue unqueued).trans ?_⟩
  · rw [State.modCore_madc]
    exact (congrArg (fun v : Vector MadcSeq 16 => v[p]) (seqs_of_sequencing recorded)).trans (seqs_set_apply _ _ p _)
  · rw [State.modCore_madc, cores_set_same, ticks_of_sequencing recorded, cores_of_sequencing recorded]
    rfl
  · obtain ⟨_, _, _, form⟩ := (urgentTake_took (s.advance t)).form
    rw [form]
    rfl

/-- The last entry gives its result, and the run ends. -/
theorem conversionDone_ends (live : s.Live) {r : MadcRun} {e : MadcEntry} {samples : List Int}
    (done : (s.advance t).urgentTake.EntryDone k r e samples)
    (last : (s.advance t).urgentTake.madc.seqs[r.seq].entries.length ≤ r.entry + 1)
    (stops : (s.advance t).urgentTake.madc.seqs[r.seq].stops = []) (unasked : ∀ p : Fin 16, s.madc.seqs[p].pend = false)
    (once : (s.advance t).urgentTake.madc.seqs[r.seq].armed = true → (s.advance t).urgentTake.madc.seqs[r.seq].mode ≠ 1) :
    Answers (.madcConversionDone t k samples) s fun u =>
      let m := (s.advance t).urgentTake.madc
      (∀ p : Fin 16, u.madc.seqs[p] = if p = r.seq then { m.seqs[r.seq] with
          last := m.seqs[r.seq].last.set r.entry ((s.advance t).urgentTake.entryResult k r e samples).1
          runs := m.seqs[r.seq].runs + 1 } else m.seqs[p])
      ∧ u.madc.cores[k].run = none ∧ u.madc.seqDone = setBit s.madc.seqDone r.seq.val := by
  refine answers_of_settled live rfl ?_
  rw [settle_madc, conversionDone_of_entryDone done, if_neg (Nat.not_lt.2 last)]
  have recorded := sequencing_recorded k r e ((s.advance t).urgentTake.entryResult k r e samples) (s.advance t).urgentTake
  have took := urgentTake_took (s.advance t)
  generalize State.recorded k r e _ _ = u at recorded
  have seqs := seqs_of_sequencing recorded
  rw [State.modSeq_madc] at seqs
  have same (p : Fin 16) : { u.madc.seqs[p] with last := (s.advance t).urgentTake.madc.seqs[p].last } =
      (s.advance t).urgentTake.madc.seqs[p] := by
    rw [seqs, seqs_set_apply]
    split
    · next own => rw [own]
    · rfl
  obtain ⟨after, free, done⟩ := runEnd_ends (s := u) (k := k) (q := r.seq)
    ((congrArg MadcSeq.stops (same r.seq) :).trans stops)
    (fun p => (congrArg MadcSeq.pend (same p) :).trans ((took.pend p).trans (unasked p)))
    fun on continuous => once ((congrArg MadcSeq.armed (same r.seq) :).symm.trans on)
      ((congrArg MadcSeq.mode (same r.seq) :).symm.trans continuous)
  have before : u.madc.seqDone = s.madc.seqDone := by
    obtain ⟨_, _, _, form⟩ := took.form
    refine (seqDone_of_sequencing recorded).trans ?_
    rw [State.modSeq_madc, form]
    rfl
  refine ⟨fun p => ?_, free, done.trans (by rw [before])⟩
  rw [after, seqs_set_apply, seqs]
  dsimp only
  rw [seqs_set_same]
  split
  · rfl
  · next other => exact seqs_set_other other _ _

/-- REF_SETTLED marks the reference as settled 5 ms after it went on. -/
theorem refSettled_settles (live : s.Live) (on : s.madc.refOn = true) (due : s.madc.refTick + 7500000 ≤ (s.advance t).ticks) :
    Answers (.refSettled t) s fun u => s.calm u = { s.advance t with madc.refSettled := true } := by
  have settles : (s.advance t).refSettled = { s.advance t with madc.refSettled := true } := by
    unfold State.refSettled
    rw [State.advance_madc, on, decide_eq_true due]
    rfl
  exact ⟨_, rfl, act_calm_eq live (by rw [settles]; rfl) rfl⟩

/-- REF_SETTLED comes to nothing before its time. -/
theorem refSettled_early (live : s.Live) (early : (s.advance t).ticks < s.madc.refTick + 7500000) :
    Answers (.refSettled t) s fun u => s.calm u = s.advance t := by
  have still : (s.advance t).refSettled = s.advance t := by
    unfold State.refSettled
    rw [State.advance_madc, decide_eq_false (Nat.not_le.2 early), Bool.and_false]
    exact if_neg Bool.false_ne_true
  exact ⟨_, rfl, act_calm_eq live (by rw [still]; rfl) rfl⟩

/-- A trigger pin wakes nothing in DORMANT: its edge is a waymark event. -/
theorem trigPin_of_dormant (live : s.Live) (dormant : s.sys.mode = .dormant) (pin : Fin 4) (rising : Bool) :
    Answers (.madcTrigPin t pin rising) s fun u => s.hush u = s.hush (s.advance t) := by
  have fires : (s.advance t).trigPin pin rising = (s.advance t).fire .madc ((if rising then 18 else 22) + pin.val) := by
    unfold State.trigPin
    exact if_pos (by rw [fire_sys]; exact dormant)
  refine ⟨_, rfl, (act_hush live t (State.trigPin pin rising) (by rw [fires, fire_posted]; exact live.posted)).trans ?_⟩
  obtain ⟨_, _, _, _, form⟩ := fire_stirred .madc ((if rising then 18 else 22) + pin.val) (s.advance t)
  rw [fires, form]
  rfl

end

/-- Settles O57: a trigger counts on its sequence or starts it; an entry's result joins its sequence before the next
entry begins or the run ends; whoever asked for an urgent conversion, its result is the last urgent result and counted
once; a slot that is not full waits its time; so does the reference. -/
theorem sequencesRunEntryByEntry : Obligations.SequencesRunEntryByEntry := by
  unfold Obligations.SequencesRunEntryByEntry
  intro s t live
  refine ⟨fun pin rising => ⟨fun busy awake => ?_, fun dormant => ?_⟩, fun q x due => ⟨?_, ?_, ?_⟩, fun q => ?_,
    fun k run e samples runs entry due complete => ⟨fun more => ?_, fun last stops unasked once => ?_⟩,
    fun k x samples taken due => ?_, fun t0 first => ⟨?_, ?_⟩, ?_, ?_⟩
  · refine (trigPin_counts live busy awake pin rising).imp fun u ⟨next, cores, seqs⟩ => ⟨next, cores, fun q => ?_⟩
    exact ⟨fun on => (seqs q).1 (selects_iff.2 on), fun off => (seqs q).2 fun on => off (selects_iff.1 on)⟩
  · exact trigPin_of_dormant live dormant pin rising
  · exact seqTask_of_unmarked due live
  · exact seqTask_counts due live
  · exact seqTask_starts due live
  · exact periodTrigger_counts live
  · have entry := ((urgentTake_took (s.advance t)).entries run.seq).symm ▸ entry
    exact conversionDone_goes_on live ⟨runs, entry, due, complete⟩ more
  · have entry := ((urgentTake_took (s.advance t)).entries run.seq).symm ▸ entry
    exact conversionDone_ends live ⟨runs, entry, due, complete⟩ last stops unasked once
  · exact urgentResult_answers live taken due
  · exact slotFlush_early live first
  · exact fun r due ring bound filled part room fed host flows lead =>
      slotFlush_leaves live first due part ⟨ring, bound, filled, room, fed, host, flows, lead⟩
  · exact refSettled_settles live
  · exact refSettled_early live

end Sys2Proof.Machine

namespace Sys2Proof.Machine

/-! ## What leaves TRIG as it was -/

section
variable (n : Fin 8) (s : State)

theorem trig_stirred {s u : State} (h : s.Stirred u) : u.trig = s.trig := by
  obtain ⟨_, _, _, _, rfl⟩ := h
  rfl

theorem trig_fire (b : BlockId) (off : Nat) : (s.fire b off).trig = s.trig := trig_stirred (fire_stirred b off s)

theorem trig_event (b : BlockId) (st : BitVec 16) (d f : BitVec 32) (q a : DWord) (l : List Byte) :
    (s.event b st d f q a l).trig = s.trig := trig_stirred (event_stirred b st d s f q a l)

theorem trig_sysRoutes : s.sysRoutes.trig = s.trig := trig_stirred (sysRoutes_stirred s)

theorem trig_sendGate : s.sendGate.trig = s.trig := by
  obtain ⟨_, sent⟩ := sendGate_form s
  rw [sent]

theorem trig_portFlag (bit : Nat) : (s.portFlag n bit).trig = s.trig := by
  unfold State.portFlag
  dsimp only
  split
  · exact trig_event _ _ _ _ _ _ _ _
  · rfl

theorem trig_setCalNeeded : (s.setCalNeeded n).trig = s.trig := by
  unfold State.setCalNeeded
  exact (when_keeps (g := State.trig) (trig_portFlag n _ 6) _).trans rfl

theorem trig_alignChanged : (s.alignChanged n).trig = s.trig := by
  unfold State.alignChanged
  split
  · exact when_keeps (g := State.trig) (by rfl) _
  · rfl

theorem trig_ceilingLowered : (s.ceilingLowered n).trig = s.trig := by
  unfold State.ceilingLowered
  split
  · rfl
  · exact trig_event _ _ _ _ _ _ _ _

theorem trig_planChanged : s.planChanged.trig = s.trig := by
  unfold State.planChanged
  split
  · rfl
  · refine (each_keeps (g := State.trig) (fun n u => ?_) _ _).trans rfl
    exact (when_keeps (g := State.trig) (trig_ceilingLowered n _) _).trans rfl

/-- What follows a change of a record is a matter of its unit. -/
theorem trig_recordChanged (i : Fin 64) : (s.recordChanged i).trig = s.trig := by
  unfold State.recordChanged
  dsimp only
  split
  · rfl
  · split
    · exact trig_setCalNeeded _ _
    · exact (trig_setCalNeeded _ _).trans (when_keeps (g := State.trig) (by rfl) _)
    · exact trig_alignChanged _ _
    · rfl
    · rfl
    · exact each_keeps (g := State.trig) (fun _ _ => by rfl) _ _
    · exact trig_planChanged _

theorem trig_enterMode (m : Mode) : (s.enterMode m).trig = s.trig := by
  unfold State.enterMode
  extract_lets m' u
  split
  · rfl
  · split
    · exact trig_fire _ _ _
    · exact trig_fire _ _ _

theorem trig_slotRefill : s.slotRefill.trig = s.trig := by
  unfold State.slotRefill
  split <;> rfl

theorem trig_batchOpened (q : DWord) (number : BitVec 32) : (s.batchOpened q number).trig = s.trig := by
  unfold State.batchOpened
  refine (finish_trig _ _ _ _ _ _ _).trans ((trig_fire _ _ _).trans ((trig_sendGate _).trans ((trig_slotRefill _).trans ?_)))
  exact trig_enterMode _ .run

theorem trig_openFailed (q : DWord) : (s.openFailed q).trig = s.trig := finish_trig _ _ _ _ _ _ _

end

/-! ## What leaves the flash as it was -/

/-- The slots of every record with their candidates, those of the boot record, and the count of failed stores. -/
def State.flash (s : State) : Vector TrigCell 64 × Vector (SlotState BootRecord) 2 × Word :=
  (s.trig.cells, s.trig.boot, s.trig.nvmErr)

theorem flash_of_trig {s u : State} (h : u.trig = s.trig) : u.flash = s.flash :=
  congrArg (fun x : Trig => (x.cells, x.boot, x.nvmErr)) h

section
variable (s : State)

/-- Where it acts or does not act, an effect on TRIG's event register leaves the rest of TRIG. -/
theorem when_evt {x : Trig} {f : State → State} {u : State} (rest : ∃ e, u.trig = { x with evt := e })
    (only : ∀ v : State, ∃ e, (f v).trig = { v.trig with evt := e }) (c : Bool) :
    ∃ e, (u.when c f).trig = { x with evt := e } := by
  cases c with
  | false => exact rest
  | true =>
    obtain ⟨_, rest⟩ := rest
    obtain ⟨e, acts⟩ := only u
    exact ⟨e, acts.trans (by rw [rest])⟩

/-- All that the last result of a calibration changes of TRIG. -/
theorem calLast_trig (op idx : Nat) (st : BitVec 16) (d : BitVec 32) (resid : Int) : ∃ l r e,
    (s.calLast op idx st d resid).trig = { s.trig with last := l, lastDetail := d, lastResid := r, evt := e } := by
  obtain ⟨e, told⟩ := when_evt (when_evt (when_evt ⟨_, rfl⟩ (fun v => ⟨_, trig_fire (v.setEvt .trig 0) .trig 0⟩) _)
    (f := State.setEvt .trig 1)
    (fun v => ⟨setBit v.trig.evt 1, rfl⟩) _) (f := State.setEvt .trig 2) (fun v => ⟨setBit v.trig.evt 2, rfl⟩) _
  exact ⟨_, _, e, told⟩

theorem flash_calLast (op idx : Nat) (st : BitVec 16) (d : BitVec 32) (resid : Int) :
    (s.calLast op idx st d resid).flash = s.flash := by
  obtain ⟨_, _, _, told⟩ := calLast_trig s op idx st d resid
  unfold State.flash
  rw [told]

/-- A BATCH_OPEN that goes on puts the boot record behind the stores. -/
theorem openNext_trig : ∃ l, s.openNext.trig = { s.trig with stores := l } := by
  unfold State.openNext
  split
  · exact ⟨_, rfl⟩
  · split <;> exact ⟨_, rfl⟩

theorem flash_openNext : s.openNext.flash = s.flash := by
  obtain ⟨_, goes⟩ := openNext_trig s
  unfold State.flash
  rw [goes]

theorem flash_finish (q : DWord) (st : BitVec 16) (d r f : BitVec 32) (b : List (Nat × List Byte)) :
    (s.finish q st d r f b).flash = s.flash := flash_of_trig (finish_trig q st d r f b s)

theorem flash_jobEnd (j : StoreJob) (st : BitVec 16) (d : BitVec 32) (i : Nat) : (s.jobEnd j st d i).flash = s.flash := by
  unfold State.jobEnd
  extract_lets free m x u v
  have reported : v.flash = s.flash := by
    dsimp only [v]
    split
    · exact (flash_of_trig (trig_event _ _ _ _ _ _ _ _)).trans rfl
    · rfl
  refine (flash_openNext _).trans ?_
  split
  · exact (flash_finish _ _ _ _ _ _ _).trans ((flash_calLast _ _ _ _ _ _).trans reported)
  · exact (flash_finish _ _ _ _ _ _ _).trans reported

theorem flash_nextStore (k : Nat) : (s.nextStore k).flash = s.flash := by
  induction k generalizing s with
  | zero => rfl
  | succ k ih =>
    have ends (j : StoreJob) (i : Nat) :
        (if j.written = 0 then s.jobEnd j 0x0103 0x51B i else s.jobEnd j 0 0 i).flash = s.flash := by
      split <;> exact flash_jobEnd _ _ _ _ _
    unfold State.nextStore
    split
    · rfl
    · split
      · rfl
      · dsimp only
        split
        · exact (ih _).trans (ends _ 0)
        · split
          · exact when_keeps (g := State.flash) (by rfl) _
          · refine (ih _).trans ?_
            split
            · exact ends _ _
            · rfl

theorem flash_startStores : s.startStores.flash = s.flash := flash_nextStore s 64

theorem flash_renewHead : s.renewHead.flash = s.flash := by
  unfold State.renewHead
  split <;> rfl

theorem flash_planEnd (ok was : Bool) : (s.planEnd ok was).flash = s.flash := by
  unfold State.planEnd
  dsimp only
  split
  · rfl
  · refine (when_keeps (g := State.flash) ?_ _).trans ?_
    · exact flash_of_trig (trig_fire _ _ _)
    · exact flash_of_trig (trig_fire _ _ _)

/-- What follows the end of a store leaves the flash to the next one. -/
theorem flash_storeEnded (was : Bool) (r : State × Option (NvmStore × Bool)) : (State.storeEnded was r).flash = r.1.flash := by
  unfold State.storeEnded
  split
  · rfl
  · next x ok _ =>
    refine (flash_startStores _).trans ?_
    dsimp only
    split
    · refine each_keeps (g := State.flash) (fun q u => ?_) _ _
      split
      · split
        · exact flash_of_trig (trig_batchOpened _ _ _)
        · exact flash_of_trig (trig_openFailed _ _)
      · rfl
    · split
      · exact flash_planEnd _ _ _
      · split <;> rfl
    · rfl

end

end Sys2Proof.Machine

namespace Sys2Proof.Machine

/-! ## The steps of a store (09 R225, Table 9.10) -/

section
variable {s : State} {t k : Nat} {x : NvmStore} {rest : List NvmStore}

/-- An effect that comes to nothing is the passing of time. -/
theorem answers_of_nothing (live : s.Live) {c : Instr} {f : State → State} (meaning : exec c s = .next (s.act t f))
    (nothing : f (s.advance t) = s.advance t) : Answers c s fun u => s.calm u = s.advance t :=
  ⟨_, meaning, act_calm_eq live (by rw [nothing]; rfl) rfl⟩

/-- No store takes another's step, and none goes on while the secure controller starts. -/
theorem nvmStep_of_idle (stores : s.trig.stores = x :: rest) (idle : x.step ≠ k ∨ s.secPaused = true) (o : StoreStep) :
    s.nvmStep k o = s := by
  unfold State.nvmStep
  split
  · rfl
  · next awake =>
    unfold State.storeStep
    rw [stores]
    dsimp only
    rw [if_pos (idle.resolve_right awake)]
    rfl

/-- A step taken is the store's own: what follows is for the end of a store alone. -/
theorem nvmStep_of_due (awake : s.secPaused = false) (o : StoreStep) :
    s.nvmStep k o = State.storeEnded s.wea.marginLow (s.storeStep k o) := by
  unfold State.nvmStep
  rw [awake]
  exact if_neg Bool.false_ne_true

theorem nvmStep_on (stores : s.trig.stores = x :: rest) (due : x.step = k) (awake : s.secPaused = false) (empty : Bool) :
    s.nvmStep k (.on empty) = State.storeSlot x empty { s with trig.stores := { x with step := k + 1 } :: rest } := by
  rw [nvmStep_of_due awake]
  unfold State.storeStep
  rw [stores]
  dsimp only
  rw [if_neg (not_not.2 due)]
  rfl

theorem nvmStep_done_flash (stores : s.trig.stores = x :: rest) (due : x.step = k) (awake : s.secPaused = false) :
    (s.nvmStep k .done).flash = (State.storeDone x { s with trig.stores := rest }).flash := by
  rw [nvmStep_of_due awake, flash_storeEnded]
  unfold State.storeStep
  rw [stores]
  dsimp only
  rw [if_neg (not_not.2 due)]
  exact flash_renewHead _

theorem nvmStep_failed_flash (stores : s.trig.stores = x :: rest) (due : x.step = k) (awake : s.secPaused = false)
    (d : BitVec 32) : (s.nvmStep k (.failed d)).flash = (State.storeFailed x d { s with trig.stores := rest }).flash := by
  rw [nvmStep_of_due awake, flash_storeEnded]
  unfold State.storeStep
  rw [stores]
  dsimp only
  rw [if_neg (not_not.2 due)]
  exact flash_renewHead _

/-- What the slot holds meanwhile is none of the stores', the jobs' and the replies'. -/
theorem storeSlot_keeps (x : NvmStore) (empty : Bool) (s : State) : (s.storeSlot x empty).trig.stores = s.trig.stores
    ∧ (s.storeSlot x empty).trig.jobs = s.trig.jobs ∧ (s.storeSlot x empty).cmd.replies = s.cmd.replies := by
  unfold State.storeSlot
  split
  · exact ⟨rfl, rfl, rfl⟩
  · unfold State.modSlot
    split <;> exact ⟨rfl, rfl, rfl⟩
  · exact ⟨rfl, rfl, rfl⟩

/-- The flash after a store that has failed at a step. -/
def NvmItem.failed (step : Nat) (s : State) : NvmItem → Vector TrigCell 64 × Vector (SlotState BootRecord) 2 × Word
  | .boot k _ => (s.trig.cells, s.trig.boot.set k .invalid, satInc s.trig.nvmErr)
  | .image _ _ _ => (s.trig.cells, s.trig.boot, satInc s.trig.nvmErr)
  | .trig i b _ => (s.trig.cells.set i (s.trig.cells[i].setSlot b (if step = 3 then .empty else .invalid)), s.trig.boot
      , satInc s.trig.nvmErr)

theorem storeFailed_flash (x : NvmStore) (d : BitVec 32) (s : State) : (s.storeFailed x d).flash = x.item.failed x.step s := by
  unfold State.storeFailed
  extract_lets m u v m'
  have counted : v.trig = { u.trig with evt := setBit u.trig.evt 3 } := trig_fire _ _ _
  split
  · next k r item =>
    rw [item]
    show (v.trig.cells, v.trig.boot.set k .invalid, v.trig.nvmErr) = _
    rw [counted]
    rfl
  · next item =>
    rw [item]
    refine (each_keeps (g := State.flash) (fun q w => flash_finish w q _ _ _ _ _) _ _).trans ?_
    show (v.trig.cells, v.trig.boot, v.trig.nvmErr) = _
    rw [counted]
    rfl
  · next i b r item =>
    extract_lets w
    have slot : w.flash = (NvmItem.trig i b r).failed x.step s := by
      show (v.trig.cells.set i _, v.trig.boot, v.trig.nvmErr) = _
      rw [counted]
      rfl
    rw [item, ← slot]
    split
    · exact when_keeps (g := State.flash) (flash_calLast _ _ _ _ _ _) _
    · split
      · rfl
      · exact flash_jobEnd _ _ _ _ _

theorem nvmErr_failed (item : NvmItem) (step : Nat) (s : State) : (item.failed step s).2.2 = satInc s.trig.nvmErr := by
  cases item <;> rfl

/-- A record's cell as its store leaves it: its slot holds the record, and it is in force. -/
def TrigCell.store (b : Bool) (r : TrigRecord) (c : TrigCell) : TrigCell :=
  { c.setSlot b (.valid r) with force := some b, rev := false, top := max c.top r.head.gen }

theorem setSlot_same (b : Bool) (c : TrigCell) (y : SlotState TrigRecord) :
    (if b then (c.setSlot b y).b else (c.setSlot b y).a) = y := by
  cases b <;> rfl

theorem setSlot_force (b : Bool) (c : TrigCell) (y : SlotState TrigRecord) : (c.setSlot b y).force = c.force := by
  cases b <;> rfl

theorem cells_set_same (v : Vector TrigCell 64) (i : Fin 64) (c : TrigCell) : (v.set i c)[i] = c := by simp

theorem cells_set_other {i k : Fin 64} (h : k ≠ i) (v : Vector TrigCell 64) (c : TrigCell) : (v.set i c)[k] = v[k] := by
  have : (i : Nat) ≠ k := fun e => h (Fin.ext e.symm)
  simp [this]

/-- A new candidate for a record, or none, where the flash has its cell. -/
theorem when_modCell_cand {u : State} {i : Fin 64} {v : Vector TrigCell 64} {c : TrigCell}
    {rest : Vector (SlotState BootRecord) 2 × Word} {f : TrigCell → TrigCell} (flash : u.flash = (v.set i c, rest))
    (only : ∃ d, f c = { c with cand := d }) (acts : Bool) :
    ∃ d, (u.when acts fun s => s.modCell i f).flash = (v.set i { c with cand := d }, rest) := by
  cases acts with
  | false => exact ⟨c.cand, flash⟩
  | true =>
    obtain ⟨d, only⟩ := only
    have cells : u.trig.cells = v.set i c := congrArg Prod.fst flash
    refine ⟨d, ?_⟩
    show (u.trig.cells.set i (f u.trig.cells[i]), u.flash.2) = _
    rw [cells, cells_set_same, only, Vector.set_set, flash]

/-- A complete store of a record: but for the candidate, its cell is as the store leaves it. -/
theorem storeDone_record {i : Fin 64} {b : Bool} {r : TrigRecord} (item : x.item = .trig i b r) (s : State) :
    ∃ d, (s.storeDone x).flash =
      (s.trig.cells.set i { s.trig.cells[i].store b r with cand := d }, s.trig.boot, s.trig.nvmErr) := by
  unfold State.storeDone
  rw [item]
  dsimp only
  generalize changed : State.recordChanged i _ = u
  have stored : u.flash = (s.trig.cells.set i (s.trig.cells[i].store b r), s.trig.boot, s.trig.nvmErr) := by
    rw [← changed]
    exact flash_of_trig (trig_recordChanged _ i)
  split
  · exact ⟨(s.trig.cells[i].store b r).cand, (when_keeps (g := State.flash) (flash_calLast _ _ _ _ _ _) _).trans stored⟩
  · split
    · exact ⟨(s.trig.cells[i].store b r).cand, stored⟩
    · next j _ =>
      obtain ⟨d, left⟩ := when_modCell_cand 
        (f := fun c => if c.cand = x.taken then { c with cand := c.cand.bind (leftover j.phases) } else c) stored (by
        split
        · exact ⟨_, rfl⟩
        · exact ⟨_, rfl⟩) (!j.revert)
      refine ⟨d, Eq.trans ?_ left⟩
      split
      · exact flash_jobEnd _ _ _ _ _
      · rfl

theorem storeDone_boot {k : Fin 2} {b : BootRecord} (item : x.item = .boot k b) (s : State) :
    (s.storeDone x).flash = (s.trig.cells, s.trig.boot.set k (.valid b), s.trig.nvmErr) := by
  unfold State.storeDone
  rw [item]
  rfl

end

/-! ## The weathering plan (13 R324, R325) -/

section
variable {s : State} {t : Nat} {mon : List Nat} {temps : List Int} {mv : Nat} {tables : List (List Nat)}

/-- A record that the device writes by itself joins the stores, and is signed where TRIG is secure. -/
theorem deviceRecord_form (i : Fin 64) (resid : Int) (body : TrigBody) (s : State) : ∃ c x,
    s.deviceRecord i resid body = { s with sec := c, trig.stores := s.trig.stores ++ [x] }
    ∧ x.step = 2 ∧ x.job = none ∧ ∃ b rec, x.item = .trig i b rec := by
  unfold State.deviceRecord
  extract_lets r
  cases s.secureBlock .trig <;> exact ⟨_, _, rfl, rfl, rfl, _, _, rfl⟩

/-- The second state has further stores behind those of the first, whose planner, ports and records it has. -/
structure State.Queues (s u : State) : Prop where
  wea : u.wea = s.wea
  ports : u.ports = s.ports
  cells : u.trig.cells = s.trig.cells
  stores : ∃ l, u.trig.stores = s.trig.stores ++ l

theorem timeCal_queues (tables : List (List Nat)) (s : State) : s.Queues (s.timeCal tables) := by
  unfold State.timeCal
  split
  · obtain ⟨_, x, form, -⟩ := deviceRecord_form timeIndex (Config.freeInt s.free) (.time tables)
      { s with trig.timeRunning := true, trig.timeImplausible := false }
    rw [form]
    exact ⟨rfl, rfl, rfl, [x], rfl⟩
  · generalize told : State.drawn _ = u
    have still : s.Queues u := by
      rw [← told]
      exact ⟨rfl, rfl, rfl, [], (List.append_nil _).symm⟩
    obtain ⟨_, _, _, _, form⟩ := event_stirred .trig 0x0200 0x515 u 0 (-1) 0 []
    rw [form]
    exact ⟨still.wea, still.ports, still.cells, still.stores⟩

@[simp] theorem settle_wea (s0 s : State) : (s0.settle s).wea = s.wea := by
  obtain ⟨_, _, _, h⟩ := settle_form s0 s
  rw [h]

/-- A plan that is made joins the stores ahead of the TIME calibration that follows it. -/
theorem makePlan_joins (mon : List Nat) (temps : List Int) (mv : Nat) (tables : List (List Nat)) (s : State) :
    ∃ x l, (s.makePlan mon temps mv tables).trig.stores = s.trig.stores ++ x :: l
      ∧ x.step = 2 ∧ x.job = none ∧ (∃ b rec, x.item = .trig planIndex b rec)
      ∧ (s.makePlan mon temps mv tables).trig.cells = s.trig.cells ∧ (s.makePlan mon temps mv tables).ports = s.ports
      ∧ (s.makePlan mon temps mv tables).wea = { s.wea with
          planning := true, due := false, storeFailed := false, lastPlan := s.ns, vddLow := 0
          monitors := (List.range 64).map fun k => mon.getD k 0 } := by
  unfold State.makePlan
  extract_lets low body u v m w
  obtain ⟨c, x, form, step, job, item⟩ := deviceRecord_form planIndex (s.planResidual mon) (.weather body) s
  have u_eq : u = _ := form
  obtain ⟨wea, ports, cells, l, stores⟩ := timeCal_queues tables w
  rw [wea, ports, cells, stores]
  clear_value u
  subst u_eq
  exact ⟨x, l, List.append_assoc .., step, job, item, rfl, rfl, rfl⟩

theorem weatherPlan_of_idle (idle : s.planIsDue = false ∨ s.wea.planning = true ∨ s.secPaused = true ∨ s.sys.mode = .safe
    ∨ s.sys.mode = .startUp) : s.weatherPlan mon temps mv tables = s := by
  unfold State.weatherPlan
  refine if_pos ?_
  rcases idle with h | h | h | h | h <;> simp [h]

theorem weatherPlan_of_dormant (due : s.planIsDue = true) (unplanned : s.wea.planning = false) (awake : s.secPaused = false)
    (dormant : s.sys.mode = .dormant) : s.weatherPlan mon temps mv tables = { s with wea.due := true } := by
  unfold State.weatherPlan
  rw [if_neg (by simp [due, unplanned, awake, dormant]), if_pos dormant]

theorem weatherPlan_of_working (due : s.planIsDue = true) (unplanned : s.wea.planning = false) (awake : s.secPaused = false)
    (roused : s.sys.mode ≠ .dormant) (safe : s.sys.mode ≠ .safe) (started : s.sys.mode ≠ .startUp) :
    s.weatherPlan mon temps mv tables = s.makePlan mon temps mv tables := by
  unfold State.weatherPlan
  rw [if_neg (by simp [due, unplanned, awake, safe, started]), if_neg roused]

/-- A supply that sags below what the plan in force reckons with makes a plan due. -/
theorem vddSag_of_low {h : TrigHead} {b : PlanBody} (plan : s.planOf = some (h, b)) (low : mv + 10 < b.planMv) :
    s.vddSag mv = { s with
      wea := { s.wea with due := true, vddLow := if s.wea.vddLow = 0 then mv else min s.wea.vddLow mv } } := by
  unfold State.vddSag
  rw [plan]
  exact if_pos low

theorem vddSag_of_enough {h : TrigHead} {b : PlanBody} (plan : s.planOf = some (h, b)) (enough : b.planMv ≤ mv + 10) :
    s.vddSag mv = s := by
  unfold State.vddSag
  rw [plan]
  exact if_neg (Nat.not_lt.2 enough)

end

section
variable {s : State} {t k : Nat} {x : NvmStore} {rest : List NvmStore}

/-- What a step of Table 9.10 does to the store in progress: nothing out of its turn, on to the next step where it goes
well, and the end of the store, counted, where it fails. -/
theorem nvmStep_answers (live : s.Live) (stores : s.trig.stores = x :: rest) {c c' : Instr} {empty : Bool} {d : BitVec 32}
    (goes : exec c s = .next (s.act t (State.nvmStep k (.on empty))))
    (fails : exec c' s = .next (s.act t (State.nvmStep k (.failed d)))) :
    ((x.step ≠ k ∨ s.secPaused = true) → Answers c s fun u => s.calm u = s.advance t)
    ∧ (x.step = k → s.secPaused = false →
      (Answers c s fun u => u.trig.stores = { x with step := k + 1 } :: rest ∧ u.trig.jobs = s.trig.jobs
        ∧ u.cmd.replies = s.cmd.replies)
      ∧ Answers c' s fun u => u.trig.nvmErr = satInc s.trig.nvmErr ∧ ∀ i b r, x.item = .trig i b r →
        (if b then u.trig.cells[i].b else u.trig.cells[i].a) = (if k = 3 then .empty else .invalid)
        ∧ u.trig.cells[i].force = s.trig.cells[i].force) := by
  refine ⟨fun idle => answers_of_nothing live goes (nvmStep_of_idle (s := s.advance t) stores idle _),
    fun due awake => ⟨?_, ?_⟩⟩
  · refine answers_of_settled live goes ?_
    rw [settle_trig, settle_replies, nvmStep_on (s := s.advance t) stores due awake]
    exact storeSlot_keeps x empty _
  · refine answers_of_settled live fails ?_
    have failed : (State.nvmStep k (.failed d) (s.advance t)).flash = x.item.failed x.step s :=
      (nvmStep_failed_flash (s := s.advance t) stores due awake d).trans (storeFailed_flash x d _)
    rw [settle_trig]
    refine ⟨(congrArg (fun f => f.2.2) failed).trans (nvmErr_failed _ _ _), fun i b r item => ?_⟩
    have cells : (State.nvmStep k (.failed d) (s.advance t)).trig.cells = _ := congrArg Prod.fst failed
    rw [cells, item, due]
    dsimp only [NvmItem.failed]
    rw [cells_set_same]
    exact ⟨setSlot_same _ _ _, setSlot_force _ _ _⟩

/-- A complete store is in force. -/
theorem nvmCheck_answers (live : s.Live) (stores : s.trig.stores = x :: rest) (due : x.step = 4) (awake : s.secPaused = false) :
    Answers (.nvmCheckDone t true) s fun u =>
      (∀ i b r, x.item = .trig i b r → (if b then u.trig.cells[i].b else u.trig.cells[i].a) = .valid r
        ∧ u.trig.cells[i].force = some b ∧ u.trig.cells[i].rev = false ∧ u.trig.nvmErr = s.trig.nvmErr)
      ∧ ∀ k b, x.item = .boot k b → u.trig.boot[k] = .valid b ∧ u.trig.cells = s.trig.cells := by
  refine answers_of_settled live rfl ?_
  have done := nvmStep_done_flash (s := s.advance t) stores due awake
  rw [settle_trig]
  refine ⟨fun i b r item => ?_, fun k b item => ?_⟩
  · obtain ⟨d, stored⟩ := storeDone_record item { s.advance t with trig.stores := rest }
    have flash := done.trans stored
    have cells : (State.nvmStep 4 .done (s.advance t)).trig.cells = _ := congrArg Prod.fst flash
    refine ⟨?_, ?_, ?_, congrArg (fun f => f.2.2) flash⟩
    all_goals
      show _ = _
      rw [if_pos rfl, cells, cells_set_same]
    · cases b <;> rfl
    · rfl
    · rfl
  · have flash := done.trans (storeDone_boot item _)
    refine ⟨?_, congrArg Prod.fst flash⟩
    have boot : (State.nvmStep 4 .done (s.advance t)).trig.boot = _ := congrArg (fun f => f.2.1) flash
    show (State.nvmStep 4 (if true = true then .done else .failed 0x521) (s.advance t)).trig.boot[k] = _
    rw [if_pos rfl, boot]
    simp

end

/-- Settles O60: a step taken is the store's own, and what follows the end of a store leaves the flash as the store has left
it; a plan that is made joins the stores ahead of what its TIME calibration adds. -/
theorem storesAndPlansFollowTheirSteps : Obligations.StoresAndPlansFollowTheirSteps := by
  unfold Obligations.StoresAndPlansFollowTheirSteps
  intro s t live
  refine ⟨fun x rest stores => nvmStep_answers live stores rfl rfl, fun x rest stores => nvmStep_answers live stores rfl rfl,
    fun x rest stores due awake => nvmCheck_answers live stores due awake,
    fun mon temps mv tables => ⟨fun idle => ?_, fun due unplanned awake => ⟨fun dormant => ?_, fun roused safe started => ?_⟩⟩,
    fun mv h b plan => ⟨fun low => ?_, fun enough => ?_⟩⟩
  · exact answers_of_nothing live rfl (weatherPlan_of_idle idle)
  · have waits := weatherPlan_of_dormant (mon := mon) (temps := temps) (mv := mv) (tables := tables) (s := s.advance t)
      due unplanned awake dormant
    exact ⟨_, rfl, act_calm_eq live (by rw [waits]; rfl) rfl⟩
  · obtain ⟨x, l, stores, step, job, item, cells, ports, wea⟩ := makePlan_joins mon temps mv tables (s.advance t)
    refine answers_of_settled live rfl ?_
    rw [settle_wea, settle_trig, settle_ports,
      weatherPlan_of_working (s := s.advance t) due unplanned awake roused safe started, wea, stores]
    have behind : (s.trig.stores ++ x :: l).drop s.trig.stores.length = x :: l := List.drop_left
    exact ⟨rfl, ⟨x, by rw [State.advance_trig, behind]; rfl, step, job, item⟩, List.take_left, cells, ports⟩
  · exact ⟨_, rfl, act_calm_eq live (by rw [vddSag_of_low (s := s.advance t) plan low]; rfl) rfl⟩
  · exact answers_of_nothing live rfl (vddSag_of_enough (s := s.advance t) plan enough)

end Sys2Proof.Machine

namespace Sys2Proof.Machine

/-! ## The end of a calibration (09 R212, R214) -/

section
variable (n : Fin 8) (s : State)

theorem trig_laneIdle : (s.laneIdle n).trig = s.trig := by
  unfold State.laneIdle
  dsimp only
  split
  · exact trig_sysRoutes _
  · rfl

theorem trig_disarmEffect : (s.disarmEffect n).trig = s.trig := by
  unfold State.disarmEffect
  dsimp only
  split
  · refine (each_keeps (g := State.trig) (fun q u => finish_trig q _ _ _ _ _ u) _ _).trans ?_
    exact (State.modPort_trig _ _ _).trans (when_keeps (g := State.trig) (by exact trig_sysRoutes _) _)
  · rfl

theorem trig_leaveCal (r : CalRun) : (s.leaveCal r).trig = s.trig := by
  unfold State.leaveCal
  dsimp only
  split
  · refine (trig_disarmEffect _ _).trans ((trig_laneIdle _ _).trans ?_)
    exact (when_keeps (g := State.trig) (by rfl) _).trans rfl
  · rfl

theorem trig_askUrgent (x : Urgent) : (s.askUrgent x).trig = s.trig := by
  unfold State.askUrgent
  dsimp only
  split
  · rfl
  · refine (each_keeps (g := State.trig) (fun q u => ?_) _ _).trans rfl
    exact finish_trig q _ _ _ _ _ u

theorem dropRun_trig (r : CalRun) :
    (s.dropRun r).trig = { s.trig with runs := s.trig.runs.filter fun y => y.seq ≠ r.seq } := by
  unfold State.dropRun
  refine (when_keeps (g := State.trig) (by rfl) _).trans ?_
  unfold State.leaveRun
  dsimp only
  split
  · exact trig_leaveCal _ r
  · rfl

/-- The second state has no run of the command, the records and candidates of the first, and the detail given as the last. -/
structure State.Ends (r : CalRun) (d : BitVec 32) (s u : State) : Prop where
  runs : u.trig.runs = s.trig.runs.filter fun y => y.seq ≠ r.seq
  cells : u.trig.cells = s.trig.cells
  detail : u.trig.lastDetail = d

/-- The end of a run is the end of no other, and leaves records and candidates. -/
theorem calEnd_ends (r : CalRun) (st : BitVec 16) (d : BitVec 32) (resid : Int) : s.Ends r d (s.calEnd r st d resid) := by
  unfold State.calEnd
  extract_lets idx u
  obtain ⟨_, _, _, told⟩ := calLast_trig (s.dropRun r) r.op idx st d resid
  obtain ⟨_, goes⟩ := openNext_trig (u.finish r.seq st d (if st = 0 || st = 0x0200 then satInt32 resid else 0))
  have trig : u.trig = _ := told
  rw [dropRun_trig] at trig
  rw [finish_trig, trig] at goes
  exact ⟨by rw [goes], by rw [goes], by rw [goes]⟩

theorem laneIdle_of_sound (sound : s.ports[n].laneFailed = false) : s.laneIdle n = s := by
  unfold State.laneIdle
  dsimp only
  rw [sound]
  exact if_neg (by simp)

theorem disarmEffect_of_none (none : s.ports[n].waits.disarm = []) : s.disarmEffect n = s := by
  unfold State.disarmEffect
  dsimp only
  rw [none]
  exact if_neg (by simp)

/-- What decides the state of a port that leaves CAL. -/
def Port.leaving (p : Port) : PortState × List DWord × Bool := (p.st, p.waits.disarm, p.laneFailed)

/-- New codes leave a lane as sound as it was. -/
theorem leaving_recoded (dark : Bool) (p : Port) (l : Fin 4 → VideoLane) (codes : ∀ k, (l k).fail = p.vid.lanes[k].fail) :
    { p with darkPhase := dark, vid.lanes := Vector.ofFn l }.leaving = p.leaving := by
  unfold Port.leaving Port.laneFailed Port.laneOn
  simp [codes]

/-- A port returns from CAL to the state from which it entered it (Table 9.5 step 6). -/
theorem leaveCal_returns {r : CalRun} (cal : s.ports[r.port].st = .cal) (told : s.ports[r.port].waits.disarm = [])
    (sound : s.ports[r.port].laneFailed = false) :
    (s.leaveCal r).ports[r.port].st = if r.wasScan then .scan else .idle := by
  unfold State.leaveCal
  dsimp only
  generalize recoded : State.modPort r.port _ s = u
  have start : u.ports[r.port].leaving = s.ports[r.port].leaving := by
    rw [← recoded, State.modPort_ports, ports_set_same]
    refine leaving_recoded _ _ _ fun k => ?_
    split <;> rfl
  have inside : u.ports[r.port].st = .cal := (congrArg Prod.fst start).trans cal
  rw [if_pos inside]
  generalize left : State.when r.wasScan _ _ = w
  have leaving : w.ports[r.port].leaving = (if r.wasScan then .scan else .idle, [], false) := by
    rw [← left]
    refine (port_of_view (when_keeps (g := State.view Port.leaving) ?_ _) r.port).trans ?_
    · exact view_modPort _ _ _ (by rfl)
    · rw [State.modPort_ports, ports_set_same, ← told, ← sound]
      exact congrArg (fun x => (_, x.2)) start
  rw [laneIdle_of_sound _ _ (congrArg (fun x => x.2.2) leaving), disarmEffect_of_none _ _ (congrArg (fun x => x.2.1) leaving)]
  exact congrArg Prod.fst leaving

theorem calEnd_returns {r : CalRun} (op : r.op ≤ 3) (cal : s.ports[r.port].st = .cal)
    (told : s.ports[r.port].waits.disarm = []) (sound : s.ports[r.port].laneFailed = false) (st : BitVec 16) (d : BitVec 32)
    (resid : Int) : (s.calEnd r st d resid).ports[r.port].st = if r.wasScan then .scan else .idle := by
  have ports : (s.calEnd r st d resid).ports = (s.dropRun r).ports :=
    ports_of_scene ((scene_openNext _).trans ((scene_finish _ _ _ _ _ _ _).trans (scene_calLast _ _ _ _ _ _)))
  rw [ports]
  unfold State.dropRun State.leaveRun
  dsimp only
  rw [if_pos op, when_keeps (g := State.ports) (by rfl)]
  exact leaveCal_returns { s with trig.runs := _ } cal told sound

/-- The run that a port has is its own. -/
theorem portRun_own {n : Fin 8} {s : State} {x : CalRun} (run : s.portRun n = some x) : x.op ≤ 3 ∧ x.port = n := by
  have own := List.find?_some run
  simp only [Bool.and_eq_true, decide_eq_true_eq] at own
  exact ⟨own.1, by unfold CalRun.port; rw [own.2]; exact Fin.ext (Nat.mod_eq_of_lt n.isLt)⟩

end

/-! ## A phase of a port's calibration (09 Table 9.5) -/

/-- The tick from which a phase of a run has its lines. -/
abbrev CalRun.due (x : CalRun) : Nat :=
  x.start + 1500000 * u16 x.params 14 + x.lines * (if u8 x.params 3 = 1 then u32 x.params 4 else 0)

/-- The phase that a run measures may end. -/
structure CalRun.Ripe (x : CalRun) (s : State) : Prop where
  stage : x.stage = .phase
  unexpired : x.expired = false
  awake : s.secPaused = false
  due : x.due ≤ s.ticks

section
variable {n : Fin 8} {s : State} {x : CalRun} {sums dark : List (List Nat)} {ovr : Bool} {lamps : List Nat}
  {bands : List (List Rat)} {ph : Nat} {more : List Nat}

theorem portPhase_of_unripe (run : s.portRun n = some x)
    (unripe : x.stage ≠ .phase ∨ x.expired = true ∨ s.secPaused = true ∨ s.ticks < x.due) :
    s.portPhase n sums dark ovr lamps bands = s := by
  unfold State.portPhase
  rw [run]
  dsimp only
  split
  · rfl
  · refine if_pos ?_
    show (_ || _ || _ || decide (s.ticks < x.due)) = true
    rcases unripe with h | h | h | h <;> simp [h]

theorem CalRun.Ripe.passes (ripe : x.Ripe s) :
    ¬ (x.stage ≠ .phase || x.expired || s.secPaused || decide (s.ticks < x.due)) = true := by
  have due := Nat.not_lt.2 ripe.due
  rw [ripe.stage, ripe.unexpired, ripe.awake, decide_eq_false due]
  decide

/-- A document in the way of a port that measures ends its calibration (R212). -/
theorem portPhase_of_document (run : s.portRun n = some x) (ripe : x.Ripe s) (phases : x.phases ≠ [])
    (doc : s.docInWay n = true) :
    s.portPhase n sums dark ovr lamps bands = s.calEnd x 0x0201 0x0501 0 := by
  obtain ⟨ph, more, phases⟩ := List.exists_cons_of_ne_nil phases
  unfold State.portPhase
  rw [run]
  dsimp only
  rw [phases]
  dsimp only
  rw [if_neg ripe.passes, if_pos doc]

/-- A lamp outside its window does, too. -/
theorem portPhase_of_lamp (run : s.portRun n = some x) (ripe : x.Ripe s) (phases : x.phases = ph :: more)
    (clear : s.docInWay n = false) (lamp : x.lampBad (ph = 0) lamps = true) :
    s.portPhase n sums dark ovr lamps bands = s.calEnd x 0x0201 0x0502 0 := by
  unfold State.portPhase
  rw [run]
  dsimp only
  rw [phases]
  dsimp only
  rw [if_neg ripe.passes, clear, if_neg Bool.false_ne_true, if_pos lamp]

/-- A dark phase that is not the last one hands over to the next. -/
theorem portPhase_of_dark (run : s.portRun n = some x) (ripe : x.Ripe s) (phases : x.phases = 0 :: more) (others : more ≠ [])
    (clear : s.docInWay n = false) (lamps_ok : x.lampBad true lamps = false) :
    s.portPhase n sums dark ovr lamps bands =
      (s.modRun x.seq fun _ => { x with darkSum := sums, phases := more }).beginPhase
        { x with darkSum := sums, phases := more } := by
  unfold State.portPhase
  rw [run]
  dsimp only
  rw [phases]
  dsimp only
  rw [if_neg ripe.passes, clear, if_neg Bool.false_ne_true, if_neg (by simpa using lamps_ok),
    if_neg (by simpa using others)]
  rfl

end

/-! ## A port enters CAL, and a phase begins (09 Table 9.5) -/

section
variable {n : Fin 8} {s : State} {r x : CalRun}

/-- A run as the phase that it begins finds it. -/
def CalRun.begun (t : Nat) (r : CalRun) : CalRun := if r.phases = [] then r else { r with stage := .phase, start := t }

/-- A phase that begins is noted of its run, and changes nothing else of TRIG. -/
theorem beginPhase_trig (r : CalRun) (s : State) : (s.beginPhase r).trig =
    { s.trig with runs := s.trig.runs.map fun y =>
        if y.seq = r.seq then (if r.phases = [] then y else { y with stage := .phase, start := s.ticks }) else y } := by
  unfold State.beginPhase
  dsimp only
  split
  · next none => simp [none]
  · next ph more phases =>
    rw [phases, trig_askUrgent]
    rfl

/-- A phase that begins sets the lamps and the codes of its port. -/
theorem beginPhase_ports (r : CalRun) (s : State) : ∃ d l,
    (s.beginPhase r).ports = s.ports.set r.port { s.ports[r.port] with darkPhase := d, vid.lanes := l } := by
  unfold State.beginPhase
  dsimp only
  split
  · exact ⟨s.ports[r.port].darkPhase, s.ports[r.port].vid.lanes, (Vector.set_getElem_self _).symm⟩
  · exact ⟨_, _, ports_of_scene (scene_askUrgent _ _)⟩

/-- A run found by its port is found under what replaces it. -/
theorem find?_replaced {l : List CalRun} {own : CalRun → Bool} {x y : CalRun} (found : l.find? own = some x)
    (too : own y = true) :
    (l.map fun z => if z.seq = x.seq then y else z).find? own = some y := by
  induction l with
  | nil => cases found
  | cons z l ih =>
    rw [List.map_cons]
    by_cases same : z.seq = x.seq
    · rw [if_pos same]
      exact List.find?_cons_of_pos too
    · have other : ¬ own z = true := fun first => same (by
        rw [List.find?_cons_of_pos first] at found
        cases found
        rfl)
      rw [if_neg same, List.find?_cons_of_neg other]
      rw [List.find?_cons_of_neg other] at found
      exact ih found

/-- A run that is replaced and begins its next phase stands in its place. -/
theorem beginPhase_modRun_trig {y : CalRun} (seq : y.seq = r.seq) (s : State) :
    ((s.modRun r.seq fun _ => y).beginPhase y).trig =
      { s.trig with runs := s.trig.runs.map fun z => if z.seq = r.seq then y.begun s.ticks else z } := by
  have runs : ((s.trig.runs.map fun z => if z.seq = r.seq then y else z).map fun z =>
      if z.seq = y.seq then (if y.phases = [] then z else { z with stage := .phase, start := s.ticks }) else z) =
      s.trig.runs.map fun z => if z.seq = r.seq then y.begun s.ticks else z := by
    rw [List.map_map]
    refine List.map_congr_left fun z _ => ?_
    by_cases own : z.seq = r.seq
    · simp only [Function.comp, if_pos own, if_true]
      rfl
    · simp only [Function.comp, if_neg own, seq]
  rw [beginPhase_trig]
  exact congrArg (fun l : List CalRun => { s.trig with runs := l }) runs

/-- The port of a run that is replaced finds what replaces it, with its next phase begun. -/
theorem beginPhase_replaced {y : CalRun} (run : s.portRun n = some x) (seq : y.seq = x.seq) (op : y.op = x.op)
    (num : y.num = x.num) :
    ((s.modRun x.seq fun _ => y).beginPhase y).portRun n = some (y.begun s.ticks) := by
  have own : (decide (x.op ≤ 3) && decide (x.num = n.val)) = true :=
    List.find?_some (p := fun r : CalRun => decide (r.op ≤ 3) && decide (r.num = n.val)) run
  have same : (y.begun s.ticks).op = y.op ∧ (y.begun s.ticks).num = y.num := by
    unfold CalRun.begun
    split <;> exact ⟨rfl, rfl⟩
  unfold State.portRun
  rw [beginPhase_modRun_trig seq]
  exact find?_replaced run (by rw [same.1, same.2, op, num, own])

/-- A port in CAL, before the lamps and the codes of the first phase (Table 9.5 step 1). -/
def Port.calibrate (p : Port) : Port := { p with st := .cal, waits.ready := false, waiting := [], grid.sched := [] }

/-- A run with what it returns its port to. -/
def State.entering (s : State) (r : CalRun) : CalRun :=
  { r with
    wasScan := decide (s.ports[r.port].st = .scan)
    saved := if r.op = 1 then (List.finRange 4).map fun k =>
      (s.ports[r.port].vid.lanes[k].pga, s.ports[r.port].vid.lanes[k].offset) else [] }

theorem docInWay_calibrate (n : Fin 8) (s : State) : (s.modPort n Port.calibrate).docInWay n = s.docInWay n := by
  unfold State.docInWay
  rw [State.modPort_ports, ports_set_same]
  rfl

/-- What a port needs to enter CAL at once. -/
structure State.Free (s : State) (n : Fin 8) : Prop where
  ready : s.ports[n].cfg.digital = true ∨ s.ports[n].vid.ready = true
  still : s.ports[n].line = none
  clear : s.docInWay n = false

/-- A port that may enters CAL, and the first phase begins. -/
theorem enterCal_enters (free : s.Free r.port) : s.enterCal r =
    State.beginPhase (s.entering r) ((s.modRun r.seq fun _ => s.entering r).modPort r.port Port.calibrate) := by
  unfold State.enterCal
  dsimp only
  have ready : ¬ (!s.ports[r.port].cfg.digital && !s.ports[r.port].vid.ready) = true := by
    rcases free.ready with h | h
    · rw [h]
      exact Bool.false_ne_true
    · rw [h, Bool.not_true, Bool.and_false]
      exact Bool.false_ne_true
  rw [if_neg ready, free.still, if_neg (by decide)]
  exact if_neg (Bool.eq_false_iff.1 ((docInWay_calibrate r.port _).trans free.clear))

theorem enterCal_ports (port : r.port = n) (free : s.Free n) : ∃ d l,
    (s.enterCal r).ports = s.ports.set n { s.ports[n].calibrate with darkPhase := d, vid.lanes := l } := by
  subst port
  obtain ⟨d, l, ports⟩ := beginPhase_ports (s.entering r)
    ((s.modRun r.seq fun _ => s.entering r).modPort r.port Port.calibrate)
  refine ⟨d, l, ?_⟩
  rw [enterCal_enters free, ports]
  show (s.ports.set r.port s.ports[r.port].calibrate).set r.port
    { (s.ports.set r.port s.ports[r.port].calibrate)[r.port] with darkPhase := d, vid.lanes := l } = _
  rw [ports_set_same, Vector.set_set]

theorem enterCal_trig (free : s.Free r.port) : (s.enterCal r).trig = 
    { s.trig with runs := s.trig.runs.map fun y => if y.seq = r.seq then (s.entering r).begun s.ticks else y } := by
  rw [enterCal_enters free, beginPhase_trig]
  exact (beginPhase_trig (s.entering r) (s.modRun r.seq fun _ => s.entering r)).symm.trans (beginPhase_modRun_trig (by rfl) s)

end

/-! ## A drive's measurement (09 R219) -/

/-- The phase of a DRIVE record that a measurement gives. -/
def measuredPhase (conv : List Nat) (first declared : Nat) : DrivePhase :=
  let c := intMean (conv.map fun (x : Nat) => (x : Int))
  { ua := (ratNearest ((declared : Rat) * 65536 / c)).toNat, ofs := (first : Int) - ratNearest (c * mkRat 1023 65535) }

/-- A drive's measurement is complete, steady and in range. -/
structure CalRun.Measured (x : CalRun) (a : Fin 12) (conv : List Nat) (s : State) : Prop where
  run : (s.trig.runs.find? fun r => r.op = 9 && r.num = a.val) = some x
  enough : 256 ≤ conv.length
  due : x.start + 256 * 750 + 20 * 30000 ≤ s.ticks
  awake : s.secPaused = false
  steady : variance (conv.map fun (x : Nat) => (x : Int)) ≤ 9
  strong : mkRat 65535 10 ≤ intMean (conv.map fun (x : Nat) => (x : Int))

/-- The phases that a DRIVE candidate builds on: the candidate's, else the record's in force. -/
def State.driveBase (s : State) (a : Fin 12) : DrivePhase × DrivePhase × Nat :=
  match s.trig.cells[driveIndex a].cand with
  | some ⟨.drive x y, _, ph, _, _, _, _⟩ => (x, y, ph)
  | _ => match s.driveOf a with
    | some (_, x, y) => (x, y, 0)
    | none => (⟨0, 0⟩, ⟨0, 0⟩, 0)

/-- The candidate that a drive's measurement forms. -/
def State.driveCandidate (s : State) (a : Fin 12) (x : CalRun) (conv : List Nat) (first : Nat) (resid : Int) : Candidate :=
  let new := measuredPhase conv first (u32 x.params 4)
  let base := s.driveBase a
  { body := .drive (if u8 x.params 1 = 1 then base.1 else new) (if u8 x.params 1 = 1 then new else base.2.1), resid
    phases := base.2.2 ||| 1 <<< b2n (u8 x.params 1 = 1), calTime := s.ns, wallTime := s.wall
    colours := [0xFF, 0xFF, 0xFF, 0xFF], width := 0 }

section
variable {a : Fin 12} {s : State} {x : CalRun} {conv : List Nat} {first again : Nat}

/-- An offset outside its limit ends the calibration. -/
theorem drivePhase_of_far (m : x.Measured a conv s) (far : 32 < (measuredPhase conv first (u32 x.params 4)).ofs.natAbs) :
    ∃ resid, s.drivePhase a conv false first again = s.calEnd x 0x0200 0x0514 resid := by
  unfold State.drivePhase
  rw [m.run]
  dsimp only
  rw [if_neg (by simp [m.enough, m.awake, m.due]), if_neg (not_lt.2 m.steady), if_neg (by simp [m.strong])]
  exact ⟨_, if_pos far⟩

/-- A candidate that its command keeps for CAL_COMMIT ends the calibration of a drive. -/
theorem calFormed_of_kept {idx : List (Fin 64)} {phases : Nat} {resid : Int} (op : x.op = 9)
    (keep : (u8 x.params 2).testBit 0 = false) : s.calFormed x idx phases resid = s.calEnd x 0 0 resid := by
  unfold State.calFormed
  dsimp only
  rw [op]
  exact if_neg (Bool.eq_false_iff.1 keep)

/-- A measurement within the limit forms the candidate of its drive. -/
theorem drivePhase_forms (m : x.Measured a conv s) (near : (measuredPhase conv first (u32 x.params 4)).ofs.natAbs ≤ 32)
    (keep : (u8 x.params 2).testBit 0 = false) : ∃ resid, s.drivePhase a conv false first again =
      (s.modCell (driveIndex a) fun c => { c with cand := some (s.driveCandidate a x conv first resid) }).calEnd x 0 0 resid := by
  have op : x.op = 9 := by
    have own := List.find?_some m.run
    simp only [Bool.and_eq_true, decide_eq_true_eq] at own
    exact own.1
  have near : ¬ 32 < ((first : Int) - ratNearest (intMean (conv.map fun (x : Nat) => (x : Int)) * mkRat 1023 65535)).natAbs :=
    not_lt.2 near
  unfold State.drivePhase
  rw [m.run]
  dsimp only
  rw [if_neg (by simp [m.enough, m.awake, m.due]), if_neg (not_lt.2 m.steady), if_neg (by simp [m.strong]), if_neg near,
    calFormed_of_kept op keep]
  exact ⟨_, rfl⟩

/-- In the candidate formed the phase measured is new. -/
theorem driveCandidate_body (s : State) (a : Fin 12) (x : CalRun) (conv : List Nat) (first : Nat) (resid : Int) :
    ∃ p q, (s.driveCandidate a x conv first resid).body = .drive p q
      ∧ (if u8 x.params 1 = 1 then q else p) = measuredPhase conv first (u32 x.params 4) := by
  refine ⟨_, _, rfl, ?_⟩
  split <;> rfl

end

/-! ## What CAL_PHASE_DONE and DEFERRED_CAL_START answer -/

section
variable {n : Fin 8} {a : Fin 12} {s : State} {t : Nat} {x : CalRun}

theorem deferredStart_of_idle (idle : s.sys.batchState ≠ .none ∨ s.secPaused = true) : s.deferredStart = s := by
  unfold State.deferredStart
  exact if_pos (by simpa using idle)

/-- The only calibration that waited for the seal enters CAL. -/
theorem deferredStart_enters (sealed : s.sys.batchState = .none) (awake : s.secPaused = false)
    (only : (s.trig.runs.filter fun r => r.stage = .deferred) = [x]) : s.deferredStart = s.enterCal x := by
  unfold State.deferredStart
  rw [if_neg (by simp [sealed, awake]), only]
  rfl

/-- A calibration that waited for the seal takes its port into CAL, and no other. -/
theorem deferredCalStart_answers (live : s.Live) (sealed : s.sys.batchState = .none) (awake : s.secPaused = false)
    (only : (s.trig.runs.filter fun r => r.stage = .deferred) = [x]) (free : s.Free x.port) :
    Answers (.deferredCalStart t) s fun u => u.ports[x.port].st = .cal ∧ u.ports[x.port].waits.ready = false
      ∧ u.trig.cells = s.trig.cells ∧ ∀ k, k ≠ x.port → u.ports[k] = s.ports[k] := by
  have free : (s.advance t).Free x.port := ⟨free.ready, free.still, free.clear⟩
  obtain ⟨d, l, ports⟩ := enterCal_ports rfl free
  refine answers_of_settled live rfl ?_
  rw [settle_ports, settle_trig, deferredStart_enters (s := s.advance t) sealed awake only, enterCal_trig free, ports,
    ports_set_same]
  exact ⟨rfl, rfl, rfl, fun k other => ports_set_other other _ _⟩

/-- A measurement that ends a run is answered with the run's end. -/
theorem calPhaseDone_ends (live : s.Live) {m : CalMeasure} {st : BitVec 16} {d : BitVec 32} {resid : Int}
    (ends : (s.advance t).calPhase m = (s.advance t).calEnd x st d resid) :
    Answers (.calPhaseDone t m) s fun u => s.Ends x d u := by
  refine answers_of_settled live rfl ?_
  obtain ⟨runs, cells, detail⟩ := calEnd_ends (s.advance t) x st d resid
  rw [ends]
  exact ⟨by rw [settle_trig]; exact runs, by rw [settle_trig]; exact cells, by rw [settle_trig]; exact detail⟩

variable {sums dark : List (List Nat)} {ovr : Bool} {lamps : List Nat} {bands : List (List Rat)} {conv : List Nat}
  {first again : Nat}

/-- A document in the way ends the calibration; its port returns to where it came from. -/
theorem calPhaseDone_document (live : s.Live) (run : s.portRun n = some x) (ripe : x.Ripe (s.advance t)) (phases : x.phases ≠ [])
    (doc : s.docInWay n = true) : Answers (.calPhaseDone t (.port n sums dark ovr lamps bands)) s fun u => s.Ends x 0x501 u
      ∧ (s.ports[n].st = .cal → s.ports[n].waits.disarm = [] → s.ports[n].laneFailed = false →
        u.ports[n].st = if x.wasScan then .scan else .idle) := by
  have ends : (s.advance t).calPhase (.port n sums dark ovr lamps bands) = (s.advance t).calEnd x 0x0201 0x0501 0 :=
    portPhase_of_document run ripe phases doc
  obtain ⟨op, rfl⟩ := portRun_own run
  obtain ⟨u, next, ended⟩ := calPhaseDone_ends live ends
  refine ⟨u, next, ended, fun cal told sound => ?_⟩
  have settled : u = (s.advance t).settle ((s.advance t).calEnd x 0x0201 0x0501 0) := by
    rw [← ends, ← act_eq_settle live.running]
    exact (Host.Outcome.next.inj next).symm
  rw [settled, settle_ports]
  exact calEnd_returns (s.advance t) op cal told sound _ _ _

/-- A dark phase that is over is kept, and the next phase begins. -/
theorem calPhaseDone_dark {more : List Nat} (live : s.Live) (run : s.portRun n = some x) (ripe : x.Ripe (s.advance t))
    (phases : x.phases = 0 :: more) (others : more ≠ []) (clear : s.docInWay n = false) (lit : x.lampBad true lamps = false) :
    Answers (.calPhaseDone t (.port n sums dark ovr lamps bands)) s fun u => u.trig.cells = s.trig.cells
      ∧ ∃ y, u.portRun n = some y ∧ y.seq = x.seq ∧ y.darkSum = sums ∧ y.phases = more ∧ y.stage = .phase
        ∧ y.start = (s.advance t).ticks := by
  have goes : (s.advance t).calPhase (.port n sums dark ovr lamps bands) = _ :=
    portPhase_of_dark run ripe phases others clear lit
  refine answers_of_settled live rfl ?_
  rw [goes]
  refine ⟨?_, CalRun.begun (s.advance t).ticks { x with darkSum := sums, phases := more }, ?_, ?_⟩
  · rw [settle_trig, beginPhase_modRun_trig (by rfl)]
    rfl
  · unfold State.portRun
    rw [settle_trig]
    exact beginPhase_replaced run rfl rfl rfl
  · unfold CalRun.begun
    rw [if_neg others]
    exact ⟨rfl, rfl, rfl, rfl, rfl⟩

/-- A drive that is steady, in range and near enough forms its candidate. -/
theorem calPhaseDone_drive (live : s.Live) (m : x.Measured a conv (s.advance t))
    (near : (measuredPhase conv first (u32 x.params 4)).ofs.natAbs ≤ 32) (keep : (u8 x.params 2).testBit 0 = false) :
    Answers (.calPhaseDone t (.drive a conv false first again)) s fun u =>
      u.trig.runs = s.trig.runs.filter (fun y => y.seq ≠ x.seq)
      ∧ ∃ d p q, u.trig.cells[driveIndex a].cand = some d ∧ d.body = .drive p q
        ∧ (if u8 x.params 1 = 1 then q else p) = measuredPhase conv first (u32 x.params 4) := by
  obtain ⟨resid, forms⟩ := drivePhase_forms (again := again) m near keep
  have forms : (s.advance t).calPhase (.drive a conv false first again) = _ := forms
  refine answers_of_settled live rfl ?_
  obtain ⟨runs, cells, -⟩ := calEnd_ends ((s.advance t).modCell (driveIndex a) fun c =>
    { c with cand := some ((s.advance t).driveCandidate a x conv first resid) }) x 0 0 resid
  obtain ⟨p, q, body⟩ := driveCandidate_body (s.advance t) a x conv first resid
  rw [forms, settle_trig]
  refine ⟨runs, _, p, q, ?_, body⟩
  rw [cells, State.modCell_trig]
  exact congrArg TrigCell.cand (cells_set_same _ _ _)

end

/-- Settles O59: a measurement that is over either ends its run, which leaves every record and candidate and returns a port
to its former state, or hands over to the next phase, or forms a candidate; a port enters CAL on its own. -/
theorem calibrationsRunTheirPhases : Obligations.CalibrationsRunTheirPhases := by
  unfold Obligations.CalibrationsRunTheirPhases
  intro s t live
  refine ⟨fun n x sums dark ovr lamps bands run => ⟨fun unripe => ?_, fun stage unexpired awake due doc phases => ?_,
      fun stage unexpired awake due clear ph more phases => ⟨fun lamp => ?_, fun dark others lit => ?_⟩⟩,
    fun a x conv first again run enough due awake steady strong => ⟨fun near keep => ?_, fun far => ?_⟩,
    fun idle => ?_, fun x sealed awake only ready still clear => ?_⟩
  · exact answers_of_nothing live rfl (portPhase_of_unripe (s := s.advance t) run unripe)
  · obtain ⟨u, next, ended, returns⟩ := calPhaseDone_document (sums := sums) (dark := dark) (ovr := ovr) (lamps := lamps)
      (bands := bands) live run ⟨stage, unexpired, awake, due⟩ phases doc
    exact ⟨u, next, ended.cells, ended.runs, ended.detail, returns⟩
  · have ends : (s.advance t).calPhase (.port n sums dark ovr lamps bands) = (s.advance t).calEnd x 0x0201 0x0502 0 :=
      portPhase_of_lamp run ⟨stage, unexpired, awake, due⟩ phases clear lamp
    refine (calPhaseDone_ends live ends).imp fun u ⟨next, ended⟩ => ?_
    exact ⟨next, ended.cells, ended.runs, ended.detail⟩
  · subst dark
    exact calPhaseDone_dark live run ⟨stage, unexpired, awake, due⟩ phases others clear lit
  · exact calPhaseDone_drive live ⟨run, enough, due, awake, steady, strong⟩ near keep
  · obtain ⟨resid, ends⟩ := drivePhase_of_far (again := again) (s := s.advance t)
      ⟨run, enough, due, awake, steady, strong⟩ far
    have ends : (s.advance t).calPhase (.drive a conv false first again) = (s.advance t).calEnd x 0x0200 0x0514 resid := ends
    refine (calPhaseDone_ends live ends).imp fun u ⟨next, ended⟩ => ?_
    exact ⟨next, ended.runs, ended.cells, ended.detail⟩
  · exact answers_of_nothing live rfl (deferredStart_of_idle (s := s.advance t) idle)
  · exact deferredCalStart_answers live sealed awake only ⟨ready, still, clear⟩

end Sys2Proof.Machine

namespace Sys2Proof.Machine

/-! ## What a calibration command finds -/

section
variable {sp : PacketSpec} {p : Packet} {s : State} {r : Ring} {n : Fin 8}

theorem entered_capturing : (s.entered sp p r).capturing n = s.capturing n := by
  obtain ⟨_, _, _, _, _, h, -⟩ := entered_form sp p r s
  rw [h]
  rfl

theorem entered_docInWay : (s.entered sp p r).docInWay n = s.docInWay n := by
  obtain ⟨_, _, _, _, _, h, -⟩ := entered_form sp p r s
  rw [h]
  rfl

/-- An accepted command that makes TRIG `x` and is then answered leaves the rest, in order, as it was. -/
theorem Accepts.answers_trig (h : Accepts sp p s r) {c : Instr} (hc : exec c s = .next (s.act p.tick (State.packet sp p)))
    {x : Trig} {res : BitVec 32}
    (run : sp.run p r.secure s.acceptSeq (s.entered sp p r) =
      State.finishOk s.acceptSeq res { s.entered sp p r with trig := x }) :
    Answers c s fun u => RepliesOk sp p r s u res ∧ s.ordered u = s.ordered { s.advance p.tick with trig := x } := by
  have carries : s.Carries sp p r { s.entered sp p r with trig := x } := h.carries_entered.of_desk rfl
  obtain ⟨c, l, w, rs, d, k, entered, spilled⟩ := booked_entered sp p r s
  have booked : ({ s.advance p.tick with trig := x } : State).Booked { s.entered sp p r with trig := x } :=
    ⟨c, l, w, rs, d, k, by rw [entered], spilled⟩
  refine h.answers hc run ⟨carries.repliesOk res, ?_⟩
  obtain ⟨c, l, w, rs, d, k, form, spilled⟩ := booked.finish carries res
  have own : s.posted ++ w = w := by rw [h.live.posted, List.nil_append]
  have key := act_ordered h.live p.tick (State.packet sp p)
  rw [act_eq_settle h.live.running, h.packet_eq, run, form] at key
  rw [form, key fun y hy => spilled y (own ▸ hy), ← h.live.posted]
  rfl

/-! ## CAL_VIDEO, CAL_SHADING and CAL_ALIGN (09 Tables 9.5, 9.6) -/

/-- The run of a port calibration. -/
abbrev CalRun.ofPort (p : Packet) (op : Nat) (n : Fin 8) (seq : DWord) (stage : CalStage) (now : Nat) : CalRun :=
  CalRun.fresh seq op n.val p.params stage (calPhases op p.params) now

/-- A run joins the others. -/
def State.addRun (x : CalRun) (s : State) : State := { s with trig.runs := s.trig.runs ++ [x] }

theorem portCal_of_capturing {op : Nat} {seq : DWord} (at_ : portAt p 0 = some n) (busy : s.capturing n = true)
    (other : gapRequest op p = false) : s.portCal op p seq = s.addRun (CalRun.ofPort p op n seq .deferred s.ticks) := by
  unfold State.portCal
  rw [at_]
  dsimp only
  rw [if_pos busy, other]
  rfl

theorem portCal_of_gap {op : Nat} {seq : DWord} (at_ : portAt p 0 = some n) (busy : s.capturing n = true)
    (gap : gapRequest op p = true) : s.portCal op p seq = State.answerQueued seq { s with
      trig.gaps := s.trig.gaps ++ [{ port := n, op, seq, params := p.params, lines := 0, sums := [] }] } := by
  unfold State.portCal
  rw [at_]
  dsimp only
  rw [if_pos busy, gap]
  rfl

theorem portCal_of_free {op : Nat} {seq : DWord} (at_ : portAt p 0 = some n) (idle : s.capturing n = false) :
    s.portCal op p seq = (s.addRun (CalRun.ofPort p op n seq .boundary s.ticks)).enterCal
      (CalRun.ofPort p op n seq .boundary s.ticks) := by
  unfold State.portCal
  rw [at_]
  dsimp only
  rw [idle]
  rfl

/-- A port calibration of a port that captures waits for the seal. -/
theorem portCal_waits {c : Instr} {op : Nat} (h : Accepts sp p s r) (hc : exec c s = .next (s.act p.tick (State.packet sp p)))
    (run : ∀ u : State, sp.run p r.secure s.acceptSeq u = u.portCal op p s.acceptSeq) (at_ : portAt p 0 = some n)
    (busy : s.capturing n = true) (other : gapRequest op p = false) : Answers c s fun u =>
      (u.cmd.replies = s.cmd.replies ∧ u.ports = s.ports ∧ u.trig.cells = s.trig.cells)
      ∧ u.trig = { s.trig with runs := s.trig.runs ++ [CalRun.ofPort p op n s.acceptSeq .deferred (s.advance p.tick).ticks] } := by
  refine h.answers hc ((run _).trans (portCal_of_capturing at_ (entered_capturing.trans busy) other)) ?_
  rw [settle_replies, settle_ports, settle_trig]
  unfold State.addRun
  dsimp only
  rw [entered_replies, entered_ports, entered_trig, entered_ticks]
  exact ⟨⟨rfl, rfl, rfl⟩, rfl⟩

/-- An accepted command is told at once that it is queued. -/
theorem Accepts.queued (h : Accepts sp p s r) (lead : s.second = false) {x : Trig} :
    (State.answerQueued s.acceptSeq { s.entered sp p r with trig := x }).cmd.replies = s.cmd.replies ++ [replyOf sp p r s 2 0 0]
    ∧ (State.answerQueued s.acceptSeq { s.entered sp p r with trig := x }).ports = s.ports
    ∧ (State.answerQueued s.acceptSeq { s.entered sp p r with trig := x }).trig = x := by
  have flight : State.flight? { s.entered sp p r with trig := x } s.acceptSeq = some _ := h.flight_entered
  have own : ((s.advance p.tick).flightOf p r sp.code).kind = .host := by
    unfold State.flightOf
    rw [show (s.advance p.tick).second = false from lead]
    rfl
  have time : State.time { s.entered sp p r with trig := x } = (s.advance p.tick).time := h.carries_entered.2.1
  unfold State.answerQueued
  rw [flight]
  dsimp only
  rw [own, if_neg (by decide), State.pushReply_ports, State.pushReply_trig]
  refine ⟨?_, entered_ports, rfl⟩
  show (s.entered sp p r).cmd.replies ++ [_] = _
  have seq : (if s.second = true then -1 else s.ldg.nextSeq) = s.acceptSeq := by
    unfold State.acceptSeq
    rw [lead]
    rfl
  unfold replyOf
  rw [entered_replies, seq, ← time]
  rfl

/-- A gap request is queued and answered. -/
theorem portCal_queues {c : Instr} {op : Nat} (h : Accepts sp p s r) (hc : exec c s = .next (s.act p.tick (State.packet sp p)))
    (run : ∀ u : State, sp.run p r.secure s.acceptSeq u = u.portCal op p s.acceptSeq) (at_ : portAt p 0 = some n)
    (busy : s.capturing n = true) (gap : gapRequest op p = true) (lead : s.second = false) : Answers c s fun u =>
      u.cmd.replies = s.cmd.replies ++ [replyOf sp p r s 2 0 0] ∧ u.ports = s.ports
      ∧ u.trig = { s.trig with
          gaps := s.trig.gaps ++ [{ port := n, op, seq := s.acceptSeq, params := p.params, lines := 0, sums := [] }] } := by
  refine h.answers hc ((run _).trans (portCal_of_gap at_ (entered_capturing.trans busy) gap)) ?_
  rw [settle_replies, settle_ports, settle_trig]
  obtain ⟨replies, ports, trig⟩ := h.queued lead (x := { (s.entered sp p r).trig with
    gaps := (s.entered sp p r).trig.gaps ++ [{ port := n, op, seq := s.acceptSeq, params := p.params, lines := 0, sums := [] }] })
  exact ⟨replies, ports, trig.trans (by rw [entered_trig])⟩

/-- A port whose lamp check nobody waits for begins a phase without a word to the host. -/
theorem beginPhase_cmd {x : CalRun} (alone : ∀ y ∈ s.madc.urgent, y.who ≠ .lamp x.port) : (s.beginPhase x).cmd = s.cmd := by
  unfold State.beginPhase
  dsimp only
  split
  · rfl
  · rw [askUrgent_joins alone]
    rfl

/-- What a run keeps and notes as it enters CAL. -/
theorem entering_begun (x : CalRun) (s : State) (t : Nat) : ((s.entering x).begun t).seq = x.seq
    ∧ ((s.entering x).begun t).op = x.op ∧ ((s.entering x).begun t).num = x.num ∧ ((s.entering x).begun t).params = x.params
    ∧ (∀ n, x.port = n → ((s.entering x).begun t).wasScan = decide (s.ports[n].st = .scan))
    ∧ (x.phases ≠ [] → ((s.entering x).begun t).stage = .phase ∧ ((s.entering x).begun t).start = t) := by
  unfold CalRun.begun
  split
  · next none => exact ⟨rfl, rfl, rfl, rfl, by rintro n rfl; rfl, fun some => absurd none some⟩
  · exact ⟨rfl, rfl, rfl, rfl, by rintro n rfl; rfl, fun _ => ⟨rfl, rfl⟩⟩

theorem ofPort_port (op : Nat) (n : Fin 8) (seq : DWord) (stage : CalStage) (now : Nat) :
    (CalRun.ofPort p op n seq stage now).port = n :=
  Fin.ext (Nat.mod_eq_of_lt n.isLt)

/-- The run behind the others takes its free port into CAL, without a word to the host. -/
theorem enterCal_begins {x : CalRun} {l : List CalRun} (port : x.port = n) (free : s.Free n) (runs : s.trig.runs = l ++ [x])
    (new : ∀ y ∈ l, y.seq ≠ x.seq) (alone : ∀ y ∈ s.madc.urgent, y.who ≠ .lamp n) : (s.enterCal x).cmd = s.cmd
      ∧ (∃ d v, (s.enterCal x).ports = s.ports.set n { s.ports[n].calibrate with darkPhase := d, vid.lanes := v })
      ∧ (s.enterCal x).trig = { s.trig with runs := l ++ [(s.entering x).begun s.ticks] } := by
  refine ⟨?_, enterCal_ports port free, ?_⟩
  · subst port
    rw [enterCal_enters free]
    exact beginPhase_cmd alone
  · subst port
    have others : (l.map fun y => if y.seq = x.seq then (s.entering x).begun s.ticks else y) = l :=
      (List.map_congr_left fun y hy => if_neg (new y hy)).trans (List.map_id l)
    rw [enterCal_trig free, runs, List.map_append, others, List.map_singleton, if_pos rfl]

/-- A port that does not capture enters CAL at once. -/
theorem portCal_enters {c : Instr} {op : Nat} (h : Accepts sp p s r) (hc : exec c s = .next (s.act p.tick (State.packet sp p)))
    (run : ∀ u : State, sp.run p r.secure s.acceptSeq u = u.portCal op p s.acceptSeq) (at_ : portAt p 0 = some n)
    (idle : s.capturing n = false) (free : s.Free n) (new : ∀ x ∈ s.trig.runs, x.seq ≠ s.acceptSeq)
    (alone : ∀ x ∈ s.madc.urgent, x.who ≠ .lamp n) : Answers c s fun u => u.cmd.replies = s.cmd.replies
      ∧ u.ports[n].st = .cal ∧ u.ports[n].waits.ready = false ∧ u.ports[n].waiting = [] ∧ (∀ k, k ≠ n → u.ports[k] = s.ports[k])
      ∧ u.trig.cells = s.trig.cells ∧ ∃ x, u.trig.runs = s.trig.runs ++ [x] ∧ x.seq = s.acceptSeq ∧ x.op = op ∧ x.num = n.val
        ∧ x.params = p.params ∧ x.wasScan = decide (s.ports[n].st = .scan)
        ∧ (calPhases op p.params ≠ [] → x.stage = .phase ∧ x.start = (s.advance p.tick).ticks) := by
  have run := (run _).trans (portCal_of_free (seq := s.acceptSeq) (op := op) at_
    ((entered_capturing (sp := sp) (p := p) (r := r)).trans idle))
  have port := ofPort_port (p := p) op n s.acceptSeq .boundary (s.entered sp p r).ticks
  generalize fresh : CalRun.ofPort p op n s.acceptSeq .boundary (s.entered sp p r).ticks = x at run port
  have before : ((s.entered sp p r).addRun x).ports = s.ports := entered_ports
  have can : ((s.entered sp p r).addRun x).Free n :=
    ⟨by rw [before]; exact free.ready, by rw [before]; exact free.still, entered_docInWay.trans free.clear⟩
  have seq : x.seq = s.acceptSeq := fresh ▸ rfl
  obtain ⟨cmd, ⟨d, v, ports⟩, trig⟩ := enterCal_begins port can rfl
    (fun y hy => by rw [entered_trig] at hy; exact seq ▸ new y hy)
    (fun y hy => alone y (entered_madc (sp := sp) (p := p) (r := r) ▸ hy))
  have ticks : ((s.entered sp p r).addRun x).ticks = (s.advance p.tick).ticks := entered_ticks
  have cells : (s.entered sp p r).trig.cells = s.trig.cells := congrArg Trig.cells entered_trig
  obtain ⟨seq', op', num, params, wasScan, begins⟩ := entering_begun x ((s.entered sp p r).addRun x) (s.advance p.tick).ticks
  refine h.answers hc run ?_
  rw [settle_replies, settle_ports, settle_trig, cmd, ports, trig, ports_set_same, before, ticks]
  refine ⟨entered_replies, rfl, rfl, rfl, fun k other => ports_set_other other _ _, cells, _,
    congrArg (fun y : Trig => y.runs ++ [_]) entered_trig, seq'.trans seq, ?_⟩
  rw [op', num, params, wasScan n port, before]
  subst fresh
  exact ⟨rfl, rfl, rfl, rfl, begins⟩

end

end Sys2Proof.Machine

namespace Sys2Proof.Machine

/-! ## CAL_MADC_ZERO, CAL_MADC_FULL and CAL_DRIVE (09 R218, R219) -/

section
variable {sp : PacketSpec} {p : Packet} {s : State} {r : Ring} {c : Instr}

/-- A converter core is held for its calibration, which the other core's work goes on beside. -/
theorem madcCal_holds {op : Nat} (h : Accepts sp p s r) (hc : exec c s = .next (s.act p.tick (State.packet sp p)))
    (run : ∀ u : State, sp.run p r.secure s.acceptSeq u = u.madcCal op p s.acceptSeq) : Answers c s fun u =>
      (u.cmd.replies = s.cmd.replies ∧ u.ports = s.ports ∧ u.trig.cells = s.trig.cells)
      ∧ u.trig = { s.trig with runs := s.trig.runs ++
          [CalRun.fresh s.acceptSeq op (u8 p.params 0 % 2) p.params .phase [] (s.advance p.tick).ticks] }
      ∧ ∀ k : Fin 2, u.madc.cores[k] = if k.val = u8 p.params 0 % 2
          then { (s.advance p.tick).urgentTake.madc.cores[k] with held := some s.acceptSeq }
          else (s.advance p.tick).urgentTake.madc.cores[k] := by
  have taken : (s.entered sp p r).urgentTake = { s.entered sp p r with madc := (s.advance p.tick).urgentTake.madc } := by
    rw [← entered_urgentTake (sp := sp) (r := r)]
    rfl
  refine h.answers hc (run _) ?_
  rw [settle_replies, settle_ports, settle_trig, settle_madc]
  unfold State.madcCal
  dsimp only
  rw [taken, State.modCore_ports, State.modCore_trig, State.modCore_madc]
  dsimp only
  rw [entered_ports, entered_trig, entered_ticks]
  refine ⟨⟨entered_replies, rfl, rfl⟩, rfl, fun k => ?_⟩
  split
  · next own =>
    obtain rfl : k = Fin.ofNat 2 (u8 p.params 0) := Fin.ext own
    exact cores_set_same _ _ _
  · next other => exact cores_set_other (fun same => other (congrArg Fin.val same)) _ _

/-- A drive's measurement begins at once. -/
theorem calDrive_begins (h : Accepts calDriveSpec p s r) : Answers (.calDrive p) s fun u =>
    (u.cmd.replies = s.cmd.replies ∧ u.ports = s.ports ∧ u.trig.cells = s.trig.cells)
    ∧ u.trig = { s.trig with runs := s.trig.runs ++
        [CalRun.fresh s.acceptSeq 9 (u8 p.params 0) p.params .phase [] (s.advance p.tick).ticks] } ∧ u.axes = s.axes := by
  refine h.answers (v := (s.entered calDriveSpec p r).addRun
    (CalRun.fresh s.acceptSeq 9 (u8 p.params 0) p.params .phase [] (s.entered calDriveSpec p r).ticks)) rfl rfl ?_
  rw [settle_replies, settle_ports, settle_trig, settle_axes]
  unfold State.addRun
  dsimp only
  rw [entered_replies, entered_ports, entered_trig, entered_ticks, entered_axes]
  exact ⟨⟨rfl, rfl, rfl⟩, rfl, rfl⟩

/-! ## CAL_COMMIT, CAL_REVERT and CAL_QUERY (09 R208 to R211, Table 9.11) -/

/-- The cells of a list of indices, changed once or more often by what makes no difference twice. -/
theorem each_modCell_cells {f : TrigCell → TrigCell} (twice : ∀ c, f (f c) = f c) (l : List (Fin 64)) (s : State)
    (i : Fin 64) : (s.each l fun k s => s.modCell k f).trig.cells[i] = if i ∈ l then f s.trig.cells[i] else s.trig.cells[i] := by
  induction l generalizing s with
  | nil => rfl
  | cons k l ih =>
    refine (ih (s.modCell k f)).trans ?_
    rw [State.modCell_trig]
    by_cases own : i = k
    · subst own
      rw [if_pos List.mem_cons_self]
      dsimp only
      rw [cells_set_same, twice, ite_self]
    · dsimp only
      rw [cells_set_other own]
      simp only [List.mem_cons, own, false_or]

theorem entered_pendingOf (l : List Byte) : (s.entered sp p r).pendingOf l = s.pendingOf l := by
  unfold State.pendingOf
  rw [entered_trig]

/-- CAL_COMMIT with `discard` leaves no candidate of those named. -/
theorem calCommit_discards (h : Accepts calCommitSpec p s r) (discard : (u8 p.params 3).testBit 0 = true) :
    Answers (.calCommit p) s fun u => RepliesOk calCommitSpec p r s u 0
      ∧ s.ordered { u with trig := s.trig } = s.ordered (s.advance p.tick) ∧ u.trig.stores = s.trig.stores
      ∧ ∀ i : Fin 64, u.trig.cells[i] =
          if i ∈ s.pendingOf p.params then { s.trig.cells[i] with cand := none } else s.trig.cells[i] := by
  obtain ⟨c, form⟩ := each_modCell_form (fun c => { c with cand := none }) (s.pendingOf p.params) (s.entered calCommitSpec p r)
  have cells := each_modCell_cells (f := fun c => { c with cand := none }) (fun _ => rfl) (s.pendingOf p.params)
    (s.entered calCommitSpec p r)
  rw [form, entered_trig] at cells
  have run : calCommitSpec.run p r.secure s.acceptSeq (s.entered calCommitSpec p r) =
      State.finishOk s.acceptSeq 0 { s.entered calCommitSpec p r with trig := { s.trig with cells := c } } := by
    show (s.entered calCommitSpec p r).commitCal p s.acceptSeq = _
    unfold State.commitCal
    dsimp only
    rw [if_pos discard, entered_pendingOf, form, entered_trig]
  refine (h.answers_trig rfl run).imp fun u ⟨next, reply, rest⟩ => ⟨next, reply, ?_, ?_⟩
  · exact congrArg (fun x : State => { x with trig := s.trig }) rest
  · have trig : u.trig = { s.trig with cells := c } := (congrArg State.trig rest :)
    rw [trig]
    exact ⟨rfl, cells⟩

/-- A signature and its flag are all that a record gains as it is written. -/
theorem seal_form (s : State) (i : Nat) (x : TrigRecord) :
    ∃ f g, s.seal i x = { x with head := { x.head with flags := f, signature := g } } := by
  unfold State.seal
  dsimp only
  split <;> exact ⟨_, _, rfl⟩

/-- The first index of a job that alone waits is stored. -/
theorem startStores_of_job {j : StoreJob} {i : Fin 64} {rest : List (Fin 64)} {x : TrigRecord} (idle : s.trig.stores = [])
    (jobs : s.trig.jobs = [j]) (left : j.left = i :: rest) (record : s.storeRecord j i = some x) :
    ∃ c, s.startStores = { s with
      sec := c
      trig.stores := [{ item := .trig i s.trig.cells[i].target (s.seal i.val x), job := some j.seq, step := 2
                        taken := s.trig.cells[i].cand }] } := by
  unfold State.startStores State.nextStore
  rw [idle, if_neg (by decide), jobs]
  dsimp only
  rw [left]
  dsimp only
  rw [record]
  dsimp only
  cases s.secureBlock .trig <;> exact ⟨_, rfl⟩

/-- An accepted command whose job stores its first index at once, while nothing else is stored. -/
theorem Accepts.answers_store {j : StoreJob} {i : Fin 64} {rest : List (Fin 64)} {x : TrigRecord} (h : Accepts sp p s r)
    (hc : exec c s = .next (s.act p.tick (State.packet sp p)))
    (run : sp.run p r.secure s.acceptSeq (s.entered sp p r) =
      State.startStores { s.entered sp p r with trig := { s.trig with jobs := s.trig.jobs ++ [j] } })
    (idle : s.trig.stores = []) (jobs : s.trig.jobs = []) (left : j.left = i :: rest) (record : s.storeRecord j i = some x) :
    Answers c s fun u => (u.cmd.replies = s.cmd.replies ∧ u.ports = s.ports ∧ u.trig.cells = s.trig.cells)
      ∧ ∃ f g, u.trig.stores = [{
          item := .trig i s.trig.cells[i].target { x with head := { x.head with flags := f, signature := g } }
          job := some j.seq, step := 2, taken := s.trig.cells[i].cand }] := by
  obtain ⟨k, form⟩ := startStores_of_job (s := { s.entered sp p r with trig := { s.trig with jobs := s.trig.jobs ++ [j] } })
    idle (by rw [jobs]; rfl) left record
  refine h.answers hc (run.trans form) ?_
  obtain ⟨f, g, sealed⟩ := seal_form { s.entered sp p r with trig := { s.trig with jobs := s.trig.jobs ++ [j] } } i.val x
  rw [settle_replies, settle_ports, settle_trig, sealed]
  exact ⟨⟨entered_replies, entered_ports, rfl⟩, f, g, rfl⟩

theorem commitBody_of_other {b : TrigBody} (other : ∀ x y, b ≠ .drive x y) (phases : Nat) (old : Option TrigRecord) :
    commitBody phases old b = b := by
  cases b with
  | drive x y => exact absurd rfl (other x y)
  | video | shade | align | madc | time | weather => rfl

/-- The job of a CAL_COMMIT. -/
def StoreJob.commit (seq : DWord) (left : List (Fin 64)) (phases : Nat) : StoreJob :=
  { seq, revert := false, written := 0, left, phases, cal := none, gap := none, waited := false }

/-- The job of a CAL_REVERT. -/
def StoreJob.back (seq : DWord) (left : List (Fin 64)) (phases : Nat) : StoreJob :=
  { seq, revert := true, written := 0, left, phases, cal := none, gap := none, waited := false }

/-- A commit stores the candidate under the next generation. -/
theorem storeRecord_commit {i : Fin 64} {d : Candidate} (cand : s.trig.cells[i].cand = some d) (seq : DWord)
    (left : List (Fin 64)) (phases : Nat) : ∃ x, s.storeRecord (.commit seq left phases) i = some x
      ∧ x.head.gen = s.trig.cells[i].top + 1 ∧ x.head.calTime = d.calTime ∧ x.head.resid = d.resid
      ∧ x.head.sourceGen = 0 ∧ ((∀ a b, d.body ≠ .drive a b) → x.body = d.body) := by
  unfold State.storeRecord
  dsimp only
  rw [show (StoreJob.commit seq left phases).revert = false from rfl, if_neg Bool.false_ne_true, cand]
  exact ⟨_, rfl, rfl, rfl, rfl, rfl, fun other => commitBody_of_other other _ _⟩

/-- A revert stores the record of the other slot under the next generation. -/
theorem storeRecord_back {i : Fin 64} {old : TrigRecord} (other : s.trig.cells[i].other = some old) (seq : DWord)
    (left : List (Fin 64)) (phases : Nat) : s.storeRecord (.back seq left phases) i =
      some { old with head := { old.head with gen := s.trig.cells[i].top + 1, sourceGen := old.head.gen, flags := 4 } } := by
  unfold State.storeRecord
  dsimp only
  rw [show (StoreJob.back seq left phases).revert = true from rfl, if_pos rfl, other]
  rfl

theorem commitCal_of_kept (keep : (u8 p.params 3).testBit 0 = false) (seq : DWord) (s : State) : ∃ phases,
    s.commitCal p seq =
      State.startStores { s with trig.jobs := s.trig.jobs ++ [.commit seq (s.pendingOf p.params) phases] } := by
  unfold State.commitCal
  dsimp only
  rw [keep, if_neg Bool.false_ne_true]
  exact ⟨_, rfl⟩

/-- CAL_COMMIT stores the first of the candidates named. -/
theorem calCommit_stores (h : Accepts calCommitSpec p s r) (keep : (u8 p.params 3).testBit 0 = false) (idle : s.trig.stores = [])
    (jobs : s.trig.jobs = []) {i : Fin 64} {rest : List (Fin 64)} {d : Candidate} (pending : s.pendingOf p.params = i :: rest)
    (cand : s.trig.cells[i].cand = some d) : Answers (.calCommit p) s fun u =>
      (u.cmd.replies = s.cmd.replies ∧ u.ports = s.ports ∧ u.trig.cells = s.trig.cells)
      ∧ ∃ x, u.trig.stores = [{ item := .trig i s.trig.cells[i].target x, job := some s.acceptSeq, step := 2, taken := some d }]
        ∧ x.head.gen = s.trig.cells[i].top + 1 ∧ x.head.calTime = d.calTime ∧ x.head.resid = d.resid
        ∧ x.head.sourceGen = 0 ∧ ((∀ a b, d.body ≠ .drive a b) → x.body = d.body) := by
  obtain ⟨phases, run⟩ := commitCal_of_kept keep s.acceptSeq (s.entered calCommitSpec p r)
  rw [entered_pendingOf, entered_trig] at run
  obtain ⟨x, record, facts⟩ := storeRecord_commit cand s.acceptSeq (s.pendingOf p.params) phases
  refine (h.answers_store rfl run idle jobs pending record).imp fun u ⟨next, waits, f, g, stores⟩ =>
    ⟨next, waits, { x with head := { x.head with flags := f, signature := g } }, ?_, facts⟩
  rw [stores, cand]
  rfl

/-- CAL_REVERT stores the record of the other slot. -/
theorem calRevert_stores (h : Accepts calRevertSpec p s r) (idle : s.trig.stores = []) (jobs : s.trig.jobs = []) {i : Fin 64}
    {rest : List (Fin 64)} {old : TrigRecord} (named : s.revertOf p.params = i :: rest)
    (other : s.trig.cells[i].other = some old) : Answers (.calRevert p) s fun u =>
      (u.cmd.replies = s.cmd.replies ∧ u.ports = s.ports ∧ u.trig.cells = s.trig.cells)
      ∧ ∃ x, u.trig.stores = [{ item := .trig i s.trig.cells[i].target x, job := some s.acceptSeq, step := 2
                                taken := s.trig.cells[i].cand }]
        ∧ x.head.gen = s.trig.cells[i].top + 1 ∧ x.head.sourceGen = old.head.gen ∧ x.body = old.body := by
  have run : calRevertSpec.run p r.secure s.acceptSeq (s.entered calRevertSpec p r) =
      State.startStores { s.entered calRevertSpec p r with trig := { s.trig with
        jobs := s.trig.jobs ++ [.back s.acceptSeq (s.revertOf p.params) (calPhaseMask p.params)] } } := by
    unfold calRevertSpec State.revertOf
    dsimp only
    rw [entered_trig]
    rfl
  refine (h.answers_store rfl run idle jobs named (storeRecord_back other _ _ _)).imp
    fun u ⟨next, waits, f, g, stores⟩ => ⟨next, waits, _, stores, ?_⟩
  exact ⟨rfl, rfl, rfl⟩

/-- CAL_QUERY answers with the generation in force and what the device holds of the record. -/
theorem calQuery_answers (h : Accepts calQuerySpec p s r) : Answers (.calQuery p) s fun u =>
    RepliesOk calQuerySpec p r s u (word (s.trigGen ((calIndices p.params).headD 0)))
      (bufferAt (u64 p.params 8) (s.calBuffer ((calIndices p.params).headD 0)))
    ∧ s.ordered u = s.ordered (s.advance p.tick) := by
  have gen (i : Fin 64) : (s.entered calQuerySpec p r).trigGen i = s.trigGen i := by
    unfold State.trigGen State.trigRec
    rw [entered_trig]
  have buffer (i : Fin 64) : (s.entered calQuerySpec p r).calBuffer i = s.calBuffer i := by
    unfold State.calBuffer
    rw [entered_trig]
  refine h.answers_pace rfl s.pace _ _ ?_
  rw [← entered_pace (sp := calQuerySpec) (p := p) (s := s) (r := r), ← gen, ← buffer]
  rfl

/-- CAL_SHADING, the one command that may queue for gaps, is refused on a second (R221). -/
theorem calShading_lead (h : Accepts calShadingSpec p s r) {n : Fin 8} (at_ : portAt p 0 = some n) : s.second = false := by
  have checked := h.checked
  unfold calShadingSpec at checked
  dsimp only at checked
  rw [at_] at checked
  dsimp only at checked
  split at checked
  · cases checked
  · split at checked
    · cases checked
    · next passed => exact (firstFail_cons.1 passed).1

end

/-- Settles O58: a calibration of a port waits, is queued, or takes its port into CAL as the first run behind the others; a
command on the records stores the first index of its job, discards, or answers. -/
theorem calibrationCommandsTakeEffect : Obligations.CalibrationCommandsTakeEffect := by
  unfold Obligations.CalibrationCommandsTakeEffect
  intro p s r l seq now m waits port core
  have ports (c : Instr) (sp : PacketSpec) (op : Nat) (hc : exec c s = .next (s.act p.tick (State.packet sp p)))
      (run : ∀ u : State, sp.run p r.secure seq u = u.portCal op p seq)
      (lead : Accepts sp p s r → ∀ n, portAt p 0 = some n → gapRequest op p = true → s.second = false) : port c sp op :=
    fun h n at_ => ⟨portCal_waits h hc run at_, fun busy gap => portCal_queues h hc run at_ busy gap (lead h n at_ gap),
      fun idle ready still clear new alone => portCal_enters h hc run at_ idle ⟨ready, still, clear⟩ new alone⟩
  refine ⟨ports _ _ 1 rfl (fun _ => rfl) fun _ _ _ gap => absurd gap (by simp [gapRequest]),
    ports _ _ 2 rfl (fun _ => rfl) fun h n at_ _ => calShading_lead h at_,
    ports _ _ 3 rfl (fun _ => rfl) fun _ _ _ gap => absurd gap (by simp [gapRequest]),
    fun h => madcCal_holds h rfl fun _ => rfl, fun h => madcCal_holds h rfl fun _ => rfl, calDrive_begins,
    fun h => ⟨calCommit_discards h, fun keep idle jobs i rest d pending cand => calCommit_stores h keep idle jobs pending cand⟩,
    fun h idle jobs i rest old named other => calRevert_stores h idle jobs named other, calQuery_answers⟩

end Sys2Proof.Machine

namespace Sys2Proof.Machine

/-! ## What an entry makes of the Ledger (10 R247 to R252) -/

/-- What an entry is given as it is written (10 R248). -/
def State.stamped (e : LedgerEntry) (s : State) : LedgerEntry :=
  { e with seq := s.ldg.nextSeq, time := s.time, chain := first8 s.ldg.chain, mirrored := s.mirroring }

/-- The Ledger `l` with the entries `es` behind its own, and with what is counted of them. -/
def Ledger.Grown (es : List LedgerEntry) (l l' : Ledger) : Prop := ∃ c m n k, l' =
  { l with
    entries := l.entries ++ es, nextNo := l.nextNo + es.length, sinceCkpt := l.sinceCkpt + es.length, chain := c
    mirrorWaiting := m, spilled := n, ledgerDrawn := k }

theorem Ledger.Grown.refl (l : Ledger) : l.Grown [] l :=
  ⟨l.chain, l.mirrorWaiting, l.spilled, l.ledgerDrawn, by rw [List.append_nil]; rfl⟩

theorem Ledger.Grown.trans {es es' : List LedgerEntry} {l l' l'' : Ledger} (h : l.Grown es l') (h' : l'.Grown es' l'') :
    l.Grown (es ++ es') l'' := by
  obtain ⟨_, _, _, _, rfl⟩ := h
  obtain ⟨c, m, n, k, rfl⟩ := h'
  refine ⟨c, m, n, k, ?_⟩
  rw [List.length_append, ← Nat.add_assoc, ← Nat.add_assoc, ← List.append_assoc]

section
variable {es : List LedgerEntry} {l l' : Ledger}

theorem Ledger.Grown.entries_eq (h : l.Grown es l') : l'.entries = l.entries ++ es := by obtain ⟨_, _, _, _, rfl⟩ := h; rfl
theorem Ledger.Grown.nextNo_eq (h : l.Grown es l') : l'.nextNo = l.nextNo + es.length := by obtain ⟨_, _, _, _, rfl⟩ := h; rfl
theorem Ledger.Grown.epoch_eq (h : l.Grown es l') : l'.epoch = l.epoch := by obtain ⟨_, _, _, _, rfl⟩ := h; rfl
theorem Ledger.Grown.ckpts_eq (h : l.Grown es l') : l'.ckpts = l.ckpts := by obtain ⟨_, _, _, _, rfl⟩ := h; rfl
theorem Ledger.Grown.signing_eq (h : l.Grown es l') : l'.signing = l.signing := by obtain ⟨_, _, _, _, rfl⟩ := h; rfl
theorem Ledger.Grown.ckptSeq_eq (h : l.Grown es l') : l'.ckptSeq = l.ckptSeq := by obtain ⟨_, _, _, _, rfl⟩ := h; rfl
theorem Ledger.Grown.sessionSeq_eq (h : l.Grown es l') : l'.sessionSeq = l.sessionSeq := by obtain ⟨_, _, _, _, rfl⟩ := h; rfl
theorem Ledger.Grown.evt_eq (h : l.Grown es l') : l'.evt = l.evt := by obtain ⟨_, _, _, _, rfl⟩ := h; rfl
theorem Ledger.Grown.unreadable_eq (h : l.Grown es l') : l'.unreadable = l.unreadable := by obtain ⟨_, _, _, _, rfl⟩ := h; rfl

end

theorem each_post_cellar {α : Type} (addr : α → State → Nat) (data : α → List Byte) (l : List α) (s : State) :
    ∃ w, (s.each l fun x s => s.post .cellar (addr x s) (data x)) = { s with posted := s.posted ++ w }
      ∧ ∀ x ∈ w, x.space = Space.cellar := by
  obtain ⟨w, posts⟩ := each_post_form .cellar addr data l s
  obtain ⟨_, w', noted, only⟩ := each_post_noted addr data l s
  have appended : w = s.posted ++ w' := congrArg State.posted (posts.symm.trans noted)
  exact ⟨w', by rw [posts, appended], only⟩

theorem spill_form (s : State) : ∃ n w, s.spill = { s with ldg.spilled := n, posted := s.posted ++ w }
    ∧ ∀ x ∈ w, x.space = Space.cellar := by
  have still : s = { s with ldg.spilled := s.ldg.spilled, posted := s.posted ++ [] } := by rw [List.append_nil]
  unfold State.spill
  split
  · split
    · exact ⟨_, [], still, by simp⟩
    · dsimp only
      obtain ⟨w, posts, only⟩ := each_post_cellar _ LedgerEntry.bytes ((s.ldg.entries.drop s.ldg.spilled).take 1024) s
      rw [posts]
      exact ⟨_, w, rfl, only⟩
  · exact ⟨_, [], still, by simp⟩

/-- Writing an entry: the Ledger grows by it, and the bytes that move to the overflow region are posted to the Cellar. -/
theorem appendEntry_form (e : LedgerEntry) (s : State) : ∃ l w, s.appendEntry e = { s with ldg := l, posted := s.posted ++ w }
    ∧ s.ldg.Grown [s.stamped e] l ∧ ∀ x ∈ w, x.space = Space.cellar := by
  obtain ⟨n, w, spilled, only⟩ := spill_form { s with
    ldg.entries := s.ldg.entries ++ [s.stamped e], ldg.nextNo := s.ldg.nextNo + 1
    ldg.chain := Config.sha384 (hashBytes s.ldg.chain ++ (s.stamped e).bytes), ldg.sinceCkpt := s.ldg.sinceCkpt + 1
    ldg.mirrorWaiting := if s.second then s.ldg.mirrorWaiting else s.ldg.mirrorWaiting
      ++ (s.rings.filter fun r => decide (r.kind = .ledgerMirror)).map fun r => (r.id, s.stamped e) }
  exact ⟨_, w, spilled, ⟨_, _, n, _, rfl⟩, only⟩

theorem grown_appendEntry (e : LedgerEntry) (s : State) : s.ldg.Grown [s.stamped e] (s.appendEntry e).ldg := by
  obtain ⟨l, w, form, grown, -⟩ := appendEntry_form e s
  rwa [form]

/-- The ACCEPT entry of a packet, before it is stamped (10 Table 10.8). -/
def acceptEntry (p : Packet) (r : Ring) (code : BitVec 16) : LedgerEntry :=
  { LedgerEntry.blank .accept with
    tag := p.tag, opcode := code, ring := BitVec.ofNat 16 p.ring, status := 0xFFFF, secure := r.secure
    digest := packetDigest p code }

/-- The DONE entry of a command in flight, before it is stamped (10 Table 10.8). -/
def Flight.doneEntry (x : Flight) (q : DWord) (st : BitVec 16) (d r f : BitVec 32) : LedgerEntry :=
  { LedgerEntry.blank .done with
    tag := x.tag, opcode := x.opcode, ring := BitVec.ofNat 16 x.ring, status := st, secure := x.secure, fault := f
    digest := x.digest, detail := d, result := r, ends := q }

section
variable (sp : PacketSpec) (p : Packet) (r : Ring) (s : State)

theorem grown_accept (lead : s.second = false) (code : BitVec 16) :
    s.ldg.Grown [s.stamped (acceptEntry p r code)] (s.accept p r code).ldg := by
  have written : (s.accept p r code).ldg =
      ((if s.generalRoom ≥ 2 then s else { s with ldg.ledgerDrawn := s.ldg.ledgerDrawn + 2 }).appendEntry
        (acceptEntry p r code)).ldg := by
    unfold State.accept
    simp only [lead]
    split <;> rfl
  rw [written]
  split
  · exact grown_appendEntry _ s
  · obtain ⟨c, m, n, k, grown⟩ := grown_appendEntry (acceptEntry p r code) { s with ldg.ledgerDrawn := s.ldg.ledgerDrawn + 2 }
    exact ⟨c, m, n, k, grown⟩

theorem ldg_takePacket : (s.takePacket p).ldg = s.ldg := by
  obtain ⟨_, taken⟩ := takePacket_form p s
  rw [taken]
  rfl

/-- On a lead, or on a device alone, a packet that is accepted has its ACCEPT entry written first (R238, R247). -/
theorem grown_entered (lead : s.second = false) :
    s.ldg.Grown [(s.advance p.tick).stamped (acceptEntry p r sp.code)] (s.entered sp p r).ldg := by
  obtain ⟨d, taken⟩ := takePacket_form p (s.advance p.tick)
  have lead' : ((s.advance p.tick).takePacket p).second = false := by rw [taken]; exact lead
  have same : ((s.advance p.tick).takePacket p).stamped (acceptEntry p r sp.code) =
      (s.advance p.tick).stamped (acceptEntry p r sp.code) := by rw [taken]; rfl
  have grown := grown_accept p r _ lead' sp.code
  rwa [ldg_takePacket, same] at grown

/-- A second writes no entry of its own (log entry 32). -/
theorem ldg_entered_second (second : s.second = true) : (s.entered sp p r).ldg = s.ldg := by
  obtain ⟨d, taken⟩ := takePacket_form p (s.advance p.tick)
  have second' : ((s.advance p.tick).takePacket p).second = true := by rw [taken]; exact second
  have kept : (((s.advance p.tick).takePacket p).accept p r sp.code).ldg = ((s.advance p.tick).takePacket p).ldg := by
    unfold State.accept
    simp only [second']
    split <;> rfl
  exact kept.trans (ldg_takePacket p _)

theorem grows_entered : ∃ es, s.ldg.Grown es (s.entered sp p r).ldg := by
  cases role : s.second with
  | false => exact ⟨_, grown_entered sp p r s role⟩
  | true => exact ⟨[], by rw [ldg_entered_second sp p r s role]; exact .refl _⟩

end

section
variable {s : State} {q : DWord} {x : Flight} (st : BitVec 16) (d r f : BitVec 32) (b : List (Nat × List Byte))

/-- The end of a command of the host writes its DONE entry (10 R247). -/
theorem grown_finish (flight : s.flight? q = some x) (running : x.finished = false) (own : x.kind = .host) :
    s.ldg.Grown [s.stamped (x.doneEntry q st d r f)] (s.finish q st d r f b).ldg := by
  have written : (s.finish q st d r f b).ldg =
      ((s.modFlight q fun x => { x with finished := true }).appendEntry (x.doneEntry q st d r f)).ldg := by
    unfold State.finish
    simp only [flight, running, own, Bool.false_eq_true, reduceCtorEq, if_false]
    split
    · split <;> rfl
    · rfl
  rw [written]
  exact grown_appendEntry _ (s.modFlight q fun x => { x with finished := true })

/-- Whatever a command is, its end writes its DONE entry or nothing. -/
theorem grows_finish (s : State) (q : DWord) : ∃ es, s.ldg.Grown es (s.finish q st d r f b).ldg := by
  have none_written (u : State) (same : u.ldg = s.ldg) : ∃ es, s.ldg.Grown es u.ldg := ⟨[], by rw [same]; exact .refl _⟩
  cases flight : s.flight? q with
  | none => exact none_written _ (by simp only [State.finish, flight])
  | some x =>
    cases running : x.finished with
    | true => exact none_written _ (by simp [State.finish, flight, running])
    | false =>
      cases kind : x.kind with
      | host => exact ⟨_, grown_finish st d r f b flight running kind⟩
      | mirrored => exact none_written _ (by simp [State.finish, flight, running, kind])
      | unledgered => exact none_written _ (by simp [State.finish, flight, running, kind, apply_ite State.ldg])

end

end Sys2Proof.Machine

namespace Sys2Proof.Machine

/-! ## A packet command's meaning, and what an accepted command leaves as it was -/

/-- Every packet command is run as its packet is (10 R236). -/
theorem exec_packet {c : Instr} {p : Packet} {sp : PacketSpec} (h : packetOf c = some (p, sp)) (s : State) :
    exec c s = .next (s.act p.tick (State.packet sp p)) := by
  cases c <;> cases h <;> rfl

/-- What booking and stirring leave, in order, as it was: the memories of the host, the clock and the queue besides the
units. -/
theorem ordered_settle_stirred {s u m v : State} (live : s.Live) (t : Nat) (booked : u.Booked m) (stirred : m.Stirred v)
    (kept : { u with pending := s.pending, ticks := max s.ticks t, posted := s.posted, host0 := s.host0, host1 := s.host1 } = u) :
    s.ordered ((s.advance t).settle v) = s.ordered u := by
  obtain ⟨c, l, w, rs, d, k, rfl, spilled⟩ := booked
  obtain ⟨e, rs', evt, lost, rfl⟩ := stirred
  have none_posted : u.posted = [] := by rw [← kept, live.posted]
  have key := act_ordered live t fun _ => { u with
    cmd := c, ldg := l, posted := u.posted ++ w, rings := rs', dma.served := d, free := k, evf := e, dma.evt := evt
    dma.evtLost := lost }
  rw [act_eq_settle live.running] at key
  rw [key fun x hx => spilled x (by rwa [none_posted] at hx), ← kept, live.posted]
  rfl

theorem ordered_settle_booked {s u v : State} (live : s.Live) (t : Nat) (booked : u.Booked v)
    (kept : { u with pending := s.pending, ticks := max s.ticks t, posted := s.posted, host0 := s.host0, host1 := s.host1 } = u) :
    s.ordered ((s.advance t).settle v) = s.ordered u :=
  ordered_settle_stirred live t booked (Stirred_refl v) kept

theorem settle_cmd (s0 s : State) : ∃ e b, (s0.settle s).cmd = { s.cmd with evt := e, stallShown := b } := by
  obtain ⟨e, b, p, h⟩ := settle_form s0 s
  exact ⟨e, b, by rw [h]⟩

/-- Settles O13: a packet that is accepted is entered, and its effect is run from there. -/
theorem acceptanceIsEnteredThenRun : Obligations.AcceptanceIsEnteredThenRun := by
  unfold Obligations.AcceptanceIsEnteredThenRun
  intro c p sp s r packet h
  obtain ⟨rs, d, l, w, k, entered, -⟩ := entered_form sp p r s
  refine ⟨?_, ?_, by rw [entered], ⟨_, by rw [entered], rfl, rfl, rfl, rfl, rfl, rfl⟩, fun lead => ?_⟩
  · rw [exec_packet packet, act_eq_settle h.live.running, h.packet_eq]
  · rw [entered, ← h.live.posted]
    rfl
  · exact ⟨_, (grown_entered sp p r s lead).entries_eq, rfl, rfl, rfl, rfl, rfl, rfl, rfl, rfl, rfl, rfl⟩

end Sys2Proof.Machine

namespace Sys2Proof.Machine

/-! ## Rejections (10 R236, R237) -/

/-- A rejection noted in the command unit, in the registers of the last one. -/
def CmdUnit.noted (p : Packet) (j : Reject) (evt : Word) (c : CmdUnit) : CmdUnit :=
  { c with
    rejected := satInc c.rejected, evt, lastRejRing := BitVec.ofNat 13 p.ring, lastRejStatus := j.status, lastRejTag := p.tag
    lastRejDetail := j.detail }

theorem pushReply_stirred {s u : State} (h : s.Stirred u) (q : Reply) : (s.pushReply q).Stirred (u.pushReply q) := by
  obtain ⟨e, rs, d, n, rfl⟩ := h
  exact ⟨e, rs, d, n, rfl⟩

/-- A rejection is noted and answered; want of room in the Ledger alone is shown there as well. -/
theorem reject_form (p : Packet) (r : Ring) (code : BitVec 16) (j : Reject) (s : State) : ∃ q e l,
    (State.pushReply q { s with cmd := s.cmd.noted p j e, ldg.evt := l }).Stirred (s.reject p r code j)
    ∧ q.status = j.status ∧ q.detail = j.detail ∧ (p.replyRing = 0 → q.ring = r.bind)
    ∧ (j.status ≠ 0x0106 → l = s.ldg.evt) := by
  unfold State.reject
  dsimp only
  generalize hu : State.when (j == _) _ _ = u
  have noted : ∃ e l, ({ s with cmd := s.cmd.noted p j e, ldg.evt := l } : State).Stirred u
      ∧ (j.status ≠ 0x0106 → l = s.ldg.evt) := by
    rw [← hu]
    cases full : j == ⟨0x0106, 0x0C, 0⟩ with
    | false => exact ⟨_, s.ldg.evt, Stirred_refl _, fun _ => rfl⟩
    | true =>
      have own : j.status = 0x0106 := by rw [beq_iff_eq.1 full]
      exact ⟨_, setBit s.ldg.evt 0, fire_stirred _ _ _, fun other => absurd own other⟩
  obtain ⟨e, l, noted, kept⟩ := noted
  exact ⟨_, e, l, Stirred_trans (pushReply_stirred noted _) (fire_stirred _ _ _), rfl, rfl,
    fun unnamed => by simp [replyRingOf, unnamed], kept⟩

section
variable {p : Packet} {s : State} {r : Ring} {j : Reject}

/-- What a packet rejected leaves: the rejection in the command unit, one reply, the Ledger's entries as they were, and but
for want of room the Ledger whole. -/
structure State.Turned (p : Packet) (r : Ring) (j : Reject) (s u : State) : Prop where
  status : u.cmd.lastRejStatus = j.status
  detail : u.cmd.lastRejDetail = j.detail
  tag : u.cmd.lastRejTag = p.tag
  rejected : u.cmd.rejected = satInc s.cmd.rejected
  entries : u.ldg.entries = s.ldg.entries
  flights : u.cmd.flights = s.cmd.flights
  reply : ∃ q, u.cmd.replies = s.cmd.replies ++ [q] ∧ q.status = j.status ∧ q.detail = j.detail
    ∧ (p.replyRing = 0 → q.ring = r.bind)
  ledger : j.status ≠ 0x0106 → u.ldg = s.ldg

theorem turned_reject (code : BitVec 16) : s.Turned p r j (s.reject p r code j) := by
  obtain ⟨q, e, l, ⟨v, rs, d, n, form⟩, status, detail, ring, ledger⟩ := reject_form p r code j s
  rw [form]
  refine ⟨rfl, rfl, rfl, rfl, rfl, rfl, ⟨q, rfl, status, detail, ring⟩, fun other => ?_⟩
  rw [ledger other]
  rfl

/-- What the rings, the event bits and the world served last have no part in. -/
theorem State.Turned.of_eq {s' u' u : State} (h : s.Turned p r j u) {e : Word} {b : Bool}
    (cmd : u'.cmd = { u.cmd with evt := e, stallShown := b }) (ldg : u'.ldg = u.ldg) (cmd' : s'.cmd = s.cmd)
    (ldg' : s'.ldg = s.ldg) : s'.Turned p r j u' := by
  obtain ⟨status, detail, tag, rejected, entries, flights, reply, ledger⟩ := h
  constructor <;> simp only [cmd, ldg, cmd', ldg'] <;> assumption

theorem cmd_takePacket (p : Packet) (s : State) : (s.takePacket p).cmd = s.cmd := by
  obtain ⟨_, taken⟩ := takePacket_form p s
  rw [taken]
  rfl

/-- A step whose effect is a rejection, in a state that has the command unit and the Ledger of the first. -/
theorem turned_settle (t : Nat) {v w : State} (h : w.Turned p r j v) (cmd : w.cmd = s.cmd) (ldg : w.ldg = s.ldg) :
    s.Turned p r j ((s.advance t).settle v) := by
  obtain ⟨e, b, settled⟩ := settle_cmd (s.advance t) v
  exact h.of_eq settled (settle_ldg _ _) cmd.symm ldg.symm

end

section
variable {p : Packet} {s : State} {r : Ring} {j : Reject} {code : BitVec 16}

theorem booked_takePacket (p : Packet) (s : State) : s.Booked (s.takePacket p) := by
  obtain ⟨d, taken⟩ := takePacket_form p s
  exact ⟨s.cmd, s.ldg, [], _, d, s.free, by rw [taken, List.append_nil]; rfl, by simp⟩

theorem State.Booked.noted {u : State} (h : s.Booked u) (q : Reply) (e l : Word) :
    s.Booked (State.pushReply q { u with cmd := u.cmd.noted p j e, ldg.evt := l }) := by
  obtain ⟨c, l, w, rs, d, k, rfl, spilled⟩ := h
  exact ⟨_, _, w, rs, d, k, rfl, spilled⟩

/-- A packet taken and rejected leaves, in order, all as it was. -/
theorem ordered_rejected (live : s.Live) (t : Nat) :
    s.ordered ((s.advance t).settle (((s.advance t).takePacket p).reject p r code j)) = s.ordered (s.advance t) := by
  obtain ⟨q, e, l, stirred, -⟩ := reject_form p r code j ((s.advance t).takePacket p)
  exact ordered_settle_stirred live t ((booked_takePacket p _).noted q e l) stirred rfl

theorem turned_rejected (t : Nat) : s.Turned p r j ((s.advance t).settle (((s.advance t).takePacket p).reject p r code j)) :=
  turned_settle t (turned_reject code) (cmd_takePacket p _) (ldg_takePacket p _)

/-- A packet that is too long (10 R236): one rejection to the bound ring, and the ring is passed over. -/
theorem turned_flushed (t : Nat) :
    s.Turned { p with replyRing := 0 } r ⟨0x0102, 2, 0⟩ ((s.advance t).settle ((s.advance t).flushRing p r code)) := by
  have turned := turned_reject (p := { p with replyRing := 0 }) (r := r) (j := ⟨0x0102, 2, 0⟩) (s := s.advance t) code
  exact turned_settle t (turned.of_eq (b := _) rfl rfl rfl rfl) rfl rfl

theorem flushRing_form (p : Packet) (r : Ring) (code : BitVec 16) (s : State) : ∃ rs, s.flushRing p r code =
    { s.reject { p with replyRing := 0 } r code ⟨0x0102, 2, 0⟩ with
      rings := rs, cmd.evt := setBit (s.reject { p with replyRing := 0 } r code ⟨0x0102, 2, 0⟩).cmd.evt 6 } := ⟨_, rfl⟩

theorem ordered_flushed (live : s.Live) (t : Nat) :
    s.ordered ((s.advance t).settle ((s.advance t).flushRing p r code)) = s.ordered (s.advance t) := by
  obtain ⟨q, e, l, ⟨v, _, d, n, form⟩, -⟩ := reject_form { p with replyRing := 0 } r code ⟨0x0102, 2, 0⟩ (s.advance t)
  obtain ⟨rs, flushed⟩ := flushRing_form p r code (s.advance t)
  have booked : (s.advance t).Booked (s.advance t) := ⟨_, _, [], _, _, _, by rw [List.append_nil], by simp⟩
  have noted := booked.noted (p := { p with replyRing := 0 }) (j := ⟨0x0102, 2, 0⟩) q (setBit e 6) l
  refine ordered_settle_stirred live t noted ⟨v, rs, d, n, ?_⟩ rfl
  rw [flushed, form]
  rfl

end

/-! ## The checks in their order (10 Table 10.3) -/

section
variable {sp : PacketSpec} {p : Packet} {s : State} {r : Ring} {j : Reject}

/-- A packet that is rejected is turned away. -/
theorem rejected_answers {c : Instr} (packet : packetOf c = some (p, sp)) (live : s.Live)
    (taken : (s.advance p.tick).takeable p = some r) (short : p.paramLen.toNat ≤ 4064)
    (verdict : sp.verdict (s.advance p.tick) p r = .reject j) : Answers c s (s.Turned p r j) := by
  refine answers_of_settled live (exec_packet packet s) ?_
  unfold State.packet
  rw [taken]
  dsimp only
  rw [if_neg (Nat.not_lt.2 short), verdict]
  exact turned_rejected p.tick

theorem badOpcode_answers {op : BitVec 16} (live : s.Live) (taken : (s.advance p.tick).takeable p = some r)
    (short : p.paramLen.toNat ≤ 4064) (header : headerCheck (s.advance p.tick) p r = none)
    (unassigned : assignedOpcodes.contains op.toNat = false) :
    Answers (.badOpcode op p) s fun u => s.Turned p r ⟨0x0100, 1, 0⟩ u ∧ s.ordered u = s.ordered (s.advance p.tick) := by
  refine answers_of_settled (f := State.badPacket op p) live rfl ?_
  unfold State.badPacket
  rw [taken]
  dsimp only
  rw [if_neg (Nat.not_lt.2 short), header]
  dsimp only
  rw [unassigned]
  exact ⟨turned_rejected p.tick, ordered_rejected live p.tick⟩

theorem overlong_answers {op : BitVec 16} (live : s.Live) (taken : (s.advance p.tick).takeable p = some r)
    (long : 4064 < p.paramLen.toNat) : Answers (.badOpcode op p) s fun u =>
      s.Turned { p with replyRing := 0 } r ⟨0x0102, 2, 0⟩ u ∧ s.ordered u = s.ordered (s.advance p.tick) := by
  refine answers_of_settled (f := State.badPacket op p) live rfl ?_
  unfold State.badPacket
  rw [taken]
  dsimp only
  rw [if_pos long]
  exact ⟨turned_flushed p.tick, ordered_flushed live p.tick⟩

/-- No field of the header is reserved and set (check 2). -/
def Plain (p : Packet) : Prop := p.reserved = 0 ∧ p.flags >>> 4 = 0

/-- The packet names no reply ring, or one of its own world (check 3). -/
def State.replyRingOk (p : Packet) (r : Ring) (s : State) : Bool :=
  decide (p.replyRing = 0) || (s.ring? p.replyRing.toNat).any fun q => decide (q.kind = .reply) && q.secure == r.secure

theorem replyRingOk_iff : s.replyRingOk p r = true ↔
    p.replyRing = 0 ∨ ∃ q, s.ring? p.replyRing.toNat = some q ∧ q.kind = .reply ∧ q.secure = r.secure := by
  simp [State.replyRingOk, Option.any_eq_true]

theorem plain_iff : (p.reserved != 0 || p.flags >>> 4 != 0) = false ↔ Plain p := by simp [Plain]

theorem headerCheck_eq : headerCheck s p r = firstFail [(p.reserved != 0 || p.flags >>> 4 != 0, badParam 4),
    (!s.replyRingOk p r, badParam 6), (p.flags.getLsbD 3 != r.secure, worldDenied 8)] := by
  unfold headerCheck State.replyRingOk
  cases s.ring? p.replyRing.toNat <;> rfl

theorem headerCheck_unplain (h : ¬ Plain p) : headerCheck s p r = badParam 4 := by
  rw [headerCheck_eq, Bool.eq_true_of_not_eq_false (mt plain_iff.1 h)]
  rfl

theorem headerCheck_unbound (plain : Plain p) (h : s.replyRingOk p r = false) : headerCheck s p r = badParam 6 := by
  rw [headerCheck_eq, plain_iff.2 plain, h]
  rfl

theorem headerCheck_world (plain : Plain p) (ring : s.replyRingOk p r = true) : headerCheck s p r =
    if p.flags.getLsbD 3 != r.secure then worldDenied 8 else none := by
  rw [headerCheck_eq, plain_iff.2 plain, ring]
  rfl

/-- The checks behind the header's, in their order. -/
theorem verdict_of_header (h : headerCheck s p r = some j) : sp.verdict s p r = .reject j := by
  unfold PacketSpec.verdict
  rw [h]

theorem verdict_foreign (header : headerCheck s p r = none) (h : sp.world s p r.secure = false) :
    sp.verdict s p r = .reject ⟨0x0105, 9, 0⟩ := by
  unfold PacketSpec.verdict
  rw [header]
  dsimp only
  rw [h]
  rfl

theorem verdict_hasty (header : headerCheck s p r = none) (world : sp.world s p r.secure = true)
    (h : p.deadlineUs ≠ 0) (h' : p.deadlineUs.toNat < 1000) : sp.verdict s p r = .reject ⟨0x0101, 7, 0⟩ := by
  unfold PacketSpec.verdict
  rw [header]
  dsimp only
  rw [world, if_neg (by decide), if_pos (by simpa [h'] using h)]

/-- A tag of the session that has been used with other parameters (check 8). -/
theorem verdict_reused (header : headerCheck s p r = none) (world : sp.world s p r.secure = true)
    (timely : p.deadlineUs = 0 ∨ 1000 ≤ p.deadlineUs.toNat) {e : LedgerEntry} (used : s.acceptedBefore p = some e)
    (other : e.digest ≠ packetDigest p sp.code) : sp.verdict s p r = .reject ⟨0x0101, 5, 0⟩ := by
  unfold PacketSpec.verdict
  rw [header]
  dsimp only
  rw [world, if_neg (by decide), if_neg (by simpa using or_iff_not_imp_left.1 timely), used]
  exact if_neg other

/-- What decides on a packet whose tag is new: room, length, mode, units and the opcode's own checks. -/
theorem verdict_new (header : headerCheck s p r = none) (world : sp.world s p r.secure = true)
    (timely : p.deadlineUs = 0 ∨ 1000 ≤ p.deadlineUs.toNat) (new : s.acceptedBefore p = none) : sp.verdict s p r =
      if !s.roomFor sp.code then .reject ⟨0x0106, 0x0C, 0⟩ else if !sp.len p then .reject ⟨0x0102, 3, 0⟩
      else if !s.modeAllows sp.code p r.secure then .reject ⟨0x0103, s.modeDetail sp.code p, 0⟩
      else if !sp.fitted s p then .reject ⟨0x0106, 0x0B, 0⟩ else (sp.check s p r.secure).elim .accept .reject := by
  unfold PacketSpec.verdict
  rw [header]
  dsimp only
  rw [world, if_neg (by decide), if_neg (by simpa using or_iff_not_imp_left.1 timely), new]
  dsimp only
  cases sp.check s p r.secure <;> rfl

theorem modeDetail_lead (lead : s.second = false) (code : BitVec 16) (p : Packet) : s.modeDetail code p = 0x0D := by
  unfold State.modeDetail
  rw [lead]
  rfl

end

/-- Settles O11: each failed check gives its verdict, and a verdict of rejection turns the packet away. -/
theorem packetChecksComeInOrder : Obligations.PacketChecksComeInOrder := by
  unfold Obligations.PacketChecksComeInOrder
  refine ⟨fun c p sp s r packet live taken short => ?_, fun op p s r live taken => ⟨fun short header unassigned => ?_,
    fun long => ?_⟩⟩
  · intro s1 turned replyOk plain headOk
    have turn {j : Reject} (verdict : sp.verdict s1 p r = .reject j) : turned j.status j.detail :=
      (rejected_answers packet live taken short verdict).imp fun u ⟨next, t⟩ =>
        ⟨next, t.status, t.detail, t.tag, t.rejected, t.entries, t.flights⟩
    have bound : s1.replyRingOk p r = true ↔ replyOk := replyRingOk_iff
    have header (h : headOk) : headerCheck s1 p r = none := by
      rw [headerCheck_world h.1 (bound.2 h.2.1), h.2.2]
      simp
    refine ⟨fun h => turn (verdict_of_header (headerCheck_unplain h)),
      fun h ring => turn (verdict_of_header (headerCheck_unbound h (Bool.eq_false_of_not_eq_true (mt bound.1 ring)))),
      fun h ring world => turn (verdict_of_header (j := ⟨0x0105, 8, 0⟩) ?_),
      fun h world => turn (verdict_foreign (header h) world),
      fun h world set short => turn (verdict_hasty (header h) world set short),
      fun h world timely e used other => turn (verdict_reused (header h) world timely used other),
      fun h world timely new => ?_⟩
    · rw [headerCheck_world h (bound.2 ring), if_pos (by simpa using world)]
      rfl
    · have verdict := verdict_new (header h) world timely new
      refine ⟨fun room => turn (j := ⟨0x0106, 0x0C, 0⟩) ?_, fun room len => turn (j := ⟨0x0102, 3, 0⟩) ?_,
        fun room len mode => ⟨turn (j := ⟨0x0103, _, 0⟩) ?_, fun lead => modeDetail_lead lead _ _⟩,
        fun room len mode fitted => turn (j := ⟨0x0106, 0x0B, 0⟩) ?_, fun room len mode fitted j check => turn ?_⟩
      · rw [verdict, room]
        rfl
      · rw [verdict, room, len]
        rfl
      · rw [verdict, room, len, mode]
        rfl
      · rw [verdict, room, len, mode, fitted]
        rfl
      · rw [verdict, room, len, mode, fitted, check]
        rfl
  · exact (badOpcode_answers live taken short header unassigned).imp fun u ⟨next, t, rest⟩ =>
      ⟨next, t.status, t.detail, t.tag, t.rejected, t.flights, t.ledger (by decide), rest⟩
  · refine (overlong_answers (op := op) live taken long).imp fun u ⟨next, t, rest⟩ => ?_
    obtain ⟨q, reply, status, detail, ring⟩ := t.reply
    exact ⟨next, t.status, t.detail, t.rejected, t.flights, t.ledger (by decide), ⟨q, reply, ring rfl, status, detail⟩, rest⟩

end Sys2Proof.Machine

namespace Sys2Proof.Machine

/-! ## Duplicates (10 R245, R246) -/

/-- The DUPLICATE entry of a packet, before it is stamped (10 Table 10.8). -/
def duplicateEntry (p : Packet) (r : Ring) (code : BitVec 16) : LedgerEntry :=
  { LedgerEntry.blank .duplicate with
    tag := p.tag, opcode := code, ring := BitVec.ofNat 16 p.ring, status := 1, secure := r.secure, digest := packetDigest p code }

section
variable {p : Packet} {s : State} {r : Ring} {code : BitVec 16} {e x : LedgerEntry}

theorem drawLedger_of_room (room : 0 < s.generalRoom) : s.drawLedger = s := if_pos room

/-- The DONE entry of a command stays the one found, whatever is written behind it. -/
theorem doneOf_grown {u : State} {es : List LedgerEntry} (grown : s.ldg.Grown es u.ldg) (done : s.doneOf e = some x) :
    u.doneOf e = some x := by
  unfold State.doneOf at done ⊢
  rw [grown.entries_eq, List.find?_append, done, Option.some_or]

/-- A duplicate of a command whose DONE entry is held is entered, counted and answered from that entry. -/
theorem duplicate_form (lead : s.second = false) (room : 0 < s.generalRoom) (ended : s.flight? e.seq = none)
    (done : s.doneOf e = some x) : ∃ ring time evt l w, s.duplicate p r code e = { s with
      ldg := l, posted := s.posted ++ w
      cmd := { s.cmd with
        dups := satInc s.cmd.dups, evt
        replies := s.cmd.replies ++ [dupReply time { ring, cmdRing := p.ring, opcode := code, tag := p.tag, cookie := p.cookie }
          e.seq x.status x.detail x.result x.fault] } }
    ∧ s.ldg.Grown [s.stamped (duplicateEntry p r code)] l ∧ ∀ y ∈ w, y.space = Space.cellar := by
  obtain ⟨l, w, form, grown, spilled⟩ := appendEntry_form (duplicateEntry p r code) s
  refine ⟨replyRingOf s p r, s.time, setBit s.cmd.evt 5, l, w, ?_, grown, spilled⟩
  have done' : State.doneOf { s with ldg := l } e = some x := doneOf_grown grown done
  unfold State.duplicate
  rw [if_neg (by simp [Nat.ne_of_gt room]), lead, if_neg Bool.false_ne_true, drawLedger_of_room room]
  generalize written : State.appendEntry _ s = u
  obtain rfl := written.symm.trans form
  dsimp only
  split
  · next f flying => exact absurd (flying.symm.trans ended) (by simp)
  · split
    · next y found =>
      obtain rfl : x = y := Option.some.inj (done'.symm.trans found)
      rfl
    · next missing => exact absurd (missing.symm.trans done') (by simp)

end

/-- Settles O14: what a duplicate leaves behind its DUPLICATE entry and its reply is booking. -/
theorem duplicateIsNotRunAgain : Obligations.DuplicateIsNotRunAgain := by
  unfold Obligations.DuplicateIsNotRunAgain
  intro c p sp s r e x packet live taken short verdict lead ended done room
  obtain ⟨d, took⟩ := takePacket_form p (s.advance p.tick)
  obtain ⟨ring, time, evt, l, w, form, grown, spilled⟩ := duplicate_form (s := (s.advance p.tick).takePacket p) (p := p) (r := r)
    (code := sp.code) (e := e) (x := x) (by rw [took]; exact lead) (by rw [took]; exact room) (by rw [took]; exact ended)
    (by rw [took]; exact done)
  have booked : (s.advance p.tick).Booked (((s.advance p.tick).takePacket p).duplicate p r sp.code e) := by
    rw [form, took]
    exact ⟨_, l, w, _, d, _, rfl, spilled⟩
  refine answers_of_settled live (exec_packet packet s) ?_
  have run : State.packet sp p (s.advance p.tick) = ((s.advance p.tick).takePacket p).duplicate p r sp.code e := by
    unfold State.packet
    rw [taken]
    dsimp only
    rw [if_neg (Nat.not_lt.2 short), verdict]
  rw [run]
  refine ⟨ordered_settle_booked live p.tick booked rfl, ?_⟩
  obtain ⟨e', b, settled⟩ := settle_cmd (s.advance p.tick) (((s.advance p.tick).takePacket p).duplicate p r sp.code e)
  rw [settle_ldg, settled, form, took]
  rw [ldg_takePacket] at grown
  exact ⟨rfl, rfl, rfl, ⟨_, grown.entries_eq, rfl, rfl, rfl⟩, _, rfl, rfl, rfl, rfl, rfl, rfl, rfl, rfl⟩

end Sys2Proof.Machine

namespace Sys2Proof.Machine

/-! ## The memories of the host -/

section
variable {m : List Host.Cell}

/-- In a memory of the host every byte written is listed, so that it reads back whatever the order of the cells. -/
theorem find_put_host (a : Nat) (b : Byte) (x : Nat) :
    Mem.find (Mem.put none a b m) x = if x = a then some b else Mem.find m x := by
  have read (c : Host.Cell) (l : List Host.Cell) (x : Nat) : Mem.find (c :: l) x = if x = c.1 then some c.2 else Mem.find l x := by
    unfold Mem.find
    rw [List.find?_cons]
    by_cases h : x = c.1
    · rw [if_pos h, h, beq_self_eq_true]
      rfl
    · rw [if_neg h, beq_eq_false_iff_ne.2 (Ne.symm h)]
  induction m with
  | nil => exact read (a, b) [] x
  | cons c m ih =>
    unfold Mem.put
    by_cases below : a < c.1
    · rw [if_pos below, if_neg (by simp), read]
    · rw [if_neg below]
      by_cases same : a = c.1
      · rw [if_pos same, if_neg (by simp), read, read, same]
        by_cases h : x = c.1
        · rw [if_pos h, if_pos h]
        · rw [if_neg h, if_neg h, if_neg h]
      · rw [if_neg same, read, read, ih]
        by_cases h : x = c.1
        · rw [if_pos h, if_pos h, if_neg (by omega)]
        · rw [if_neg h, if_neg h]

theorem find_write_host (l : List Byte) (a x : Nat) : Mem.find (Mem.write none a l m) x =
    if a ≤ x ∧ x < a + l.length then l[x - a]? else Mem.find m x := by
  induction l generalizing a m with
  | nil =>
    rw [if_neg (by simp)]
    rfl
  | cons b l ih =>
    unfold Mem.write
    rw [ih, find_put_host, List.length_cons]
    by_cases first : x = a
    · subst first
      rw [if_neg (by omega), if_pos rfl, if_pos (by omega), Nat.sub_self]
      rfl
    · rw [if_neg first]
      by_cases inside : a + 1 ≤ x ∧ x < a + 1 + l.length
      · rw [if_pos inside, if_pos (by omega), ← List.getElem?_cons_succ (a := b)]
        congr 1
        omega
      · rw [if_neg inside, if_neg (by omega)]

theorem clear_nothing (a : Nat) (m : List Host.Cell) : Mem.clear a (a + 0) m = m :=
  List.filter_eq_self.2 fun c _ => by simp [Nat.lt_or_ge]

/-- The three writes of a slot: its bytes before the pass, those behind it, and the pass (10 R231). -/
def slotWrites (sp : Space) (a o : Nat) (slot pass : List Byte) : List PostedWrite :=
  [⟨sp, a, 0, slot.take o⟩, ⟨sp, a + o + 4, 0, slot.drop (o + 4)⟩, ⟨sp, a + o, 0, pass⟩]

theorem commit_slotWrites (sp : Space) (a o : Nat) (slot pass : List Byte) (m : List Host.Cell) :
    commitWrites sp none (slotWrites sp a o slot pass) m =
      Mem.write none (a + o) pass (Mem.write none (a + o + 4) (slot.drop (o + 4)) (Mem.write none a (slot.take o) m)) := by
  simp only [commitWrites, slotWrites, List.foldl_cons, List.foldl_nil, if_true, clear_nothing]

theorem commit_slotWrites_other {sp sp' : Space} (h : sp ≠ sp') (d : Option Byte) (a o : Nat) (slot pass : List Byte)
    (m : List Host.Cell) : commitWrites sp' d (slotWrites sp a o slot pass) m = m := by
  simp only [commitWrites, slotWrites, List.foldl_cons, List.foldl_nil, h, if_false]

/-- A slot of 64 bytes reads back with its pass, and every byte around it reads as before. -/
theorem find_slotWrites (sp : Space) (a o : Nat) {slot pass : List Byte} (whole : slot.length = 64) (four : pass.length = 4)
    (fits : o + 4 ≤ 64) :
    (∀ i < 64, Mem.find (commitWrites sp none (slotWrites sp a o slot pass) m) (a + i) =
      some ((slot.take o ++ pass ++ slot.drop (o + 4)).getD i 0))
    ∧ ∀ x, x < a ∨ a + 64 ≤ x → Mem.find (commitWrites sp none (slotWrites sp a o slot pass) m) x = Mem.find m x := by
  have before : (slot.take o).length = o := by rw [List.length_take]; omega
  have behind : (slot.drop (o + 4)).length = 60 - o := by rw [List.length_drop]; omega
  have all : (slot.take o ++ pass ++ slot.drop (o + 4)).length = 64 := by simp only [List.length_append]; omega
  rw [commit_slotWrites]
  simp only [find_write_host, before, behind, four]
  refine ⟨fun i hi => ?_, fun x hx => ?_⟩
  · have byte : some ((slot.take o ++ pass ++ slot.drop (o + 4)).getD i 0) = (slot.take o ++ pass ++ slot.drop (o + 4))[i]? := by
      rw [List.getD_eq_getElem?_getD, List.getElem?_eq_getElem (by omega), Option.getD_some]
    rw [byte]
    by_cases h : i < o
    · rw [if_neg (by omega), if_neg (by omega), if_pos (by omega), List.append_assoc, List.getElem?_append_left (by omega)]
      congr 1
      omega
    · by_cases h' : i < o + 4
      · rw [if_pos (by omega), List.getElem?_append_left (by rw [List.length_append]; omega),
          List.getElem?_append_right (by omega)]
        congr 1
        omega
      · rw [if_neg (by omega), if_pos (by omega), List.getElem?_append_right (by rw [List.length_append]; omega),
          List.length_append]
        congr 1
        omega
  · rw [if_neg (by omega), if_neg (by omega), if_neg (by omega)]

end

end Sys2Proof.Machine

namespace Sys2Proof.Machine

/-! ## A slot at the tail of a ring (10 R231; 11 R274, R275) -/

section
variable {s : State} {id : Nat} {q : Ring}

theorem ring?_modRing {f : Ring → Ring} (named : ∀ r, (f r).id = r.id) (id : Nat) (s : State) :
    (s.modRing id f).ring? id = (s.ring? id).map f := by
  have same : ((fun r : Ring => r.id == id) ∘ fun r => if r.id == id then f r else r) = fun r => r.id == id := by
    funext r
    by_cases own : r.id = id <;> simp [own, named]
  unfold State.ring?
  rw [State.modRing_rings, List.find?_map, same]
  cases found : s.rings.find? fun r => r.id == id with
  | none => rfl
  | some r => exact congrArg some (if_pos (List.find?_some found))

theorem serves_form (r : Ring) (s : State) : ∃ d, s.serves r = { s with dma.served := d } := by
  unfold State.serves
  split <;> exact ⟨_, rfl⟩

/-- The interrupt of a ring marks it as raised, at most. -/
theorem ring?_ringInterrupt (h : s.ring? id = some q) : ∃ b, (s.ringInterrupt id).ring? id = some { q with irqRaised := b } := by
  unfold State.ringInterrupt
  rw [h]
  dsimp only
  split
  · obtain ⟨p, raised⟩ := raiseVector_form q.secure q.msix (s.modRing id fun r => { r with irqRaised := true })
    rw [raised]
    refine ⟨true, ?_⟩
    have marked := ring?_modRing (f := fun r => { r with irqRaised := true }) (fun _ => rfl) id s
    rw [h] at marked
    exact marked
  · exact ⟨q.irqRaised, h⟩

/-- The ring behind a slot put at its tail. -/
def Ring.produced (q : Ring) : Ring :=
  { q with
    tail := (q.tail + 1) % q.size, pass := if (q.tail + 1) % q.size = 0 then q.pass + 1 else q.pass
    ahead := if q.fence then q.ahead + 1 else q.ahead }

/-- The state in which a slot with its pass has been put on its ring and its interrupt is still to come. -/
def State.slotPut (id : Nat) (q : Ring) (l : List Byte) (o : Nat) (s : State) : State :=
  State.serves q (State.modRing id (fun r => { r with
      tail := q.produced.tail, pass := q.produced.pass, ahead := if r.fence then r.ahead + 1 else r.ahead })
    { s with posted := s.posted ++ slotWrites (hostSpace q.secure) (q.slotAddr q.tail) o l (leBytes 4 q.pass.toNat) })

theorem produceSlots_pass (h : s.ring? id = some q) (l : List Byte) (o : Nat) : s.produceSlots id [l] (some o) =
    if q.fence then s.slotPut id q l o else (s.slotPut id q l o).ringInterrupt id := by
  have put : (((s.post (hostSpace q.secure) (q.slotAddr q.tail) (l.take o)).post (hostSpace q.secure) (q.slotAddr q.tail + o + 4)
      (l.drop (o + 4))).post (hostSpace q.secure) (q.slotAddr q.tail + o) (leBytes 4 q.pass.toNat)) =
      { s with posted := s.posted ++ slotWrites (hostSpace q.secure) (q.slotAddr q.tail) o l (leBytes 4 q.pass.toNat) } := by
    simp [State.post, slotWrites]
  unfold State.produceSlots
  rw [h]
  dsimp only [List.foldl]
  rw [put]
  rfl

theorem ring?_slotPut (h : s.ring? id = some q) (l : List Byte) (o : Nat) :
    (s.slotPut id q l o).ring? id = some q.produced := by
  unfold State.slotPut
  obtain ⟨d, served⟩ := serves_form q (State.modRing id (fun r => { r with
      tail := q.produced.tail, pass := q.produced.pass, ahead := if r.fence then r.ahead + 1 else r.ahead })
    { s with posted := s.posted ++ slotWrites (hostSpace q.secure) (q.slotAddr q.tail) o l (leBytes 4 q.pass.toNat) })
  rw [served]
  refine (ring?_modRing (f := fun r => { r with
    tail := q.produced.tail, pass := q.produced.pass, ahead := if r.fence then r.ahead + 1 else r.ahead })
    (fun _ => rfl) id s).trans ?_
  rw [h]
  rfl

/-- A slot with its pass is posted to the memory of the ring's world, and the ring's tail passes it. -/
theorem produceSlots_form (h : s.ring? id = some q) (l : List Byte) (o : Nat) : ∃ rs d p b,
    s.produceSlots id [l] (some o) = { s with
      posted := s.posted ++ slotWrites (hostSpace q.secure) (q.slotAddr q.tail) o l (leBytes 4 q.pass.toNat)
      rings := rs, dma.served := d, pci := p }
    ∧ (s.produceSlots id [l] (some o)).ring? id = some { q.produced with irqRaised := b } := by
  have put := ring?_slotPut h l o
  obtain ⟨rs, d, form⟩ : ∃ rs d, s.slotPut id q l o = { s with
      posted := s.posted ++ slotWrites (hostSpace q.secure) (q.slotAddr q.tail) o l (leBytes 4 q.pass.toNat)
      rings := rs, dma.served := d } := by
    obtain ⟨d, served⟩ := serves_form q _
    exact ⟨_, d, served⟩
  rw [produceSlots_pass h]
  cases q.fence with
  | true => exact ⟨rs, d, s.pci, q.produced.irqRaised, form, put⟩
  | false =>
    obtain ⟨b, marked⟩ := ring?_ringInterrupt put
    obtain ⟨rs', p, told⟩ := ringInterrupt_form id (s.slotPut id q l o)
    exact ⟨rs', d, p, b, by rw [if_neg Bool.false_ne_true, told, form], marked⟩

end

/-- What the device has written to the host memory of a world. -/
def State.hostOf (secure : Bool) (s : State) : List Host.Cell := if secure then s.host1 else s.host0

theorem other_world {u v : State} {secure : Bool} (h : u.hostOf (!secure) = v.hostOf (!secure)) :
    if secure then u.host0 = v.host0 else u.host1 = v.host1 := by
  cases secure <;> exact h

theorem settle_hostOf (s0 s : State) (secure : Bool) :
    (s0.settle s).hostOf secure = commitWrites (hostSpace secure) none s.posted (s0.hostOf secure) := by
  obtain ⟨_, _, _, settled⟩ := settle_form s0 s
  rw [settled]
  cases secure <;> rfl

theorem settle_cel (s0 s : State) :
    (s0.settle s).cel = { s.cel with mem := commitWrites .cellar (some 0) s.posted s0.cel.mem } := by
  obtain ⟨_, _, _, settled⟩ := settle_form s0 s
  rw [settled]

/-- The end of a step that has posted one slot for a world's memory. -/
theorem settle_slot {s0 v : State} {secure : Bool} {a o : Nat} {slot pass : List Byte}
    (posted : v.posted = slotWrites (hostSpace secure) a o slot pass) (whole : slot.length = 64) (four : pass.length = 4)
    (fits : o + 4 ≤ 64) :
    (∀ i < 64, Mem.find ((s0.settle v).hostOf secure) (a + i) = some ((slot.take o ++ pass ++ slot.drop (o + 4)).getD i 0))
    ∧ (∀ x, x < a ∨ a + 64 ≤ x → Mem.find ((s0.settle v).hostOf secure) x = Mem.find (s0.hostOf secure) x)
    ∧ (s0.settle v).hostOf (!secure) = s0.hostOf (!secure) ∧ (s0.settle v).cel = { v.cel with mem := s0.cel.mem } := by
  obtain ⟨own, rest⟩ := find_slotWrites (m := s0.hostOf secure) (hostSpace secure) a o whole four fits
  have other : hostSpace secure ≠ hostSpace !secure := by cases secure <;> decide
  have outside : hostSpace secure ≠ .cellar := by cases secure <;> decide
  rw [settle_hostOf, settle_hostOf, settle_cel, posted, commit_slotWrites_other other, commit_slotWrites_other outside]
  exact ⟨own, rest, rfl, rfl⟩

/-! ## Replies and event records (10 R231, R233; 11 R275) -/

theorem length_leBytes (n x : Nat) : (leBytes n x).length = n := by
  induction n generalizing x with
  | zero => rfl
  | succ n ih => exact congrArg (· + 1) (ih _)

theorem length_reply (r : Reply) : r.bytes.length = 64 := by
  simp [Reply.bytes, length_leBytes]

theorem length_eventRecord (e : EventRecord) : e.bytes.length = 60 := by
  simp [EventRecord.bytes, length_leBytes, padTo]

theorem replyWritten_form (r : Reply) (s : State) : ∃ c rs, s.replyWritten r = { s with cmd := c, rings := rs } := by
  unfold State.replyWritten
  split
  · exact ⟨_, _, rfl⟩
  · split <;> exact ⟨_, _, rfl⟩

section
variable {s : State} {id t : Nat} {q : Ring}

/-- A reply without buffers goes to the slot at its ring's tail. -/
theorem writeReply_form {r : Reply} (ring : s.ring? id = some q) (next : s.nextReply id = some r) (kind : q.kind = .reply)
    (room : 0 < q.room) (fed : q.waitDoorbell = false) (host : s.canHost q.secure = true)
    (flows : s.dma.chans[9].stuck = false) (plain : r.buffers = []) : ∃ c rs d p, s.writeReply id = { s with
      cmd := c, rings := rs, dma.served := d, pci := p
      posted := s.posted ++ slotWrites (hostSpace q.secure) (q.slotAddr q.tail) 40 r.bytes (leBytes 4 q.pass.toNat) } := by
  have run : s.writeReply id = State.replyWritten r (State.produceSlots id [r.bytes] (some 40)
      { s with cmd.replies := s.cmd.replies.erase r }) := by
    unfold State.writeReply
    rw [ring, next]
    dsimp only
    rw [if_pos (by simp [kind, room, fed, host, flows]), plain]
    rfl
  have ring' : State.ring? { s with cmd.replies := s.cmd.replies.erase r } id = some q := ring
  obtain ⟨rs, d, p, b, produced, -⟩ := produceSlots_form ring' r.bytes 40
  obtain ⟨c, rs', written⟩ := replyWritten_form r (State.produceSlots id [r.bytes] (some 40)
    { s with cmd.replies := s.cmd.replies.erase r })
  exact ⟨c, rs', d, p, by rw [run, written, produced]⟩

theorem writeMirror_of_event (ring : s.ring? id = some q) (kind : q.kind = .event) : s.writeMirror id = s := by
  unfold State.writeMirror
  rw [ring]
  dsimp only
  split
  · rfl
  · rw [kind]
    rfl

/-- The oldest event record that waits goes to the slot at its ring's tail, and the others wait on. -/
theorem writeEvent_form {e : EventRecord} {rest : List EventRecord} (ring : s.ring? id = some q) (events : q.events = e :: rest)
    (room : 0 < q.room) (fed : q.waitDoorbell = false) (host : s.canHost q.secure = true)
    (flows : s.dma.chans[10].stuck = false) (lead : s.second = false) : ∃ rs d p b, s.writeEvent id = { s with
      rings := rs, dma.served := d, pci := p
      posted := s.posted ++ slotWrites (hostSpace q.secure) (q.slotAddr q.tail) 60 (e.bytes ++ leBytes 4 0)
        (leBytes 4 q.pass.toNat) }
    ∧ (s.writeEvent id).ring? id = some { Ring.produced { q with events := rest } with irqRaised := b } := by
  have run : s.writeEvent id = State.produceSlots id [e.bytes ++ leBytes 4 0] (some 60)
      (s.modRing id fun q => { q with events := rest }) := by
    unfold State.writeEvent
    rw [ring]
    dsimp only
    rw [events]
    exact if_pos (by simp [room, fed, host, flows, lead])
  have ring' : (s.modRing id fun q => { q with events := rest }).ring? id = some { q with events := rest } := by
    rw [ring?_modRing (f := fun q => { q with events := rest }) (fun _ => rfl), ring]
    rfl
  obtain ⟨rs, d, p, b, produced, tail⟩ := produceSlots_form ring' (e.bytes ++ leBytes 4 0) 60
  rw [run]
  exact ⟨rs, d, p, b, produced, tail⟩

end

theorem settle_ring? (s0 s : State) (id : Nat) : (s0.settle s).ring? id = s.ring? id := by
  unfold State.ring?
  rw [settle_rings]

/-- Settles O15: a reply and an event record are each one slot, posted in three writes. -/
theorem replyReachesItsSlot : Obligations.ReplyReachesItsSlot := by
  unfold Obligations.ReplyReachesItsSlot
  refine ⟨fun s t id q r live ring next kind room fed host flows plain => ?_,
    fun s t id q e rest live ring events kind room fed host flows lead => ?_⟩
  · intro slot mem
    obtain ⟨c, rs, d, p, form⟩ := writeReply_form (s := s.advance t) ring next kind room fed host flows plain
    have posted : ((s.advance t).writeReply id).posted = slotWrites (hostSpace q.secure) (q.slotAddr q.tail) 40 r.bytes
        (leBytes 4 q.pass.toNat) := by
      rw [form, State.advance_posted, live.posted, List.nil_append]
    obtain ⟨own, rest, other, cel⟩ := settle_slot (s0 := s.advance t) posted (length_reply r) (length_leBytes _ _) (by decide)
    refine answers_of_settled (f := State.writeReply id) live rfl ⟨own, rest, ?_, ?_, ?_, ?_, ?_, ?_⟩
    · exact other_world other
    · rw [cel, form]
      rfl
    · rw [settle_ldg, form]
      rfl
    · rw [settle_sys, form]
      rfl
    · rw [settle_ports, form]
      rfl
    · rw [settle_axes, form]
      rfl
  · intro slot mem
    obtain ⟨rs, d, p, b, form, tail⟩ := writeEvent_form (s := s.advance t) ring events room fed host flows lead
    have posted : ((s.advance t).writeEvent id).posted = slotWrites (hostSpace q.secure) (q.slotAddr q.tail) 60
        (e.bytes ++ leBytes 4 0) (leBytes 4 q.pass.toNat) := by
      rw [form, State.advance_posted, live.posted, List.nil_append]
    have whole : (e.bytes ++ leBytes 4 0).length = 64 := by rw [List.length_append, length_eventRecord, length_leBytes]
    have bytes : (e.bytes ++ leBytes 4 0).take 60 ++ leBytes 4 q.pass.toNat ++ (e.bytes ++ leBytes 4 0).drop 64 = slot := by
      rw [List.take_left' (length_eventRecord e), List.drop_eq_nil_of_le whole.le, List.append_nil]
    obtain ⟨own, other, -, cel⟩ := settle_slot (s0 := s.advance t) posted whole (length_leBytes _ _) (by decide)
    rw [bytes] at own
    have run : ((s.advance t).writeEvent id).writeMirror id = (s.advance t).writeEvent id := writeMirror_of_event tail kind
    refine answers_of_settled (f := fun s => (s.writeEvent id).writeMirror id) live rfl ?_
    rw [run]
    refine ⟨own, other, ⟨_, (settle_ring? _ _ _).trans tail, rfl, rfl⟩, ?_, ?_, ?_, ?_⟩
    · rw [cel, form]
      rfl
    · rw [settle_ldg, form]
      rfl
    · rw [settle_sys, form]
      rfl
    · rw [settle_ports, form]
      rfl

end Sys2Proof.Machine

namespace Sys2Proof.Machine

/-! ## A command that is answered at once, what it has written to the host included (10 R235, R247) -/

section
variable {sp : PacketSpec} {p : Packet} {r : Ring} {s u v : State}

theorem State.Carries.flight (h : s.Carries sp p r v) :
    ∃ b, v.flight? s.acceptSeq = some { (s.advance p.tick).flightOf p r sp.code with begun := b } := h.2.2

theorem flightOf_kind (p : Packet) (r : Ring) (code : BitVec 16) (s : State) : (s.flightOf p r code).kind ≠ .mirrored := by
  unfold State.flightOf
  cases s.second <;> simp

theorem flightOf_kind_lead (lead : s.second = false) (p : Packet) (r : Ring) (code : BitVec 16) :
    (s.flightOf p r code).kind = .host := by
  unfold State.flightOf
  rw [lead]
  rfl

/-- The end of the command, in a state that carries it: its DONE entry, and its reply with what it has for the host. -/
theorem State.Carries.finish_buffers (h : s.Carries sp p r v) (res : BitVec 32) (b : List (Nat × List Byte)) :
    ∃ fl l w, v.finish s.acceptSeq 0 0 res 0 b = { v with
      cmd.flights := fl, ldg := l, posted := v.posted ++ w
      cmd.replies := s.cmd.replies ++ [replyOf sp p r s 0 0 res b] } ∧ ∀ y ∈ w, y.space = Space.cellar := by
  obtain ⟨_, flight⟩ := h.flight
  obtain ⟨u, y, pushes⟩ := finish_pushes flight rfl (flightOf_kind p r sp.code (s.advance p.tick)) rfl 0 0 res 0
  obtain ⟨fl, l, w, plain, spilled⟩ := h.finish_form res
  have pushed := (pushes []).symm.trans plain
  obtain ⟨before, reply⟩ := List.append_inj' (congrArg (fun z : State => z.cmd.replies) pushed :
    u.cmd.replies ++ [{ y with buffers := [] }] = s.cmd.replies ++ [replyOf sp p r s 0 0 res]) rfl
  have same : { y with buffers := b } = replyOf sp p r s 0 0 res b :=
    congrArg (fun z : Reply => { z with buffers := b }) (List.singleton_inj.1 reply)
  have swapped : State.pushReply { y with buffers := b } u = { State.pushReply { y with buffers := [] } u with
      cmd.replies := u.cmd.replies ++ [{ y with buffers := b }] } := rfl
  exact ⟨fl, l, w, by rw [pushes b, swapped, pushed, before, same], spilled⟩

theorem State.Carries.replies_finish (h : s.Carries sp p r v) (res : BitVec 32) (b : List (Nat × List Byte)) :
    (v.finish s.acceptSeq 0 0 res 0 b).cmd.replies = s.cmd.replies ++ [replyOf sp p r s 0 0 res b] := by
  obtain ⟨_, _, _, form, -⟩ := h.finish_buffers res b
  rw [form]

theorem State.Booked.finish_buffers (h : u.Booked v) (carries : s.Carries sp p r v) (res : BitVec 32)
    (b : List (Nat × List Byte)) : u.Booked (v.finish s.acceptSeq 0 0 res 0 b) := by
  obtain ⟨fl, l', w', form, spilled'⟩ := carries.finish_buffers res b
  rw [form]
  obtain ⟨c, l, w, rs, d, k, rfl, spilled⟩ := h
  exact ⟨_, l', w ++ w', rs, d, k, by rw [← List.append_assoc],
    fun y hy => (List.mem_append.1 hy).elim (spilled y) (spilled' y)⟩

theorem State.Booked.with_free (h : s.Booked u) (k : Nat) : s.Booked { u with free := k } := by
  obtain ⟨c, l, w, rs, d, _, rfl, spilled⟩ := h
  exact ⟨c, l, w, rs, d, k, rfl, spilled⟩

theorem State.Booked.with_sys (h : s.Booked u) (x : SysUnit) : ({ s with sys := x } : State).Booked { u with sys := x } := by
  obtain ⟨c, l, w, rs, d, k, rfl, spilled⟩ := h
  exact ⟨c, l, w, rs, d, k, rfl, spilled⟩

/-- An accepted command that is answered at once, with `v` for its effect where `u` is all that is not booking. -/
theorem Accepts.answers_booked (h : Accepts sp p s r) {c : Instr} (hc : exec c s = .next (s.act p.tick (State.packet sp p)))
    {res : BitVec 32} {b : List (Nat × List Byte)}
    (run : sp.run p r.secure s.acceptSeq (s.entered sp p r) = v)
    (replies : v.cmd.replies = s.cmd.replies ++ [replyOf sp p r s 0 0 res b])
    (booked : u.Booked v)
    (kept : { u with
      pending := s.pending, ticks := max s.ticks p.tick, posted := s.posted, host0 := s.host0, host1 := s.host1 } = u) :
    Answers c s fun x => x = (s.advance p.tick).settle v ∧ RepliesOk sp p r s x res b ∧ s.ordered x = s.ordered u :=
  h.answers hc run ⟨rfl, (settle_replies _ _).trans replies, ordered_settle_booked h.live p.tick booked kept⟩

/-- The same of a command that does nothing but answer. -/
theorem Accepts.answers_only_reply (h : Accepts sp p s r) {c : Instr} (hc : exec c s = .next (s.act p.tick (State.packet sp p)))
    {res : BitVec 32} {b : List (Nat × List Byte)}
    (run : sp.run p r.secure s.acceptSeq (s.entered sp p r) = (s.entered sp p r).finish s.acceptSeq 0 0 res 0 b) :
    Answers c s fun x => x = (s.advance p.tick).settle ((s.entered sp p r).finish s.acceptSeq 0 0 res 0 b)
      ∧ RepliesOk sp p r s x res b ∧ s.ordered x = s.ordered (s.advance p.tick) :=
  h.answers_booked hc run (h.carries_entered.replies_finish res b)
    ((booked_entered sp p r s).finish_buffers h.carries_entered res b) rfl

/-! ## IDENTIFY, GET_STATUS, SET_TIME, SELF_TEST and NOP (13 R310, R323; 16 R373, R375) -/

/-- What identifies the device does not change with the entry of a packet. -/
theorem identity_entered : (s.entered sp p r).identity = (s.advance p.tick).identity := by
  obtain ⟨es, grown⟩ := grows_entered sp p r s
  have epoch := grown.epoch_eq
  obtain ⟨_, _, l, _, _, entered, -⟩ := entered_form sp p r s
  rw [entered] at epoch ⊢
  unfold State.identity
  rw [epoch]
  rfl

theorem ns_entered : (s.entered sp p r).ns = (s.advance p.tick).ns := by
  obtain ⟨_, _, _, _, _, entered, -⟩ := entered_form sp p r s
  rw [entered]
  rfl

theorem sys_entered : (s.entered sp p r).sys = s.sys := by
  obtain ⟨_, _, _, _, _, entered, -⟩ := entered_form sp p r s
  rw [entered]
  rfl

theorem identify_answers (h : Accepts identifySpec p s r) : Answers (.identify p) s fun u =>
    RepliesOk identifySpec p r s u sysId (bufferAt (u64 p.params 0) (s.advance p.tick).identity)
      ∧ s.ordered u = s.ordered (s.advance p.tick) := by
  have run : identifySpec.run p r.secure s.acceptSeq (s.entered identifySpec p r) = (s.entered identifySpec p r).finish
      s.acceptSeq 0 0 sysId 0 (bufferAt (u64 p.params 0) (s.advance p.tick).identity) := by
    rw [← identity_entered (sp := identifySpec) (r := r)]
    rfl
  exact (h.answers_only_reply rfl run).imp fun u ⟨next, _, rest⟩ => ⟨next, rest⟩

theorem getStatus_answers (h : Accepts getStatusSpec p s r) : Answers (.getStatus p) s fun u =>
    RepliesOk getStatusSpec p r s u (word (s.sys.mode.code + 16 * s.sys.batchState.code))
        (bufferAt (u64 p.params 0) (s.entered getStatusSpec p r).statusBuffer)
      ∧ s.ordered u = s.ordered (s.advance p.tick) := by
  rw [← sys_entered (sp := getStatusSpec) (p := p) (r := r)]
  exact (h.answers_only_reply (c := .getStatus p) rfl rfl).imp fun u ⟨next, _, rest⟩ => ⟨next, rest⟩

theorem setWallAt_eq (ns : Nat) (l : List Byte) (s : State) : ∃ w e, s.setWallAt ns l = { s with sys := { s.sys with
    wallOffset := some ((u64 l 0 : Int) - (if u64 l 8 = 0 then ns else u64 l 8 : Nat))
    tbOut := if u8 l 16 = 3 then s.sys.tbOut else u8 l 16, tbOutEnd := e, lastWallSecond := w, evt := setBit s.sys.evt 4 } } :=
  ⟨_, _, rfl⟩

theorem setTime_answers (h : Accepts setTimeSpec p s r) : Answers (.setTime p) s fun u =>
    RepliesOk setTimeSpec p r s u 0
      ∧ u.sys.wallOffset =
        some ((u64 p.params 0 : Int) - (if u64 p.params 8 = 0 then (s.advance p.tick).ns else u64 p.params 8 : Nat))
      ∧ u.sys.tbOut = (if u8 p.params 16 = 3 then s.sys.tbOut else u8 p.params 16) ∧ u.sys.evt = setBit s.sys.evt 4
      ∧ s.ordered { u with sys := s.sys } = s.ordered (s.advance p.tick) := by
  obtain ⟨w, e, timed⟩ := setWallAt_eq (s.advance p.tick).ns p.params (s.entered setTimeSpec p r)
  rw [sys_entered] at timed
  generalize hx : ({ s.sys with wallOffset := _, tbOut := _, tbOutEnd := _, lastWallSecond := _, evt := _ } : SysUnit) = x at timed
  have run : setTimeSpec.run p r.secure s.acceptSeq (s.entered setTimeSpec p r) =
      State.finish s.acceptSeq 0 0 0 { s.entered setTimeSpec p r with sys := x } := by
    rw [← timed, ← ns_entered (sp := setTimeSpec) (r := r)]
    rfl
  have carries : s.Carries setTimeSpec p r { s.entered setTimeSpec p r with sys := x } := by
    obtain ⟨replies, time, flight⟩ := h.carries_entered
    refine ⟨replies, Eq.trans ?_ time, flight⟩
    unfold State.time State.ns
    rw [sys_entered, ← hx]
  have booked := ((booked_entered setTimeSpec p r s).with_sys x).finish_buffers carries 0 []
  refine (h.answers_booked (c := .setTime p) rfl run (carries.replies_finish 0 []) booked rfl).imp
    fun u ⟨next, settled, reply, rest⟩ => ?_
  have sys : u.sys = x := (congrArg State.sys rest :)
  refine ⟨next, reply, ?_⟩
  rw [sys, ← hx]
  exact ⟨rfl, rfl, rfl, congrArg (fun y : State => { y with sys := s.sys }) rest⟩

theorem length_flatMap_eight {α : Type} {f : α → List Byte} (eight : ∀ x, (f x).length = 8) (l : List α) :
    (l.flatMap f).length = 8 * l.length := by
  rw [List.length_flatMap, List.map_congr_left (g := fun _ => 8) fun x _ => eight x, List.map_const', List.sum_replicate,
    smul_eq_mul, Nat.mul_comm]

theorem selfTest_answers (h : Accepts selfTestSpec p s r) : Answers (.selfTest p) s fun u =>
    (∃ word results, results.length = 64 ∧ RepliesOk selfTestSpec p r s u word (bufferAt (u64 p.params 8) results))
      ∧ s.ordered u = s.ordered (s.advance p.tick) := by
  have carries := h.carries_entered
  have booked := ((booked_entered selfTestSpec p r s).finish_buffers carries (Config.free32 (s.entered selfTestSpec p r).free)
    (bufferAt (u64 p.params 8) ((List.range 8).flatMap fun i =>
      leBytes 8 (Config.free64 ((s.entered selfTestSpec p r).free + i)).toNat))).with_free ((s.entered selfTestSpec p r).free + 8)
  exact (h.answers_booked (c := .selfTest p) rfl rfl (carries.replies_finish _ _) booked rfl).imp
    fun u ⟨next, _, reply, rest⟩ => ⟨next, ⟨_, _, length_flatMap_eight (fun _ => length_leBytes 8 _) _, reply⟩, rest⟩

/-- The two entries of a command that is answered at once (10 R247). -/
theorem entries_finish (h : Accepts sp p s r) (lead : s.second = false) (res : BitVec 32) (b : List (Nat × List Byte)) :
    ∃ a d, s.ldg.Grown [a, d] ((s.entered sp p r).finish s.acceptSeq 0 0 res 0 b).ldg
      ∧ a = (s.advance p.tick).stamped (acceptEntry p r sp.code) ∧ d.kind = .done ∧ d.tag = p.tag ∧ d.status = 0
      ∧ d.digest = packetDigest p sp.code := by
  have ends := grown_finish 0 0 res 0 b h.flight_entered rfl (flightOf_kind_lead (s := s.advance p.tick) lead p r sp.code)
  exact ⟨_, _, (grown_entered sp p r s lead).trans ends, rfl, rfl, rfl, rfl, rfl⟩

theorem nop_answers (h : Accepts nopSpec p s r) (lead : s.second = false) : Answers (.nop p) s fun u =>
    RepliesOk nopSpec p r s u 0 ∧ s.ordered u = s.ordered (s.advance p.tick) ∧ u.cmd.accepted = s.cmd.accepted + 1
      ∧ u.ldg.nextNo = s.ldg.nextNo + 2
      ∧ ∃ e d, u.ldg.entries = s.ldg.entries ++ [e, d] ∧ e.kind = .accept ∧ d.kind = .done ∧ d.tag = p.tag ∧ d.status = 0
        ∧ d.digest = e.digest := by
  obtain ⟨a, d, grown, rfl, kind, tag, status, digest⟩ := entries_finish h lead 0 []
  refine (h.answers_only_reply (c := .nop p) rfl rfl).imp fun u ⟨next, settled, reply, rest⟩ => ?_
  have ldg : u.ldg = ((s.entered nopSpec p r).finish s.acceptSeq 0 0 0 0 []).ldg := by rw [settled, settle_ldg]
  have accepted : u.cmd.accepted = s.cmd.accepted + 1 := by
    obtain ⟨_, _, cmd⟩ := settle_cmd (s.advance p.tick) ((s.entered nopSpec p r).finish s.acceptSeq 0 0 0 0 [])
    obtain ⟨_, _, _, ends, -⟩ := h.carries_entered.finish_buffers 0 []
    obtain ⟨_, _, _, _, _, entered, -⟩ := entered_form nopSpec p r s
    rw [settled, cmd, ends, entered]
  refine ⟨next, reply, rest, accepted, ?_⟩
  rw [ldg, grown.entries_eq, grown.nextNo_eq]
  exact ⟨rfl, _, d, rfl, rfl, kind, tag, status, digest⟩

end

/-- Settles O16: each of the five commands is answered at once, and but for SET_TIME does no more. -/
theorem deviceQueriesAndTime : Obligations.DeviceQueriesAndTime := by
  unfold Obligations.DeviceQueriesAndTime
  exact ⟨fun p s r => ⟨identify_answers, getStatus_answers, setTime_answers, selfTest_answers⟩,
    fun p s r h lead => nop_answers h lead⟩

end Sys2Proof.Machine

namespace Sys2Proof.Machine

/-! ## Checkpoints (10 R253) -/

/-- The record of a checkpoint made now. -/
def State.nextCheckpoint (reason : BitVec 8) (s : State) : Checkpoint :=
  { seq := s.ldg.nextSeq, time := s.time, firstSeq := if s.ldg.ready then s.ldg.ckptFirst else s.ldg.nextSeq
    estate := BitVec.ofNat 32 s.sec.estate, reason, batch := s.batchNow, chain := s.ldg.chain, signature := none }

/-- The CHECKPOINT entry of a record, before it is stamped (10 Table 10.8). -/
def Checkpoint.entry (c : Checkpoint) : LedgerEntry :=
  { LedgerEntry.blank .checkpoint with digest := first16 (Config.sha384 c.head) }

/-- The Ledger once a checkpoint's entry is written: its record waits for a signature. -/
def Ledger.checkpointed (c : Checkpoint) (l : Ledger) : Ledger :=
  { l with
    ready := true, sinceCkpt := 0, ckptSeq := c.seq, ckptFirst := l.nextSeq, ckptChain := c.chain, signing := l.signing ++ [c]
    evt := setBit l.evt 1 }

theorem backlogCheck_form (s : State) : ∃ x, s.backlogCheck = { s with sec := x } := by
  unfold State.backlogCheck
  dsimp only
  split <;> exact ⟨_, rfl⟩

section
variable {s : State}

theorem drawLedger_form (s : State) : ∃ k, s.drawLedger = { s with ldg.ledgerDrawn := k } := by
  unfold State.drawLedger
  split
  · exact ⟨s.ldg.ledgerDrawn, rfl⟩
  · exact ⟨_, rfl⟩

theorem appendEntry_drawLedger (e : LedgerEntry) (s : State) : ∃ l w,
    s.drawLedger.appendEntry e = { s with ldg := l, posted := s.posted ++ w }
    ∧ s.ldg.Grown [s.stamped e] l ∧ ∀ x ∈ w, x.space = Space.cellar := by
  obtain ⟨k, drawn⟩ := drawLedger_form s
  rw [drawn]
  obtain ⟨l, w, form, ⟨c, m, n, k', grown⟩, spilled⟩ := appendEntry_form e { s with ldg.ledgerDrawn := k }
  exact ⟨l, w, form, ⟨c, m, n, k', grown⟩, spilled⟩

/-- A checkpoint that finds room is entered, and its record goes to the capture key. -/
theorem checkpoint_form (lead : s.second = false)
    (room : (s.ldg.ready && s.generalRoom = 0 && s.ldg.ledgerReserve = 0) = false) (reason : BitVec 8) : ∃ l w x,
    ({ s with ldg := l.checkpointed (s.nextCheckpoint reason), sec := x, posted := s.posted ++ w } : State).Stirred
      (s.checkpoint reason)
    ∧ s.ldg.Grown [s.stamped (s.nextCheckpoint reason).entry] l ∧ ∀ y ∈ w, y.space = Space.cellar := by
  obtain ⟨l, w, form, grown, spilled⟩ := appendEntry_drawLedger (s.nextCheckpoint reason).entry s
  obtain ⟨x, checked⟩ := backlogCheck_form { s with ldg := l.checkpointed (s.nextCheckpoint reason), posted := s.posted ++ w }
  refine ⟨l, w, x, ?_, grown, spilled⟩
  have run : s.checkpoint reason = State.fire .ldg 0 (State.backlogCheck
      { s with ldg := l.checkpointed (s.nextCheckpoint reason), posted := s.posted ++ w }) := by
    obtain ⟨k, drawn⟩ := drawLedger_form s
    unfold State.checkpoint
    rw [lead, if_neg Bool.false_ne_true, room, if_neg Bool.false_ne_true]
    rw [drawn] at form ⊢
    dsimp only
    generalize written : State.appendEntry _ _ = u
    obtain rfl := written.symm.trans form
    rfl
  rw [run, checked]
  exact fire_stirred _ _ _

theorem room_of_general (room : 0 < s.generalRoom) :
    (s.ldg.ready && s.generalRoom = 0 && s.ldg.ledgerReserve = 0) = false := by
  simp [Nat.ne_of_gt room]

variable {t : Nat}

/-- CHECKPOINT_SIGNED holds the oldest record that waited, with its signature (R253). -/
theorem checkpointSigned_holds (live : s.Live) {c : Checkpoint} {rest : List Checkpoint} (waits : s.ldg.signing = c :: rest)
    (signs : s.signs = true) : Answers (.checkpointSigned t) s fun u =>
      u.ldg.signing = rest ∧ (∃ sig, u.ldg.ckpts.getLast? = some { c with signature := some sig })
        ∧ u.ldg.ckpts.length = min 256 (s.ldg.ckpts.length + 1) ∧ u.sec.signCnt = s.sec.signCnt + 1
        ∧ s.calm { u with ldg.signing := s.ldg.signing, ldg.ckpts := s.ldg.ckpts, sec.signCnt := s.sec.signCnt } = s.advance t := by
  generalize signed : ({ c with signature := some (Config.ecdsa s.keyId (Config.sha384 c.head)) } : Checkpoint) = c'
  generalize last : (s.ldg.ckpts ++ [c']).drop ((s.ldg.ckpts ++ [c']).length - 256) = l
  have run : (s.advance t).checkpointSigned =
      { s.advance t with ldg.signing := rest, ldg.ckpts := l, sec.signCnt := s.sec.signCnt + 1 } := by
    unfold State.checkpointSigned
    rw [State.advance_ldg, waits, ← last, ← signed]
    dsimp only
    rw [show (s.advance t).signs = true from signs]
    rfl
  have whole : s.calm (s.act t State.checkpointSigned) =
      { s.advance t with ldg.signing := rest, ldg.ckpts := l, sec.signCnt := s.sec.signCnt + 1 } :=
    act_calm_eq live (by rw [run]; rfl) rfl
  have ldg : (s.act t State.checkpointSigned).ldg = { s.ldg with signing := rest, ckpts := l } := (congrArg State.ldg whole :)
  have sec : (s.act t State.checkpointSigned).sec = { s.sec with signCnt := s.sec.signCnt + 1 } := (congrArg State.sec whole :)
  refine ⟨_, rfl, by rw [ldg], ⟨Config.ecdsa s.keyId (Config.sha384 c.head), ?_⟩, ?_, by rw [sec], ?_⟩
  · rw [ldg, signed, ← last]
    dsimp only
    rw [List.getLast?_drop, if_neg (by simp), List.getLast?_concat]
  · rw [ldg, ← last]
    dsimp only
    rw [List.length_drop, List.length_append, List.length_singleton]
    omega
  · exact congrArg (fun u : State =>
      { u with ldg.signing := s.ldg.signing, ldg.ckpts := s.ldg.ckpts, sec.signCnt := s.sec.signCnt }) whole

/-- LEDGER_PERIODIC_CHECKPOINT after 65,536 entries (R253). -/
theorem ledgerPeriodicCheckpoint_writes (live : s.Live) (many : 65536 ≤ s.ldg.sinceCkpt) (none_waits : s.ldg.ckptWaiting = [])
    (lead : s.second = false) (room : 0 < s.generalRoom) : Answers (.ledgerPeriodicCheckpoint t) s fun u =>
      u.ldg.sinceCkpt = 0 ∧ u.ldg.ckptSeq = s.ldg.nextSeq ∧ u.ldg.nextNo = s.ldg.nextNo + 1
        ∧ ∃ e c, u.ldg.entries = s.ldg.entries ++ [e] ∧ e.kind = .checkpoint ∧ e.seq = s.ldg.nextSeq
          ∧ u.ldg.signing = s.ldg.signing ++ [c] ∧ c.reason = 4 ∧ c.chain = s.ldg.chain := by
  obtain ⟨l, w, x, stirred, grown, -⟩ := checkpoint_form (s := s.advance t) lead (room_of_general room) 4
  have run : (s.advance t).periodicCheckpoint = (s.advance t).checkpoint 4 := by
    unfold State.periodicCheckpoint
    rw [if_pos]
    rw [State.advance_ldg, none_waits]
    simpa using many
  refine answers_of_settled (f := State.periodicCheckpoint) live rfl ?_
  rw [settle_ldg, run, ldg_stirred stirred]
  exact ⟨rfl, rfl, grown.nextNo_eq, _, _, grown.entries_eq, rfl, rfl,
    congrArg (· ++ [_]) grown.signing_eq, rfl, rfl⟩

/-- What LDG_WIN_SEQ_HI does where the function reaches the Ledger (10 R262). -/
theorem ldgWinSeqHi_loads (live : s.Live) {pf : PF} (reached : s.reaches pf .ldg = true) {value : BitVec 32} {readable : Bool}
    {x : Option LedgerEntry}
    (loads : (s.advance t).loadWindow value readable = { s.advance t with ldg.winSeqHi := value, ldg.win := x }) :
    Answers (.ldgWinSeqHi t pf value readable) s fun u =>
      s.calm u = { s.advance t with ldg.winSeqHi := value, ldg.win := x } := by
  refine ⟨_, rfl, act_calm_eq live ?_ rfl⟩
  unfold State.accessTo
  rw [show (s.advance t).reaches pf .ldg = true from reached]
  exact congrArg s.calm loads

theorem loadWindow_held {value : Word} {readable : Bool} {k : Nat} {e : LedgerEntry}
    (named : (s.ldg.entries.findIdx? fun e => e.seq.toNat == value.toNat * 2 ^ 32 + s.ldg.winSeqLo.toNat) = some k)
    (held : s.ldg.entries[k]? = some e) (readable_ : s.ldg.spilled ≤ k ∨ readable = true) :
    s.loadWindow value readable = { s with ldg.winSeqHi := value, ldg.win := some e } := by
  unfold State.loadWindow
  dsimp only
  rw [named]
  dsimp only
  rw [held]
  exact if_pos (by simpa using readable_)

theorem loadWindow_missing {value : Word} {readable : Bool}
    (missing : (s.ldg.entries.findIdx? fun e => e.seq.toNat == value.toNat * 2 ^ 32 + s.ldg.winSeqLo.toNat) = none) :
    s.loadWindow value readable = { s with ldg.winSeqHi := value, ldg.win := none } := by
  unfold State.loadWindow
  dsimp only
  rw [missing]

end

/-- Settles O35: each of the three has its own answer. -/
theorem checkpointsAreSignedAndPeriodic : Obligations.CheckpointsAreSignedAndPeriodic := by
  unfold Obligations.CheckpointsAreSignedAndPeriodic
  refine ⟨fun s t live => ⟨fun c rest => checkpointSigned_holds live, ledgerPeriodicCheckpoint_writes live⟩,
    fun s t pf value live reached => ⟨fun k e readable named held given => ?_, fun readable missing => ?_⟩⟩
  · exact ldgWinSeqHi_loads live reached (loadWindow_held (s := s.advance t) named held given)
  · exact ldgWinSeqHi_loads live reached (loadWindow_missing (s := s.advance t) missing)

end Sys2Proof.Machine

namespace Sys2Proof.Machine

/-! ## LEDGER_READ (10 R254; 11 R266; 13 R322) -/

section
variable {l : List (LedgerEntry × Bool)} {n : Nat}

theorem mem_takeReadable {x : LedgerEntry} (h : x ∈ (takeReadable l n).1) : (x, true) ∈ l := by
  induction l generalizing n with
  | nil => simp [takeReadable] at h
  | cons y l ih =>
    obtain ⟨e, readable⟩ := y
    cases n with
    | zero => simp [takeReadable] at h
    | succ n =>
      cases readable with
      | false => exact List.mem_cons_of_mem _ (ih h)
      | true =>
        rcases List.mem_cons.1 h with rfl | h
        · exact List.mem_cons_self ..
        · exact List.mem_cons_of_mem _ (ih h)

theorem takeReadable_of_readable (all : ∀ x ∈ l, x.2 = true) : (takeReadable l n).1 = (l.map Prod.fst).take n := by
  induction l generalizing n with
  | nil => simp [takeReadable]
  | cons y l ih =>
    obtain ⟨e, readable⟩ := y
    obtain rfl : readable = true := all _ (List.mem_cons_self ..)
    cases n with
    | zero => simp [takeReadable]
    | succ n =>
      rw [List.map_cons, List.take_succ_cons, ← ih fun x hx => all x (List.mem_cons_of_mem _ hx)]
      rfl

end

section
variable {s : State} {start : Nat}

theorem mem_heldFrom {x : LedgerEntry × Bool} (h : x ∈ s.heldFrom start) :
    x.1 ∈ s.ldg.entries ∧ start ≤ x.1.seq.toNat ∧ (s.ldg.spilled = 0 → x.2 = true) := by
  obtain ⟨held, late⟩ := List.mem_filter.1 h
  obtain ⟨k, hk, rfl⟩ := List.mem_mapIdx.1 held
  exact ⟨List.getElem_mem hk, by simpa using late, fun whole => by simp [whole]⟩

theorem map_heldFrom : (s.heldFrom start).map Prod.fst = s.ldg.entries.filter fun x => start ≤ x.seq.toNat := by
  have firsts (g : Nat → LedgerEntry → Bool) (es : List LedgerEntry) :
      (es.mapIdx fun k e => (e, g k e)).map Prod.fst = es := by
    apply List.ext_getElem <;> simp
  unfold State.heldFrom
  conv_rhs => rw [← firsts (fun k _ => decide (s.ldg.spilled ≤ k) || (Config.free8 (s.free + k)).getLsbD 0) s.ldg.entries,
    List.filter_map]
  rfl

variable {p : Packet} {r : Ring} {u v : State} {l : List LedgerEntry}

/-- While the Cellar is in self-refresh, lost entries are marked and nothing else (13 R322). -/
theorem each_entryLost_marks (refresh : s.cel.selfRefresh = true) (some_lost : l ≠ []) :
    s.each l State.entryLost = { s with ldg.unreadable := true } := by
  have marks (x : LedgerEntry) (u : State) (h : u.cel.selfRefresh = true) : u.entryLost x = { u with ldg.unreadable := true } :=
    if_pos h
  induction l generalizing s with
  | nil => exact absurd rfl some_lost
  | cons x l ih =>
    cases l with
    | nil => exact marks x s refresh
    | cons y l =>
      refine (ih (s := s.entryLost x) (by rw [marks x s refresh]; exact refresh) (List.cons_ne_nil _ _)).trans ?_
      rw [marks x s refresh]

theorem cel_stirred (h : s.Stirred u) : u.cel = s.cel := by
  obtain ⟨_, _, _, _, rfl⟩ := h
  rfl

theorem cel_logged (h : s.Logged u) : u.cel = s.cel := by
  obtain ⟨_, _, rfl, -, -⟩ := h
  rfl

theorem desk_logged (h : s.Logged u) : u.desk = s.desk := by
  obtain ⟨_, _, rfl, -, -⟩ := h
  rfl

theorem cel_deviceEvent (b : BlockId) (st : BitVec 16) (d r f : BitVec 32) (a : DWord) (x : List Byte) (s : State) :
    (s.deviceEvent b st d r f a x).cel = s.cel :=
  (cel_stirred (eventIn_stirred _ _ _)).trans (cel_logged (device_logged _ _ _ _ _ _ s))

theorem desk_deviceEvent (b : BlockId) (st : BitVec 16) (d r f : BitVec 32) (a : DWord) (x : List Byte) (s : State) :
    (s.deviceEvent b st d r f a x).desk = s.desk :=
  (desk_stirred (eventIn_stirred _ _ _)).trans (desk_logged (device_logged _ _ _ _ _ _ s))

theorem cel_cellarFail (a : DWord) (s : State) : (s.cellarFail a).cel =
    { s.cel with ueCnt := satInc s.cel.ueCnt, replayCnt := satAdd s.cel.replayCnt 3, ueAddr := a, evt := setBit s.cel.evt 1 } :=
  cel_stirred (fire_stirred _ _ _)

theorem desk_cellarFail (a : DWord) (s : State) : (s.cellarFail a).desk = s.desk :=
  (desk_stirred (fire_stirred _ _ _)).trans rfl

theorem desk_entryLost (e : LedgerEntry) (s : State) : (s.entryLost e).desk = s.desk := by
  unfold State.entryLost
  split
  · rfl
  · exact (desk_deviceEvent _ _ _ _ _ _ _ _).trans (desk_cellarFail _ _)

theorem desk_each_entryLost (l : List LedgerEntry) (s : State) : (s.each l State.entryLost).desk = s.desk :=
  each_keeps desk_entryLost l s

/-- Outside self-refresh a lost entry is reported as a Cellar read that failed (11 R266). -/
theorem cel_entryLost (e : LedgerEntry) (active : s.cel.selfRefresh = false) :
    (s.entryLost e).cel.selfRefresh = false ∧ (s.entryLost e).cel.evt.getLsbD 1 = true := by
  have cel : (s.entryLost e).cel = (s.takeFault.cellarFail (BitVec.ofNat 64 (s.overflowAddr e))).cel := by
    unfold State.entryLost
    rw [active, if_neg Bool.false_ne_true]
    exact cel_deviceEvent _ _ _ _ _ _ _ _
  rw [cel, cel_cellarFail]
  refine ⟨active, ?_⟩
  rw [getLsbD_setBit]
  exact Bool.or_true _

theorem each_entryLost_reports (active : s.cel.selfRefresh = false) (some_lost : l ≠ []) :
    (s.each l State.entryLost).cel.evt.getLsbD 1 = true := by
  induction l generalizing s with
  | nil => exact absurd rfl some_lost
  | cons x l ih =>
    obtain ⟨still, reported⟩ := cel_entryLost x active
    cases l with
    | nil => exact reported
    | cons y l =>
      show ((s.entryLost x).each (y :: l) State.entryLost).cel.evt.getLsbD 1 = true
      exact ih still (List.cons_ne_nil _ _)

/-- LEDGER_READ of checkpoints answers with those held from its sequence on. -/
theorem ledgerRead_checkpoints (h : Accepts ledgerReadSpec p s r) (which : u8 p.params 12 = 1) {records : List Checkpoint}
    (named : (s.ldg.ckpts.filter fun c => u64 p.params 0 ≤ c.seq.toNat).take (u32 p.params 8) = records) :
    Answers (.ledgerRead p) s fun u =>
      RepliesOk ledgerReadSpec p r s u (BitVec.ofNat 32 records.length)
          (bufferAt (u64 p.params 16) (records.flatMap Checkpoint.bytes))
        ∧ s.ordered u = s.ordered (s.advance p.tick) := by
  obtain ⟨es, grown⟩ := grows_entered ledgerReadSpec p r s
  have run : ledgerReadSpec.run p r.secure s.acceptSeq (s.entered ledgerReadSpec p r) = (s.entered ledgerReadSpec p r).finish
      s.acceptSeq 0 0 (BitVec.ofNat 32 records.length) 0 (bufferAt (u64 p.params 16) (records.flatMap Checkpoint.bytes)) := by
    rw [← named, ← grown.ckpts_eq]
    exact if_pos which
  exact (h.answers_only_reply rfl run).imp fun u ⟨next, _, rest⟩ => ⟨next, rest⟩

/-- LEDGER_READ of entries answers with those that it finds readable, and reports or marks the others. -/
theorem ledgerRead_entries (h : Accepts ledgerReadSpec p s r) (which : u8 p.params 12 ≠ 1)
    {found : List LedgerEntry × List LedgerEntry}
    (named : takeReadable ((s.entered ledgerReadSpec p r).heldFrom (u64 p.params 0)) (u32 p.params 8) = found) :
    Answers (.ledgerRead p) s fun u =>
      RepliesOk ledgerReadSpec p r s u (BitVec.ofNat 32 found.1.length)
          (bufferAt (u64 p.params 16) (found.1.flatMap LedgerEntry.bytes))
        ∧ (found.2 = [] → s.ordered u = s.ordered (s.advance p.tick))
        ∧ (found.2 ≠ [] → if s.cel.selfRefresh then u.ldg.unreadable = true else u.cel.evt.getLsbD 1 = true) := by
  generalize hv : State.each found.2 State.entryLost { s.entered ledgerReadSpec p r with
    free := (s.entered ledgerReadSpec p r).free + (s.entered ledgerReadSpec p r).ldg.spilled } = v
  have run : ledgerReadSpec.run p r.secure s.acceptSeq (s.entered ledgerReadSpec p r) = v.finish s.acceptSeq 0 0
      (BitVec.ofNat 32 found.1.length) 0 (bufferAt (u64 p.params 16) (found.1.flatMap LedgerEntry.bytes)) := by
    rw [← hv, ← named]
    exact if_neg which
  have carries : s.Carries ledgerReadSpec p r v := h.carries_entered.of_desk (by rw [← hv, desk_each_entryLost]; rfl)
  refine h.answers rfl run ⟨(settle_replies _ _).trans (carries.replies_finish _ _), fun whole => ?_, fun lost => ?_⟩
  · rw [whole] at hv
    have booked : (s.advance p.tick).Booked v := hv ▸ (booked_entered ledgerReadSpec p r s).with_free _
    exact ordered_settle_booked h.live p.tick (booked.finish_buffers carries _ _) rfl
  · split
    · next refresh =>
      have marked := each_entryLost_marks (s := { s.entered ledgerReadSpec p r with
        free := (s.entered ledgerReadSpec p r).free + (s.entered ledgerReadSpec p r).ldg.spilled })
        (by rw [entered_cel]; exact refresh) lost
      obtain ⟨es, grown⟩ := grows_finish 0 0 (BitVec.ofNat 32 found.1.length) 0
        (bufferAt (u64 p.params 16) (found.1.flatMap LedgerEntry.bytes)) v s.acceptSeq
      rw [settle_ldg, grown.unreadable_eq, ← hv, marked]
    · next active =>
      have reported := each_entryLost_reports (s := { s.entered ledgerReadSpec p r with
        free := (s.entered ledgerReadSpec p r).free + (s.entered ledgerReadSpec p r).ldg.spilled })
        (by rw [entered_cel]; exact Bool.eq_false_of_not_eq_true active) lost
      obtain ⟨_, _, _, ends, -⟩ := carries.finish_buffers (BitVec.ofNat 32 found.1.length)
        (bufferAt (u64 p.params 16) (found.1.flatMap LedgerEntry.bytes))
      rw [settle_cel, ends, ← hv]
      exact reported

end

end Sys2Proof.Machine

namespace Sys2Proof.Machine

/-! ## LEDGER_CHECKPOINT (10 R255) -/

/-- What a checkpoint that finds room adds: its entry, and its record among those that wait for a signature. -/
theorem checkpoint_adds {b : State} (lead : b.second = false) (room : 0 < b.generalRoom) (reason : BitVec 8) :
    ∃ (k : LedgerEntry) (c : Checkpoint), (b.checkpoint reason).ldg.entries = b.ldg.entries ++ [k] ∧ k.kind = .checkpoint
      ∧ (b.checkpoint reason).ldg.signing = b.ldg.signing ++ [c] ∧ c.reason = reason ∧ c.signature = none
      ∧ k.seq = (b.checkpoint reason).ldg.ckptSeq ∧ c.seq = (b.checkpoint reason).ldg.ckptSeq
      ∧ (b.checkpoint reason).ldg.sessionSeq = b.ldg.sessionSeq ∧ (b.checkpoint reason).ldg.nextNo = b.ldg.nextNo + 1
      ∧ (b.checkpoint reason).desk = b.desk := by
  obtain ⟨l, w, x, stirred, written, -⟩ := checkpoint_form lead (room_of_general room) reason
  have desk := desk_stirred stirred
  rw [ldg_stirred stirred]
  exact ⟨_, _, written.entries_eq, rfl, congrArg (· ++ [b.nextCheckpoint reason]) written.signing_eq, rfl, rfl, rfl, rfl,
    written.sessionSeq_eq, written.nextNo_eq, desk⟩

section
variable {s u v : State} {p : Packet} {r : Ring}

theorem State.Carries.done_entry {sp : PacketSpec} (h : s.Carries sp p r v) (lead : s.second = false) (res : BitVec 32) :
    ∃ d, d.kind = .done ∧ v.ldg.Grown [d] (v.finishOk s.acceptSeq res).ldg := by
  obtain ⟨_, flight⟩ := h.flight
  exact ⟨_, rfl, grown_finish 0 0 res 0 [] flight rfl (flightOf_kind_lead (s := s.advance p.tick) lead p r sp.code)⟩

/-- LEDGER_CHECKPOINT begins a session at its ACCEPT entry and writes a checkpoint, whose entry stands between its own two. -/
theorem ledgerCheckpoint_answers (h : Accepts ledgerCheckpointSpec p s r) (lead : s.second = false)
    (room : 0 < (s.entered ledgerCheckpointSpec p r).generalRoom) : Answers (.ledgerCheckpoint p) s fun u =>
      u.ldg.sessionSeq = s.ldg.nextSeq ∧ RepliesOk ledgerCheckpointSpec p r s u (lowHalf u.ldg.ckptSeq)
        ∧ (∃ c : Checkpoint, u.ldg.signing = s.ldg.signing ++ [c] ∧ c.reason = 3 ∧ c.seq = u.ldg.ckptSeq
          ∧ c.signature = none)
        ∧ ∃ a k d : LedgerEntry, u.ldg.entries = s.ldg.entries ++ [a, k, d] ∧ a.kind = .accept ∧ k.kind = .checkpoint
          ∧ k.seq = u.ldg.ckptSeq ∧ d.kind = .done := by
  have begins : s.acceptSeq = s.ldg.nextSeq := by
    unfold State.acceptSeq
    rw [lead]
    rfl
  generalize hb : (s.entered ledgerCheckpointSpec p r).beginSession s.acceptSeq = b
  have session : b.ldg = { (s.entered ledgerCheckpointSpec p r).ldg with
      sessionSeq := s.acceptSeq, evt := setBit (s.entered ledgerCheckpointSpec p r).ldg.evt 5 } := by
    rw [← hb]
    rfl
  have lead' : b.second = false := by
    obtain ⟨_, _, _, _, _, entered, -⟩ := entered_form ledgerCheckpointSpec p r s
    rw [← hb, entered]
    exact lead
  obtain ⟨k, c, grows, kind, signs, reason, unsigned, kSeq, cSeq, begun, counts, desk⟩ :=
    checkpoint_adds lead' (hb ▸ room : 0 < b.generalRoom) 3
  have run : ledgerCheckpointSpec.run p r.secure s.acceptSeq (s.entered ledgerCheckpointSpec p r) =
      (b.checkpoint 3).finishOk s.acceptSeq (lowHalf (b.checkpoint 3).ldg.ckptSeq) := by
    have one : (b.checkpoint 3).ldg.nextNo = (s.entered ledgerCheckpointSpec p r).ldg.nextNo + 1 :=
      counts.trans (by rw [session])
    rw [← hb] at one ⊢
    exact if_neg (by rw [one]; simp)
  have carries : s.Carries ledgerCheckpointSpec p r (b.checkpoint 3) := h.carries_entered.of_desk (by rw [desk, ← hb]; rfl)
  obtain ⟨d, kindDone, ends⟩ := carries.done_entry lead (lowHalf (b.checkpoint 3).ldg.ckptSeq)
  obtain ⟨a, kindAccept, accepted⟩ : ∃ a, a.kind = .accept ∧ s.ldg.Grown [a] (s.entered ledgerCheckpointSpec p r).ldg :=
    ⟨_, rfl, grown_entered ledgerCheckpointSpec p r s lead⟩
  refine h.answers rfl run ?_
  rw [settle_ldg]
  refine ⟨?_, ?_, ⟨c, ?_, reason, ?_, unsigned⟩, a, k, d, ?_, kindAccept, kind, ?_, kindDone⟩
  · exact ends.sessionSeq_eq.trans (begun.trans ((congrArg Ledger.sessionSeq session).trans begins))
  · exact ((settle_replies _ _).trans (carries.replies_finish _ [])).trans (by rw [ends.ckptSeq_eq])
  · exact ends.signing_eq.trans (signs.trans (congrArg (· ++ [c]) ((congrArg Ledger.signing session).trans accepted.signing_eq)))
  · exact cSeq.trans ends.ckptSeq_eq.symm
  · refine ends.entries_eq.trans ?_
    rw [grows, session, accepted.entries_eq]
    simp
  · exact kSeq.trans ends.ckptSeq_eq.symm

end

end Sys2Proof.Machine

namespace Sys2Proof.Machine

/-! ## LEDGER_TRIM, and the checkpoints that waited for room (10 R255, R256) -/

/-- The Ledger `l'` holds the entries of `l` at its front, and the event bits of `l` have not gone. -/
def Ledger.Continues (l l' : Ledger) : Prop := l.entries <+: l'.entries ∧ ∀ i, l.evt.getLsbD i = true → l'.evt.getLsbD i = true

theorem Ledger.Continues.refl (l : Ledger) : l.Continues l := ⟨List.prefix_refl _, fun _ => id⟩

section
variable {l l' l'' : Ledger}

theorem Ledger.Continues.trans (h : l.Continues l') (h' : l'.Continues l'') : l.Continues l'' :=
  ⟨h.1.trans h'.1, fun i set => h'.2 i (h.2 i set)⟩

theorem Ledger.Grown.continues {es : List LedgerEntry} (h : l.Grown es l') : l.Continues l' :=
  ⟨⟨es, h.entries_eq.symm⟩, fun i set => by rwa [h.evt_eq]⟩

end

theorem getLsbD_setBit_of {w : Word} {i j : Nat} (h : w.getLsbD j = true) : (setBit w i).getLsbD j = true := by
  rw [getLsbD_setBit, h, Bool.true_or]

section
variable (s : State)

/-- A checkpoint adds its entry, or waits. -/
theorem checkpoint_continues (reason : BitVec 8) : s.ldg.Continues (s.checkpoint reason).ldg := by
  cases lead : s.second with
  | true =>
    unfold State.checkpoint
    rw [lead, if_pos rfl]
    exact .refl _
  | false =>
    cases room : s.ldg.ready && s.generalRoom = 0 && s.ldg.ledgerReserve = 0 with
    | true =>
      unfold State.checkpoint
      rw [lead, if_neg Bool.false_ne_true, room, if_pos rfl]
      exact ⟨List.prefix_refl _, fun _ => id⟩
    | false =>
      obtain ⟨l, _, _, stirred, grown, -⟩ := checkpoint_form lead room reason
      rw [ldg_stirred stirred]
      exact grown.continues.trans ⟨List.prefix_refl _, fun _ => getLsbD_setBit_of⟩

theorem finish_continues (q : DWord) (st : BitVec 16) (d r f : BitVec 32) (b : List (Nat × List Byte)) :
    s.ldg.Continues (s.finish q st d r f b).ldg := by
  obtain ⟨_, grown⟩ := grows_finish st d r f b s q
  exact grown.continues

theorem each_continues {α : Type} {f : α → State → State} (hf : ∀ (x : α) (s : State), s.ldg.Continues (f x s).ldg)
    (l : List α) : s.ldg.Continues (s.each l f).ldg := by
  induction l generalizing s with
  | nil => exact .refl _
  | cons x l ih => exact (hf x s).trans (ih _)

theorem resumeCkpts_continues : s.ldg.Continues s.resumeCkpts.ldg := by
  refine each_continues s (fun reason s => ?_) _
  have taken := checkpoint_continues { s with ldg.ckptWaiting := s.ldg.ckptWaiting.erase reason } reason
  dsimp only
  split
  · exact taken
  · split
    · exact taken.trans (finish_continues ..)
    · exact taken

end

section
variable {s : State} {p : Packet} {r : Ring}

/-- LEDGER_TRIM keeps, at the Ledger's front, the entries above the sequence it names. -/
theorem ledgerTrim_answers (h : Accepts ledgerTrimSpec p s r) (lead : s.second = false) : Answers (.ledgerTrim p) s fun u =>
    (s.ldg.entries.filter fun e => u64 p.params 0 < e.seq.toNat) <+: u.ldg.entries ∧ u.ldg.evt.getLsbD 3 = true := by
  generalize hb : ({ s.entered ledgerTrimSpec p r with
    ldg := (s.entered ledgerTrimSpec p r).ldg.trimmed (u64 p.params 0) } : State) = b
  generalize hg : BitVec.ofNat 32 ((s.entered ledgerTrimSpec p r).ldg.entries.length - b.ldg.entries.length) = gone
  have lead' : b.second = false := by
    obtain ⟨_, _, _, _, _, entered, -⟩ := entered_form ledgerTrimSpec p r s
    rw [← hb, entered]
    exact lead
  obtain ⟨e, run⟩ : ∃ e, ledgerTrimSpec.run p r.secure s.acceptSeq (s.entered ledgerTrimSpec p r) =
      (((b.drawLedger.appendEntry e).setEvt .ldg 3).finishOk s.acceptSeq gone).resumeCkpts := by
    rw [← hg]
    rw [← hb] at lead' ⊢
    exact ⟨_, congrArg (fun z => ((State.setEvt .ldg 3 z).finishOk s.acceptSeq _).resumeCkpts)
      (if_neg (Bool.eq_false_iff.1 lead'))⟩
  have kept : (s.ldg.entries.filter fun e => u64 p.params 0 < e.seq.toNat) <+: b.ldg.entries := by
    rw [← hb]
    show _ <+: (s.entered ledgerTrimSpec p r).ldg.entries.filter _
    rw [(grown_entered ledgerTrimSpec p r s lead).entries_eq, List.filter_append]
    exact List.prefix_append ..
  obtain ⟨l, w, written, grown, -⟩ := appendEntry_drawLedger e b
  have noted : (setBit l.evt 3).getLsbD 3 = true := by rw [getLsbD_setBit]; simp
  have ends := (finish_continues ((b.drawLedger.appendEntry e).setEvt .ldg 3) s.acceptSeq 0 0 gone 0 []).trans
    (resumeCkpts_continues _)
  rw [written] at ends
  refine h.answers rfl run ?_
  rw [settle_ldg, written]
  exact ⟨kept.trans (grown.continues.1.trans ends.1), ends.2 3 noted⟩

end

/-- Settles O34: LEDGER_READ answers with what it finds and can read, LEDGER_CHECKPOINT writes its record between its own two
entries, and LEDGER_TRIM keeps the later entries at the front. -/
theorem ledgerCommandsActOnTheLedger : Obligations.LedgerCommandsActOnTheLedger := by
  unfold Obligations.LedgerCommandsActOnTheLedger
  intro p s r
  refine ⟨fun h => ?_, fun h lead room => ledgerCheckpoint_answers h lead room, fun h lead => ledgerTrim_answers h lead⟩
  dsimp only
  generalize named : takeReadable _ _ = found
  have copied (x : LedgerEntry) (hx : x ∈ found.1) :=
    mem_heldFrom (mem_takeReadable (named ▸ hx : x ∈ (takeReadable _ _).1))
  have whole (none_out : (s.entered ledgerReadSpec p r).ldg.spilled = 0) := (congrArg Prod.fst named).symm.trans
    ((takeReadable_of_readable fun x hx => (mem_heldFrom hx).2.2 none_out).trans (by rw [map_heldFrom]))
  by_cases which : u8 p.params 12 = 1
  · obtain ⟨u, next, records⟩ := ledgerRead_checkpoints h which rfl
    exact ⟨u, next, fun _ => records, fun other => absurd which other⟩
  · obtain ⟨u, next, reply, quiet, lost⟩ := ledgerRead_entries h which named
    exact ⟨u, next, fun one => absurd one which, fun _ =>
      ⟨reply, fun x hx => ⟨(copied x hx).1, (copied x hx).2.1⟩, whole, quiet, lost⟩⟩

end Sys2Proof.Machine

namespace Sys2Proof.Machine

/-! ## The first doorbell of a ring that waited with a slot not yet shown (10 R230; 11 R274; 14 R345)

A flush read shows the tail of a fence ring, and until then the slots written are counted in `ahead`. A takeover makes such a ring
wait for a doorbell and leaves that count alone. The doorbell it waits for makes both indices its value, so nothing is ahead any
more: the count changes with the indices. -/

/-- A fence ring of replies, one slot of it written and not shown, that waits for its first doorbell after a takeover. -/
def waitingFenceRing : Ring :=
  { Ring.fresh 3 .reply false with sizeLog2 := 8, fence := true, tail := 1, ahead := 1, waitDoorbell := true }

/-- The device of the tests with that ring in the place of its RING3. -/
def fenceRingWaits : State := { up with rings := up.rings.set 3 waitingFenceRing }

theorem fenceRingWaits_live : fenceRingWaits.Live := ⟨rfl, rfl⟩

/-- The doorbell is one that PF0 may ring, and its value is valid. -/
theorem fenceRingWaits_rung : fenceRingWaits.ring? 3 = some waitingFenceRing ∧ waitingFenceRing.secure = false
    ∧ waitingFenceRing.kind = .reply ∧ waitingFenceRing.doorbellOk 0 = true := by decide +kernel

/-- The doorbell leaves nothing ahead of the tail. -/
theorem doorbell_clears_ahead :
    ((fenceRingWaits.act 0 (State.doorbell .pf0 3 .low 0)).ring? 3).map Ring.ahead = some 0 := by decide +kernel

/-- Refutes O30: the clause of the reply rings names every field that the doorbell changes but `ahead`, and the first doorbell of a
ring that waited clears it. -/
theorem not_doorbellsMoveOneIndex : ¬ Obligations.DoorbellsMoveOneIndex := by
  unfold Obligations.DoorbellsMoveOneIndex
  intro holds
  obtain ⟨named, openRing, reply, valid⟩ := fenceRingWaits_rung
  obtain ⟨-, rung⟩ := holds fenceRingWaits 0 .pf0 3 .low 0 fenceRingWaits_live
  obtain ⟨-, clauses⟩ := rung nofun
  obtain ⟨-, -, moves⟩ := clauses waitingFenceRing named
  obtain ⟨u, answered, ring, -⟩ := (moves (.inl openRing) rfl valid).2.1 (.inl reply)
  obtain rfl : fenceRingWaits.act 0 (State.doorbell .pf0 3 .low 0) = u := by
    injection answered
  have cleared := doorbell_clears_ahead
  rw [ring] at cleared
  exact absurd cleared (by decide +kernel)

end Sys2Proof.Machine

namespace Sys2Proof.Machine

/-! ## The seal of a batch (13 Table 13.8 step 8, R320 step 3) -/

/-- No batch: what its end leaves of the device's figures. -/
def State.Sealed (s : State) : Prop := s.sys.mode = .ready ∧ s.sys.batchState = .none ∧ s.sys.closeStep = 0 ∧ s.sys.docs = 0
  ∧ s.sys.batchWait = none ∧ s.tl.slots = [] ∧ s.cmd.rejected = 0

section
variable {s u : State}

theorem State.Sealed.of_eq (h : s.Sealed) (sys : u.sys = s.sys) (slots : u.tl.slots = s.tl.slots)
    (rejected : u.cmd.rejected = s.cmd.rejected) : u.Sealed := by
  unfold State.Sealed
  rwa [sys, slots, rejected]

theorem State.Sealed.sendGate (h : s.Sealed) : s.sendGate.Sealed := by
  obtain ⟨t, form⟩ := sendGate_form s
  have slots : s.sendGate.tl.slots = s.tl.slots := by
    unfold State.sendGate State.sendOwn State.sendFrame
    split
    · rfl
    · split <;> rfl
  exact h.of_eq (sendGate_sys s) slots (by rw [form])

theorem State.Sealed.raiseSvn (h : s.Sealed) : s.raiseSvn.Sealed := h

theorem State.Sealed.pairAtSeal (h : s.Sealed) : s.pairAtSeal.Sealed := h

theorem State.Sealed.finishOk (h : s.Sealed) (q : DWord) (r : BitVec 32) : (s.finishOk q r).Sealed := by
  obtain ⟨_, _, _, _, _, form⟩ := finish_form q 0 0 r s 0 []
  have same : s.finishOk q r = s.finish q 0 0 r 0 [] := rfl
  rw [same, form]
  exact h

theorem State.Sealed.each_finishOk (h : s.Sealed) (l : List DWord) (r : BitVec 32) :
    (s.each l fun q s => s.finishOk q r).Sealed := by
  induction l generalizing s with
  | nil => exact h
  | cons q l ih => exact ih (h.finishOk q r)

theorem State.Sealed.settle (h : s.Sealed) (s0 : State) : (s0.settle s).Sealed := by
  obtain ⟨_, _, _, form⟩ := settle_form s0 s
  rw [form]
  exact h

theorem State.Sealed.stirred (h : s.Sealed) (stirred : s.Stirred u) : u.Sealed := by
  obtain ⟨_, _, _, _, rfl⟩ := stirred
  exact h

theorem tl_stirred (h : s.Stirred u) : u.tl = s.tl := by
  obtain ⟨_, _, _, _, rfl⟩ := h
  rfl

theorem cmd_stirred (h : s.Stirred u) : u.cmd = s.cmd := by
  obtain ⟨_, _, _, _, rfl⟩ := h
  rfl

theorem enterMode_stirred (m : Mode) (s : State) : ∃ x, ({ s with sys := x } : State).Stirred (s.enterMode m) := by
  unfold State.enterMode
  extract_lets m' v
  split
  · exact ⟨s.sys, Stirred_refl s⟩
  · split
    · obtain ⟨_, _, _, _, fired⟩ := fire_stirred .sys 0 v
      exact ⟨_, _, _, _, _, congrArg (fun z : State => { z with sys.mode := m' }) fired⟩
    · exact ⟨_, fire_stirred .sys 0 { v with sys.mode := m' }⟩

theorem batchEnds_sealed (s : State) : s.batchEnds.Sealed := by
  generalize hv : ({ s.clearBatch with
    sys.docs := 0, sys.batchState := .none, sys.closeStep := 0, sys.batchWait := none } : State) = v
  obtain ⟨e, sys⟩ := enterMode_sys .ready v
  obtain ⟨x, entered⟩ := enterMode_stirred .ready v
  have ready : ((v.enterMode .ready).setEvt .sys 2).Sealed := by
    unfold State.Sealed State.setEvt
    dsimp only
    rw [sys, tl_stirred entered, cmd_stirred entered, ← hv]
    simp [State.clearBatch]
  subst hv
  exact (ready.stirred (fire_stirred .sys 2 _)).pairAtSeal.sendGate

theorem seal8_sealed (s : State) : s.seal8.Sealed := by
  unfold State.seal8
  extract_lets q v w
  exact (batchEnds_sealed _).raiseSvn.each_finishOk _ 0

/-! ### The steps of a close and of an abort -/

/-- An abort whose masters, chains and records are done seals the batch (R320 step 3). -/
theorem abortOn_seals (sides : s.sidesDone = true) (chains : ∀ c : Fin 32, s.dma.chans[c].cur = none)
    (ready : s.sealReady = true) : s.abortOn = s.seal8 := by
  have ended : ((List.finRange 32).all fun c => s.dma.chans[c].cur.isNone || s.dma.chans[c].stuck) = true :=
    List.all_eq_true.2 fun c _ => by rw [chains c]; rfl
  unfold State.abortOn
  exact if_pos (by rw [sides, ended, ready]; rfl)

/-- A close whose steps 2 to 7 are done seals the batch (Table 13.8). -/
theorem closeOn_seals (sides : s.sidesDone = true) (lines : s.flushLines.linesDone = true)
    (stores : ∀ n : Fin 8, s.flushLines.ports[n].store = []) (madc : s.flushLines.flushMadc.madcDone = true)
    (idle : s.flushLines.flushMadc.chansIdle = true) (ready : s.flushLines.flushMadc.flushChans.sealReady = true) :
    s.closeOn = s.flushLines.flushMadc.flushChans.seal8 := by
  have empty : ((List.finRange 8).any fun n => !s.flushLines.ports[n].store.isEmpty) = false :=
    List.any_eq_false.2 fun n _ => by rw [stores n]; simp
  unfold State.closeOn
  simp only [sides, lines, empty, madc, idle, ready, Bool.not_true, Bool.false_eq_true, if_false, if_true]

theorem closeOn_waits (sides : s.sidesDone = false) : s.closeOn = { s with sys.closeStep := 2 } := by
  unfold State.closeOn
  rw [sides]
  rfl

variable {t : Nat}

/-- BATCH_SEAL is the close under way, on a device that leads or is alone and is not in SAFE. -/
theorem batchSeal_closing (lead : s.second = false) (mode : s.sys.mode ≠ .safe) (state : s.sys.batchState = .closing) :
    s.batchSeal = s.closeOn := by
  simp only [State.batchSeal, lead, mode, state, Bool.false_or, decide_false, Bool.false_eq_true, if_false]

theorem batchSeal_aborting (lead : s.second = false) (mode : s.sys.mode ≠ .safe) (state : s.sys.batchState = .aborting) :
    s.batchSeal = s.abortOn := by
  simp only [State.batchSeal, lead, mode, state, Bool.false_or, decide_false, Bool.false_eq_true, if_false]

theorem batchSeal_seals (live : s.Live) {v : State} (run : (s.advance t).batchSeal = v.seal8) :
    Answers (.batchSeal t) s State.Sealed :=
  answers_of_settled live rfl (by rw [run]; exact (seal8_sealed v).settle _)

/-! ## The deadline of a BATCH_CLOSE (10 R240, 13 R319) -/

variable {q : DWord} {x : Flight}

/-- A command whose end is formed at once stays in flight until its reply is written, and is finished. -/
theorem flights_finish (flight : s.flight? q = some x) (running : x.finished = false) (unanswered : x.queuedReply = false)
    (st : BitVec 16) (d r f : BitVec 32) (b : List (Nat × List Byte)) : (s.finish q st d r f b).cmd.flights =
      (s.modFlight q fun y => { y with finished := true }).cmd.flights := by
  unfold State.finish
  simp only [flight, running, unanswered, Bool.false_eq_true, if_false]
  split
  · rfl
  · generalize hu : (if x.kind = .unledgered then _ else State.appendEntry _ _ : State) = u
    have noted : State.Noted (s.modFlight q fun y => { y with finished := true }) u := by
      rw [← hu]
      split
      · exact Noted_refl _
      · exact appendEntry_noted _ _
    obtain ⟨l, w, rfl, -⟩ := noted
    rfl

theorem flight_modFlight_finished (q : DWord) (s : State) :
    ((s.modFlight q fun y => { y with finished := true }).flight? q).all fun g => g.finished := by
  refine (Option.all_eq_true ..).2 fun g found => ?_
  obtain ⟨y, -, rfl⟩ := List.mem_map.1 (List.mem_of_find?_eq_some found)
  have own := List.find?_some found
  cases named : y.seq == q with
  | true => rfl
  | false => exact absurd own (by simp [named])

theorem slotRefill_form (s : State) : ∃ l n, s.slotRefill = { s with tl.slots := l, sys.docs := n } := by
  unfold State.slotRefill
  split
  · exact ⟨s.tl.slots, s.sys.docs, rfl⟩
  · exact ⟨_, _, rfl⟩

/-- Where the deadline of a close finds its command running, the batch is open again and the command is answered. -/
theorem closeExpired_opens (waits : s.sys.batchWait = some q) (flight : s.flight? q = some x) (running : x.finished = false)
    (unanswered : x.queuedReply = false) : ∃ t n fl re l w o, s.closeExpired = { s with
      sys.batchState := .opened, sys.closeStep := 0, sys.batchWait := none, sys.docs := n, tl := t, cmd.flights := fl
      cmd.replies := re, ldg := l, posted := w, rope.outcomes := o }
      ∧ fl = (s.modFlight q fun y => { y with finished := true }).cmd.flights := by
  generalize hv : ({ s with sys.batchState := .opened, sys.closeStep := 0, sys.batchWait := none } : State) = v
  have run : s.closeExpired = ((v.finish q 0x0104 0x105 0).slotRefill).sendGate := by
    unfold State.closeExpired
    rw [waits, ← hv]
  have flights := flights_finish (s := v) (by rw [← hv]; exact flight) running unanswered 0x0104 0x105 0 0 []
  obtain ⟨fl, re, l, w, o, ended⟩ := finish_form q 0x0104 0x105 0 v 0 []
  rw [ended] at flights
  obtain ⟨_, n, refilled⟩ := slotRefill_form (v.finish q 0x0104 0x105 0)
  obtain ⟨t, sent⟩ := sendGate_form (v.finish q 0x0104 0x105 0).slotRefill
  refine ⟨t, n, fl, re, l, w, o, ?_, flights.trans (by rw [← hv]; rfl)⟩
  rw [run, sent, refilled, ended, ← hv]

theorem deadline_of_close {d : Nat} (flight : s.flight? q = some x) (running : x.finished = false)
    (unanswered : x.queuedReply = false) (due : x.deadline = some d) (past : d ≤ s.ns) (waits : s.sys.batchWait = some q)
    (closing : s.sys.batchState = .closing) (early : s.sys.closeStep < 8) : s.deadline q = s.closeExpired := by
  unfold State.deadline State.batchExpire
  simp [flight, running, unanswered, due, past, waits, closing, early]

theorem deadlineExpiry_opens (live : s.Live) {d : Nat} (flight : s.flight? q = some x) (running : x.finished = false)
    (unanswered : x.queuedReply = false) (due : x.deadline = some d) (past : d ≤ (s.advance t).ns)
    (waits : s.sys.batchWait = some q) (closing : s.sys.batchState = .closing) (early : s.sys.closeStep < 8) :
    Answers (.deadlineExpiry t q) s fun u =>
      u.sys.batchState = .opened ∧ u.sys.closeStep = 0 ∧ u.sys.batchWait = none ∧ u.sys.mode = s.sys.mode ∧ u.ports = s.ports
        ∧ u.axes = s.axes ∧ (u.flight? q).all fun g => g.finished := by
  have run : (s.advance t).deadline q = (s.advance t).closeExpired :=
    deadline_of_close (s := s.advance t) flight running unanswered due past waits closing early
  obtain ⟨tl, n, fl, re, l, w, o, opened, rfl⟩ :=
    closeExpired_opens (s := s.advance t) waits flight running unanswered
  refine answers_of_settled live rfl ?_
  obtain ⟨_, _, _, settled⟩ := settle_form (s.advance t) (s.advance t).closeExpired
  rw [run, settled, opened]
  exact ⟨rfl, rfl, rfl, rfl, rfl, rfl, flight_modFlight_finished q (s.advance t)⟩

end

/-- Settles O23: the last step of a close and of an abort is the seal, and a close whose deadline passes before it leaves the batch
open. -/
theorem sealEndsTheBatch : Obligations.SealEndsTheBatch := by
  unfold Obligations.SealEndsTheBatch
  refine ⟨fun s t live lead mode => ⟨fun state sides ready chains => ?_, fun state sides lines stores madc idle ready => ?_,
    fun state sides => ?_⟩, fun s t q x d live flight running unanswered due past waits closing early =>
      deadlineExpiry_opens live flight running unanswered due past waits closing early⟩
  · exact batchSeal_seals live ((batchSeal_aborting (s := s.advance t) lead mode state).trans (abortOn_seals sides chains ready))
  · exact batchSeal_seals live ((batchSeal_closing (s := s.advance t) lead mode state).trans
      (closeOn_seals sides lines stores madc idle ready))
  · have run := (batchSeal_closing (s := s.advance t) lead mode state).trans (closeOn_waits sides)
    exact ⟨_, rfl, act_calm_eq live (by rw [run]; rfl) rfl⟩

end Sys2Proof.Machine
